-- ==== Sys2Proof/Word.lean ====
section
/-! DEFINITION. The word types of the conductor: 32-bit registers, bytes, and the time unit of a command. -/
namespace Sys2Proof

/-- A register of the conductor is 32 bits wide (chapter 0, "Registers"). -/
abbrev Word := BitVec 32

/-- One byte of a memory, a record, an image or a message. -/
abbrev Byte := BitVec 8

/-- An instant of true time, in nanoseconds since auxiliary power was first applied. Every command
carries the instant at which it takes place (log entry 1). -/
abbrev Time := Nat

/-- Lanes A, B and C. -/
inductive Lane where | a | b | c
  deriving DecidableEq, Repr

/-- The number of a lane: 0 A, 1 B, 2 C. -/
def Lane.num : Lane → Nat
  | .a => 0 | .b => 1 | .c => 2

/-- The three lanes. -/
def Lane.all : List Lane := [.a, .b, .c]

/-- Heathline ports, coded 0 E, 1 W, 2 N, 3 S (R439). -/
inductive Port where | e | w | n | s
  deriving DecidableEq, Repr

/-- The code of a port. -/
def Port.num : Port → Nat
  | .e => 0 | .w => 1 | .n => 2 | .s => 3

/-- The four ports. -/
def Port.all : List Port := [.e, .w, .n, .s]

/-- Managers A and B (R560). -/
inductive Mgr where | a | b
  deriving DecidableEq, Repr

/-- The SENDER byte of a manager (R560). -/
def Mgr.byte : Mgr → Nat
  | .a => 0xA0 | .b => 0xB0

end Sys2Proof
end

