-- ==== Sys2Proof/Row.lean ====
section
/-! DEFINITION. What the row brings to a conductor over Furze and Heathline (chapters 11 to 13), and what a speaker keeps and
shares with the listeners of its segment. -/
namespace Sys2Proof

/-! ### Furze -/

/-- A clause in the fields of R337; the object has 16 bytes and the tag 4. -/
structure Clause where
  subject : Nat
  addressee : Nat
  form : Nat
  verb : Nat
  tref : Nat
  lead : Nat
  epoch : Nat
  seq : Nat
  object : List Byte
  tag : List Byte
  deriving DecidableEq, Repr

/-- What the receiver made of a burst (R329): truncated, energy without a decoded clause, or its clauses. -/
inductive BurstRes where
  | truncated | undecoded | clauses (l : List Clause)
  deriving DecidableEq, Repr

/-- A burst: its slot (0 beacon, 1 to 4 C0 to C3, 5 + j for Aj), the superframe in which it began, the mean carrier
signal-to-noise ratio of its training symbol in dB. -/
structure BurstIn where
  slot : Nat
  sf : Nat
  snr : Rat
  res : BurstRes
  deriving DecidableEq, Repr

/-- States of a partner (R367). -/
inductive PState where | free | enrolling | active | silent | heldId | revoked
  deriving DecidableEq, Repr

/-- A grant (R350): INDEX, SLOT, PERIOD, PHASE, highest scheme, effective superframe (none until its GRANT is sent), DURATION,
and the superframe from which it no longer stands. -/
structure Grant where
  index : Nat
  slot : Nat
  period : Nat
  phase : Nat
  scheme : Nat
  start : Option Nat
  duration : Nat
  stop : Option Nat
  deriving DecidableEq, Repr

/-- The previous epoch of a session (R348): its number and keys, the highest SEQ accepted in it and those seen, and the
superframe of the rekey. -/
structure OldEpoch where
  num : Nat
  up : List Byte
  down : List Byte
  high : Nat
  seen : List (Nat × List Byte)
  since : Nat
  deriving DecidableEq, Repr

/-- A partner's part of the table (R334, R345 to R352, R357, R358). -/
structure Partner where
  state : PState
  /-- The state its id returns to when its enrolment lapses. -/
  back : PState
  token : Nat
  nonce : Nat
  group : Nat
  /-- Highest scheme it supports, and highest scheme granted. -/
  caps : Nat
  mcs : Nat
  epoch : Nat
  up : List Byte
  down : List Byte
  old : Option OldEpoch
  /-- The K_enrol that its JOIN used, and the conductor's ephemeral key for it. -/
  enrolKey : List Byte
  ephemeral : List Byte
  /-- Highest SEQ accepted, and the clauses accepted within 64 of it: SEQ and TAG. -/
  high : Nat
  seen : List (Nat × List Byte)
  txSeq : Nat
  grants : List Grant
  /-- SNR of its last 16 bursts, newest first, in dB. -/
  snrs : List Rat
  raiseRun : Nat
  failRun : Nat
  missRun : Nat
  silentAt : Time
  epochAt : Time
  heldAt : Time
  joinSf : Nat
  /-- KEYX parts received. -/
  parts : List (Nat × List Byte)
  rekeying : Bool
  /-- Clauses sent to it and not acknowledged: SEQ, VERB, ACTION of a CONCORD clause. -/
  awaiting : List (Nat × Nat × Nat)
  /-- Listeners whose acknowledgement of its enrolment record is awaited. -/
  waitFor : List Nat
  leaveAt : Option Nat
  /-- TAG verdicts in the present second of operating time, and that second. -/
  tagFails : Nat × Nat
  deriving DecidableEq, Repr

/-- A booking of a start (R362 to R364): partner, SEQ of the request, PEAK, DURATION, TREF, superframe of acceptance; the
superframe that the first two conditions of R362 alone would give; superframe booked, none while cancelled; whether
ADMIT_OPEN delayed it; whether it has begun. -/
structure Booking where
  id : Nat
  seq : Nat
  peak : Nat
  duration : Nat
  tref : Nat
  taken : Nat
  base : Nat
  at_ : Option Nat
  bridged : Bool
  begun : Bool
  deriving DecidableEq, Repr

/-- An election record (R333) as received in a superframe. -/
structure ElectIn where
  member : Nat
  segment : Nat
  eligible : Bool
  holdover : Bool
  speaker : Option Nat
  sf : Nat
  deriving DecidableEq, Repr

/-- A SPEAKER_STATE record (R334, R533): a partner's record, with whether it is an enrolment record to be acknowledged; an id
without a partner; the map; the bookings; the broadcast key; or, to the speaker, a listener's acknowledgement. -/
inductive SpeakerIn where
  | partner (id : Nat) (p : Partner) (ack : Bool)
  | gone (id : Nat)
  | map (version period : Nat)
  | bookings (l : List Booking)
  | key (num : Nat) (key : List Byte)
  | acked (id member : Nat)
  deriving DecidableEq, Repr

/-! ### Concord -/

/-- A REQUEST record (R384). -/
structure ReqRec where
  member : Nat
  emergency : Bool
  speaker : Bool
  allAcked : Bool
  announced : Bool
  reason : Nat
  tag : Nat
  step : Nat
  floor : Nat
  action : Nat
  members : Nat
  unacked : Nat
  nextStep : Nat
  nextStart : Nat
  deriving DecidableEq, Repr

/-- A DECISION record (R385): OP 1 OFFER, 2 COMMIT, 3 EMERGENCY, 4 RENEW. -/
structure DecRec where
  member : Nat
  op : Nat
  reason : Nat
  tag : Nat
  step : Nat
  floor : Nat
  action : Nat
  tref : Nat
  sf : Nat
  start : Nat
  deriving DecidableEq, Repr

/-! ### Heathline -/

/-- A DATA cell (R414): its header fields, and the payload bytes used. -/
structure Cell where
  cls : Nat
  flags : Nat
  src : Nat
  dst : Nat
  hops : Nat
  cell : Nat
  service : Nat
  seq : Nat
  sf : Nat
  segment : Nat
  payload : List Byte
  deriving DecidableEq, Repr

/-- How a cell's tag check ends (R424): it passes, it fails, or the tag is the correct one inverted in every bit. -/
inductive TagRes where | ok | bad | inverted
  deriving DecidableEq, Repr

/-- A start of a bit-error test (R433, R439): a write to HTL_BERT, or a test that the far end of a port has begun. -/
inductive BertStart where | hand (value : Word) | joined (p : Port)
  deriving DecidableEq, Repr

/-- What a LINK cell brings to a port (R412, R536 to R538): the far end's identity; the outcome of its authentication; or the
mark SWITCH. -/
inductive LinkCellIn where
  | identity (domain member port shape members : Nat) (crcOk : Bool)
  | key (certOk ownerOk signatureOk : Bool)
  | switch
  deriving DecidableEq, Repr

/-- A TIME cell (R430): t1, t3 and t4 in ns, the instant of its reception within the nanosecond of the own counter, the
sender's SYNC flag, HOLDING flag and hop count. -/
structure TimeIn where
  t1 : Rat
  t3 : Rat
  t4 : Rat
  sub : Rat
  sync : Bool
  holding : Bool
  hops : Nat
  deriving DecidableEq, Repr

/-- A LINK_STATE record (R422): port states and neighbours of E, W, N, S in order, 0xFF for none. -/
structure LinkRec where
  member : Nat
  sync : Bool
  master : Bool
  head : Bool
  holding : Bool
  bringupEnded : Bool
  segment : Nat
  ports : List Nat
  neighbours : List Nat
  sf : Nat
  mode : Nat
  deriving DecidableEq, Repr

/-- A planner summary (R211), in the fields the conductor itself reads. -/
structure SumRec where
  member : Nat
  mode : Nat
  flags : Nat
  sf : Nat
  rating : Nat
  /-- PLACED[0], in 0.1 kW. -/
  placed : Int
  deriving DecidableEq, Repr

/-- A subscription message (R423): a member asks for the stream, or refuses it. -/
inductive SubIn where | request (member entry : Nat) | refused (member : Nat)
  deriving DecidableEq, Repr

/-- The islands that take superframe boundaries (R587). -/
inductive SfIsland where | furze | heathline | lanes
  deriving DecidableEq, Repr

end Sys2Proof
end

