-- ==== Sys2Proof/Args.lean ====
section
/-! DEFINITION. The operands of the commands: what the outside world, a timer or a neighbour brings to a
step. One structure or enumeration where a command carries more than a few numbers. -/
namespace Sys2Proof

/-- The clocks the always-on island monitors (R73), by their bit in AON_CLK_FAULT. -/
inductive Clk where | lna | lnb | lnc | fab | ids | mgt | swd | frz | htl
  deriving DecidableEq, Repr

/-- Islands that keep a copy of ring time apart from Heathline (R66). -/
inductive Island where | fabric | lanes | furze | sward | mgmt | idsol | aon
  deriving DecidableEq, Repr

/-- The handshake channels of R58. -/
inductive Chan where
  | legSamples (x : Lane) | gridSamples (x : Lane) | planVector (x : Lane) | snapshot (x y : Lane)
  | laneStatus (x : Lane) | ringTime (i : Island) | regs (d : Nat) | clauseUp | clauseDown | mesh
  | cells (d : Nat)
  deriving DecidableEq, Repr

/-- Reset sources (R466). -/
inductive Src where
  | powerOn | brownOut | resetPin | laneWdog (x : Lane) | mgmtWdog | swardWdog | fence (x : Lane) | tamper
  | remote | debug | fault
  deriving DecidableEq, Repr

/-- Reset domains (R464), the always-on core apart. -/
inductive Dom where | aon | idsol | fabric | lane (x : Lane) | mgmt | htlFrz | planning | swardPower
  deriving DecidableEq, Repr

/-- What a FAULT_MESSAGE step takes (R485): the oldest message on its way from one source, after `lost`
older ones of it found no free entry; or a report of a block that has no step of its own (a memory
controller, the UFS and NOR interfaces, a bus master, a state-memory check). -/
inductive FaultIn where
  | path (source lost : Nat)
  | report (source kind inst detail : Nat)
  deriving DecidableEq, Repr

/-- One reading of a sensor of R549: degrees in 0.01 °C, a thermistor's resistance in ohms (R460), or a
conversion error. -/
inductive Reading where
  | centi (x : Int) | ohms (r : Rat) | error
  deriving DecidableEq, Repr

/-- What FLOW_UPDATE takes (R552): pulses counted in the last 100 ms, the leak pin held low for 10 ms,
whether it is low now, and the coolant temperatures in 0.1 °C. -/
structure FlowIn where
  pulses : Nat
  leakHeld : Bool
  leakNow : Bool
  /-- The 1 s window of pulses is full since the always-on release (R554). -/
  windowFull : Bool
  deriving DecidableEq, Repr

/-- The part of a manager message's header that the conductor judges (R560, R563). -/
structure MsgHdr where
  mgr : Mgr
  /-- The session is mutually authenticated with a MANAGER key (R559), or the record was relayed. -/
  session : Bool
  version : Nat
  length : Nat
  epoch : Nat
  receiver : Nat
  seq : Nat
  deriving DecidableEq, Repr

/-- A COMMAND message (R560, R568): header, code, target, the SIGNED part, and operand bytes big-endian. -/
structure CmdMsg where
  hdr : MsgHdr
  code : Nat
  /-- 0 to 63, or 0xFF. -/
  target : Nat
  /-- The member mask of a command that carries one, or all ones. -/
  mask : Nat
  signed : Bool
  /-- SHA-384 of the signing key, and the signature (R560). -/
  signer : List Byte
  message : List Byte
  signature : List Byte
  operand : List Byte
  deriving DecidableEq, Repr

/-- What a COMMAND_EXECUTION step does (R563 to R566): a message arrives and is judged, or the fabric
executes the command posted first. -/
inductive CmdStep where
  | arrive (m : CmdMsg) | execute
  deriving DecidableEq, Repr

/-- A command the fabric executes (R564 to R566): whose it is, its epochs and number, whether it came over
Heathline, and whether it carried a signature that Idsol verified. -/
structure CmdHdr where
  mgr : Mgr
  epoch : Nat
  seq : Nat
  relayed : Bool
  relay : Nat
  signed : Bool
  deriving DecidableEq, Repr

/-- A COMMAND record of Heathline class 1 (R419, R567): a relayed command, or a reply on its way back. -/
inductive RelayRec where
  | command (m : CmdMsg) (relay : Nat)
  | reply (mgr : Mgr) (code ref result : Nat) (payload : List Byte)
  deriving DecidableEq, Repr

/-- A record received from a neighbour (R510, R511), in the fields of its header. -/
structure NbrRec where
  rnum : Nat
  type : Nat
  flags : BitVec 8
  pcc : Nat
  optime : Nat
  sub : Nat
  rt : Option Nat
  wall : Option Nat
  payload : List Byte
  deriving DecidableEq, Repr

/-- The ISNS samples of an on-time (R110): the first and the last, in A, and their instants. -/
structure PulseIn where
  first : Rat
  last : Rat
  tFirst : Time
  tLast : Time
  deriving DecidableEq, Repr

/-- The means of a test attempt or recheck (R103, R104): switch-node voltage and current of each leg by number, the
bus voltage of the voting lanes, and VSTO_S and VSTO_B. -/
structure TestIn where
  nodes : List (Rat × Rat)
  vbus : Rat
  vs : Rat
  vb : Rat
  deriving DecidableEq, Repr

/-- How a PMBus or SMBus transaction ended (R581): with a value (0 for a write), unanswered, PEC mismatch, or the
clock held low for more than 25 ms. Values are in the units of R189. -/
inductive TxRes where
  | ok (value : Nat) | noAck | pec | stretched
  deriving DecidableEq, Repr

/-- What a string or battery monitor answered in one poll cycle (R167): STR_STATUS, STR_VOLT, STR_CURR, STR_TEMP,
STR_ESR, or how its first transaction failed. -/
inductive StrRes where
  | read (status volt : Nat) (curr temp : Int) (esr : Nat)
  | fail (detail : Nat)
  deriving DecidableEq, Repr

/-- The samples of a threshold DAC update (R84, R86, R87): the lanes' bus, VSTO_S and VSTO_B, V. -/
structure DacIn where
  busA : Rat
  busB : Rat
  busC : Rat
  stoS : Rat
  stoB : Rat
  deriving DecidableEq, Repr

/-- What the lanes have measured over the shaping period that a voted mark ends (R63, R81, R88, R92, R163, R180): lanes
whose strobe missed the mark by more than 3 ns, and lanes that raised none; each lane's mean bus voltage; mean VSTO_S and VSTO_B; mean current of
each leg in A, positive in supply; mean grid power in W; averaged phase voltages; and whether the voting lanes' lower
and upper comparators were asserted. -/
structure MarkIn where
  late : List Lane
  silent : List Lane
  busA : Rat
  busB : Rat
  busC : Rat
  stoS : Rat
  stoB : Rat
  legs : List Rat
  grid : Rat
  v1 : Rat
  v2 : Rat
  v3 : Rat
  lower : Bool
  upper : Bool
  deriving DecidableEq, Repr

/-- The verdict of a pair of lanes on their snapshots (R131): they agree, differ first in a section of R129's table, or
a snapshot or verdict is missing. -/
inductive Pair where
  | agree | differ (sect : Nat) | missing
  deriving DecidableEq, Repr

/-- What befalls a word that a tussock's own datapath reads in a cycle (R280, R283): one bit in error, two or more bits in
error, or a write of port S to it. -/
inductive WordEv where | single | double | clash
  deriving DecidableEq, Repr

/-- What port N does to a word in the cycle of a port S access (R280). -/
inductive NAcc where | read | write | atomic
  deriving DecidableEq, Repr

/-- An instruction of a tussock (R312): the tussock, the registers A, B and C, whether OP bit 7 is set, IMM, and what
befalls the words it reads, by address. -/
structure TIns where
  tus : Nat
  a : Nat
  b : Nat
  c : Nat
  useImm : Bool
  imm : Word
  ev : List (Nat × WordEv)
  deriving DecidableEq, Repr

/-- Where a flit waits at a router: sent there, or in from a link of that side (R284). -/
inductive Via where | local_ | up | down | left | right
  deriving DecidableEq, Repr

/-- Areas of the Barrow window (R513, R516). -/
inductive BrwArea where | ring | storeE | storeW
  deriving DecidableEq, Repr

/-- How a Barrow read went at the UFS device (R513): readable, the CRC failed, or an I/O error. -/
inductive IoResult where | ok | crc | error
  deriving DecidableEq, Repr

end Sys2Proof
end

