-- ==== Sys2Proof/Syntax.lean ====
section
/-! DEFINITION. The commands of the conductor: one constructor per row of the table of operations and
events. The table gives no row operand bits; the operands are what each step takes from outside, `t` the
instant at which it takes place (log entry 1). -/
namespace Sys2Proof

/-- The commands, in the order of the table. -/
inductive Instr where
  /-- REGISTER_WRITE (R582): A write to a register that has no row of its own is applied at one instant under the access codes, range and alignment rules. -/
  | registerWrite (t : Time) (addr width : Nat) (value : Word)
  /-- LO_READ_LATCH (R12): A read of a _LO register returns the low half and latches the high half of the same sample for the next _HI read. -/
  | loReadLatch (t : Time) (addr : Nat)
  /-- VOTED_MARK (R63): The voter takes the second lane strobe as the voted mark, and every lane begins its next shaping period and takes its snapshot. -/
  | votedMark (t : Time) (x : MarkIn)
  /-- FABRIC_MODE_EVALUATION (R589): While no vote is formed, the fabric evaluates mode transitions every 10 µs with every gate held off. -/
  | fabricModeEvaluation (t : Time)
  /-- STOP_CLEARED (R26): After limits.stop_hold with three lanes, the kill released and storage ready, the conductor leaves STOPPED for FALLOW. -/
  | stopCleared (t : Time)
  /-- STOP_WATCH_END (R27): A recovery watch of one hour ends and, without an entry into STOPPED, the restart count returns to 0. -/
  | stopWatchEnd (t : Time)
  /-- DAC_UPDATE (R84): Every 50 ns each lane slews T, evaluates the ripple and writes both threshold DAC codes. -/
  | dacUpdate (t : Time) (x : DacIn)
  /-- BUS_TRIP (R89): A captured bus comparator fires a supply or absorb pulse on the leg the sequencer holds ready and blanks the comparator. -/
  | busTrip (t : Time) (lower upper : Bool) (pair : Option Nat)
  /-- TRIP_WAIT (R97): A trip captured while no leg is ready waits and fires on the first cycle with a ready leg. -/
  | tripWait (t : Time)
  /-- BLANK_EXPIRY (R89): When blanking ends with the comparator still asserted, the lane fires the next pulse. -/
  | blankExpiry (t : Time) (lower upper : Bool)
  /-- ON_TIME_EXPIRY (R91): A pulse's counted on-time ends, its leg passes to freewheel, and the pulse is classified. -/
  | onTimeExpiry (t : Time) (k : Nat) (x : PulseIn)
  /-- PEAK_LIMIT_TRIP (R94): A captured peak-limit comparator ends the on-time and may count a limited cycle. -/
  | peakLimitTrip (t : Time) (k : Nat) (x : PulseIn)
  /-- HICCUP_TIME_EXPIRY (R108): When legs.hiccup_time has elapsed, the leg returns to ROTATION or BLIND at the next boundary. -/
  | hiccupTimeExpiry (t : Time) (k : Nat)
  /-- ZERO_CROSS (R91): A leg's zero-cross comparator ends its freewheel. -/
  | zeroCross (t : Time) (k : Nat)
  /-- IDLE_CHECK (R110): After 2 µs idle with zero estimate, the lane checks the mean sensed current against the tolerance. -/
  | idleCheck (t : Time) (k : Nat) (mean : Rat)
  /-- BOARD_REMOVED (R79): A leg driver board presence input going high turns its legs off and makes them ABSENT within 10 µs. -/
  | boardRemoved (t : Time) (j : Nat)
  /-- BOARD_REFITTED (R79): A board presence input going low returns its configured legs to UNTESTED within 10 µs. -/
  | boardRefitted (t : Time) (j : Nat)
  /-- TEST_ATTEMPT_START (R102): A pre-start test attempt begins once the bus-to-storage difference has held for 1 ms. -/
  | testAttemptStart (t : Time) (windowS windowB : Bool)
  /-- TEST_JUDGEMENT (R104): At the end of an attempt each leg under test is judged by its switch-node voltage and current. -/
  | testJudgement (t : Time) (x : TestIn)
  /-- SPARE_RECHECK_JUDGEMENT (R107): After 64 µs of samples the spare is judged and joins at the next boundary, or the next spare is rechecked. -/
  | spareRecheckJudgement (t : Time) (x : TestIn)
  /-- GATE_DISAGREEMENT (R127): A lane input that differs from the voted gate output for more than 3 ns counts one disagreement. -/
  | gateDisagreement (t : Time) (x : Lane) (gate : Nat)
  /-- SNAPSHOT_JUDGEMENT (R131): Two µs after a mark, the lanes' pair verdicts are judged into snapshot disagreements or a stop. -/
  | snapshotJudgement (t : Time) (ab ac bc : Pair)
  /-- LANE_READY (R144): A lane released with PLL locked and parameters loaded signals ready, and the vote forms when all awaited lanes are ready. -/
  | laneReady (t : Time) (x : Lane) (crcOk : Bool)
  /-- FORMATION_WAIT_EXPIRY (R144): When lanes.formation_wait passes, the voter forms the vote with the ready lanes or leaves it unformed. -/
  | formationWaitExpiry (t : Time)
  /-- STAGE_KILL (R145): STAGE_KILL_N falling drives all gates low within 20 ns, sets the kill latch and leads to STOPPED. -/
  | stageKill (t : Time) (low : Bool)
  /-- LANE_WATCHDOG (R468): An armed lane that raises no strobe for 80 µs fires its lane watchdog reset source. -/
  | laneWatchdog (t : Time) (x : Lane)
  /-- CLOCK_WINDOW_END (R73): At the end of a 40 µs monitor window a clock deviating by more than 1000 ppm is declared failed. -/
  | clockWindowEnd (t : Time) (clk : Clk) (ppm : Int)
  /-- CLOCK_EDGE_TIMEOUT (R73): A monitored clock that shows no edge for 1 µs is declared failed. -/
  | clockEdgeTimeout (t : Time) (clk : Clk)
  /-- PLL_LOCK_LOSS (R73): A PLL losing lock while its domain is released fails its clock. -/
  | pllLockLoss (t : Time) (clk : Clk)
  /-- AON_XTAL_FAIL (R75): The always-on crystal judged failed against the RC oscillator is replaced by the RC within 2 µs. -/
  | aonXtalFail (t : Time) (noEdge : Bool)
  /-- RING_TIME_UPDATE (R66): An update on the ring-time channel corrects an island's local copy forward or holds it. -/
  | ringTimeUpdate (t : Time) (isl : Island)
  /-- RING_HOLDOVER_ENTRY (R67): No update for 10 µs, or an unsynchronised report, puts every local copy into holdover. -/
  | ringHoldoverEntry (t : Time)
  /-- RING_HOLDOVER_END (R67): When Heathline reports ring time synchronised again, each copy rejoins it by forward steps or holds. -/
  | ringHoldoverEnd (t : Time)
  /-- CHANNEL_REOPEN (R68): A closed channel reopens empty with all credits once both ends are out of reset with PLLs locked. -/
  | channelReopen (t : Time) (ch : Chan)
  /-- AUX_INPUT_FAULT (R42): An auxiliary input outside 10.2 V to 14.0 V is disconnected within 10 µs and reported. -/
  | auxInputFault (t : Time) (inputB high : Bool)
  /-- AUX_INPUT_RECONNECT (R42): An input that has stayed within 10.8 V to 13.2 V for 100 ms is reconnected. -/
  | auxInputReconnect (t : Time) (inputB : Bool)
  /-- POWER_ON_RELEASE (R43): The power-on source releases once the rail has held 10 ms and the hold-up bank stores 20 J. -/
  | powerOnRelease (t : Time)
  /-- POWER_FAIL (R44): A rail dip confirmed below 9.6 V or 8.0 V starts the power-fail sequence, kills the stage and sheds the sward. -/
  | powerFail (t : Time) (railMv : Nat)
  /-- FINAL_FLUSH_STAGING_CLOSE (R509): One ms after the rail crossing, staging closes and the last segment is committed. -/
  | finalFlushStagingClose (t : Time)
  /-- FINAL_FLUSH_END (R509): The end of the final flush asserts brown-out, or power-on if the rail is back. -/
  | finalFlushEnd (t : Time) (railUp : Bool)
  /-- RAIL_RECOVERY (R45): The rail rising above 10.8 V releases brown-out and asserts power-on in its place. -/
  | railRecovery (t : Time)
  /-- HOLDUP_FAULT (R52): HOLDUP_READY falling after bring-up reports a hold-up fault and starts a recharge. -/
  | holdupFault (t : Time) (dj : Nat)
  /-- SETPOINT_STEP (R162): Every 1 µs the lanes move I_ref toward the clamped target at the slew in force and send one setpoint frame per link. -/
  | setpointStep (t : Time) (agreed : Bool)
  /-- PMBUS_POLL (R156): Every 10 ms the conductor reads status and telemetry from each fitted rectifier. -/
  | pmbusPoll (t : Time)
  /-- PMB_ALERT (R156): PMB_ALERT_N low starts a status sweep after the transaction in progress. -/
  | pmbAlert (t : Time)
  /-- BUS_TRANSACTION_END (R581): A PMBus or SMBus transaction ends at its stop condition or on a clock stretch beyond 25 ms. -/
  | busTransactionEnd (t : Time) (pmbus : Bool) (r : TxRes)
  /-- STRING_POLL (R168): Once per poll cycle every string monitor is read and capacitance and ESR estimates are updated. -/
  | stringPoll (t : Time) (x : List StrRes) (batt : StrRes)
  /-- PRECHARGE_TIMEOUT (R174): A spare that does not match within strings.precharge_time enters RETIRED_FAULT. -/
  | prechargeTimeout (t : Time) (j : Nat)
  /-- GRID_LOSS (R180): A loss condition held for frontend.sag_time declares grid input lost. -/
  | gridLoss (t : Time)
  /-- GRID_RETURN (R182): Grid voltage above the return threshold for frontend.return_time declares grid present and starts re-engagement. -/
  | gridReturn (t : Time)
  /-- GRID_RESTORED (R183): After 400 consecutive covered periods during re-engagement, GRID_RESTORED holds. -/
  | gridRestored (t : Time)
  /-- SEGMENT_LOSS (R185): The Heathline switch reports a segment member lost and the lanes set SEGMENT_LOSS. -/
  | segmentLoss (t : Time) (member : Nat)
  /-- SEGMENT_LOSS_CLEAR (R185): SEGMENT_LOSS clears after frontend.loss_hold with no member reported lost. -/
  | segmentLossClear (t : Time)
  /-- SUPERFRAME_BOUNDARY (R587): Each island takes a superframe boundary on its own copy of ring time. -/
  | superframeBoundary (t : Time) (isl : SfIsland)
  /-- PLANNING_TICK (R191): A voted mark whose ring time is a multiple of 250 µs begins a tick and the fabric delivers the basis record. -/
  | planningTick (t : Time)
  /-- PLAN_RELEASE (R193): From 2 µs after a mark the periphery releases the newest written plan vector and discards the others. -/
  | planRelease (t : Time)
  /-- SWARD_WATCHDOG (R204): No vector written for planner.watchdog asserts the sward watchdog reset source. -/
  | swardWatchdog (t : Time)
  /-- PHASE (R223): An accepted PHASE clause updates the running key of its pair and drives prefetch. -/
  | phase (t : Time)
  /-- PAIR_IDLE_END (R223): A pair not reported for lexicon.idle_time ends with no successor. -/
  | pairIdleEnd (t : Time) (job group : Nat)
  /-- OBSERVE (R226): An OBSERVE flit delivers a current series that the engine learns tier samples from. -/
  | observe (t : Time) (above : Bool) (col : Nat)
  /-- LOOKUP (R246): The LOOKUP operation returns the slot of key K. -/
  | lookup (t : Time)
  /-- BEST (R237): The BEST operation returns the confident lemma, a prior, or the unconfident lemma for key K. -/
  | best (t : Time)
  /-- PIN (R246): PIN sets PINNED on K's lemma and brings its core into the cache. -/
  | pin (t : Time)
  /-- UNPIN (R246): UNPIN clears PINNED on K's lemma. -/
  | unpin (t : Time)
  /-- READ (R246): READ returns 64 bytes of K's lemma at an aligned offset. -/
  | read (t : Time) (off : Nat)
  /-- LEMMA_REQUEST (R307): A LEMMA service flit from a tussock runs a query operation and returns two reply flits. -/
  | lemmaRequest (t : Time) (above : Bool) (col : Nat)
  /-- PRIORS_LOAD (R236): At each start of the planning domain the priors are loaded and pinned and PRIORS_LOADED is set. -/
  | priorsLoad (t : Time)
  /-- LEXICON_SCAN_END (R248): After a sward return the background HCHECK scan ends, failing lemmas freed, and CHECKING clears. -/
  | lexiconScanEnd (t : Time)
  /-- HISTORY_BLOCK_WRITE (R249): Each 8 µs block of full-resolution history is written to its ring index. -/
  | historyBlockWrite (t : Time) (frames : List Byte) (lost : Bool)
  /-- DECIMATED_BLOCK_WRITE (R253): Each 16 ms decimated history block is written to LU4. -/
  | decimatedBlockWrite (t : Time) (body : List Byte) (lost : Nat)
  /-- SCALAR_ADD (R312): SCALAR ADD writes B plus C or IMM to A. -/
  | scalarAdd (t : Time) (x : TIns)
  /-- SCALAR_SUB (R312): SCALAR SUB writes the difference to A. -/
  | scalarSub (t : Time) (x : TIns)
  /-- SCALAR_MUL (R312): SCALAR MUL writes the low 32 bits of the product to A. -/
  | scalarMul (t : Time) (x : TIns)
  /-- SCALAR_AND (R312): SCALAR AND writes the bitwise and to A. -/
  | scalarAnd (t : Time) (x : TIns)
  /-- SCALAR_OR (R312): SCALAR OR writes the bitwise or to A. -/
  | scalarOr (t : Time) (x : TIns)
  /-- SCALAR_XOR (R312): SCALAR XOR writes the bitwise exclusive or to A. -/
  | scalarXor (t : Time) (x : TIns)
  /-- SCALAR_SHL (R312): SCALAR SHL writes the left shift to A. -/
  | scalarShl (t : Time) (x : TIns)
  /-- SCALAR_SHR (R312): SCALAR SHR writes the logical right shift to A. -/
  | scalarShr (t : Time) (x : TIns)
  /-- SCALAR_SAR (R312): SCALAR SAR writes the arithmetic right shift to A. -/
  | scalarSar (t : Time) (x : TIns)
  /-- SCALAR_SLT (R312): SCALAR SLT writes 1 or 0 by signed comparison to A. -/
  | scalarSlt (t : Time) (x : TIns)
  /-- SCALAR_LOAD (R312): SCALAR LOAD reads the word at the local address into A. -/
  | scalarLoad (t : Time) (x : TIns)
  /-- SCALAR_STORE (R312): SCALAR STORE writes C to the local address. -/
  | scalarStore (t : Time) (x : TIns)
  /-- CYCLE_LO (R312): CYCLE_LO reads the low half of the cycle counter into A. -/
  | cycleLo (t : Time) (x : TIns)
  /-- CYCLE_HI (R312): CYCLE_HI reads the high half of the cycle counter into A. -/
  | cycleHi (t : Time) (x : TIns)
  /-- NOP (R312): CONTROL NOP does nothing. -/
  | nop (t : Time) (x : TIns)
  /-- JUMP (R312): CONTROL JUMP continues at instruction IMM. -/
  | jump (t : Time) (x : TIns)
  /-- BNZ (R312): CONTROL BNZ branches to IMM when B is not zero. -/
  | bnz (t : Time) (x : TIns)
  /-- BZ (R312): CONTROL BZ branches to IMM when B is zero. -/
  | bz (t : Time) (x : TIns)
  /-- WAIT (R312): CONTROL WAIT stalls until an arrival counter reaches B. -/
  | wait (t : Time) (x : TIns)
  /-- TAKE (R312): CONTROL TAKE lowers an arrival counter by B, at least to 0. -/
  | take (t : Time) (x : TIns)
  /-- FENCE (R312): CONTROL FENCE waits for every issued operation and sent flit to complete. -/
  | fence (t : Time) (x : TIns)
  /-- STEP (R290): CONTROL STEP requests a DVFS step for the tussock. -/
  | step (t : Time) (x : TIns)
  /-- HALT (R312): CONTROL HALT halts the tussock with CAUSE 0. -/
  | halt (t : Time) (x : TIns)
  /-- MMA (R265): A matrix operation accumulates A times B into the accumulator file by blocks. -/
  | mma (t : Time) (x : TIns)
  /-- DRAIN (R271): A drain converts accumulator entries through the vector unit into SRAM and clears them. -/
  | drain (t : Time) (x : TIns)
  /-- VECTOR_ADD (R276): VECTOR ADD adds element-wise in the instruction's rounding and SAT. -/
  | vectorAdd (t : Time) (x : TIns)
  /-- VECTOR_SUB (R276): VECTOR SUB subtracts element-wise. -/
  | vectorSub (t : Time) (x : TIns)
  /-- VECTOR_MUL (R276): VECTOR MUL multiplies element-wise. -/
  | vectorMul (t : Time) (x : TIns)
  /-- VECTOR_FMA (R276): VECTOR FMA computes a fused multiply-add element-wise. -/
  | vectorFma (t : Time) (x : TIns)
  /-- VECTOR_DIV (R276): VECTOR DIV divides element-wise, correctly rounded. -/
  | vectorDiv (t : Time) (x : TIns)
  /-- VECTOR_SQRT (R276): VECTOR SQRT takes the correctly rounded square root element-wise. -/
  | vectorSqrt (t : Time) (x : TIns)
  /-- VECTOR_MAX (R276): VECTOR MAX takes the element-wise maximum. -/
  | vectorMax (t : Time) (x : TIns)
  /-- VECTOR_MIN (R276): VECTOR MIN takes the element-wise minimum. -/
  | vectorMin (t : Time) (x : TIns)
  /-- CVT (R274): VECTOR CVT converts between formats, choosing block scales where needed. -/
  | cvt (t : Time) (x : TIns)
  /-- RECIP (R278): VECTOR RECIP approximates 1/x within 1 ulp. -/
  | recip (t : Time) (x : TIns)
  /-- RSQRT (R278): VECTOR RSQRT approximates the reciprocal square root. -/
  | rsqrt (t : Time) (x : TIns)
  /-- EXP2 (R278): VECTOR EXP2 approximates 2 to the x. -/
  | exp2 (t : Time) (x : TIns)
  /-- EXP (R278): VECTOR EXP approximates e to the x. -/
  | exp (t : Time) (x : TIns)
  /-- LOG2 (R278): VECTOR LOG2 approximates the base-2 logarithm. -/
  | log2 (t : Time) (x : TIns)
  /-- TANH (R278): VECTOR TANH approximates the hyperbolic tangent. -/
  | tanh (t : Time) (x : TIns)
  /-- SIGMOID (R278): VECTOR SIGMOID approximates the logistic function. -/
  | sigmoid (t : Time) (x : TIns)
  /-- SIN (R278): VECTOR SIN approximates the sine within its domain. -/
  | sin (t : Time) (x : TIns)
  /-- COS (R278): VECTOR COS approximates the cosine within its domain. -/
  | cos (t : Time) (x : TIns)
  /-- VECTOR_SHL (R276): VECTOR SHL shifts int32 elements left. -/
  | vectorShl (t : Time) (x : TIns)
  /-- VECTOR_SHR (R276): VECTOR SHR shifts int32 elements right logically. -/
  | vectorShr (t : Time) (x : TIns)
  /-- VECTOR_SAR (R276): VECTOR SAR shifts int32 elements right arithmetically. -/
  | vectorSar (t : Time) (x : TIns)
  /-- SEND (R313): STREAM SEND sends half-lines as WRITE flits after the stream check. -/
  | send (t : Time) (x : TIns)
  /-- SEND_ADD_I32 (R313): STREAM SEND_ADD_I32 sends ADD_I32 flits. -/
  | sendAddI32 (t : Time) (x : TIns)
  /-- SEND_ADD_F32 (R313): STREAM SEND_ADD_F32 sends ADD_F32 flits. -/
  | sendAddF32 (t : Time) (x : TIns)
  /-- STREAM_READ (R313): STREAM READ sends a READ flit with a return address. -/
  | streamRead (t : Time) (x : TIns)
  /-- STREAM_SWAP (R313): STREAM SWAP sends a SWAP flit with a return address. -/
  | streamSwap (t : Time) (x : TIns)
  /-- ADD_I32 (R282): Local ADD_I32 performs an atomic int32 add through port N. -/
  | addI32 (t : Time) (x : TIns)
  /-- ADD_F32 (R282): Local ADD_F32 performs an atomic fp32 add through port N. -/
  | addF32 (t : Time) (x : TIns)
  /-- SWAP (R282): Local SWAP atomically stores a value and returns the old one. -/
  | swap (t : Time) (x : TIns)
  /-- FLIT_ROUTE (R287): A router forwards a flit row first then column, or discards one with an unused field or edge. -/
  | flitRoute (t : Time) (row col : Nat) (via : Via) (reply : Bool)
  /-- FLIT_ARRIVAL (R305): A flit at its destination is admitted to port S by stream and applied, or discarded and counted. -/
  | flitArrival (t : Time) (row col : Nat) (via : Via) (reply : Bool) (n : List (Nat × NAcc)) (ev : List (Nat × WordEv))
  /-- PORT_S_RETRY (R281): Port S retries a busy write or atomic each cycle, withholding port N after 64 failures. -/
  | portSRetry (t : Time) (tus bank : Nat) (n : List (Nat × NAcc))
  /-- DVFS_GRANT (R291): A change of granted step stops the clock or raises the supply to begin the change. -/
  | dvfsGrant (t : Time) (tus : Nat)
  /-- DVFS_SUPPLY_ARRIVAL (R291): The supply reaches the new step and the clock stops for the new divider. -/
  | dvfsSupplyArrival (t : Time) (tus : Nat)
  /-- DVFS_CLOCK_RESTART (R291): The tussock clock restarts at the new divider and any waiting grant takes effect. -/
  | dvfsClockRestart (t : Time) (tus : Nat)
  /-- GOVERNOR_MEASURE (R292): Every 10 µs the periphery measures sward power and raises or lowers the governor step. -/
  | governorMeasure (t : Time) (power : Rat)
  /-- TUSSOCK_CLOCK_FAIL (R293): A tussock clock failing its window or edge check is held in reset as FAILED. -/
  | tussockClockFail (t : Time) (tus detail : Nat)
  /-- SEED_WRITE (R273): A seed register write is accepted outside RUN and ignored and reported during RUN. -/
  | seedWrite (t : Time) (tus : Nat) (hi : Bool) (value : Word)
  /-- CEIL_WRITE (R290): A write of SWD_DVFS.CEIL changes the granted step of every tussock. -/
  | ceilWrite (t : Time) (value : Word)
  /-- PROGRAM_LOAD (R315): At each start of the planning domain the loader halts tussocks, checks entries and writes images. -/
  | programLoad (t : Time)
  /-- GO (R315): At the next voted mark after loading, every loaded tussock enters RUN. -/
  | go (t : Time)
  /-- EMIT (R309): Two EMIT flits with matching TAG count as one written plan vector. -/
  | emit (t : Time) (above : Bool) (col : Nat)
  /-- SUMMARY_OUT (R307): SUMMARY_OUT flits deliver the planner summary for publication. -/
  | summaryOut (t : Time) (above : Bool) (col : Nat)
  /-- REPORT (R307): A REPORT finding record passes to Barrow and telemetry, subject to the rate limit. -/
  | report (t : Time) (above : Bool) (col : Nat)
  /-- ROW (R307): A ROW service flit carries an entry's Heathline traffic. -/
  | row (t : Time) (above : Bool) (col dst channel : Nat)
  /-- DMA_DESCRIPTOR (R310): A DMA descriptor is checked and, if permitted, starts a memory transfer. -/
  | dmaDescriptor (t : Time) (above : Bool) (col entry : Nat)
  /-- DMA_COMPLETE (R310): On finishing a transfer the periphery writes the count of lines moved to the completion word. -/
  | dmaComplete (t : Time) (entry : Nat)
  /-- FURZE_SUPERFRAME (R330): At each superframe boundary the speaker transmits the beacon and schedules the slots. -/
  | furzeSuperframe (t : Time)
  /-- ELECTION (R333): An election record from another conductor is received and kept. -/
  | election (t : Time) (x : ElectIn)
  /-- SPEAKER_STATE (R334): A listener receives the speaker's state and acknowledges enrolment records. -/
  | speakerState (t : Time) (x : SpeakerIn)
  /-- BURST_RECEIVED (R343): A decoded upstream burst's clauses are judged and relayed to the other conductors of the segment. -/
  | burstReceived (t : Time) (x : BurstIn)
  /-- CLAUSE_RELAY (R336): A relayed upstream clause is judged as if heard directly. -/
  | clauseRelay (t : Time) (sf slot : Nat) (c : Clause)
  /-- STEP_CLAUSE (R372): An accepted STEP clause updates group membership and announced step STARTs. -/
  | stepClause (t : Time)
  /-- VFTABLE (R372): An accepted VFTABLE clause updates a member's power per step index. -/
  | vftable (t : Time)
  /-- THROTTLE (R393): An accepted THROTTLE clause reports a member's own index and may lead to matching. -/
  | throttle (t : Time)
  /-- ACK (R376): An accepted ACK counts toward an offer, a grant, a key or an enrolment. -/
  | ack (t : Time)
  /-- JOIN (R345): An accepted JOIN starts an enrolment with an assigned id, or is not answered. -/
  | join (t : Time)
  /-- KEYX (R346): An accepted KEYX part, once all three arrive, derives the session keys. -/
  | keyx (t : Time)
  /-- START_REQ (R362): An accepted START_REQ is booked against the inrush allowance and answered by ADMIT. -/
  | startReq (t : Time)
  /-- LEAVE (R349): An accepted LEAVE puts the partner's id in HELD_ID at the announced superframe. -/
  | leave (t : Time)
  /-- HELLO (R360): A HELLO enters or refreshes the stranger table. -/
  | hello (t : Time)
  /-- ENROL_TIMEOUT (R346): An enrolment not ACTIVE within furze.enrol_timeout lapses. -/
  | enrolTimeout (t : Time) (id : Nat)
  /-- SILENT_LAPSE (R358): A partner SILENT for furze.lapse has its enrolment lapse. -/
  | silentLapse (t : Time) (id : Nat)
  /-- ID_HOLD_EXPIRY (R349): After furze.id_hold a held or revoked id becomes FREE. -/
  | idHoldExpiry (t : Time) (id : Nat)
  /-- REKEY_TIMEOUT (R348): When furze.rekey_time passes, or a sequence number reaches 0xF000, the speaker starts a rekey. -/
  | rekeyTimeout (t : Time) (id : Nat)
  /-- EPOCH_GRACE_EXPIRY (R348): After furze.epoch_grace the previous session epoch is no longer accepted. -/
  | epochGraceExpiry (t : Time) (id : Nat)
  /-- STRANGER_EXPIRY (R360): A stranger not heard for 10 s is removed from the table. -/
  | strangerExpiry (t : Time)
  /-- REQUEST (R384): A REQUEST record from a conductor is received and used by the steward. -/
  | request (t : Time) (x : ReqRec)
  /-- DECISION (R385): A DECISION record from the steward is received and speakers act on it. -/
  | decision (t : Time) (x : DecRec)
  /-- GOVERNOR_RELEASE (R390): A governor request is withdrawn after its condition is absent for concord.release_time. -/
  | governorRelease (t : Time)
  /-- MATCH_RELEASE (R394): A match request is withdrawn after concord.match_hold at the old index. -/
  | matchRelease (t : Time) (id : Nat)
  /-- CELL_ARRIVAL (R424): A Heathline cell is forwarded cut-through or queued for local delivery after its tag check. -/
  | cellArrival (t : Time) (p : Port) (c : Cell) (tag : TagRes)
  /-- LINK_CELL (R412): A LINK cell carries the identity check, hop key agreement and switch of a port. -/
  | linkCell (t : Time) (p : Port) (x : LinkCellIn)
  /-- TIME_CELL (R430): A TIME cell from the parent steers the ring-time counter and tracks synchronisation. -/
  | timeCell (t : Time) (p : Port) (x : TimeIn)
  /-- TIME_CELL_SEND (R430): Every 1 µs each port sends a TIME cell. -/
  | timeCellSend (t : Time) (fec : List (Nat × Nat))
  /-- PARENT_TIMEOUT (R431): No TIME cell from the parent for 5 µs makes the member unsynchronised. -/
  | parentTimeout (t : Time)
  /-- FAULT_CELL (R426): A received FAULT cell puts the port in STALLED. -/
  | faultCell (t : Time) (p : Port)
  /-- PORT_PRESENCE_LOST (R426): HL_p_PRES_N going high puts the port in DOWN at once. -/
  | portPresenceLost (t : Time) (p : Port)
  /-- PORT_PRESENCE_FITTED (R411): HL_p_PRES_N going low starts training of the port. -/
  | portPresenceFitted (t : Time) (p : Port)
  /-- TRAINING_LOCK (R411): FEC and alignment lock on both lanes moves the port to CHECKING. -/
  | trainingLock (t : Time) (p : Port)
  /-- LINK_STALL (R426): No symbols for 2 µs stalls the port, discards the partial cell and starts FAULT cells. -/
  | linkStall (t : Time) (p : Port)
  /-- LINK_DOWN (R426): Ten ms without symbols puts the port in DOWN, discarding held cells and ending its key. -/
  | linkDown (t : Time) (p : Port)
  /-- LINK_SYMBOLS_RETURN (R426): Symbols returning on a stalled or down port start retraining. -/
  | linkSymbolsReturn (t : Time) (p : Port)
  /-- REJOIN_HOLD_EXPIRY (R413): A port UP for heathline.rejoin_hold comes into use for routing. -/
  | rejoinHoldExpiry (t : Time) (p : Port)
  /-- REFUSED_RETRY (R411): A REFUSED port retries its check after 10 s. -/
  | refusedRetry (t : Time) (p : Port)
  /-- LINK_STATE (R422): A received LINK_STATE record updates presence and triggers route recomputation. -/
  | linkState (t : Time) (x : LinkRec)
  /-- HEAD_CHANGE (R429): The head changes as members 0 and 1 come and go, after heathline.head_return for member 0. -/
  | headChange (t : Time)
  /-- MIRROR_SEND (R421): Every 8 µs a MIRROR message is sent to the E and W neighbours. -/
  | mirrorSend (t : Time) (frames : List Byte)
  /-- MIRROR (R421): A received MIRROR message is kept in the neighbour ring, which freezes when the neighbour leaves. -/
  | mirror (t : Time) (p : Port) (block : List Byte)
  /-- SUBSCRIPTION_REQUEST (R423): A subscription request is served or refused by the source. -/
  | subscriptionRequest (t : Time) (x : SubIn)
  /-- BERT_START (R433): A manual START of HTL_BERT puts the link in TEST. -/
  | bertStart (t : Time) (x : BertStart)
  /-- BERT_PERIODIC (R434): The head starts a test of every link at first formation, on command or every 24 h. -/
  | bertPeriodic (t : Time)
  /-- BERT_END (R433): After heathline.bert_time the link's error ratio is judged and the link retrains. -/
  | bertEnd (t : Time) (p : Port) (err0 err1 : Nat)
  /-- HOP_REKEY (R538): A port reaching 2^40 cells or a 1 h key age agrees a new hop key. -/
  | hopRekey (t : Time) (p : Port)
  /-- IMAGE_SELECTION (R451): At a full start the loader judges both slots and selects the image in force. -/
  | imageSelection (t : Time)
  /-- WRITE (R454): WRITE judges the staged image and programs it into the slot not in use. -/
  | write (t : Time)
  /-- APPLY_WARM (R456): APPLY_WARM makes the staged slot in force and schedules a warm apply. -/
  | applyWarm (t : Time)
  /-- APPLY_FULL (R458): APPLY_FULL asserts the remote reset source for a full start. -/
  | applyFull (t : Time)
  /-- ERASE (R455): ERASE erases the slot not in use. -/
  | erase (t : Time)
  /-- RESET_PIN (R467): RESET_N low for 1 µs asserts the reset pin source, and high for 1 µs releases it. -/
  | resetPin (t : Time) (low : Bool)
  /-- FLUSH_WINDOW_END (R470): The flush window ends at the recorder's commit or 2 ms, and the domains enter reset. -/
  | flushWindowEnd (t : Time) (committed : Bool)
  /-- DOMAIN_RELEASE (R473): A domain leaves reset when its sources are released, its gap has passed and its PLL is locked. -/
  | domainRelease (t : Time) (d : Dom)
  /-- IDSOL_READY (R475): Idsol signals ready or failed within 1 ms of its release. -/
  | idsolReady (t : Time) (ok : Bool)
  /-- IDSOL_TIMEOUT (R475): Idsol silent for 1 ms after release is treated as failed. -/
  | idsolTimeout (t : Time)
  /-- BRINGUP_END (R478): Bring-up ends, RWL fields lock and the conductor takes HELD or FALLOW. -/
  | bringupEnd (t : Time)
  /-- MGMT_WDOG (R469): A management watchdog interval ending without a valid key fires its reset source. -/
  | mgmtWdog (t : Time)
  /-- MWDOG_KICK (R469): A write to RST_MWDOG with the right key starts a new interval, and any other value is reported. -/
  | mwdogKick (t : Time) (value : Word)
  /-- FAULT_MESSAGE (R486): A fault message is counted, classified mild or severe and given its reactions. -/
  | faultMessage (t : Time) (x : FaultIn)
  /-- FAULT_BIN_BOUNDARY (R486): At each bin boundary the oldest bin of a source's window is discarded. -/
  | faultBinBoundary (t : Time) (source : Nat)
  /-- FAULT_QUEUE_READ (R493): A read of FLT_MSG_LO removes the oldest queued message and latches its high half. -/
  | faultQueueRead (t : Time)
  /-- TRAP_ACK (R490): A write of 1 to FLT_TRAP_ACK clears TRAP and TRAPS_HELD. -/
  | trapAck (t : Time) (value : Word)
  /-- FAULT_CLEAR (R491): A write to FLT_CLEAR clears the pending bit of one source or of every source. -/
  | faultClear (t : Time) (value : Word)
  /-- BARROW_RESTORATION (R499): After an L5 the recorder replays the journal, restores operating time and writes the ANCHOR record. -/
  | barrowRestoration (t : Time) (readable : Bool)
  /-- L4_REPLAY (R586): After an L4 the recorder replays the journal and sets ANCHORED without an anchor. -/
  | l4Replay (t : Time) (readable : Bool)
  /-- ANCHOR_QUERY_TIMEOUT (R500): With no neighbour reply within 10 s, the recorder anchors at 0 and marks the cycle UNANCHORED. -/
  | anchorQueryTimeout (t : Time)
  /-- ANCHOR_REPLY (R500): A neighbour's ANCHOR_REPLY supplies the base operating time and power-cycle count. -/
  | anchorReply (t : Time) (p : Port) (optime pcc : Nat)
  /-- ANCHOR_QUERY (R510): A received ANCHOR_QUERY is answered with the newest values held for the querier. -/
  | anchorQuery (t : Time) (p : Port) (member : Nat)
  /-- RECORD (R511): A neighbour's RECORD is written into the store for its port. -/
  | record (t : Time) (p : Port) (member : Nat) (r : NbrRec)
  /-- JOURNAL_COMMIT (R504): At 256 KiB or 10 ms staged, the recorder writes one journal segment. -/
  | journalCommit (t : Time)
  /-- COMMIT_COMPLETE (R504): A segment's header is written and its records are copied to their slots. -/
  | commitComplete (t : Time) (ok : Bool)
  /-- COMMIT_RETRY (R507): Ten ms after a failed commit the recorder retries. -/
  | commitRetry (t : Time)
  /-- CHECKPOINT (R505): At least once per second after copies, the recorder writes a checkpoint. -/
  | checkpoint (t : Time)
  /-- CAPTURE_COMPLETE (R512): The copy of a frozen neighbour ring into the capture area ends and the ring resumes. -/
  | captureComplete (t : Time) (p : Port)
  /-- LOAD (R513): BRW_CMD LOAD reads the record at the cursor into the window. -/
  | load (t : Time) (area : BrwArea)
  /-- NEXT (R513): BRW_CMD NEXT advances the cursor and loads. -/
  | next (t : Time) (area : BrwArea)
  /-- OLDEST (R513): BRW_CMD OLDEST sets the cursor to the oldest readable record and loads. -/
  | oldest (t : Time) (area : BrwArea)
  /-- NEWEST (R513): BRW_CMD NEWEST sets the cursor to the newest readable record and loads. -/
  | newest (t : Time) (area : BrwArea)
  /-- RECORD_STAGE_GO (R503): MBX_REC_CMD GO stages a firmware record of type 0x80 to 0xFF into Barrow. -/
  | recordStageGo (t : Time) (value : Word)
  /-- TRUST_STORE_LOAD (R521): Idsol loads the trust store within 200 ms of the fabric release. -/
  | trustStoreLoad (t : Time) (ok : Bool)
  /-- TRUST_COMMAND (R522): A trust command is verified and its operations applied together, or nothing changes. -/
  | trustCommand (t : Time) (bytes voucher : List Byte)
  /-- FIRMWARE_VERIFY (R528): Idsol verifies the management firmware handed by the boot ROM and permits or withholds its start. -/
  | firmwareVerify (t : Time)
  /-- MEASUREMENT_EXTEND (R527): At the firmware's request, Idsol extends M7 with 48 given bytes. -/
  | measurementExtend (t : Time) (bytes : List Byte)
  /-- BARROW_SEAL (R539): Once per second, and in each flush, Idsol seals the records committed since the last seal. -/
  | barrowSeal (t : Time)
  /-- TELEMETRY_SEAL (R540): Once per second Idsol seals the member's telemetry messages. -/
  | telemetrySeal (t : Time)
  /-- TAMPER_DETECT (R541): A tamper detector tripping applies its policy and raises TAMPER. -/
  | tamperDetect (t : Time) (d : Nat)
  /-- KBC_ROTATION (R533): The speaker generates and distributes a new broadcast key on becoming speaker, on an expulsion or every 24 h. -/
  | kbcRotation (t : Time)
  /-- KBC_SWITCH (R533): The speaker switches to the new broadcast key after all acknowledgements or furze.epoch_grace. -/
  | kbcSwitch (t : Time)
  /-- SENSOR_SAMPLE (R549): Every 1 ms the always-on island samples the sensors, applies fault rules and the thermal backstops. -/
  | sensorSample (t : Time) (samples : List Reading)
  /-- FLOW_UPDATE (R552): Every 100 ms the flow is updated, coolant loss judged and the derating factor computed. -/
  | flowUpdate (t : Time) (x : FlowIn)
  /-- SWARD_SHED (R553): The sward is shed, its memory in self-refresh and its power removed. -/
  | swardShed (t : Time)
  /-- COOLANT_RESTORE (R554): All loss conditions absent for mgmt.cool_return restore coolant and return the sward. -/
  | coolantRestore (t : Time)
  /-- SWARD_THERMAL_EVALUATION (R556): Every 100 ms firmware raises or lowers SWD_DVFS.CEIL from the sward temperature. -/
  | swardThermalEvaluation (t : Time)
  /-- SHELF_THERMAL_EVALUATION (R558): The firmware sets the THERMAL_MODULE and THERMAL_SHELF cap requests. -/
  | shelfThermalEvaluation (t : Time) (ppk pg : Rat)
  /-- FIRMWARE_SLOT_SELECT (R574): At each management release the boot ROM selects a firmware slot. -/
  | firmwareSlotSelect (t : Time)
  /-- FIRMWARE_RUNNING (R547): A write of the key to MBX_RUN reports the firmware running. -/
  | firmwareRunning (t : Time) (value : Word)
  /-- FIRMWARE_CONFIRM (R575): Firmware from a TRYING slot that has run mgmt.fw_confirm with a session marks it GOOD. -/
  | firmwareConfirm (t : Time)
  /-- FIRMWARE_POLICY_LOAD (R548): Before bring-up ends the firmware writes the fault policy from the image. -/
  | firmwarePolicyLoad (t : Time)
  /-- EPOCH_SET (R562): The conductor's epoch is set and an EPOCH message is sent to both managers. -/
  | epochSet (t : Time)
  /-- HEARTBEAT (R561): A manager's HEARTBEAT is answered with an EPOCH message. -/
  | heartbeat (t : Time) (m : MsgHdr)
  /-- COMMAND_RECORD (R567): A command or reply relayed over Heathline is posted into the sender's mailbox or passed on. -/
  | commandRecord (t : Time) (x : RelayRec)
  /-- COMMAND_EXECUTION (R565): The fabric executes the next mailbox command in order of posting. -/
  | commandExecution (t : Time) (x : CmdStep)
  /-- READ_REGISTERS (R568): The READ command returns registers. -/
  | readRegisters (t : Time) (h : CmdHdr) (addr count : Nat)
  /-- READ_OBJECT (R568): READ_OBJECT returns Barrow records, a capture, certificates or a quote. -/
  | readObject (t : Time) (h : CmdHdr) (operand : List Byte)
  /-- HOLD (R21): HOLD sets the hold state and takes the conductor to HELD. -/
  | hold (t : Time) (h : CmdHdr)
  /-- RELEASE_HOLD (R21): RELEASE_HOLD clears the hold state and takes HELD to FALLOW with an image in force. -/
  | releaseHold (t : Time) (h : CmdHdr)
  /-- STOP_RELEASE (R27): STOP_RELEASE clears the STOPPED latch and restart count. -/
  | stopRelease (t : Time) (h : CmdHdr)
  /-- LANE_RELEASE (R139): LANE_RELEASE frees a latched lane to return to the vote. -/
  | laneRelease (t : Time) (h : CmdHdr) (lane : Nat)
  /-- RESET (R466): RESET asserts the remote reset source at the level named after sending the reply. -/
  | reset (t : Time) (h : CmdHdr) (level : Nat)
  /-- RACK_CAP (R395): RACK_CAP sets or removes a rack cap for the members of its mask. -/
  | rackCap (t : Time) (h : CmdHdr) (kw window mask capId : Nat)
  /-- CLEAR_FAULT (R491): CLEAR_FAULT clears fault pending bits. -/
  | clearFault (t : Time) (h : CmdHdr) (all : Bool) (source : Nat)
  /-- SET_TIME (R502): SET_TIME sets wall time and writes WALL_JUMP on a jump. -/
  | setTime (t : Time) (h : CmdHdr) (wall : Nat)
  /-- EXPEL (R349): EXPEL ends a partner's enrolment with REASON 0. -/
  | expel (t : Time) (h : CmdHdr) (partner : Nat)
  /-- BERT_INSTALL (R434): BERT_INSTALL has the head run the installation test. -/
  | bertInstall (t : Time) (h : CmdHdr)
  /-- BARROW_CLEAR (R514): BARROW_CLEAR passes a signed clear to Idsol, which clears the named targets. -/
  | barrowClear (t : Time) (h : CmdHdr) (targets : Nat) (digest : List Byte)
  /-- TRUST (R522): TRUST passes a trust command to Idsol. -/
  | trust (t : Time) (h : CmdHdr) (bytes voucher : List Byte)
  /-- CFG_OP (R568): CFG_OP runs a configuration operation and returns its result. -/
  | cfgOp (t : Time) (h : CmdHdr) (op : Nat)
  /-- FW_ACTIVATE (R575): FW_ACTIVATE makes the STAGED firmware slot TRYING. -/
  | fwActivate (t : Time) (h : CmdHdr)
  /-- BUNDLE_DELETE (R568): BUNDLE_DELETE removes an unreferenced bundle from LU2. -/
  | bundleDelete (t : Time) (h : CmdHdr) (digest : List Byte)
  /-- XFER_BEGIN (R573): XFER_BEGIN opens a transfer of an image, bundle or firmware. -/
  | xferBegin (t : Time) (h : CmdHdr) (kind length : Nat) (digest : List Byte)
  /-- XFER_CHUNK (R573): XFER_CHUNK writes data of an open transfer at its offset. -/
  | xferChunk (t : Time) (h : CmdHdr) (num offset : Nat) (data : List Byte)
  /-- XFER_END (R573): XFER_END checks length, digest and trailer and stages or fails the transfer. -/
  | xferEnd (t : Time) (h : CmdHdr) (num : Nat)
  /-- ALONE (R572): No accepted manager message for mgmt.silent_time sets ALONE and writes a Barrow record. -/
  | alone (t : Time)
  /-- TELEMETRY_STATUS (R570): Every 100 ms each member sends a STATUS item to the head. -/
  | telemetryStatus (t : Time)
  /-- BAD_REGISTER_READ (R9): A misaligned, wrongly sized or unassigned read, or a read into an island in reset, returns 0 and is reported to the fault collector. -/
  | badRegisterRead (t : Time) (addr width : Nat)
  /-- HOLDUP_RECHARGED (R52): The hold-up bank reaches 20 J again after a hold-up fault and HOLDUP_READY is set. -/
  | holdupRecharged (t : Time) (dj : Nat)
  /-- CFG_OPERATION_COMPLETE (R454): A WRITE or ERASE of a configuration slot finishes erasing and programming, the slot is judged again and BUSY, STAGED and RESULT are set. -/
  | cfgOperationComplete (t : Time) (ok : Bool)
  /-- TAMPER_LOOP_RESTORED (R541): A tripped tamper detector returns to healthy, its OPEN bit clears and it is armed to fire again. -/
  | tamperLoopRestored (t : Time) (d : Nat)
  /-- RESET_PULSE_END (R466): A pulse reset source releases 256 always-on cycles after its event. -/
  | resetPulseEnd (t : Time) (src : Src)
  /-- TUSSOCK_PLL_LOCK (R294): A tussock's PLL locks after power returns and the tussock enters IDLE, or FAILED under its clock test. -/
  | tussockPllLock (t : Time) (tus : Nat) (clockOk : Bool)
  /-- SAMPLES_DELIVERY (R307): Each microsecond the periphery writes the frame of R251 as SAMPLES flits into the landing ring of each granted tussock. -/
  | samplesDelivery (t : Time) (frame : List Byte)
  /-- UNDECODABLE_INSTRUCTION (R312): An instruction of an unused class or op halts the tussock with CAUSE 3 and is reported. -/
  | undecodableInstruction (t : Time) (tus : Nat)
  /-- DTLS_HANDSHAKE (R559): A manager completes a DTLS 1.3 handshake with a MANAGER key on a management port, opening the session shown in SESSION_A or SESSION_B. -/
  | dtlsHandshake (t : Time) (mgr : Mgr) (portB : Bool) (key : List Byte)
  /-- LEX_OPERATION_COMPLETE (R246): A lexicon operation started through LEX_CMD completes after its cache fetch, clearing BUSY and setting RESULT, SLOT and the result words. -/
  | lexOperationComplete (t : Time)
  /-- BARROW_COMMAND_COMPLETE (R513): A Barrow read command completes, fills BRW_DATA and sets RESULT, with BUSY returning to 0. -/
  | barrowCommandComplete (t : Time) (io : IoResult)
  deriving DecidableEq, Repr

end Sys2Proof
end

