-- ==== Sys2Proof/Decode.lean ====
section
/-! DEFINITION. The table gives none of its rows any bits: no word spells a command. The instructions of a tussock have an encoding of
their own (R312), by which the command follows from the word that the sequencer fetches. -/
namespace Sys2Proof

/-- The command that the bits of a word spell: the table of operations and events gives no row bits, so none does. -/
def decodeTableWord (nbits w : Nat) : Option Instr :=
  match nbits, w with
  | _, _ => none

/-- The SCALAR operations of R312, by OP without its bit 7. -/
def scalarOp (t : Time) (x : TIns) : Nat → Option Instr
  | 0 => some (.scalarAdd t x)
  | 1 => some (.scalarSub t x)
  | 2 => some (.scalarMul t x)
  | 3 => some (.scalarAnd t x)
  | 4 => some (.scalarOr t x)
  | 5 => some (.scalarXor t x)
  | 6 => some (.scalarShl t x)
  | 7 => some (.scalarShr t x)
  | 8 => some (.scalarSar t x)
  | 9 => some (.scalarSlt t x)
  | 10 => some (.scalarLoad t x)
  | 11 => some (.scalarStore t x)
  | 12 => some (.cycleLo t x)
  | 13 => some (.cycleHi t x)
  | _ => none

/-- The CONTROL operations of R312. -/
def controlOp (t : Time) (x : TIns) : Nat → Option Instr
  | 0 => some (.nop t x)
  | 1 => some (.jump t x)
  | 2 => some (.bnz t x)
  | 3 => some (.bz t x)
  | 4 => some (.wait t x)
  | 5 => some (.take t x)
  | 6 => some (.fence t x)
  | 7 => some (.step t x)
  | 8 => some (.halt t x)
  | _ => none

/-- The MATRIX operations of R313. -/
def matrixOp (t : Time) (x : TIns) : Nat → Option Instr
  | 0 => some (.mma t x)
  | 1 => some (.drain t x)
  | _ => none

/-- The VECTOR operations of R313. -/
def vectorOp (t : Time) (x : TIns) : Nat → Option Instr
  | 0 => some (.vectorAdd t x)
  | 1 => some (.vectorSub t x)
  | 2 => some (.vectorMul t x)
  | 3 => some (.vectorFma t x)
  | 4 => some (.vectorDiv t x)
  | 5 => some (.vectorSqrt t x)
  | 6 => some (.vectorMax t x)
  | 7 => some (.vectorMin t x)
  | 8 => some (.cvt t x)
  | 9 => some (.recip t x)
  | 10 => some (.rsqrt t x)
  | 11 => some (.exp2 t x)
  | 12 => some (.exp t x)
  | 13 => some (.log2 t x)
  | 14 => some (.tanh t x)
  | 15 => some (.sigmoid t x)
  | 16 => some (.sin t x)
  | 17 => some (.cos t x)
  | 18 => some (.vectorShl t x)
  | 19 => some (.vectorShr t x)
  | 20 => some (.vectorSar t x)
  | _ => none

/-- The STREAM operations of R313. -/
def streamOp (t : Time) (x : TIns) : Nat → Option Instr
  | 0 => some (.send t x)
  | 1 => some (.sendAddI32 t x)
  | 2 => some (.sendAddF32 t x)
  | 3 => some (.streamRead t x)
  | 4 => some (.streamSwap t x)
  | 5 => some (.addI32 t x)
  | 6 => some (.addF32 t x)
  | 7 => some (.swap t x)
  | _ => none

/-- The command that an instruction word of a tussock spells (R312): CLASS in [63:60], OP in [59:52], the registers in [51:47], [46:42]
and [41:37], IMM in [31:0]; bit 7 of a SCALAR OP chooses IMM. A word of another class or OP spells none: the command is then UNDECODABLE_INSTRUCTION. -/
def tusIns (t : Time) (tus : Nat) (ev : List (Nat × WordEv)) (w : BitVec 64) : Option Instr :=
  let f := fun (hi lo : Nat) => w.toNat / 2 ^ lo % 2 ^ (hi - lo + 1)
  let op := f 59 52
  let x : TIns := ⟨tus, f 51 47, f 46 42, f 41 37, f 63 60 == 0 && w.getLsbD 59, BitVec.ofNat 32 (f 31 0), ev⟩
  match f 63 60 with
  | 0 => scalarOp t x (op % 128)
  | 1 => controlOp t x op
  | 2 => matrixOp t x op
  | 3 => vectorOp t x op
  | 4 => streamOp t x op
  | _ => none

end Sys2Proof
end

