-- ==== Sys2Proof/Bundle.lean ====
section
/-! DEFINITION. What a program bundle of LU2 spells (R300 to R302, R311): the specification gives the contents and not
the file's encoding, so reading a file is an uninterpreted constant of Config. -/
namespace Sys2Proof

/-- A memory area a bundle declares (R311). -/
structure BundleArea where
  name : List Byte
  /-- 0 lexicon, 1 waveform history, 2 model and optimiser state, 3 scenario workspace, 4 programs and spare. -/
  region : Nat
  size : Nat
  /-- Write access is asked for, beside read access. -/
  write : Bool
  keep : Bool
  /-- Its state-format number. -/
  format : Nat
  exported : Bool
  /-- The area is another entry's, imported by name. -/
  imported : Bool
  /-- Initial contents, as offset and byte. -/
  init : List (Nat × Byte)
  deriving DecidableEq, Repr

/-- The image of one placed tussock (R301). -/
structure BundleTus where
  tus : Nat
  /-- SRAM contents, as address and byte. -/
  image : List (Nat × Byte)
  /-- Where its program region begins (R279). -/
  program : Nat
  /-- Arrival counters bound: counter, and stream as the program names it. -/
  binds : List (Nat × Nat)
  /-- Shared streams: stream, and whether it is exported; at most four. -/
  shares : List (Nat × Bool)
  /-- Services granted: bit i for 0xF00 + i. -/
  grants : BitVec 32
  deriving DecidableEq, Repr

/-- Where a service that delivers to the bundle lands (R307): bit of the service, tussock, bank, first line, lines. -/
structure BundleLanding where
  service : Nat
  tus : Nat
  bank : Nat
  line : Nat
  lines : Nat
  deriving DecidableEq, Repr

/-- A variant (R302): its placed tussocks, those its routes traverse, its landings. -/
structure BundleVariant where
  placed : List BundleTus
  routes : List Nat
  landings : List BundleLanding
  deriving DecidableEq, Repr

/-- A well-formed manifest with what goes with it (R301). -/
structure Bundle where
  /-- Coded as in R300. -/
  role : Nat
  variants : List BundleVariant
  areas : List BundleArea
  /-- Source members of its subscription areas (R423). -/
  sources : List Nat
  seed : BitVec 64
  deriving DecidableEq, Repr

end Sys2Proof
end

