-- ==== Sys2Proof/Config.lean ====
section
/-! DEFINITION. What the specification names and does not define, or leaves open: uninterpreted
constants. None has a body that a proof can see, so a claim holds whatever they are. -/
namespace Sys2Proof.Config

/-- Identity of a key pair's public half, as the 49 bytes of its compressed form (R519). -/
abbrev Bytes := List Byte

/-- SHA-384 of a byte string (R441, R524): a standard the specification names (log entry 5). -/
opaque sha384 : Bytes → Bytes
/-- Whether an ECDSA P-384 signature over a message verifies under the key whose SHA-384 is `signer`
(R441, R522, R524, R560). -/
opaque ecdsaOk (signer message signature : Bytes) : Bool
/-- The signature the device identity key makes over a message (R529, R539, R540). -/
opaque dikSign : Bytes → Bytes
/-- The voucher certificate's key chains to the Enollith root and names the voucher key (R519). -/
opaque voucherKeyOk (certificate signer : Bytes) : Bool
/-- The fused keys of Enollith that sign firmware and bundles (R525). -/
opaque enollithFirmwareKey : Bytes
/-- The Enollith bundle key (R525). -/
opaque enollithBundleKey : Bytes
/-- SHA-384 of the boot ROM of Idsol (R527). -/
opaque bootRomDigest : Bytes
/-- SHA-384 of the fuse bank (R527). -/
opaque fuseDigest : Bytes
/-- The DIK and DAK certificates (R518). -/
opaque certificates : Bytes
/-- K_enrol unwrapped from a LOAD_ENROL operand (R530); `none` when the tag fails. -/
opaque unwrapEnrol : Bytes → Option Bytes
/-- A key drawn from Idsol's random source, per draw (R533). -/
opaque randomKey : Nat → Bytes
/-- The session keys of a partner (R347): HKDF of the shared secret with salt and info; K_up or K_down. -/
opaque sessionKey (salt info secret : Bytes) (up : Bool) : Bytes
/-- The shared secret of ECDH on P-256: a private key and a compressed public key (R347). -/
opaque ecdh (own far : Bytes) : Bytes
/-- The compressed P-256 public key of a private key, 33 bytes (R340). -/
opaque p256Pub (own : Bytes) : Bytes
/-- One block encrypted by AES-128 (R340). -/
opaque aesBlock (key block : Bytes) : Bytes
/-- The AES-CMAC tag of a clause under a key, truncated as R341 lays down. -/
opaque cmac (key body : Bytes) : Bytes
/-- Hop keys of a port from the ECDH result (R537). -/
opaque hopKey (material : Bytes) : Bytes
/-- The natural logarithm (R460): transcendental, so left uninterpreted. -/
opaque ln : Rat → Rat
/-- A free value of `w` bits per use: nothing constrains it (log entry 3). -/
opaque freeBits (w : Nat) : Nat → BitVec w
/-- The output after `dt` ns of a first-order filter of time constant `tau` ns from `y` towards the input
`x` (R82, R87, R160, R179): the specification gives the filter, not its discretisation (log entry 4). -/
opaque firstOrder (y x tau dt : Rat) : Rat
/-- Square root of a real quantity (R165): irrational in general, so left uninterpreted. -/
opaque sqrtRat : Rat → Rat
/-- A free 32-bit value for each use and each place within it (log entry 3). -/
opaque freeWord : Nat → Nat → BitVec 32
/-- What a bundle's file spells (R301): none when its manifest is not well formed. -/
opaque readBundle : Bytes → Option Bundle
/-- Where in conductor LPDDR5X the staging buffer of a configuration image lies (R573), in units of 64 bytes: the
specification places it nowhere (log entry 3). -/
opaque stagingBuffer : Nat
/-- The approximation the vector unit returns for function `f` of R278 at fp32 bits `x`: bounded by R278
and not fixed by it (log entry 6). -/
opaque approx (f : Nat) (x : BitVec 32) : BitVec 32

end Sys2Proof.Config
end

