-- ==== Sys2Proof/Fields.lean ====
section
/-! DEFINITION. The fields of the configuration image: their names, ranges, defaults and encodings, one
constructor each (the field tables of every chapter, R445 to R447). A numeric field is held divided by its
step, as R445 encodes it. -/
namespace Sys2Proof

/-- A field of the configuration image; the index a family of fields carries is kept beside it. -/
inductive Fld where
  /-- `limits.stop_hold`: 1 s to 600 s, in 1 s steps; default 10 s (chapter 1). -/
  | limitsStopHold
  /-- `limits.stop_restarts`: 0 to 15; default 3 (chapter 1). -/
  | limitsStopRestarts
  /-- `limits.fallow_tau`: 50 ms to 60 s, in 1 ms steps; default 2 s (chapter 1). -/
  | limitsFallowTau
  /-- `loadline.nominal`: 760.0 V to 860.0 V, in 0.1 V steps; default 800.0 V (chapter 4). -/
  | loadlineNominal
  /-- `loadline.r_ll`: 0.0 mΩ to 100.0 mΩ, in 0.1 mΩ steps; default 0.0 mΩ (chapter 4). -/
  | loadlineRLl
  /-- `loadline.fe_eta`: 0.900 to 1.000, in 0.001 steps; default 0.975 (chapter 4). -/
  | loadlineFeEta
  /-- `loadline.tau_i`: 0 µs to 10 ms, in 10 µs steps; default 50 µs (chapter 4). -/
  | loadlineTauI
  /-- `loadline.slew`: 1 V/ms to 10,000 V/ms, in 1 V/ms steps; default 100 V/ms (chapter 4). -/
  | loadlineSlew
  /-- `loadline.offset_max`: 0.0 V to 20.0 V, in 0.1 V steps; default 5.0 V (chapter 4). -/
  | loadlineOffsetMax
  /-- `phase.band`: 0.2 V to 20.0 V, in 0.1 V steps; default 3.0 V (chapter 4). -/
  | phaseBand
  /-- `phase.ramp_gain`: 0 mV/A to 200 mV/A, in 1 mV/A steps; default 40 mV/A (chapter 4). -/
  | phaseRampGain
  /-- `phase.ramp_tau`: 5 µs to 500 µs, in 1 µs steps; default 50 µs (chapter 4). -/
  | phaseRampTau
  /-- `phase.centre_gain`: 0 to 255/256, in 1/256 steps; default 32/256 (chapter 4). -/
  | phaseCentreGain
  /-- `phase.blank`: 20 ns to 2000 ns, in 1 ns steps; default 100 ns (chapter 4). -/
  | phaseBlank
  /-- `phase.f_target`: 50 kHz to 400 kHz, in 1 kHz steps; default 200 kHz (chapter 4). -/
  | phaseFTarget
  /-- `phase.t_on_min`: 500 ns to 20,000 ns, in 1 ns steps; default 500 ns (chapter 4). -/
  | phaseTOnMin
  /-- `phase.t_on_max`: 500 ns to 20,000 ns, in 1 ns steps; default 20,000 ns (chapter 4). -/
  | phaseTOnMax
  /-- `phase.dead_time`: 10 ns to 500 ns, in 1 ns steps; default 50 ns (chapter 4). -/
  | phaseDeadTime
  /-- `phase.min_off`: 100 ns to 5000 ns, in 1 ns steps; default 300 ns (chapter 4). -/
  | phaseMinOff
  /-- `phase.sync`: 0 or 1; default 1 (chapter 4). -/
  | phaseSync
  /-- `phase.balance_gain`: 0 to 255/256, in 1/256 steps; default 16/256 (chapter 4). -/
  | phaseBalanceGain
  /-- `phase.balance_max`: 0 to 127, in units of 1/1024; default 102 (chapter 4). -/
  | phaseBalanceMax
  /-- `legs.active`: 32-bit mask; default 0x0000_0000 (chapter 4). -/
  | legsActive
  /-- `legs.group_s`: 32-bit mask; default 0x0000_0000 (chapter 4). -/
  | legsGroupS
  /-- `legs.group_b`: 32-bit mask; default 0x0000_0000 (chapter 4). -/
  | legsGroupB
  /-- `legs.group_x`: 32-bit mask; default 0x0000_0000 (chapter 4). -/
  | legsGroupX
  /-- `legs.inductance`: 1.0 µH to 500.0 µH, in 0.1 µH steps; default 47.0 µH (chapter 4). -/
  | legsInductance
  /-- `legs.i_rated`: 10 A to 60 A, in 1 A steps; default 60 A (chapter 4). -/
  | legsIRated
  /-- `legs.i_peak`: 5.0 A to 120.0 A, in 0.5 A steps; default 75.0 A (chapter 4). -/
  | legsIPeak
  /-- `legs.hiccup_n`: 1 to 255; default 16 (chapter 4). -/
  | legsHiccupN
  /-- `legs.hiccup_time`: 1 ms to 100 ms, in 1 ms steps; default 5 ms (chapter 4). -/
  | legsHiccupTime
  /-- `legs.hiccup_m`: 1 to 15; default 3 (chapter 4). -/
  | legsHiccupM
  /-- `legs.hiccup_window`: 0.1 s to 60.0 s, in 0.1 s steps; default 1.0 s (chapter 4). -/
  | legsHiccupWindow
  /-- `legs.open_k`: 1 to 255; default 8 (chapter 4). -/
  | legsOpenK
  /-- `legs.open_i_floor`: 0.5 A to 10.0 A, in 0.1 A steps; default 2.0 A (chapter 4). -/
  | legsOpenIFloor
  /-- `legs.sense_k`: 1 to 255; default 32 (chapter 4). -/
  | legsSenseK
  /-- `legs.sense_tol_pct`: 5 % to 50 %, in 1 % steps; default 25 % (chapter 4). -/
  | legsSenseTolPct
  /-- `legs.sense_tol_abs`: 0.5 A to 20.0 A, in 0.1 A steps; default 3.0 A (chapter 4). -/
  | legsSenseTolAbs
  /-- `legs.swn_tol`: 2 V to 30 V, in 1 V steps; default 15 V (chapter 4). -/
  | legsSwnTol
  /-- `legs.idle_i_max`: 0.5 A to 10.0 A, in 0.1 A steps; default 2.0 A (chapter 4). -/
  | legsIdleIMax
  /-- `lanes.fence_n`: 1 to 255; default 8 (chapter 5). -/
  | lanesFenceN
  /-- `lanes.fence_window`: 10 µs to 100 ms, in 10 µs steps; default 1 ms (chapter 5). -/
  | lanesFenceWindow
  /-- `lanes.rejoin_time`: 10 ms to 60 s, in 10 ms steps; default 1 s (chapter 5). -/
  | lanesRejoinTime
  /-- `lanes.reload_max`: 1 to 255; default 16 (chapter 5). -/
  | lanesReloadMax
  /-- `lanes.refence_max`: 1 to 15; default 4 (chapter 5). -/
  | lanesRefenceMax
  /-- `lanes.tol_v`: 0.05 V to 2.00 V, in 0.01 V steps; default 0.25 V (chapter 5). -/
  | lanesTolV
  /-- `lanes.tol_ton`: 1 ns to 20 ns, in 1 ns steps; default 4 ns (chapter 5). -/
  | lanesTolTon
  /-- `lanes.tol_i`: 0.1 A to 10.0 A, in 0.1 A steps; default 1.0 A (chapter 5). -/
  | lanesTolI
  /-- `lanes.formation_wait`: 0.1 ms to 100.0 ms, in 0.1 ms steps; default 1.0 ms (chapter 5). -/
  | lanesFormationWait
  /-- `frontend.modules`: 6-bit mask; default 0x00 (chapter 6). -/
  | frontendModules
  /-- `frontend.pmbus_addr`: 0x08 to 0x72; default 0x58 (chapter 6). -/
  | frontendPmbusAddr
  /-- `frontend.pmbus_khz`: 100 or 400; default 400 (chapter 6). -/
  | frontendPmbusKhz
  /-- `frontend.rect_i_max`: 1.0 A to 200.0 A, in 0.1 A steps; default 50.0 A (chapter 6). -/
  | frontendRectIMax
  /-- `frontend.auto_v`: 700.0 V to 858.0 V, in 0.1 V steps; default 780.0 V (chapter 6). -/
  | frontendAutoV
  /-- `frontend.grid_v_nom`: 200 V to 690 V, in 1 V steps; default 480 V (chapter 6). -/
  | frontendGridVNom
  /-- `frontend.sag_pct`: 50 % to 95 %, in 1 % steps; default 70 % (chapter 6). -/
  | frontendSagPct
  /-- `frontend.sag_time`: 0.2 ms to 20.0 ms, in 0.1 ms steps; default 2.0 ms (chapter 6). -/
  | frontendSagTime
  /-- `frontend.return_pct`: 60 % to 100 %, in 1 % steps; default 90 % (chapter 6). -/
  | frontendReturnPct
  /-- `frontend.return_time`: 20 ms to 600 s, in 10 ms steps; default 100 ms (chapter 6). -/
  | frontendReturnTime
  /-- `frontend.slew_flat`: 0.1 %/s to 10.0 %/s, in 0.1 %/s steps; default 2.0 %/s (chapter 6). -/
  | frontendSlewFlat
  /-- `frontend.slew_max`: 1 %/s to 200 %/s, in 1 %/s steps; default 20 %/s (chapter 6). -/
  | frontendSlewMax
  /-- `frontend.slew_return`: 5 %/s to 1000 %/s, in 5 %/s steps; default 50 %/s (chapter 6). -/
  | frontendSlewReturn
  /-- `frontend.slew_trip`: 10 %/ms to 1000 %/ms, in 10 %/ms steps; default 100 %/ms (chapter 6). -/
  | frontendSlewTrip
  /-- `frontend.flat_pct`: 0.1 % to 5.0 %, in 0.1 % steps; default 0.5 % (chapter 6). -/
  | frontendFlatPct
  /-- `frontend.loss_hold`: 1 s to 600 s, in 1 s steps; default 10 s (chapter 6). -/
  | frontendLossHold
  /-- `limits.store_v_min`: 50 V to 800 V, in 1 V steps; default 300 V (chapter 6). -/
  | limitsStoreVMin
  /-- `limits.store_v_low`: 50 V to 800 V, in 1 V steps; default 350 V (chapter 6). -/
  | limitsStoreVLow
  /-- `limits.store_v_centre`: 50 V to 800 V, in 1 V steps; default 550 V (chapter 6). -/
  | limitsStoreVCentre
  /-- `limits.store_v_high`: 50 V to 800 V, in 1 V steps; default 680 V (chapter 6). -/
  | limitsStoreVHigh
  /-- `limits.store_v_max`: 50 V to 800 V, in 1 V steps, and R16; default 700 V (chapter 6). -/
  | limitsStoreVMax
  /-- `limits.recharge_max`: 1 % to 50 % of rating, in 1 % steps; default 10 % (chapter 6). -/
  | limitsRechargeMax
  /-- `limits.soc_tau`: 1 s to 600 s, in 1 s steps; default 20 s (chapter 6). -/
  | limitsSocTau
  /-- `limits.shelf_peak`: 100 % to 150 % of rating, in 1 % steps; default 110 % (chapter 6). -/
  | limitsShelfPeak
  /-- `strings.active`: 16-bit mask; default 0x0000 (chapter 6). -/
  | stringsActive
  /-- `strings.spare`: 16-bit mask; default 0x0000 (chapter 6). -/
  | stringsSpare
  /-- `strings.bus_charge`: 16-bit mask; default 0x0000 (chapter 6). -/
  | stringsBusCharge
  /-- `strings.addr_base`: 0x08 to 0x68; default 0x20 (chapter 6). -/
  | stringsAddrBase
  /-- `strings.smbus_khz`: 100 or 400; default 400 (chapter 6). -/
  | stringsSmbusKhz
  /-- `strings.c_rated`: 0.001 F to 100.000 F, in 0.001 F steps; default 0.200 F (chapter 6). -/
  | stringsCRated
  /-- `strings.esr_rated`: 0.1 mΩ to 500.0 mΩ, in 0.1 mΩ steps; default 40.0 mΩ (chapter 6). -/
  | stringsEsrRated
  /-- `strings.c_min_pct`: 50 % to 99 %, in 1 % steps; default 80 % (chapter 6). -/
  | stringsCMinPct
  /-- `strings.esr_max_pct`: 101 % to 500 %, in 1 % steps; default 200 % (chapter 6). -/
  | stringsEsrMaxPct
  /-- `strings.t_max`: 30 °C to 90 °C, in 1 °C steps; default 65 °C (chapter 6). -/
  | stringsTMax
  /-- `strings.short_pct`: 50 % to 100 %, in 1 % steps; default 95 % (chapter 6). -/
  | stringsShortPct
  /-- `strings.close_dv`: 1 V to 50 V, in 1 V steps; default 5 V (chapter 6). -/
  | stringsCloseDv
  /-- `strings.precharge_time`: 1 s to 600 s, in 1 s steps; default 60 s (chapter 6). -/
  | stringsPrechargeTime
  /-- `strings.open_i`: 1 A to 100 A, in 1 A steps; default 5 A (chapter 6). -/
  | stringsOpenI
  /-- `battery.present`: 0 or 1; default 0 (chapter 6). -/
  | batteryPresent
  /-- `battery.addr`: 0x08 to 0x77; default 0x30 (chapter 6). -/
  | batteryAddr
  /-- `battery.v_min`: 50 V to 800 V, in 1 V steps; default 400 V (chapter 6). -/
  | batteryVMin
  /-- `battery.v_max`: 50 V to 800 V, in 1 V steps; default 600 V (chapter 6). -/
  | batteryVMax
  /-- `battery.i_chg_max`: 0 A to 1920 A, in 1 A steps; default 0 A (chapter 6). -/
  | batteryIChgMax
  /-- `battery.i_dis_max`: 0 A to 1920 A, in 1 A steps; default 0 A (chapter 6). -/
  | batteryIDisMax
  /-- `battery.tau`: 1 s to 600 s, in 1 s steps; default 5 s (chapter 6). -/
  | batteryTau
  /-- `planner.state_tol`: 0.1 V to 20.0 V, in 0.1 V steps; default 2.0 V (chapter 7). -/
  | plannerStateTol
  /-- `planner.watchdog`: 10 ms to 10,000 ms, in 10 ms steps; default 1000 ms (chapter 7). -/
  | plannerWatchdog
  /-- `planner.scenarios`: 64 to 1024, in steps of 64; default 1024 (chapter 7). -/
  | plannerScenarios
  /-- `planner.quantile`: 90.0 % to 99.9 %, in 0.1 % steps; default 99.0 % (chapter 7). -/
  | plannerQuantile
  /-- `planner.conf_cover`: 50 % to 100 %, in 1 % steps; default 95 % (chapter 7). -/
  | plannerConfCover
  /-- `planner.conf_err`: 0.1 % to 10.0 %, in 0.1 % steps; default 1.0 % (chapter 7). -/
  | plannerConfErr
  /-- `planner.offset_gain`: 0 V to 100 V, in 1 V steps; default 20 V (chapter 7). -/
  | plannerOffsetGain
  /-- `planner.row_place`: 0 or 1; default 1 (chapter 7). -/
  | plannerRowPlace
  /-- `planner.row_window`: 0.1 s to 10.0 s, in 0.1 s steps; default 1.0 s (chapter 7). -/
  | plannerRowWindow
  /-- `lexicon.confident_n`: 1 to 1024; default 32 (chapter 8). -/
  | lexiconConfidentN
  /-- `lexicon.learn_n`: 1 to 65,535; default 256 (chapter 8). -/
  | lexiconLearnN
  /-- `lexicon.sigma`: 1.0 to 8.0, in 0.1 steps; default 3.0 (chapter 8). -/
  | lexiconSigma
  /-- `lexicon.misfit_pct`: 1 % to 100 %, in 1 % steps; default 10 % (chapter 8). -/
  | lexiconMisfitPct
  /-- `lexicon.min_obs`: 0.1 ms to 1000.0 ms, in 0.1 ms steps; default 1.0 ms (chapter 8). -/
  | lexiconMinObs
  /-- `lexicon.idle_time`: 10 ms to 600 s, in 10 ms steps; default 10 s (chapter 8). -/
  | lexiconIdleTime
  /-- `lexicon.prefetch_p`: 0 % to 100 %, in 1 % steps; default 5 % (chapter 8). -/
  | lexiconPrefetchP
  /-- `lexicon.prefetch_depth`: 0 to 3; default 2 (chapter 8). -/
  | lexiconPrefetchDepth
  /-- `lexicon.pin_max`: 0 to 3840; default 1024 (chapter 8). -/
  | lexiconPinMax
  /-- `lexicon.protect`: 8 h to 720 h, in 8 h steps; default 24 h (chapter 8). -/
  | lexiconProtect
  /-- `sward.power_limit`: 60 W to 340 W, in 1 W steps; default 340 W (chapter 9). -/
  | swardPowerLimit
  /-- `sward.ceiling`: D0 to D4; default D0 (chapter 9). -/
  | swardCeiling
  /-- `programs.role_k`: 0 to 4, coded as in R300; default 0 (chapter 10). -/
  | programsRole
  /-- `programs.digest_k`: 48 bytes; default all 0 (chapter 10). -/
  | programsDigest
  /-- `programs.seed_k`: 0 to 2⁶⁴ − 1; 0 selects the bundle's default; default 0 (chapter 10). -/
  | programsSeed
  /-- `programs.required_k`: 0 or 1; default 0 (chapter 10). -/
  | programsRequired
  /-- `furze.enrol_open`: 0 or 1; default 1 (chapter 11). -/
  | furzeEnrolOpen
  /-- `furze.enrol_timeout`: 16 to 1024 superframes; default 64 (chapter 11). -/
  | furzeEnrolTimeout
  /-- `furze.up_slots`: 4 to 32; default 32 (chapter 11). -/
  | furzeUpSlots
  /-- `furze.mcs_max`: M0 to M3; default M3 (chapter 11). -/
  | furzeMcsMax
  /-- `furze.mcs_margin`: 0.0 dB to 6.0 dB, in 0.5 dB steps; default 2.0 dB (chapter 11). -/
  | furzeMcsMargin
  /-- `furze.silent_n`: 2 to 64; default 8 (chapter 11). -/
  | furzeSilentN
  /-- `furze.lapse`: 1 s to 3600 s, in 1 s steps; default 10 s (chapter 11). -/
  | furzeLapse
  /-- `furze.id_hold`: 10 s to 86,400 s, in 1 s steps; default 600 s (chapter 11). -/
  | furzeIdHold
  /-- `furze.backoff_max`: 2 to 10; default 6 (chapter 11). -/
  | furzeBackoffMax
  /-- `furze.rekey_time`: 1 min to 1440 min, in 1 min steps; default 60 min (chapter 11). -/
  | furzeRekeyTime
  /-- `furze.epoch_grace`: 8 to 1024 superframes; default 64 (chapter 11). -/
  | furzeEpochGrace
  /-- `furze.tag_fail_max`: 1 to 255 per second; default 16 (chapter 11). -/
  | furzeTagFailMax
  /-- `furze.inrush_kw`: 1 kW to 500 kW, in 1 kW steps; default 20 kW (chapter 11). -/
  | furzeInrushKw
  /-- `furze.stranger_step`: 0.0 kW to 25.5 kW, in 0.1 kW steps; default 0.5 kW (chapter 11). -/
  | furzeStrangerStep
  /-- `concord.lead_sf`: 2 to 16 superframes; default 2 (chapter 12). -/
  | concordLeadSf
  /-- `concord.ack_sf`: 2 to 64 superframes; default 6 (chapter 12). -/
  | concordAckSf
  /-- `concord.reoffer_sf`: 1 to 16 superframes; default 2 (chapter 12). -/
  | concordReofferSf
  /-- `concord.defer_max`: 1 to 64; default 4 (chapter 12). -/
  | concordDeferMax
  /-- `concord.renew_sf`: 10 to 1000 superframes; default 100 (chapter 12). -/
  | concordRenewSf
  /-- `concord.lease_sf`: 100 to 60,000 superframes; default 1000 (chapter 12). -/
  | concordLeaseSf
  /-- `concord.segment_hold`: 0.1 s to 60.0 s, in 0.1 s steps; default 10.0 s (chapter 12). -/
  | concordSegmentHold
  /-- `concord.est_window`: 0.1 s to 60.0 s, in 0.1 s steps; default 5.0 s (chapter 12). -/
  | concordEstWindow
  /-- `concord.bridge_time`: 1 s to 600 s, in 1 s steps; default 30 s (chapter 12). -/
  | concordBridgeTime
  /-- `concord.release_time`: 0.1 s to 600.0 s, in 0.1 s steps; default 2.0 s (chapter 12). -/
  | concordReleaseTime
  /-- `concord.floor_pct`: 0 % to 100 %, in 1 % steps; default 60 % (chapter 12). -/
  | concordFloorPct
  /-- `concord.lag_min`: 0.1 ms to 100.0 ms, in 0.1 ms steps; default 2.0 ms (chapter 12). -/
  | concordLagMin
  /-- `concord.match_hold`: 1 s to 600 s, in 1 s steps; default 10 s (chapter 12). -/
  | concordMatchHold
  /-- `topology.domain_id`: 0x0000_0001 to 0xFFFF_FFFF; default — (chapter 13). -/
  | topologyDomainId
  /-- `topology.member`: 0 to 63; default 0 (chapter 13). -/
  | topologyMember
  /-- `topology.members`: 1 to 64; default 1 (chapter 13). -/
  | topologyMembers
  /-- `topology.shape`: 0 RING, 1 DUAL_RING, 2 TORUS; default 0 (chapter 13). -/
  | topologyShape
  /-- `topology.torus_x`: 2 to 8; default 8 (chapter 13). -/
  | topologyTorusX
  /-- `topology.torus_y`: 2 to 8; default 8 (chapter 13). -/
  | topologyTorusY
  /-- `heathline.tx_eq_p`: 0 to 7; default 0 (chapter 13). -/
  | heathlineTxEq
  /-- `heathline.asym_ps_p`: −2000 ps to +2000 ps, in 1 ps steps; default 0 ps (chapter 13). -/
  | heathlineAsymPs
  /-- `heathline.rejoin_hold`: 0 ms to 10,000 ms, in 10 ms steps; default 100 ms (chapter 13). -/
  | heathlineRejoinHold
  /-- `heathline.head_return`: 0 s to 600 s, in 1 s steps; default 1 s (chapter 13). -/
  | heathlineHeadReturn
  /-- `heathline.telemetry_mbps`: 1 Mb/s to 100 Mb/s, in 1 Mb/s steps; default 20 Mb/s (chapter 13). -/
  | heathlineTelemetryMbps
  /-- `heathline.sub_max`: 0 to 16; default 4 (chapter 13). -/
  | heathlineSubMax
  /-- `heathline.w_mirror`: 1 to 16 cells; default 4, 1, 8 (chapter 13). -/
  | heathlineWMirror
  /-- `heathline.w_telemetry`: 1 to 16 cells; default 4, 1, 8 (chapter 13). -/
  | heathlineWTelemetry
  /-- `heathline.w_bulk`: 1 to 16 cells; default 4, 1, 8 (chapter 13). -/
  | heathlineWBulk
  /-- `heathline.bert_time`: 1 s to 600 s, in 1 s steps; default 10 s (chapter 13). -/
  | heathlineBertTime
  /-- `heathline.bert_limit`: 1 × 10⁻¹² to 1 × 10⁻⁴, as mantissa 1 to 9 and exponent; default 1 × 10⁻⁶ (chapter 13). -/
  | heathlineBertLimit
  /-- `topology.segment`: 0 to 63; default 0 (chapter 14). -/
  | topologySegment
  /-- `topology.segment_shelves`: 1 to 8; default 1 (chapter 14). -/
  | topologySegmentShelves
  /-- `topology.shelf_rating`: 50 kW to 500 kW, in 1 kW steps; default — (chapter 14). -/
  | topologyShelfRating
  /-- `cal.isns_scale`: 1.00 A/V to 1000.00 A/V, in 0.01 A/V steps; default 50.00 A/V (chapter 14). -/
  | calIsnsScale
  /-- `cal.isns_gain_k`: −5.000 % to +5.000 %, in 0.001 % steps; default 0 % (chapter 14). -/
  | calIsnsGain
  /-- `cal.isns_offset_k`: −5.00 A to +5.00 A, in 0.01 A steps; default 0 A (chapter 14). -/
  | calIsnsOffset
  /-- `cal.vbus_scale_x`: 100.0 V/V to 1000.0 V/V, in 0.1 V/V steps; default 500.0 V/V (chapter 14). -/
  | calVbusScale
  /-- `cal.vbus_gain_x`: −2.000 % to +2.000 %, in 0.001 % steps; default 0 % (chapter 14). -/
  | calVbusGain
  /-- `cal.vbus_offset_x`: −2.000 V to +2.000 V, in 0.001 V steps; default 0 V (chapter 14). -/
  | calVbusOffset
  /-- `cal.vsto_scale_s`: 100.0 V/V to 1000.0 V/V, in 0.1 V/V steps; default 500.0 V/V (chapter 14). -/
  | calVstoScaleS
  /-- `cal.vsto_scale_b`: 100.0 V/V to 1000.0 V/V, in 0.1 V/V steps; default 500.0 V/V (chapter 14). -/
  | calVstoScaleB
  /-- `cal.vsto_gain_s`: −2.000 % to +2.000 %, in 0.001 % steps; default 0 % (chapter 14). -/
  | calVstoGainS
  /-- `cal.vsto_gain_b`: −2.000 % to +2.000 %, in 0.001 % steps; default 0 % (chapter 14). -/
  | calVstoGainB
  /-- `cal.vsto_offset_s`: −2.000 V to +2.000 V, in 0.001 V steps; default 0 V (chapter 14). -/
  | calVstoOffsetS
  /-- `cal.vsto_offset_b`: −2.000 V to +2.000 V, in 0.001 V steps; default 0 V (chapter 14). -/
  | calVstoOffsetB
  /-- `cal.vgrid_scale`: 50.0 V/V to 1000.0 V/V, in 0.1 V/V steps; default 500.0 V/V (chapter 14). -/
  | calVgridScale
  /-- `cal.vgrid_gain_l`: −2.000 % to +2.000 %, in 0.001 % steps; default 0 % (chapter 14). -/
  | calVgridGain
  /-- `cal.igrid_scale`: 10.0 A/V to 2000.0 A/V, in 0.1 A/V steps; default 250.0 A/V (chapter 14). -/
  | calIgridScale
  /-- `cal.igrid_gain_l`: −2.000 % to +2.000 %, in 0.001 % steps; default 0 % (chapter 14). -/
  | calIgridGain
  /-- `cal.swn_scale`: 100.0 V/V to 1000.0 V/V, in 0.1 V/V steps; default 500.0 V/V (chapter 14). -/
  | calSwnScale
  /-- `cal.ntc_r25`: 1000 Ω to 100,000 Ω, in 1 Ω steps; default 10,000 Ω (chapter 14). -/
  | calNtcR25
  /-- `cal.ntc_beta`: 2000 K to 5000 K, in 1 K steps; default 3435 K (chapter 14). -/
  | calNtcBeta
  /-- `cal.flow_ppl`: 100 to 10,000 pulses per litre; default 1000 (chapter 14). -/
  | calFlowPpl
  /-- `mgmt.prefix_a`: 8 bytes; default 0: link-local only (chapter 19). -/
  | mgmtPrefixA
  /-- `mgmt.prefix_b`: 8 bytes; default 0: link-local only (chapter 19). -/
  | mgmtPrefixB
  /-- `mgmt.mgr_a_addr`: 16 bytes; default — (chapter 19). -/
  | mgmtMgrAAddr
  /-- `mgmt.mgr_b_addr`: 16 bytes; default — (chapter 19). -/
  | mgmtMgrBAddr
  /-- `mgmt.udp_port`: 1024 to 65,535; default 4417 (chapter 19). -/
  | mgmtUdpPort
  /-- `mgmt.heartbeat`: 0.1 s to 10.0 s, in 0.1 s steps; default 1.0 s (chapter 19). -/
  | mgmtHeartbeat
  /-- `mgmt.silent_time`: 1 s to 600 s, in 1 s steps; default 10 s (chapter 19). -/
  | mgmtSilentTime
  /-- `mgmt.fw_confirm`: 10 s to 3600 s, in 10 s steps; default 600 s (chapter 19). -/
  | mgmtFwConfirm
  /-- `mgmt.flow_min`: 0.1 L/min to 5.0 L/min, in 0.1 L/min steps; default 0.8 L/min (chapter 19). -/
  | mgmtFlowMin
  /-- `mgmt.flow_time`: 0.1 s to 0.8 s, in 0.1 s steps; default 0.5 s (chapter 19). -/
  | mgmtFlowTime
  /-- `mgmt.tout_max`: 30 °C to 80 °C, in 1 °C steps; default 60 °C (chapter 19). -/
  | mgmtToutMax
  /-- `mgmt.cool_return`: 10 s to 600 s, in 1 s steps; default 60 s (chapter 19). -/
  | mgmtCoolReturn
  /-- `mgmt.derate_t0`: 30 °C to 70 °C, in 1 °C steps; default 50 °C (chapter 19). -/
  | mgmtDerateT0
  /-- `mgmt.derate_t1`: 31 °C to 80 °C, in 1 °C steps; default 60 °C (chapter 19). -/
  | mgmtDerateT1
  /-- `mgmt.derate_min`: 0.10 to 1.00, in 0.01 steps; default 0.50 (chapter 19). -/
  | mgmtDerateMin
  /-- `mgmt.derate_noflow`: 0.10 to 1.00, in 0.01 steps; default 0.60 (chapter 19). -/
  | mgmtDerateNoflow
  /-- `mgmt.sward_t_ceil`: 70 °C to 100 °C, in 1 °C steps; default 95 °C (chapter 19). -/
  | mgmtSwardTCeil
  /-- `mgmt.tleg_max`: 60 °C to 125 °C, in 1 °C steps; default 100 °C (chapter 19). -/
  | mgmtTlegMax
  /-- `mgmt.thermal_step`: 1 s to 600 s, in 1 s steps; default 10 s (chapter 19). -/
  | mgmtThermalStep
  /-- `mgmt.flt_n_s`: as FLT_POL_s and FLT_REACT_s; default R494 (chapter 19). -/
  | mgmtFltN
  /-- `mgmt.flt_t_s`: as FLT_POL_s and FLT_REACT_s; default R494 (chapter 19). -/
  | mgmtFltT
  /-- `mgmt.flt_react_s`: as FLT_POL_s and FLT_REACT_s; default R494 (chapter 19). -/
  | mgmtFltReact
  deriving DecidableEq, Repr

/-- How a field's VALUE is encoded (R445). -/
inductive Enc where
  /-- A signed integer of 1, 2, 4 or 8 bytes, the value divided by its step. -/
  | num
  /-- As `num`, the values of its range listed in full. -/
  | listed
  /-- An unsigned integer of 1, 2, 4 or 8 bytes. -/
  | mask
  /-- One byte, the code of the owning chapter. -/
  | coded
  /-- Eight bytes, unsigned. -/
  | seed
  /-- Mantissa and exponent, one byte each. -/
  | bert
  /-- The bytes themselves. -/
  | bytes (n : Nat)
  /-- An unsigned integer of the width of its fault policy register field. -/
  | flt (n : Nat)
  deriving DecidableEq, Repr

/-- What the letter in a field's name stands for (R444, R461, R548). -/
inductive Idx where
  | one | leg | lane | phase | entry | port | source
  deriving DecidableEq, Repr

/-- One row of the field tables. -/
structure FldSpec where
  /-- Dotted path, without its index. -/
  name : String
  /-- Section TYPE (R443). -/
  section_ : Nat
  /-- The index its name carries. -/
  idx : Idx
  /-- Its encoding. -/
  enc : Enc
  /-- Least value, in steps. -/
  lo : Int
  /-- Greatest value, in steps. -/
  hi : Int
  /-- Default, in steps; none where the field table shows a dash. -/
  dflt : Option Int
  /-- It changes only at a full start (R443, R457, R576). -/
  full : Bool
  deriving DecidableEq, Repr

/-- The field tables. -/
def Fld.spec : Fld → FldSpec
  | .limitsStopHold => ⟨"limits.stop_hold", 6, .one, .num, 1, 600, some 10, true⟩
  | .limitsStopRestarts => ⟨"limits.stop_restarts", 6, .one, .num, 0, 15, some 3, true⟩
  | .limitsFallowTau => ⟨"limits.fallow_tau", 6, .one, .num, 50, 60000, some 2000, true⟩
  | .loadlineNominal => ⟨"loadline.nominal", 3, .one, .num, 7600, 8600, some 8000, true⟩
  | .loadlineRLl => ⟨"loadline.r_ll", 3, .one, .num, 0, 1000, some 0, true⟩
  | .loadlineFeEta => ⟨"loadline.fe_eta", 3, .one, .num, 900, 1000, some 975, true⟩
  | .loadlineTauI => ⟨"loadline.tau_i", 3, .one, .num, 0, 1000, some 5, true⟩
  | .loadlineSlew => ⟨"loadline.slew", 3, .one, .num, 1, 10000, some 100, true⟩
  | .loadlineOffsetMax => ⟨"loadline.offset_max", 3, .one, .num, 0, 200, some 50, true⟩
  | .phaseBand => ⟨"phase.band", 4, .one, .num, 2, 200, some 30, true⟩
  | .phaseRampGain => ⟨"phase.ramp_gain", 4, .one, .num, 0, 200, some 40, true⟩
  | .phaseRampTau => ⟨"phase.ramp_tau", 4, .one, .num, 5, 500, some 50, true⟩
  | .phaseCentreGain => ⟨"phase.centre_gain", 4, .one, .num, 0, 255, some 32, true⟩
  | .phaseBlank => ⟨"phase.blank", 4, .one, .num, 20, 2000, some 100, true⟩
  | .phaseFTarget => ⟨"phase.f_target", 4, .one, .num, 50, 400, some 200, true⟩
  | .phaseTOnMin => ⟨"phase.t_on_min", 4, .one, .num, 500, 20000, some 500, true⟩
  | .phaseTOnMax => ⟨"phase.t_on_max", 4, .one, .num, 500, 20000, some 20000, true⟩
  | .phaseDeadTime => ⟨"phase.dead_time", 4, .one, .num, 10, 500, some 50, true⟩
  | .phaseMinOff => ⟨"phase.min_off", 4, .one, .num, 100, 5000, some 300, true⟩
  | .phaseSync => ⟨"phase.sync", 4, .one, .num, 0, 1, some 1, true⟩
  | .phaseBalanceGain => ⟨"phase.balance_gain", 4, .one, .num, 0, 255, some 16, true⟩
  | .phaseBalanceMax => ⟨"phase.balance_max", 4, .one, .num, 0, 127, some 102, true⟩
  | .legsActive => ⟨"legs.active", 2, .one, .mask, 0, 4294967295, some 0, true⟩
  | .legsGroupS => ⟨"legs.group_s", 2, .one, .mask, 0, 4294967295, some 0, true⟩
  | .legsGroupB => ⟨"legs.group_b", 2, .one, .mask, 0, 4294967295, some 0, true⟩
  | .legsGroupX => ⟨"legs.group_x", 2, .one, .mask, 0, 4294967295, some 0, true⟩
  | .legsInductance => ⟨"legs.inductance", 2, .one, .num, 10, 5000, some 470, true⟩
  | .legsIRated => ⟨"legs.i_rated", 2, .one, .num, 10, 60, some 60, true⟩
  | .legsIPeak => ⟨"legs.i_peak", 2, .one, .num, 10, 240, some 150, true⟩
  | .legsHiccupN => ⟨"legs.hiccup_n", 2, .one, .num, 1, 255, some 16, true⟩
  | .legsHiccupTime => ⟨"legs.hiccup_time", 2, .one, .num, 1, 100, some 5, true⟩
  | .legsHiccupM => ⟨"legs.hiccup_m", 2, .one, .num, 1, 15, some 3, true⟩
  | .legsHiccupWindow => ⟨"legs.hiccup_window", 2, .one, .num, 1, 600, some 10, true⟩
  | .legsOpenK => ⟨"legs.open_k", 2, .one, .num, 1, 255, some 8, true⟩
  | .legsOpenIFloor => ⟨"legs.open_i_floor", 2, .one, .num, 5, 100, some 20, true⟩
  | .legsSenseK => ⟨"legs.sense_k", 2, .one, .num, 1, 255, some 32, true⟩
  | .legsSenseTolPct => ⟨"legs.sense_tol_pct", 2, .one, .num, 5, 50, some 25, true⟩
  | .legsSenseTolAbs => ⟨"legs.sense_tol_abs", 2, .one, .num, 5, 200, some 30, true⟩
  | .legsSwnTol => ⟨"legs.swn_tol", 2, .one, .num, 2, 30, some 15, true⟩
  | .legsIdleIMax => ⟨"legs.idle_i_max", 2, .one, .num, 5, 100, some 20, true⟩
  | .lanesFenceN => ⟨"lanes.fence_n", 5, .one, .num, 1, 255, some 8, true⟩
  | .lanesFenceWindow => ⟨"lanes.fence_window", 5, .one, .num, 1, 10000, some 100, true⟩
  | .lanesRejoinTime => ⟨"lanes.rejoin_time", 5, .one, .num, 1, 6000, some 100, true⟩
  | .lanesReloadMax => ⟨"lanes.reload_max", 5, .one, .num, 1, 255, some 16, true⟩
  | .lanesRefenceMax => ⟨"lanes.refence_max", 5, .one, .num, 1, 15, some 4, true⟩
  | .lanesTolV => ⟨"lanes.tol_v", 5, .one, .num, 5, 200, some 25, true⟩
  | .lanesTolTon => ⟨"lanes.tol_ton", 5, .one, .num, 1, 20, some 4, true⟩
  | .lanesTolI => ⟨"lanes.tol_i", 5, .one, .num, 1, 100, some 10, true⟩
  | .lanesFormationWait => ⟨"lanes.formation_wait", 5, .one, .num, 1, 1000, some 10, true⟩
  | .frontendModules => ⟨"frontend.modules", 7, .one, .mask, 0, 63, some 0, true⟩
  | .frontendPmbusAddr => ⟨"frontend.pmbus_addr", 7, .one, .num, 8, 114, some 88, true⟩
  | .frontendPmbusKhz => ⟨"frontend.pmbus_khz", 7, .one, .listed, 100, 400, some 400, true⟩
  | .frontendRectIMax => ⟨"frontend.rect_i_max", 7, .one, .num, 10, 2000, some 500, true⟩
  | .frontendAutoV => ⟨"frontend.auto_v", 7, .one, .num, 7000, 8580, some 7800, true⟩
  | .frontendGridVNom => ⟨"frontend.grid_v_nom", 7, .one, .num, 200, 690, some 480, true⟩
  | .frontendSagPct => ⟨"frontend.sag_pct", 7, .one, .num, 50, 95, some 70, true⟩
  | .frontendSagTime => ⟨"frontend.sag_time", 7, .one, .num, 2, 200, some 20, true⟩
  | .frontendReturnPct => ⟨"frontend.return_pct", 7, .one, .num, 60, 100, some 90, true⟩
  | .frontendReturnTime => ⟨"frontend.return_time", 7, .one, .num, 2, 60000, some 10, true⟩
  | .frontendSlewFlat => ⟨"frontend.slew_flat", 7, .one, .num, 1, 100, some 20, true⟩
  | .frontendSlewMax => ⟨"frontend.slew_max", 7, .one, .num, 1, 200, some 20, true⟩
  | .frontendSlewReturn => ⟨"frontend.slew_return", 7, .one, .num, 1, 200, some 10, true⟩
  | .frontendSlewTrip => ⟨"frontend.slew_trip", 7, .one, .num, 1, 100, some 10, true⟩
  | .frontendFlatPct => ⟨"frontend.flat_pct", 7, .one, .num, 1, 50, some 5, true⟩
  | .frontendLossHold => ⟨"frontend.loss_hold", 7, .one, .num, 1, 600, some 10, true⟩
  | .limitsStoreVMin => ⟨"limits.store_v_min", 6, .one, .num, 50, 800, some 300, true⟩
  | .limitsStoreVLow => ⟨"limits.store_v_low", 6, .one, .num, 50, 800, some 350, true⟩
  | .limitsStoreVCentre => ⟨"limits.store_v_centre", 6, .one, .num, 50, 800, some 550, true⟩
  | .limitsStoreVHigh => ⟨"limits.store_v_high", 6, .one, .num, 50, 800, some 680, true⟩
  | .limitsStoreVMax => ⟨"limits.store_v_max", 6, .one, .num, 50, 800, some 700, true⟩
  | .limitsRechargeMax => ⟨"limits.recharge_max", 6, .one, .num, 1, 50, some 10, true⟩
  | .limitsSocTau => ⟨"limits.soc_tau", 6, .one, .num, 1, 600, some 20, true⟩
  | .limitsShelfPeak => ⟨"limits.shelf_peak", 6, .one, .num, 100, 150, some 110, true⟩
  | .stringsActive => ⟨"strings.active", 8, .one, .mask, 0, 65535, some 0, true⟩
  | .stringsSpare => ⟨"strings.spare", 8, .one, .mask, 0, 65535, some 0, true⟩
  | .stringsBusCharge => ⟨"strings.bus_charge", 8, .one, .mask, 0, 65535, some 0, true⟩
  | .stringsAddrBase => ⟨"strings.addr_base", 8, .one, .num, 8, 104, some 32, true⟩
  | .stringsSmbusKhz => ⟨"strings.smbus_khz", 8, .one, .listed, 100, 400, some 400, true⟩
  | .stringsCRated => ⟨"strings.c_rated", 8, .one, .num, 1, 100000, some 200, true⟩
  | .stringsEsrRated => ⟨"strings.esr_rated", 8, .one, .num, 1, 5000, some 400, true⟩
  | .stringsCMinPct => ⟨"strings.c_min_pct", 8, .one, .num, 50, 99, some 80, true⟩
  | .stringsEsrMaxPct => ⟨"strings.esr_max_pct", 8, .one, .num, 101, 500, some 200, true⟩
  | .stringsTMax => ⟨"strings.t_max", 8, .one, .num, 30, 90, some 65, true⟩
  | .stringsShortPct => ⟨"strings.short_pct", 8, .one, .num, 50, 100, some 95, true⟩
  | .stringsCloseDv => ⟨"strings.close_dv", 8, .one, .num, 1, 50, some 5, true⟩
  | .stringsPrechargeTime => ⟨"strings.precharge_time", 8, .one, .num, 1, 600, some 60, true⟩
  | .stringsOpenI => ⟨"strings.open_i", 8, .one, .num, 1, 100, some 5, true⟩
  | .batteryPresent => ⟨"battery.present", 9, .one, .num, 0, 1, some 0, true⟩
  | .batteryAddr => ⟨"battery.addr", 9, .one, .num, 8, 119, some 48, true⟩
  | .batteryVMin => ⟨"battery.v_min", 9, .one, .num, 50, 800, some 400, true⟩
  | .batteryVMax => ⟨"battery.v_max", 9, .one, .num, 50, 800, some 600, true⟩
  | .batteryIChgMax => ⟨"battery.i_chg_max", 9, .one, .num, 0, 1920, some 0, true⟩
  | .batteryIDisMax => ⟨"battery.i_dis_max", 9, .one, .num, 0, 1920, some 0, true⟩
  | .batteryTau => ⟨"battery.tau", 9, .one, .num, 1, 600, some 5, true⟩
  | .plannerStateTol => ⟨"planner.state_tol", 10, .one, .num, 1, 200, some 20, true⟩
  | .plannerWatchdog => ⟨"planner.watchdog", 10, .one, .num, 1, 1000, some 100, true⟩
  | .plannerScenarios => ⟨"planner.scenarios", 10, .one, .num, 1, 16, some 16, false⟩
  | .plannerQuantile => ⟨"planner.quantile", 10, .one, .num, 900, 999, some 990, false⟩
  | .plannerConfCover => ⟨"planner.conf_cover", 10, .one, .num, 50, 100, some 95, false⟩
  | .plannerConfErr => ⟨"planner.conf_err", 10, .one, .num, 1, 100, some 10, false⟩
  | .plannerOffsetGain => ⟨"planner.offset_gain", 10, .one, .num, 0, 100, some 20, false⟩
  | .plannerRowPlace => ⟨"planner.row_place", 10, .one, .num, 0, 1, some 1, false⟩
  | .plannerRowWindow => ⟨"planner.row_window", 10, .one, .num, 1, 100, some 10, false⟩
  | .lexiconConfidentN => ⟨"lexicon.confident_n", 11, .one, .num, 1, 1024, some 32, false⟩
  | .lexiconLearnN => ⟨"lexicon.learn_n", 11, .one, .num, 1, 65535, some 256, false⟩
  | .lexiconSigma => ⟨"lexicon.sigma", 11, .one, .num, 10, 80, some 30, false⟩
  | .lexiconMisfitPct => ⟨"lexicon.misfit_pct", 11, .one, .num, 1, 100, some 10, false⟩
  | .lexiconMinObs => ⟨"lexicon.min_obs", 11, .one, .num, 1, 10000, some 10, false⟩
  | .lexiconIdleTime => ⟨"lexicon.idle_time", 11, .one, .num, 1, 60000, some 1000, false⟩
  | .lexiconPrefetchP => ⟨"lexicon.prefetch_p", 11, .one, .num, 0, 100, some 5, false⟩
  | .lexiconPrefetchDepth => ⟨"lexicon.prefetch_depth", 11, .one, .num, 0, 3, some 2, false⟩
  | .lexiconPinMax => ⟨"lexicon.pin_max", 11, .one, .num, 0, 3840, some 1024, false⟩
  | .lexiconProtect => ⟨"lexicon.protect", 11, .one, .num, 1, 90, some 3, false⟩
  | .swardPowerLimit => ⟨"sward.power_limit", 13, .one, .num, 60, 340, some 340, false⟩
  | .swardCeiling => ⟨"sward.ceiling", 13, .one, .coded, 0, 4, some 0, false⟩
  | .programsRole => ⟨"programs.role_", 14, .entry, .coded, 0, 4, some 0, false⟩
  | .programsDigest => ⟨"programs.digest_", 14, .entry, .bytes 48, 0, 0, some 0, false⟩
  | .programsSeed => ⟨"programs.seed_", 14, .entry, .seed, 0, 18446744073709551615, some 0, false⟩
  | .programsRequired => ⟨"programs.required_", 14, .entry, .num, 0, 1, some 0, false⟩
  | .furzeEnrolOpen => ⟨"furze.enrol_open", 16, .one, .num, 0, 1, some 1, false⟩
  | .furzeEnrolTimeout => ⟨"furze.enrol_timeout", 16, .one, .num, 16, 1024, some 64, false⟩
  | .furzeUpSlots => ⟨"furze.up_slots", 16, .one, .num, 4, 32, some 32, false⟩
  | .furzeMcsMax => ⟨"furze.mcs_max", 16, .one, .coded, 0, 3, some 3, false⟩
  | .furzeMcsMargin => ⟨"furze.mcs_margin", 16, .one, .num, 0, 12, some 4, false⟩
  | .furzeSilentN => ⟨"furze.silent_n", 16, .one, .num, 2, 64, some 8, false⟩
  | .furzeLapse => ⟨"furze.lapse", 16, .one, .num, 1, 3600, some 10, false⟩
  | .furzeIdHold => ⟨"furze.id_hold", 16, .one, .num, 10, 86400, some 600, false⟩
  | .furzeBackoffMax => ⟨"furze.backoff_max", 16, .one, .num, 2, 10, some 6, false⟩
  | .furzeRekeyTime => ⟨"furze.rekey_time", 16, .one, .num, 1, 1440, some 60, false⟩
  | .furzeEpochGrace => ⟨"furze.epoch_grace", 16, .one, .num, 8, 1024, some 64, false⟩
  | .furzeTagFailMax => ⟨"furze.tag_fail_max", 16, .one, .num, 1, 255, some 16, false⟩
  | .furzeInrushKw => ⟨"furze.inrush_kw", 16, .one, .num, 1, 500, some 20, false⟩
  | .furzeStrangerStep => ⟨"furze.stranger_step", 16, .one, .num, 0, 255, some 5, false⟩
  | .concordLeadSf => ⟨"concord.lead_sf", 17, .one, .num, 2, 16, some 2, false⟩
  | .concordAckSf => ⟨"concord.ack_sf", 17, .one, .num, 2, 64, some 6, false⟩
  | .concordReofferSf => ⟨"concord.reoffer_sf", 17, .one, .num, 1, 16, some 2, false⟩
  | .concordDeferMax => ⟨"concord.defer_max", 17, .one, .num, 1, 64, some 4, false⟩
  | .concordRenewSf => ⟨"concord.renew_sf", 17, .one, .num, 10, 1000, some 100, false⟩
  | .concordLeaseSf => ⟨"concord.lease_sf", 17, .one, .num, 100, 60000, some 1000, false⟩
  | .concordSegmentHold => ⟨"concord.segment_hold", 17, .one, .num, 1, 600, some 100, false⟩
  | .concordEstWindow => ⟨"concord.est_window", 17, .one, .num, 1, 600, some 50, false⟩
  | .concordBridgeTime => ⟨"concord.bridge_time", 17, .one, .num, 1, 600, some 30, false⟩
  | .concordReleaseTime => ⟨"concord.release_time", 17, .one, .num, 1, 6000, some 20, false⟩
  | .concordFloorPct => ⟨"concord.floor_pct", 17, .one, .num, 0, 100, some 60, false⟩
  | .concordLagMin => ⟨"concord.lag_min", 17, .one, .num, 1, 1000, some 20, false⟩
  | .concordMatchHold => ⟨"concord.match_hold", 17, .one, .num, 1, 600, some 10, false⟩
  | .topologyDomainId => ⟨"topology.domain_id", 1, .one, .mask, 1, 4294967295, none, true⟩
  | .topologyMember => ⟨"topology.member", 1, .one, .num, 0, 63, some 0, true⟩
  | .topologyMembers => ⟨"topology.members", 1, .one, .num, 1, 64, some 1, true⟩
  | .topologyShape => ⟨"topology.shape", 1, .one, .coded, 0, 2, some 0, true⟩
  | .topologyTorusX => ⟨"topology.torus_x", 1, .one, .num, 2, 8, some 8, true⟩
  | .topologyTorusY => ⟨"topology.torus_y", 1, .one, .num, 2, 8, some 8, true⟩
  | .heathlineTxEq => ⟨"heathline.tx_eq_", 15, .port, .num, 0, 7, some 0, false⟩
  | .heathlineAsymPs => ⟨"heathline.asym_ps_", 15, .port, .num, (-2000), 2000, some 0, false⟩
  | .heathlineRejoinHold => ⟨"heathline.rejoin_hold", 15, .one, .num, 0, 1000, some 10, false⟩
  | .heathlineHeadReturn => ⟨"heathline.head_return", 15, .one, .num, 0, 600, some 1, false⟩
  | .heathlineTelemetryMbps => ⟨"heathline.telemetry_mbps", 15, .one, .num, 1, 100, some 20, false⟩
  | .heathlineSubMax => ⟨"heathline.sub_max", 15, .one, .num, 0, 16, some 4, false⟩
  | .heathlineWMirror => ⟨"heathline.w_mirror", 15, .one, .num, 1, 16, some 4, false⟩
  | .heathlineWTelemetry => ⟨"heathline.w_telemetry", 15, .one, .num, 1, 16, some 1, false⟩
  | .heathlineWBulk => ⟨"heathline.w_bulk", 15, .one, .num, 1, 16, some 8, false⟩
  | .heathlineBertTime => ⟨"heathline.bert_time", 15, .one, .num, 1, 600, some 10, false⟩
  | .heathlineBertLimit => ⟨"heathline.bert_limit", 15, .one, .bert, 0, 65535, some 1537, false⟩
  | .topologySegment => ⟨"topology.segment", 1, .one, .num, 0, 63, some 0, true⟩
  | .topologySegmentShelves => ⟨"topology.segment_shelves", 1, .one, .num, 1, 8, some 1, true⟩
  | .topologyShelfRating => ⟨"topology.shelf_rating", 1, .one, .num, 50, 500, none, true⟩
  | .calIsnsScale => ⟨"cal.isns_scale", 18, .one, .num, 100, 100000, some 5000, true⟩
  | .calIsnsGain => ⟨"cal.isns_gain_", 18, .leg, .num, (-5000), 5000, some 0, true⟩
  | .calIsnsOffset => ⟨"cal.isns_offset_", 18, .leg, .num, (-500), 500, some 0, true⟩
  | .calVbusScale => ⟨"cal.vbus_scale_", 18, .lane, .num, 1000, 10000, some 5000, true⟩
  | .calVbusGain => ⟨"cal.vbus_gain_", 18, .lane, .num, (-2000), 2000, some 0, true⟩
  | .calVbusOffset => ⟨"cal.vbus_offset_", 18, .lane, .num, (-2000), 2000, some 0, true⟩
  | .calVstoScaleS => ⟨"cal.vsto_scale_s", 18, .one, .num, 1000, 10000, some 5000, true⟩
  | .calVstoScaleB => ⟨"cal.vsto_scale_b", 18, .one, .num, 1000, 10000, some 5000, true⟩
  | .calVstoGainS => ⟨"cal.vsto_gain_s", 18, .one, .num, (-2000), 2000, some 0, true⟩
  | .calVstoGainB => ⟨"cal.vsto_gain_b", 18, .one, .num, (-2000), 2000, some 0, true⟩
  | .calVstoOffsetS => ⟨"cal.vsto_offset_s", 18, .one, .num, (-2000), 2000, some 0, true⟩
  | .calVstoOffsetB => ⟨"cal.vsto_offset_b", 18, .one, .num, (-2000), 2000, some 0, true⟩
  | .calVgridScale => ⟨"cal.vgrid_scale", 18, .one, .num, 500, 10000, some 5000, true⟩
  | .calVgridGain => ⟨"cal.vgrid_gain_", 18, .phase, .num, (-2000), 2000, some 0, true⟩
  | .calIgridScale => ⟨"cal.igrid_scale", 18, .one, .num, 100, 20000, some 2500, true⟩
  | .calIgridGain => ⟨"cal.igrid_gain_", 18, .phase, .num, (-2000), 2000, some 0, true⟩
  | .calSwnScale => ⟨"cal.swn_scale", 18, .one, .num, 1000, 10000, some 5000, true⟩
  | .calNtcR25 => ⟨"cal.ntc_r25", 18, .one, .num, 1000, 100000, some 10000, true⟩
  | .calNtcBeta => ⟨"cal.ntc_beta", 18, .one, .num, 2000, 5000, some 3435, true⟩
  | .calFlowPpl => ⟨"cal.flow_ppl", 18, .one, .num, 100, 10000, some 1000, true⟩
  | .mgmtPrefixA => ⟨"mgmt.prefix_a", 19, .one, .bytes 8, 0, 0, some 0, false⟩
  | .mgmtPrefixB => ⟨"mgmt.prefix_b", 19, .one, .bytes 8, 0, 0, some 0, false⟩
  | .mgmtMgrAAddr => ⟨"mgmt.mgr_a_addr", 19, .one, .bytes 16, 0, 0, none, false⟩
  | .mgmtMgrBAddr => ⟨"mgmt.mgr_b_addr", 19, .one, .bytes 16, 0, 0, none, false⟩
  | .mgmtUdpPort => ⟨"mgmt.udp_port", 19, .one, .num, 1024, 65535, some 4417, false⟩
  | .mgmtHeartbeat => ⟨"mgmt.heartbeat", 19, .one, .num, 1, 100, some 10, false⟩
  | .mgmtSilentTime => ⟨"mgmt.silent_time", 19, .one, .num, 1, 600, some 10, false⟩
  | .mgmtFwConfirm => ⟨"mgmt.fw_confirm", 19, .one, .num, 1, 360, some 60, false⟩
  | .mgmtFlowMin => ⟨"mgmt.flow_min", 19, .one, .num, 1, 50, some 8, true⟩
  | .mgmtFlowTime => ⟨"mgmt.flow_time", 19, .one, .num, 1, 8, some 5, true⟩
  | .mgmtToutMax => ⟨"mgmt.tout_max", 19, .one, .num, 30, 80, some 60, true⟩
  | .mgmtCoolReturn => ⟨"mgmt.cool_return", 19, .one, .num, 10, 600, some 60, true⟩
  | .mgmtDerateT0 => ⟨"mgmt.derate_t0", 19, .one, .num, 30, 70, some 50, true⟩
  | .mgmtDerateT1 => ⟨"mgmt.derate_t1", 19, .one, .num, 31, 80, some 60, true⟩
  | .mgmtDerateMin => ⟨"mgmt.derate_min", 19, .one, .num, 10, 100, some 50, true⟩
  | .mgmtDerateNoflow => ⟨"mgmt.derate_noflow", 19, .one, .num, 10, 100, some 60, true⟩
  | .mgmtSwardTCeil => ⟨"mgmt.sward_t_ceil", 19, .one, .num, 70, 100, some 95, false⟩
  | .mgmtTlegMax => ⟨"mgmt.tleg_max", 19, .one, .num, 60, 125, some 100, false⟩
  | .mgmtThermalStep => ⟨"mgmt.thermal_step", 19, .one, .num, 1, 600, some 10, false⟩
  | .mgmtFltN => ⟨"mgmt.flt_n_", 19, .source, .flt 1, 0, 255, none, true⟩
  | .mgmtFltT => ⟨"mgmt.flt_t_", 19, .source, .flt 2, 1, 65535, none, true⟩
  | .mgmtFltReact => ⟨"mgmt.flt_react_", 19, .source, .flt 2, 0, 16383, none, true⟩

/-- Fields 0 to 29 of the tables. -/
def Fld.part0 : List Fld := [.limitsStopHold, .limitsStopRestarts, .limitsFallowTau, .loadlineNominal, .loadlineRLl, .loadlineFeEta, .loadlineTauI, .loadlineSlew, .loadlineOffsetMax, .phaseBand, .phaseRampGain, .phaseRampTau, .phaseCentreGain, .phaseBlank, .phaseFTarget, .phaseTOnMin, .phaseTOnMax, .phaseDeadTime, .phaseMinOff, .phaseSync, .phaseBalanceGain, .phaseBalanceMax, .legsActive, .legsGroupS, .legsGroupB, .legsGroupX, .legsInductance, .legsIRated, .legsIPeak, .legsHiccupN]

/-- Fields 30 to 59 of the tables. -/
def Fld.part1 : List Fld := [.legsHiccupTime, .legsHiccupM, .legsHiccupWindow, .legsOpenK, .legsOpenIFloor, .legsSenseK, .legsSenseTolPct, .legsSenseTolAbs, .legsSwnTol, .legsIdleIMax, .lanesFenceN, .lanesFenceWindow, .lanesRejoinTime, .lanesReloadMax, .lanesRefenceMax, .lanesTolV, .lanesTolTon, .lanesTolI, .lanesFormationWait, .frontendModules, .frontendPmbusAddr, .frontendPmbusKhz, .frontendRectIMax, .frontendAutoV, .frontendGridVNom, .frontendSagPct, .frontendSagTime, .frontendReturnPct, .frontendReturnTime, .frontendSlewFlat]

/-- Fields 60 to 89 of the tables. -/
def Fld.part2 : List Fld := [.frontendSlewMax, .frontendSlewReturn, .frontendSlewTrip, .frontendFlatPct, .frontendLossHold, .limitsStoreVMin, .limitsStoreVLow, .limitsStoreVCentre, .limitsStoreVHigh, .limitsStoreVMax, .limitsRechargeMax, .limitsSocTau, .limitsShelfPeak, .stringsActive, .stringsSpare, .stringsBusCharge, .stringsAddrBase, .stringsSmbusKhz, .stringsCRated, .stringsEsrRated, .stringsCMinPct, .stringsEsrMaxPct, .stringsTMax, .stringsShortPct, .stringsCloseDv, .stringsPrechargeTime, .stringsOpenI, .batteryPresent, .batteryAddr, .batteryVMin]

/-- Fields 90 to 119 of the tables. -/
def Fld.part3 : List Fld := [.batteryVMax, .batteryIChgMax, .batteryIDisMax, .batteryTau, .plannerStateTol, .plannerWatchdog, .plannerScenarios, .plannerQuantile, .plannerConfCover, .plannerConfErr, .plannerOffsetGain, .plannerRowPlace, .plannerRowWindow, .lexiconConfidentN, .lexiconLearnN, .lexiconSigma, .lexiconMisfitPct, .lexiconMinObs, .lexiconIdleTime, .lexiconPrefetchP, .lexiconPrefetchDepth, .lexiconPinMax, .lexiconProtect, .swardPowerLimit, .swardCeiling, .programsRole, .programsDigest, .programsSeed, .programsRequired, .furzeEnrolOpen]

/-- Fields 120 to 149 of the tables. -/
def Fld.part4 : List Fld := [.furzeEnrolTimeout, .furzeUpSlots, .furzeMcsMax, .furzeMcsMargin, .furzeSilentN, .furzeLapse, .furzeIdHold, .furzeBackoffMax, .furzeRekeyTime, .furzeEpochGrace, .furzeTagFailMax, .furzeInrushKw, .furzeStrangerStep, .concordLeadSf, .concordAckSf, .concordReofferSf, .concordDeferMax, .concordRenewSf, .concordLeaseSf, .concordSegmentHold, .concordEstWindow, .concordBridgeTime, .concordReleaseTime, .concordFloorPct, .concordLagMin, .concordMatchHold, .topologyDomainId, .topologyMember, .topologyMembers, .topologyShape]

/-- Fields 150 to 179 of the tables. -/
def Fld.part5 : List Fld := [.topologyTorusX, .topologyTorusY, .heathlineTxEq, .heathlineAsymPs, .heathlineRejoinHold, .heathlineHeadReturn, .heathlineTelemetryMbps, .heathlineSubMax, .heathlineWMirror, .heathlineWTelemetry, .heathlineWBulk, .heathlineBertTime, .heathlineBertLimit, .topologySegment, .topologySegmentShelves, .topologyShelfRating, .calIsnsScale, .calIsnsGain, .calIsnsOffset, .calVbusScale, .calVbusGain, .calVbusOffset, .calVstoScaleS, .calVstoScaleB, .calVstoGainS, .calVstoGainB, .calVstoOffsetS, .calVstoOffsetB, .calVgridScale, .calVgridGain]

/-- Fields 180 to 207 of the tables. -/
def Fld.part6 : List Fld := [.calIgridScale, .calIgridGain, .calSwnScale, .calNtcR25, .calNtcBeta, .calFlowPpl, .mgmtPrefixA, .mgmtPrefixB, .mgmtMgrAAddr, .mgmtMgrBAddr, .mgmtUdpPort, .mgmtHeartbeat, .mgmtSilentTime, .mgmtFwConfirm, .mgmtFlowMin, .mgmtFlowTime, .mgmtToutMax, .mgmtCoolReturn, .mgmtDerateT0, .mgmtDerateT1, .mgmtDerateMin, .mgmtDerateNoflow, .mgmtSwardTCeil, .mgmtTlegMax, .mgmtThermalStep, .mgmtFltN, .mgmtFltT, .mgmtFltReact]

/-- Every field, in the order of the tables. -/
def Fld.all : List Fld :=
  Fld.part0 ++ Fld.part1 ++ Fld.part2 ++ Fld.part3 ++ Fld.part4 ++ Fld.part5 ++ Fld.part6

end Sys2Proof
end

