-- ==== Sys2Proof/Machine/Bits.lean ====
section
/-! DEFINITION. Bit fields, byte order, checksums and list updates that the whole model shares, and the
sparse byte memory with its canonical form. -/
namespace Sys2Proof.Machine

/-- The word whose field of `width` bits at bit `lo` holds `value` modulo its width, for each triple
`(lo, width, value)`; every other bit reads 0 (R10). -/
def pack (fields : List (Nat × Nat × Nat)) : Word :=
  fields.foldl (fun w f => w ||| BitVec.ofNat 32 ((f.2.2 % 2 ^ f.2.1) * 2 ^ f.1)) 0

/-- Field `[hi:lo]` of a word as a number. -/
def field (w : Word) (hi lo : Nat) : Nat := (w.toNat / 2 ^ lo) % 2 ^ (hi - lo + 1)

/-- Bit `i` of a word. -/
def bitOf (w : Word) (i : Nat) : Bool := w.getLsbD i

/-- A Bool as one bit. -/
def b2n (b : Bool) : Nat := if b then 1 else 0

/-- A count of the manual that saturates at `m`. -/
def sat (m n : Nat) : Nat := min n m

/-- A signed quantity as its two's complement in `w` bits (R5), saturating at the ends. -/
def twosSat (w : Nat) (v : Int) : Nat :=
  (BitVec.ofInt w (max (-(2 ^ (w - 1) : Int)) (min v (2 ^ (w - 1) - 1)))).toNat

/-- The signed value of the low `w` bits of `n` (R5). -/
def signed (w : Nat) (n : Nat) : Int := (BitVec.ofNat w n).toInt

/-- Set bit `i`. -/
def setBit {w : Nat} (b : BitVec w) (i : Nat) : BitVec w := b ||| (BitVec.ofNat w 1 <<< i)

/-- Clear bit `i`. -/
def clrBit {w : Nat} (b : BitVec w) (i : Nat) : BitVec w := b &&& ~~~(BitVec.ofNat w 1 <<< i)

/-- Write bit `i`. -/
def putBit {w : Nat} (b : BitVec w) (i : Nat) (v : Bool) : BitVec w := if v then setBit b i else clrBit b i

/-- The low `n` bytes of `v`, little-endian (R4). -/
def leBytes : Nat → Nat → List Byte
  | 0, _ => []
  | n + 1, v => BitVec.ofNat 8 v :: leBytes n (v / 256)

/-- The low `n` bytes of `v`, big-endian (R4). -/
def beBytes (n v : Nat) : List Byte := (leBytes n v).reverse

/-- The number that little-endian bytes spell (R4). -/
def ofLe : List Byte → Nat
  | [] => 0
  | b :: bs => b.toNat + 256 * ofLe bs

/-- The number that big-endian bytes spell (R4). -/
def ofBe (bs : List Byte) : Nat := ofLe bs.reverse

/-- `n` bytes of a string from byte `o`, as a little-endian number. -/
def leAt (bs : List Byte) (o n : Nat) : Nat := ofLe ((bs.drop o).take n)

/-- One byte through the reflected CRC-32 of IEEE 802.3 (polynomial 0xEDB88320). -/
def crcByte (c : Word) (b : Byte) : Word :=
  let step := fun (x : Word) => if x.getLsbD 0 then (x >>> 1) ^^^ 0xEDB88320#32 else x >>> 1
  step (step (step (step (step (step (step (step (c ^^^ b.zeroExtend 32))))))))

/-- CRC-32 of IEEE 802.3 over a byte string (R453, R459, R497, R574). -/
def crc32 (bs : List Byte) : Word := ~~~(bs.foldl crcByte (~~~(0 : Word)))

/-- Pad with zero bytes to a multiple of `k`. -/
def padTo (k : Nat) (bs : List Byte) : List Byte := bs ++ List.replicate ((k - bs.length % k) % k) 0

/-- `f` applied to element `i` of a list, if there is one. -/
def upd {α : Type} : List α → Nat → (α → α) → List α
  | [], _, _ => []
  | a :: l, 0, f => f a :: l
  | a :: l, i + 1, f => a :: upd l i f

/-- The value kept for a key, newest first. -/
def lookupD {α : Type} (l : List (Nat × α)) (k : Nat) (d : α) : α := (l.lookup k).getD d

/-- Keep `v` for key `k`, replacing what was kept for it. -/
def insertKey {α : Type} (l : List (Nat × α)) (k : Nat) (v : α) : List (Nat × α) :=
  (k, v) :: l.filter (fun p => p.1 != k)

/-- The kept value of `k` through `f`, if `k` is kept. -/
def updKey {α : Type} (l : List (Nat × α)) (k : Nat) (f : α → α) : List (Nat × α) :=
  l.map (fun p => if p.1 == k then (p.1, f p.2) else p)

/-- Forget key `k`. -/
def eraseKey {α : Type} (l : List (Nat × α)) (k : Nat) : List (Nat × α) := l.filter (fun p => p.1 != k)

/-- The sum of a list of numbers. -/
def sumNat (l : List Nat) : Nat := l.foldl (· + ·) 0

/-- The sum of a list of rationals. -/
def sumRat (l : List Rat) : Rat := l.foldl (· + ·) 0

/-- The mean of a list of rationals, 0 for the empty list. -/
def meanRat (l : List Rat) : Rat := if l.isEmpty then 0 else sumRat l / l.length

/-- Rounded down to an integer. -/
def floorRat (r : Rat) : Int := r.floor

/-- Rounded to the nearest integer, a tie to the even one. -/
def roundEven (r : Rat) : Int :=
  let f := r.floor
  let d := r - f
  if d < 1 / 2 then f else if d > 1 / 2 then f + 1 else if f % 2 = 0 then f else f + 1

/-- A non-negative rational rounded down, 0 below 0. -/
def natFloor (r : Rat) : Nat := (r.floor).toNat

/-- The least of a list of rationals, `d` for the empty list. -/
def minRat (d : Rat) (l : List Rat) : Rat := l.foldl min d

/-- `x` held within `[lo, hi]`. -/
def clampRat (lo hi x : Rat) : Rat := max lo (min hi x)

/-! ### The sparse byte memory

A memory lists (address, byte) pairs, addresses strictly rising, no byte equal to what an unlisted address
reads as, which is 0 (log entry 7). -/

/-- A sparse byte memory. -/
abbrev Mem := List Host.Cell

/-- What an unlisted address reads as. -/
def Mem.blank : Byte := 0

/-- The canonical form, with every address at least `lo`. -/
def Mem.wfFrom : Nat → Mem → Bool
  | _, [] => true
  | lo, (a, b) :: m => decide (lo ≤ a) && (b != Mem.blank) && Mem.wfFrom (a + 1) m

/-- The canonical form: addresses strictly rising, no listed byte equal to the blank byte. -/
def Mem.wf (m : Mem) : Bool := Mem.wfFrom 0 m

/-- The byte at an address. -/
def Mem.read : Mem → Nat → Byte
  | [], _ => Mem.blank
  | (a, b) :: m, x => if a = x then b else Mem.read m x

/-- The memory with byte `v` at address `x`, in canonical form. -/
def Mem.write : Mem → Nat → Byte → Mem
  | [], x, v => if v = Mem.blank then [] else [(x, v)]
  | (a, b) :: m, x, v =>
    if x < a then (if v = Mem.blank then (a, b) :: m else (x, v) :: (a, b) :: m)
    else if x = a then (if v = Mem.blank then m else (a, v) :: m)
    else (a, b) :: Mem.write m x v

/-- `n` bytes from an address. -/
def Mem.readBytes (m : Mem) (x : Nat) : Nat → List Byte
  | 0 => []
  | n + 1 => m.read x :: Mem.readBytes m (x + 1) n

/-- A byte string written from an address on. -/
def Mem.writeBytes (m : Mem) (x : Nat) : List Byte → Mem
  | [] => m
  | b :: bs => Mem.writeBytes (m.write x b) (x + 1) bs

/-- The 32-bit little-endian word at an address (R4). -/
def Mem.readWord (m : Mem) (x : Nat) : Word := BitVec.ofNat 32 (ofLe (m.readBytes x 4))

/-- A 32-bit word stored little-endian at an address (R4). -/
def Mem.writeWord (m : Mem) (x : Nat) (v : Word) : Mem := m.writeBytes x (leBytes 4 v.toNat)

end Sys2Proof.Machine
end

