-- ==== Sys2Proof/Machine/StateTypes.lean ====
section
/-! DEFINITION. The enumerations of the conductor's state. -/
namespace Sys2Proof

/-- The bit of a domain in RST_DOMAINS (R481). -/
def Dom.bit : Dom → Nat
  | .aon => 0 | .idsol => 1 | .fabric => 2 | .lane .a => 3 | .lane .b => 4 | .lane .c => 5 | .mgmt => 6
  | .htlFrz => 7 | .planning => 8 | .swardPower => 9

/-- Every reset domain in the order of release (R473). -/
def Dom.all : List Dom :=
  [.aon, .idsol, .fabric, .lane .a, .lane .b, .lane .c, .mgmt, .htlFrz, .swardPower, .planning]

/-- The code of a reset source (R466). -/
def Src.code : Src → Nat
  | .powerOn => 0 | .brownOut => 1 | .resetPin => 2 | .laneWdog x => 3 + x.num | .mgmtWdog => 6
  | .swardWdog => 7 | .fence x => 8 + x.num | .tamper => 11 | .remote => 12 | .debug => 13 | .fault => 14

/-- Every reset source, by code. -/
def Src.all : List Src :=
  [.powerOn, .brownOut, .resetPin, .laneWdog .a, .laneWdog .b, .laneWdog .c, .mgmtWdog, .swardWdog,
   .fence .a, .fence .b, .fence .c, .tamper, .remote, .debug, .fault]

/-- The reset domains at the two ends of a channel (R58). -/
def Chan.ends : Chan → List Dom
  | .legSamples x => [.fabric, .lane x]
  | .gridSamples x => [.fabric, .lane x]
  | .planVector x => [.planning, .lane x]
  | .snapshot x y => [.lane x, .lane y]
  | .laneStatus x => [.lane x, .fabric]
  | .ringTime .fabric => [.htlFrz, .fabric]
  | .ringTime .lanes => [.htlFrz, .lane .a]
  | .ringTime .furze => [.htlFrz]
  | .ringTime .sward => [.htlFrz, .planning]
  | .ringTime .mgmt => [.htlFrz, .mgmt]
  | .ringTime .idsol => [.htlFrz, .idsol]
  | .ringTime .aon => [.htlFrz, .aon]
  | .regs d => .fabric :: (Dom.all.filter (fun e => e.bit == d))
  | .clauseUp => [.htlFrz, .fabric]
  | .clauseDown => [.htlFrz, .fabric]
  | .mesh => [.planning, .swardPower]
  | .cells 0 => [.htlFrz, .mgmt]
  | .cells 1 => [.htlFrz, .fabric]
  | .cells _ => [.htlFrz, .planning]

/-- Every handshake channel (R58). -/
def Chan.all : List Chan :=
  let l3 : List Lane := [.a, .b, .c]
  l3.map (Chan.legSamples ·)
  |>.append (l3.map (Chan.gridSamples ·)) |>.append (l3.map (Chan.planVector ·))
  |>.append [.snapshot .a .b, .snapshot .a .c, .snapshot .b .a, .snapshot .b .c, .snapshot .c .a, .snapshot .c .b]
  |>.append (l3.map (Chan.laneStatus ·))
  |>.append ([.fabric, .lanes, .furze, .sward, .mgmt, .idsol, .aon].map (Chan.ringTime ·))
  |>.append ([0, 1, 3, 4, 5, 6, 7, 8].map (Chan.regs ·))
  |>.append [.clauseUp, .clauseDown, .mesh, .cells 0, .cells 1, .cells 2]

end Sys2Proof

namespace Sys2Proof.Machine

/-- Operating modes (R19). -/
inductive Mode where | held | fallow | conducting | bridging | stopped
  deriving DecidableEq, Repr

/-- The code of a mode (R19, R28). -/
def Mode.code : Mode → Nat
  | .held => 0 | .fallow => 1 | .conducting => 2 | .bridging => 3 | .stopped => 4

/-- Causes of a transition (R29). -/
inductive Cause where
  | bringup | noImage | holdCommand | imageStarted | holdReleased | planConfident | planMissed
  | planUnconfident | swardShed | planningRestart | gridLost | gridRestored | laneDisagree | stageKill
  | storageEmpty | stopCleared
  deriving DecidableEq, Repr

/-- The code of a cause (R29). -/
def Cause.code : Cause → Nat
  | .bringup => 0x00 | .noImage => 0x01 | .holdCommand => 0x02 | .imageStarted => 0x03
  | .holdReleased => 0x04 | .planConfident => 0x05 | .planMissed => 0x06 | .planUnconfident => 0x07
  | .swardShed => 0x08 | .planningRestart => 0x09 | .gridLost => 0x0A | .gridRestored => 0x0B
  | .laneDisagree => 0x0C | .stageKill => 0x0D | .storageEmpty => 0x0E | .stopCleared => 0x0F

/-- Leg states (R78). -/
inductive LegState where
  | absent | untested | testing | ready | rotation | hiccup | blind | failedLimit | failedOpen
  | failedSense | condemnedHs | condemnedLs | condemnedNode
  deriving DecidableEq, Repr

/-- The code of a leg state (R78). -/
def LegState.code : LegState → Nat
  | .absent => 0 | .untested => 1 | .testing => 2 | .ready => 3 | .rotation => 4 | .hiccup => 5
  | .blind => 6 | .failedLimit => 7 | .failedOpen => 8 | .failedSense => 9 | .condemnedHs => 10
  | .condemnedLs => 11 | .condemnedNode => 12

/-- The FAILED and CONDEMNED states, which a reset or the removal of the board alone end (R80). -/
def LegState.kept (st : LegState) : Bool :=
  [LegState.failedLimit, .failedOpen, .failedSense, .condemnedHs, .condemnedLs, .condemnedNode].contains st

/-- Leg groups (R77). -/
inductive Group where | s | b | x
  deriving DecidableEq, Repr

/-- The code of a group (R121). -/
def Group.code : Group → Nat
  | .s => 0 | .b => 1 | .x => 2

/-- Direction of a pulse: supply moves energy from storage to the bus, absorb the other way. -/
inductive Dir where | supply | absorb
  deriving DecidableEq, Repr

/-- Vote states of a lane (R149). -/
inductive Vote where | voting | shadow | reset | latched
  deriving DecidableEq, Repr

/-- The code of a vote state (R149). -/
def Vote.code : Vote → Nat
  | .voting => 0 | .shadow => 1 | .reset => 2 | .latched => 3

end Sys2Proof.Machine
end

