-- ==== Sys2Proof/Machine/StateNv.lean ====
section
/-! DEFINITION. State that outlives resets: fuses and factory data, the NOR slots, the UFS contents (LU0 to
LU4 and the replay-protected block), the always-on core, and the levels the outside world puts on the pins. -/
namespace Sys2Proof.Machine

/-- An image as the loader reads it: its fields with their values, the prior cores, and what the
measurements take of it (R440 to R448). -/
structure Image where
  /-- SEQ (R441). -/
  seq : Nat
  /-- Fields with a record, numeric, divided by their step. -/
  vals : List ((Fld × Nat) × Int)
  /-- Fields with a record whose value is a byte string. -/
  blobs : List ((Fld × Nat) × List Byte)
  /-- The prior cores, 4096 bytes each (R448). -/
  priors : List (List Byte)
  /-- Non-critical sections skipped (R443). -/
  skipped : Nat
  /-- DIGEST of the header (R441). -/
  digest : List Byte
  /-- What M3 is extended with (R527). -/
  laneBytes : List Byte
  deriving DecidableEq, Repr

/-- A numeric field of an image: its record, or its default (R446), or 0 where it has neither. -/
def Image.get (im : Image) (f : Fld) (i : Nat := 0) : Int :=
  match im.vals.lookup (f, i) with
  | some v => v
  | none => (f.spec.dflt).getD 0

/-- A byte-string field of an image; `n` zero bytes without a record. -/
def Image.bytes (im : Image) (f : Fld) (i n : Nat) : List Byte :=
  (im.blobs.lookup (f, i)).getD (List.replicate n 0)

/-- A field as a natural number. -/
def Image.nat (im : Image) (f : Fld) (i : Nat := 0) : Nat := (im.get f i).toNat

/-- The image of no records: every field at its default. -/
def Image.blank : Image := ⟨0, [], [], [], 0, [], []⟩

/-- One entry of the factory calibration region (R459). -/
structure OtpEntry where
  channel : Nat
  /-- In 1/256 code. -/
  offset : Int
  /-- In 2^-30. -/
  gain : Nat
  deriving DecidableEq, Repr

/-- Fused and one-time-programmed contents of the module (R51, R459, R466, R476, R545). -/
structure Fuses where
  /-- AON_SERIAL, fused (R51). -/
  serial : BitVec 64
  /-- AON_IDENT.VENDOR (R51). -/
  vendor : Nat
  /-- AON_IDENT.PART (R51). -/
  part : Nat
  /-- AON_IDENT.SILICON_STEP (R51). -/
  step : Nat
  /-- AON_IDENT.MODULE_BUILD (R51). -/
  build : Nat
  /-- Fused level of each reset source, by code (R466). -/
  levels : List Nat
  /-- Reset code of each pin group (R476). -/
  pins : List Nat
  /-- The factory calibration region, as CFG_OTP_i reads it (R459, R463). -/
  otp : List Byte
  /-- SHA-384 of the compressed DIK public key, as IDS_DEVID_j reads it (R545). -/
  devid : List Byte
  /-- The test-access fuse is blown (R36). -/
  testFuse : Bool
  deriving DecidableEq, Repr

/-- A role key of the trust store (R521, R523): 1 IMAGE, 2 BUNDLE, 3 FIRMWARE, 4 MANAGER. -/
structure RoleKey where
  role : Nat
  /-- SHA-384 of the compressed key. -/
  hash : List Byte
  deriving DecidableEq, Repr

/-- The trust store in the replay-protected block (R521). -/
structure TrustStore where
  /-- SHA-384 of the owner root; none while unowned. -/
  owner : Option (List Byte)
  /-- At most 32 role keys. -/
  keys : List RoleKey
  /-- K_enrol, the present one first; at most two. -/
  enrol : List (List Byte)
  /-- Barred tokens, at most 1024. -/
  barred : List (BitVec 64)
  /-- SVN floor of firmware. -/
  svnFw : Nat
  /-- SVN floor of bundles. -/
  svnBundle : Nat
  /-- Policy flags (R523). -/
  policy : BitVec 16
  /-- SEQ of the last trust command. -/
  seq : BitVec 32
  deriving DecidableEq, Repr

/-- State of a firmware slot (R574). -/
inductive FwState where | empty | staged | trying | good | bad
  deriving DecidableEq, Repr

/-- A firmware slot header of LU0 or LU1, and the image it heads (R574). -/
structure FwSlot where
  state : FwState
  tries : Nat
  svn : Nat
  length : Nat
  gen : Nat
  /-- The image, signature trailer included. -/
  image : List Byte
  deriving DecidableEq, Repr

/-- A Barrow record (R503). -/
structure BRec where
  rnum : Nat
  type : Nat
  flags : BitVec 8
  pcc : Nat
  optime : Nat
  sub : Nat
  /-- Ring time, when FLAGS bit 0 is set. -/
  rt : Option Nat
  /-- Wall time, when FLAGS bit 1 is set. -/
  wall : Option Nat
  payload : List Byte
  deriving DecidableEq, Repr

/-- A journal segment (R504): committed once its header is written. -/
structure Segment where
  num : Nat
  recs : List BRec
  /-- The header is written and its CRC is valid. -/
  valid : Bool
  deriving DecidableEq, Repr

/-- A checkpoint (R505). -/
structure Checkpoint where
  gen : Nat
  pcc : Nat
  optime : Nat
  newest : Nat
  oldest : Nat
  /-- The number of the last segment copied to its slots. -/
  lastCopied : Nat
  heldE : Bool
  heldW : Bool
  /-- Member and newest RNUM of each neighbour store. -/
  storeE : Option Nat × Nat
  storeW : Option Nat × Nat
  deriving DecidableEq, Repr

/-- A neighbour store (R511). -/
structure NbrStore where
  /-- Whose records it holds. -/
  member : Option Nat
  recs : List BRec
  deriving DecidableEq, Repr

/-- LU3 (R497). -/
structure Lu3 where
  /-- Records 0 to 4095, newest last. -/
  keep : List BRec
  /-- Records from 4096, one per slot. -/
  ring : List BRec
  storeE : NbrStore
  storeW : NbrStore
  /-- A capture held: the blocks copied. -/
  captureE : Option (List (List Byte))
  captureW : Option (List (List Byte))
  journal : List Segment
  ckptA : Option Checkpoint
  ckptB : Option Checkpoint
  deriving DecidableEq, Repr

/-- Non-volatile contents of the module: no reset changes them. -/
structure Nv where
  fuse : Fuses
  /-- The two NOR slots: the bytes held, empty when erased (R31, R440). -/
  slot0 : List Byte
  slot1 : List Byte
  trust : TrustStore
  fw0 : FwSlot
  fw1 : FwSlot
  /-- Bundles of LU2 under their digest (R32, R573). -/
  bundles : List (List Byte × List Byte)
  lu3 : Lu3
  /-- Decimated history blocks of LU4: ring index and block (R253). -/
  lu4 : List (Nat × List Byte)
  /-- Domain identifiers under which a domain has formed (R434). -/
  domains : List Nat
  deriving DecidableEq, Repr

/-- A pulse source's end, or a level source's hold (R466). -/
structure SrcState where
  asserted : Bool
  /-- The level it asserts. -/
  level : Nat
  /-- End of the pulse; none for a level. -/
  pulseEnd : Option Time
  /-- The instant of its last release. -/
  released : Time
  /-- The lanes it names at L1. -/
  lanes : List Lane
  deriving DecidableEq, Repr

/-- The reset of one domain (R473, R474). -/
structure DomState where
  inReset : Bool
  /-- Entry into reset in the present episode. -/
  entered : Time
  /-- Its release point. -/
  release : Time
  deriving DecidableEq, Repr

/-- The reset controller and the rest of the always-on core (R464, R481, R498). -/
structure Core where
  /-- Operating time: milliseconds restored at the last restoration. -/
  opBase : Nat
  /-- The instant from which operating time counts on. -/
  opStart : Time
  /-- Power-cycle count (R499). -/
  pcc : Nat
  /-- The island runs on its RC oscillator (R75). -/
  aonRc : Bool
  /-- Coolant is lost: the loss state survives an L4 (R554). -/
  coolLost : Bool
  /-- Coolant has been judged present on a first full flow window since the last L5 (R554). -/
  coolJudged : Bool
  /-- Sources of R466, by code. -/
  srcs : List SrcState
  /-- Domains, by their bit in RST_DOMAINS. -/
  doms : List DomState
  bringup : Bool
  mgmtLate : Bool
  idsolFail : Bool
  /-- Start of the flush window that runs (R470). -/
  flush : Option Time
  lastLevel : Nat
  lastSource : Nat
  last : BitVec 15
  countL1 : BitVec 32
  countL2 : BitVec 32
  countL3 : BitVec 32
  countL4 : BitVec 32
  /-- RST_MWDOG_CFG.TIMEOUT, in 10 ms. -/
  mwdogTimeout : Nat
  /-- Start and length of the MGMT_WDOG interval that runs (R469). -/
  mwdog : Option (Time × Nat)
  bringupMs : Nat
  /-- Release of the last source of the episode: the start of bring-up (R477). -/
  bringupStart : Time
  /-- Pending L1 to L3 record: level and sources, written at release (R471). -/
  owedRecords : List (Nat × Nat)
  /-- Idsol has signalled since its last release (R475): ready `true`, failed `false`. -/
  idsolSignal : Option Bool
  /-- Mode before the L4 or L5 that is under way: its MODE record is staged at the fabric's release. -/
  owedMode : Option Mode
  deriving DecidableEq, Repr

/-- Levels the outside world puts on the pins, and how far the supply has come (R35, R39, R43, R44). -/
structure Pins where
  /-- STAGE_KILL_N is low. -/
  stageKill : Bool
  /-- RESET_N is low. -/
  resetN : Bool
  /-- LBk_PRES_N is high: board k is absent. -/
  boardAbsent : BitVec 8
  /-- HL_p_PRES_N is low: something is fitted. -/
  hlPresE : Bool
  hlPresW : Bool
  hlPresN : Bool
  hlPresS : Bool
  /-- AUX_A and AUX_B are connected to the ORed rail (R42): the ORing stages act without any domain. -/
  auxA : Bool
  auxB : Bool
  /-- The ORed rail is above 10.8 V. -/
  railUp : Bool
  /-- The hold-up bank stores at least 20 J. -/
  holdup : Bool
  /-- Tamper detectors tripped (R541). -/
  tripped : BitVec 5
  /-- Instant at which the power-fail sequence that runs was confirmed (R44). -/
  powerFail : Option Time
  /-- Staging has closed in the final flush (R509). -/
  stagingClosed : Bool
  /-- Reset sources asserted during the power-fail sequence, waiting for its end (R45). -/
  deferred : List (Src × Nat)
  deriving DecidableEq, Repr

end Sys2Proof.Machine
end

