-- ==== Sys2Proof/Machine/StateFabric.lean ====
section
/-! DEFINITION. State of the always-on island, the fault collector, the Barrow recorder, the configuration
loader, Idsol and the management mailboxes. -/
namespace Sys2Proof.Machine

/-- A copy of ring time an island keeps (R66, R67): its value at an instant, from which it advances. -/
structure RingCopy where
  value : Nat
  at_ : Time
  /-- In holdover. -/
  holdover : Bool
  deriving DecidableEq, Repr

/-- A recovery watch (R27), in operating time. -/
structure StopWatch where
  start : Nat
  /-- STOPPED was entered during it. -/
  entered : Bool
  deriving DecidableEq, Repr

/-- A sensor of R549: its last ten samples in 0.01 °C, newest first. -/
structure Sensor where
  valid : Bool
  fault : Bool
  samples : List Int
  deriving DecidableEq, Repr

/-- The always-on island (R28, R51, R76, R578). -/
structure Aon where
  mode : Mode
  prevMode : Mode
  cause : Cause
  /-- Transitions since the last L4 or L5, modulo 256. -/
  count : BitVec 8
  /-- Operating time at the last transition, ms. -/
  modeTime : Nat
  stopLatched : Bool
  /-- The restart count, which does not saturate. -/
  restarts : Nat
  stopWatch : Option StopWatch
  railMv : Nat
  holdupDj : Nat
  auxFault : Bool
  holdupReady : Bool
  auxAOk : Bool
  auxBOk : Bool
  /-- Some copy of ring time is in holdover. -/
  ringHoldover : Bool
  /-- Lock bits [9:0] of AON_CLK_STATUS. -/
  locks : BitVec 10
  /-- Bits [15:0] of AON_CLK_FAULT. -/
  clkFault : BitVec 16
  ppmA : Int
  ppmB : Int
  ppmC : Int
  leak : Bool
  sensorFault : Bool
  /-- Start of the restoration interval that runs (R554). -/
  returning : Option Time
  /-- d of R555 in 1/256. -/
  derate : Nat
  /-- Flow in 0.01 L/min. -/
  flow : Nat
  /-- Flow pulses of the last ten 100 ms intervals, newest first. -/
  flowPulses : List Nat
  /-- In 0.1 °C. -/
  tout : Int
  tin : Int
  /-- Since when each condition of R552 has held: flow, leak, outlet temperature, thermistor. -/
  condSince : List (Option Time)
  swardMax : Nat
  condMax : Nat
  senseMax : Nat
  dieKill : Bool
  /-- AON_THERM.SWARD_SHED: the sward backstop of R551. -/
  thermShed : Bool
  /-- The sward is powered for the readings of R551. -/
  thermReading : Bool
  /-- Since when the conductor die has stayed below 80 °C, or the sward at or below 85 °C (R551). -/
  thermSince : Option Time
  sensors : List Sensor
  /-- The derating ledger entry of R555 is open. -/
  derateEntry : Bool
  deriving DecidableEq, Repr

/-- A fault message (R482), without the two bits the collector sets. -/
structure FaultMsg where
  source : Nat
  kind : Nat
  inst : Nat
  detail : Nat
  voted : Bool
  lost : Bool
  deriving DecidableEq, Repr

/-- A classified message in the queue (R482, R493). -/
structure QMsg where
  msg : FaultMsg
  severe : Bool
  pin : Bool
  deriving DecidableEq, Repr

/-- A source's part of the collector (R486, R488, R496). -/
structure FltSource where
  code : Nat
  /-- FLT_POL_s.N. -/
  n : Nat
  /-- FLT_POL_s.T in 0.1 s. -/
  t : Nat
  /-- Bits [13:0] of FLT_REACT_s. -/
  react : BitVec 14
  /-- Sixteen bins, the present one first. -/
  bins : List Nat
  /-- Start of the present bin. -/
  binStart : Time
  total : Nat
  pend : Bool
  deriving DecidableEq, Repr

/-- The fault collector (R482 to R496). -/
structure Flt where
  /-- Messages on their way to the collector, oldest first (R485). -/
  path : List FaultMsg
  /-- First message of each kind observed while the fabric was in reset, and how many (R485). -/
  held : List (FaultMsg × Nat)
  srcs : List FltSource
  /-- At most 1024 messages, oldest first. -/
  queue : List QMsg
  dropped : BitVec 32
  intStatus : BitVec 16
  intEnable : BitVec 16
  /-- The message of the last trap raised (FLT_TRAP_LO and FLT_TRAP_HI). -/
  trapMsg : BitVec 64
  trap : Bool
  trapsHeld : Nat
  /-- A trap raised while the management domain is in reset awaits delivery (R490). -/
  trapOwed : Bool
  /-- Traps delivered to the management cores. -/
  trapsDelivered : Nat
  hold : Bool
  l4Hold : Nat
  /-- Operating time at the end of bring-up, ms: the L4 hold counts from it (R489). -/
  bringupEndMs : Option Nat
  deriving DecidableEq, Repr

/-- A record in staging (R504): its number is settled when the recorder is anchored. -/
structure Staged where
  item : BRec
  stagedAt : Time
  /-- It has been sent to the neighbours (R510). -/
  mirrored : Bool
  deriving DecidableEq, Repr

/-- Commands of the Barrow window (R513). -/
inductive BrwOp where | load | next | oldest | newest
  deriving DecidableEq, Repr

/-- The Barrow recorder (R497 to R516), its volatile part. -/
structure Brw where
  anchored : Bool
  unanchored : Bool
  flush : Bool
  ioFail : Bool
  replaying : Bool
  staging : List Staged
  /-- The next RNUM to assign. -/
  nextRnum : Nat
  /-- Oldest RNUM readable in the ring. -/
  oldestRnum : Nat
  /-- Oldest RNUMs not cleared of the neighbour stores. -/
  oldestE : Nat
  oldestW : Nat
  committed : Nat
  nextSegment : Nat
  lastCopied : Nat
  /-- Segments written and not yet copied to their slots. -/
  toCopy : Bool
  lastCheckpoint : Time
  /-- A commit is in progress: how many staged records it writes. -/
  committing : Option Nat
  commitFailedAt : Option Time
  lostRate : Nat
  lostFull : Nat
  /-- Records lost since the previous LOSS record: to rate limits, to a full staging buffer. -/
  owedRate : Nat
  owedFull : Nat
  /-- FAULT and FINDING records taken in the present second, by fault source or by 0x10000 + entry. -/
  rateCount : List (Nat × Nat)
  rateSecond : Nat
  capturingE : Bool
  capturingW : Bool
  /-- ANCHOR_QUERY sent to both neighbours (R500), and the replies so far: OPTIME and PCC. -/
  queryAt : Option Time
  replies : List (Nat × Nat)
  /-- Wall time: the value set and the instant of the setting (R501). -/
  wall : Option (Nat × Time)
  cursor : BitVec 64
  /-- The read command that runs: operation and area. -/
  cmd : Option (BrwOp × BrwArea)
  result : Nat
  len : Nat
  /-- BRW_DATA_0 to BRW_DATA_255. -/
  data : List Word
  /-- Messages sent to the neighbours over Heathline, oldest first: port and payload (R510). -/
  sent : List (Port × List Byte)
  deriving DecidableEq, Repr

/-- An operation of the configuration loader (R463). -/
inductive CfgOp where | write | applyWarm | applyFull | erase
  deriving DecidableEq, Repr

/-- The code of an operation in CFG_CMD.OP (R463). -/
def CfgOp.code : CfgOp → Nat
  | .write => 1 | .applyWarm => 2 | .applyFull => 3 | .erase => 4

/-- The configuration loader (R440 to R463). -/
structure Cfg where
  /-- WRITE or ERASE that runs: the operation and, for WRITE, the bytes it programs and the image they spell. -/
  op : Option (CfgOp × List Byte × Option Image)
  /-- The manager command that started it (R568). -/
  opBy : Option CmdHdr
  /-- The VALID image that each slot's last judgement found. -/
  image0 : Option Image
  image1 : Option Image
  otpBad : Bool
  retainedOk : Bool
  lastOp : Nat
  result : Nat
  /-- Slot in use. -/
  active : Bool
  /-- The image in force, none before selection or with none selected. -/
  force : Option Image
  /-- The retained copy of the lane parameters: the image of the last full start (R453, R457). -/
  lane : Option Image
  /-- The image whose planner program, lexicon, sward, program and warm management fields are in force (R457). -/
  prog : Option Image
  /-- The image whose Furze, concord and Heathline fields are in force (R457). -/
  row : Option Image
  /-- Result of each slot's last judgement, its SEQ and its count of operations. -/
  check0 : Nat
  check1 : Nat
  seq0 : Nat
  seq1 : Nat
  writes0 : Nat
  writes1 : Nat
  src : BitVec 64
  len : Nat
  firstBad : Nat
  /-- The loader has completed its selection (R477). -/
  selected : Bool
  /-- A warm apply awaits the next voted mark (R456). -/
  warmPending : Bool
  /-- The row fields of a warm apply await the next superframe boundary (R457). -/
  rowPending : Bool
  deriving DecidableEq, Repr

/-- A rotation of the broadcast key in progress (R533). -/
structure KbcRotation where
  num : Nat
  key : List Byte
  /-- Superframe in which it began. -/
  start : Nat
  /-- Partners that have not acknowledged. -/
  waiting : List Nat
  deriving DecidableEq, Repr

/-- Idsol (R517 to R545). -/
structure Ids where
  ready : Bool
  failed : Bool
  storeOk : Bool
  /-- The load of the trust store has ended (R521). -/
  storeTried : Bool
  /-- Number of the broadcast key in use, 0 when none. -/
  kbcNum : Nat
  event : BitVec 7
  tamperSeen : BitVec 5
  tamperOpen : BitVec 5
  /-- Detectors found tripped at release: they fire only after a return to healthy (R541). -/
  disarmed : BitVec 5
  verifyOk : BitVec 32
  failObject : Nat
  failDetail : Nat
  failCount : Nat
  /-- Per port E, W, N, S: keyed, and the key epoch (R537). -/
  hop : List (Bool × Nat)
  /-- M0 to M7. -/
  meas : List (List Byte)
  /-- The management cores may leave their boot ROM (R528). -/
  permit : Bool
  /-- The Barrow seal chain: H and the newest RNUM sealed (R539). -/
  chain : Option (List Byte)
  sealedTo : Nat
  teleChain : Option (List Byte)
  kbc : Option (List Byte)
  kbcPrev : Option (List Byte)
  rotation : Option KbcRotation
  /-- A rotation is owed: the conductor became speaker, or an enrolment ended (R533). -/
  rotationOwed : Bool
  /-- Partners enrolled under the former K_enrol await EXPEL (R530). -/
  expelOld : Bool
  /-- Instants of the last seals (R539, R540). -/
  sealAt : Time
  teleSealAt : Time
  /-- Operating second of the last rotation (R533). -/
  kbcBorn : Nat
  /-- Keys drawn from the random source so far. -/
  draws : Nat
  deriving DecidableEq, Repr

/-- Types of a management message (R560). -/
inductive MsgType where | command | reply | notify | telemetry | heartbeat | epoch
  deriving DecidableEq, Repr

/-- A management message the conductor has sent (R560). -/
structure TxMsg where
  type : MsgType
  /-- The manager it goes to. -/
  dest : Mgr
  code : Nat
  seq : Nat
  ref : Nat
  result : Nat
  payload : List Byte
  deriving DecidableEq, Repr

/-- A command posted in a mailbox (R565). -/
structure Posted where
  mgr : Mgr
  epoch : Nat
  seq : Nat
  code : Nat
  relayed : Bool
  /-- The member that relayed it. -/
  relay : Nat
  /-- SIGNED, and verified by Idsol. -/
  signed : Bool
  payload : List Byte
  deriving DecidableEq, Repr

/-- An open transfer (R573). -/
structure Xfer where
  num : Nat
  /-- 1 image, 2 bundle, 3 firmware. -/
  kind : Nat
  length : Nat
  digest : List Byte
  mgr : Mgr
  epoch : Nat
  /-- Bytes received, by offset, and how far they reach. -/
  data : Mem
  extent : Nat
  deriving DecidableEq, Repr

/-- A telemetry item (R570): type, and content. -/
structure TItem where
  type : Nat
  member : Nat
  content : List Byte
  deriving DecidableEq, Repr

/-- What the mailbox block keeps of one manager (R563, R566). -/
structure MgrState where
  epoch : Nat
  /-- A message of it has been accepted since the last L4 or L5. -/
  known : Bool
  session : Bool
  /-- Ports on which it holds a session (R559): A, B. -/
  portA : Bool
  portB : Bool
  /-- Last executed MSG_SEQ of the present epoch. -/
  lastSeq : Option Nat
  /-- Its last 64 results, newest first: MSG_SEQ, code, result, payload. -/
  results : List (Nat × Nat × Nat × List Byte)
  deriving DecidableEq, Repr

/-- The management mailboxes and what the management complex holds (R546 to R579). -/
structure Mbx where
  ready : Bool
  alone : Bool
  /-- Operating time at which the conductor became alone, ms. -/
  aloneSince : Nat
  /-- The firmware slot the boot ROM has read and Idsol has not judged (R547). -/
  boot : Option Bool
  /-- The boot ROM has selected since the release of the management domain (R574). -/
  bootTried : Bool
  fwRunning : Bool
  fwSlot : Bool
  /-- Operating time at which the firmware reported itself running, ms. -/
  fwSince : Nat
  /-- The firmware has held a session with a manager since it started (R575). -/
  fwSession : Bool
  /-- The hold state (R21). -/
  held : Bool
  epoch : Nat
  mgrA : MgrState
  mgrB : MgrState
  /-- Epochs of the commands that last changed the hold state and the rack cap, none before the first (R564). -/
  holdEpoch : Option Nat
  capEpoch : Option Nat
  lastCode : Nat
  lastResult : Nat
  lastSender : Nat
  lastRelayed : Bool
  accepted : BitVec 32
  refused : BitVec 32
  /-- Commands posted and not executed, in order of posting. -/
  box : List Posted
  rec_ : BitVec 64
  recBusy : Bool
  recResult : Nat
  recLen : Nat
  stepModule : Nat
  stepShelf : Nat
  txSeq : Nat
  sent : List TxMsg
  /-- Items originated and not yet sealed (R540, R570). -/
  items : List TItem
  xfers : List Xfer
  nextXfer : Nat
  /-- Instant of the last message accepted from a manager, or of the epoch (R572). -/
  lastMsg : Time
  /-- Instant of the last rise of STEP_SHELF, and since when the sensors have been cool (R558). -/
  shelfRaised : Option Time
  shelfCool : Option Time
  moduleLow : Option Time
  /-- Highest 10 ms mean of shelf output and mean grid draw over the window, W (R558). -/
  dvfsLowered : Option Time
  deriving DecidableEq, Repr

end Sys2Proof.Machine
end

