-- ==== Sys2Proof/Machine/ResetA.lean ====
section
/-! DEFINITION. Reset values of the always-on island, the fault collector, the Barrow recorder, the
configuration loader, Idsol and the mailboxes, and what a module holds as delivered. -/
namespace Sys2Proof.Machine

/-- The shipped fused level of each source (R466). -/
def shippedLevels : List Nat := [5, 5, 4, 1, 1, 1, 4, 2, 1, 1, 1, 4, 4, 5, 0]

/-- The fuses of a module as shipped (R51, R466, R476). Serial, calibration region and device identity
are the module's own, for which the specification gives no value: all zero (log entry 9). -/
def Fuses.shipped : Fuses :=
  { serial := 0, vendor := 0x0E1, part := 0x640, step := 1, build := 1, levels := shippedLevels
    pins := [1, 0, 0, 0, 0, 0, 0, 0, 0], otp := [], devid := [], testFuse := true }

/-- The trust store of a module as delivered: unowned, nothing enrolled (R519, R521). -/
def TrustStore.delivered : TrustStore := ⟨none, [], [], [], 0, 0, 0, 0⟩

/-- An empty firmware slot (R574). -/
def FwSlot.none_ : FwSlot := ⟨.empty, 0, 0, 0, 0, []⟩

/-- Record 0 of every module (R585): an ANCHOR with PCC 0 and OPTIME 0. -/
def BRec.first : BRec := ⟨0, 0x01, 0, 0, 0, 0, none, none, List.replicate 10 0 ++ [2, 0]⟩

/-- LU3 of a module as delivered, holding Enollith's first record (R585, log entry 9). -/
def Lu3.delivered : Lu3 := ⟨[BRec.first], [], ⟨none, []⟩, ⟨none, []⟩, none, none, [], none, none⟩

/-- The non-volatile contents of a module as delivered (log entry 9). -/
def Nv.delivered : Nv :=
  ⟨Fuses.shipped, [], [], TrustStore.delivered, FwSlot.none_, FwSlot.none_, [], Lu3.delivered, [], []⟩

/-- The core after an L5 reset: POWER_ON asserted, every domain in reset (R481). -/
def Core.reset : Core :=
  { opBase := 0, opStart := 0, pcc := 0, aonRc := false, coolLost := false, coolJudged := false
    srcs := ⟨true, 5, none, 0, []⟩ :: List.replicate 14 ⟨false, 0, none, 0, []⟩
    doms := List.replicate 10 ⟨true, 0, 0⟩
    bringup := true, mgmtLate := false, idsolFail := false, flush := none, lastLevel := 5, lastSource := 0
    last := 1, countL1 := 0, countL2 := 0, countL3 := 0, countL4 := 0, mwdogTimeout := 0x0C8
    mwdog := none, bringupMs := 0, bringupStart := 0, owedRecords := [], idsolSignal := none
    owedMode := some .held }

/-- Pin levels when power is applied: nothing drives STAGE_KILL_N, so the module holds it low (R39); no
board, cable or supply is judged present yet (log entry 9). -/
def Pins.initial : Pins :=
  { stageKill := true, resetN := false, boardAbsent := 0xFF, hlPresE := false, hlPresW := false
    hlPresN := false, hlPresS := false, auxA := false, auxB := false, railUp := false, holdup := false, tripped := 0
    powerFail := none, stagingClosed := false, deferred := [] }

/-- The always-on island at reset (R28, R51, R76, R578). -/
def Aon.reset : Aon :=
  { mode := .held, prevMode := .held, cause := .bringup, count := 0, modeTime := 0, stopLatched := false
    restarts := 0, stopWatch := none, railMv := 0, holdupDj := 0, auxFault := false, holdupReady := false
    auxAOk := false, auxBOk := false, ringHoldover := true, locks := 0, clkFault := 0, ppmA := 0
    ppmB := 0, ppmC := 0, leak := false, sensorFault := false, returning := none, derate := 256, flow := 0
    flowPulses := [], tout := 0, tin := 0, condSince := [none, none, none, none], swardMax := 0
    condMax := 0, senseMax := 0, dieKill := false, thermShed := false, thermReading := false
    thermSince := none, sensors := List.replicate 88 ⟨false, false, []⟩, derateEntry := false }

/-- One row of the shipped policy (R494): N, T in 0.1 s, and bits [13:0] of FLT_REACT_s. -/
def policyRow (n t : Nat) (mildInt sevInt sevNmi sevErr : Bool) (sevReset : Nat) : Nat × Nat × BitVec 14 :=
  (n, t, BitVec.ofNat 14 (8 * b2n mildInt + 256 * sevReset + 2048 * b2n sevInt + 4096 * b2n sevNmi
    + 8192 * b2n sevErr))

/-- The shipped policy of a source (R494), `none` for a code that is no source (R483). -/
def shippedPolicy (c : Nat) : Option (Nat × Nat × BitVec 14) :=
  if c = 0x000 then some (policyRow 3 6000 true true false true 0)
  else if c = 0x001 then some (policyRow 0 10 false true true true 0)
  else if c = 0x002 ∨ c = 0x100 then some (policyRow 1 10 false true false true 0)
  else if c = 0x200 then some (policyRow 64 10 false true false false 0)
  else if c = 0x201 then some (policyRow 16 10 false true false false 0)
  else if c = 0x202 then some (policyRow 1 10 false true true true 4)
  else if 0x300 ≤ c ∧ c ≤ 0x302 then some (policyRow 3 6000 true true false true 0)
  else if c = 0x303 then some (policyRow 100 10 false true false false 0)
  else if c = 0x400 then some (policyRow 1 10 false true true true 0)
  else if 0x500 ≤ c ∧ c ≤ 0x520 then some (policyRow 1 10 false true false true 0)
  else if 0x600 ≤ c ∧ c ≤ 0x605 then some (policyRow 2 36000 true true false true 0)
  else if 0x610 ≤ c ∧ c ≤ 0x61F then some (policyRow 1 10 false true false true 0)
  else if c = 0x700 then some (policyRow 16 100 true true false false 0)
  else if c = 0x800 then some (policyRow 1 10 false true false false 0)
  else if 0x900 ≤ c ∧ c ≤ 0x903 then some (policyRow 3 36000 true true false true 0)
  else if c = 0xA00 then some (policyRow 1 10 false true true true 0)
  else if 0xB00 ≤ c ∧ c ≤ 0xB03 then some (policyRow 1 10 false true false true 0)
  else if c = 0xC00 then some (policyRow 1 10 false true true true 0)
  else if c = 0xD10 ∨ c = 0xD11 then some (policyRow 16 600 true true true true 0)
  else if c = 0xD20 ∨ c = 0xD21 then some (policyRow 4 600 true true false true 0)
  else if c = 0xD30 ∨ c = 0xD31 then some (policyRow 16 100 false true false false 0)
  else if c = 0xD40 then some (policyRow 1 10 false true false false 0)
  else if 0xE00 ≤ c ∧ c ≤ 0xE02 then some (policyRow 1 10 false true false false 0)
  else if 0xE10 ≤ c ∧ c ≤ 0xE1F then some (policyRow 16 600 true true true false 0)
  else if 0xF00 ≤ c ∧ c ≤ 0xF13 then some (policyRow 4 100 true true true false 0)
  else none

/-- The source codes of R483, ascending. -/
def faultSources : List Nat :=
  [0x000, 0x001, 0x002, 0x100, 0x200, 0x201, 0x202, 0x300, 0x301, 0x302, 0x303, 0x400]
  |>.append ((List.range 33).map (0x500 + ·)) |>.append ((List.range 6).map (0x600 + ·))
  |>.append ((List.range 16).map (0x610 + ·)) |>.append [0x700, 0x800, 0x900, 0x901, 0x902, 0x903, 0xA00]
  |>.append [0xB00, 0xB01, 0xB02, 0xB03, 0xC00, 0xD10, 0xD11, 0xD20, 0xD21, 0xD30, 0xD31, 0xD40]
  |>.append [0xE00, 0xE01, 0xE02] |>.append ((List.range 16).map (0xE10 + ·))
  |>.append ((List.range 20).map (0xF00 + ·))

/-- A source's collector state after reset (R494, R496). -/
def FltSource.reset (c : Nat) : FltSource :=
  let p := (shippedPolicy c).getD (0, 10, 0)
  ⟨c, p.1, p.2.1, p.2.2, List.replicate 16 0, 0, 0, false⟩

/-- The fault collector at reset (R494, R496). -/
def Flt.reset : Flt :=
  { path := [], held := [], srcs := faultSources.map FltSource.reset, queue := [], dropped := 0
    intStatus := 0, intEnable := 0xFFFF, trapMsg := 0, trap := false, trapsHeld := 0, trapOwed := false
    trapsDelivered := 0, hold := false, l4Hold := 0x03C, bringupEndMs := none }

/-- The Barrow recorder at reset (R516). -/
def Brw.reset : Brw :=
  { anchored := false, unanchored := false, flush := false, ioFail := false, replaying := false
    staging := [], nextRnum := 0, oldestRnum := 0, oldestE := 0, oldestW := 0, committed := 0
    nextSegment := 0, lastCopied := 0, toCopy := false, lastCheckpoint := 0, committing := none
    commitFailedAt := none, lostRate := 0, lostFull := 0, owedRate := 0, owedFull := 0, rateCount := []
    rateSecond := 0, capturingE := false, capturingW := false, queryAt := none, replies := [], wall := none
    cursor := 0, cmd := none, result := 0, len := 0, data := List.replicate 256 0, sent := [] }

/-- The configuration loader at reset (R463). -/
def Cfg.reset : Cfg :=
  { op := none, opBy := none, image0 := none, image1 := none, otpBad := false, retainedOk := false, lastOp := 0, result := 0
    active := false, force := none, lane := none, prog := none, row := none, check0 := 1, check1 := 1, seq0 := 0
    seq1 := 0, writes0 := 0, writes1 := 0, src := 0, len := 0, firstBad := 0, selected := false
    warmPending := false, rowPending := false }

/-- Idsol at reset (R527, R545). -/
def Ids.reset : Ids :=
  { ready := false, failed := false, storeOk := false, storeTried := false, kbcNum := 0, event := 0, tamperSeen := 0
    tamperOpen := 0, disarmed := 0, verifyOk := 0, failObject := 0, failDetail := 0, failCount := 0
    hop := List.replicate 4 (false, 0), meas := List.replicate 8 (List.replicate 48 0), permit := false
    chain := none, sealedTo := 0, teleChain := none, kbc := none, kbcPrev := none, rotation := none
    rotationOwed := false, expelOld := false, sealAt := 0, teleSealAt := 0, kbcBorn := 0, draws := 0 }

/-- What is kept of a manager at reset (R563, R566). -/
def MgrState.reset : MgrState := ⟨0, false, false, false, false, none, []⟩

/-- The mailboxes at reset (R579). -/
def Mbx.reset : Mbx :=
  { ready := false, alone := false, aloneSince := 0, boot := none, bootTried := false, fwRunning := false, fwSlot := false, fwSince := 0
    fwSession := false, held := false, epoch := 0, mgrA := MgrState.reset, mgrB := MgrState.reset
    holdEpoch := none, capEpoch := none, lastCode := 0, lastResult := 0, lastSender := 0, lastRelayed := false
    accepted := 0, refused := 0, box := [], rec_ := 0, recBusy := false, recResult := 0, recLen := 0
    stepModule := 0, stepShelf := 0, txSeq := 0, sent := [], items := [], xfers := [], nextXfer := 0
    lastMsg := 0, shelfRaised := none, shelfCool := none, moduleLow := none, dvfsLowered := none }

/-- A copy of ring time at its island's release: 0, in holdover (R67). -/
def RingCopy.reset : RingCopy := ⟨0, 0, true⟩

end Sys2Proof.Machine
end

