-- ==== Sys2Proof/Machine/StateGrid.lean ====
section
/-! DEFINITION. State of the front end and storage block and of the plan path (chapters 6 and 7). The lanes' words are
one voted copy (log entry 10). -/
namespace Sys2Proof.Machine

/-- A rectifier module (R151, R157, R189). -/
structure Rect where
  /-- Coded as in R157. -/
  state : Nat
  temp : Nat
  iout : Nat
  status : Nat
  /-- Consecutive clean polls, and consecutive unanswered ones. -/
  clean : Nat
  silent : Nat
  /-- A transaction of the present poll went unanswered. -/
  missed : Bool
  /-- SEQ of its next setpoint frame (R152). -/
  seq : Nat
  /-- The last frame sent on its link. -/
  frame : BitVec 64
  deriving DecidableEq, Repr

/-- A module at reset: ABSENT until an image fits it. -/
def Rect.reset : Rect :=
  { state := 0, temp := 0, iout := 0, status := 0, clean := 0, silent := 0, missed := false, seq := 0, frame := 0 }

/-- A supercapacitor string (R168 to R175). -/
structure Str where
  /-- Coded as in R169. -/
  state : Nat
  volt : Nat
  curr : Int
  temp : Int
  /-- Capacitance estimates, F, newest first, at most 16. -/
  ests : List Rat
  /-- STR_ESR readings, newest first, at most 16. -/
  esrs : List Nat
  /-- Coulombs integrated since the current last changed sign, and the voltage at that poll. -/
  charge : Rat
  chargeVolt : Nat
  /-- Instant of the last answered poll. -/
  lastAt : Time
  /-- Consecutive polls above `strings.t_max`, and unanswered. -/
  hot : Nat
  silent : Nat
  /-- When it was retired; whether its contactor has been told to open. -/
  retiredAt : Time
  opened : Bool
  /-- STR_STATUS showed its contactor closed at the last poll. -/
  closed : Bool
  /-- Start of its precharge; the contactor has been told to close and awaits confirmation. -/
  preAt : Time
  closing : Bool
  deriving DecidableEq, Repr

/-- A string at reset. -/
def Str.reset : Str :=
  { state := 0, volt := 0, curr := 0, temp := 0, ests := [], esrs := [], charge := 0, chargeVolt := 0, lastAt := 0
    hot := 0, silent := 0, retiredAt := 0, opened := false, closed := false, preAt := 0, closing := false }

/-- The PMBus commands the conductor uses (R156). -/
inductive PmCmd where
  | statusWord | readVin | readIin | readVout | readIout | readTemp | voutRead | voutWrite
  deriving DecidableEq, Repr

/-- A PMBus transaction (R156, R581): the module, the command, and whether it is part of a poll. -/
structure BusTx where
  module : Nat
  cmd : PmCmd
  poll : Bool
  deriving DecidableEq, Repr

/-- A byte written to a string or battery monitor (R167): address, code, byte. -/
structure StrCmd where
  addr : Nat
  code : Nat
  byte : Nat
  deriving DecidableEq, Repr

/-- What the lanes have measured over the shaping period just ended (R81, R154, R180). -/
structure Period where
  /-- Mean grid power, W. -/
  grid : Rat
  /-- Mean bus voltage, VSTO_S and VSTO_B, V. -/
  bus : Rat
  stoS : Rat
  stoB : Rat
  /-- P_st of R81, W. -/
  pst : Rat
  /-- V_g squared (R180). -/
  vgSq : Rat
  deriving DecidableEq, Repr

/-- The front end and storage block (R151 to R189). -/
structure Fes where
  rects : List Rect
  strs : List Str
  period : Period
  /-- Positions of I_ref and of the CONDUCTING target, µA (R159, R202); I_ref is the position rounded down to 1 µA. -/
  ref : Rat
  target : Rat
  /-- IREF of the last frame to IN_SERVICE modules. -/
  iref : Nat
  /-- The fallow filter's y, A (R160). -/
  fallow : Rat
  /-- LINK_TYPE: 0 high impedance, 1 REFERENCE, 2 AUTONOMOUS, 3 BRIDGE_HOLD. -/
  link : Nat
  slew : Nat
  edge : Nat
  gridPresent : Bool
  reengage : Bool
  /-- Re-engagement begins at the next boundary (R182). -/
  reengageOwed : Bool
  recharge : Bool
  segmentLoss : Bool
  /-- Members of the segment reported lost, and since when none has been (R185). -/
  lost : List Nat
  lossClear : Time
  /-- Since when V_g has been too low, the delivery too small, and V_g high enough (R180, R182). -/
  sagSince : Option Time
  shortSince : Option Time
  returnSince : Option Time
  /-- Consecutive covered periods (R183). -/
  covered : Nat
  /-- Sum and number of grid powers of the present superframe, the last P_g, and the last 1000, newest first. -/
  sum : Rat
  count : Nat
  pg : Rat
  flat : List Rat
  event : BitVec 14
  storageShort : Bool
  /-- Group B current command, A; the filter z of R178, W. -/
  battCmd : Rat
  battZ : Rat
  battSilent : Nat
  battFault : Bool
  /-- The contactor of the battery has been told to open. -/
  busCharge : Bool
  /-- The strings are to be settled at the next poll (R170). -/
  settleOwed : Bool
  /-- Transactions waiting on PMBus, the first in progress (R156). -/
  pmb : List BusTx
  /-- Bytes written on SMBus, oldest first. -/
  smb : List StrCmd
  /-- Instants of the last polls of modules and of strings. -/
  lastPoll : Time
  lastStr : Time
  deriving DecidableEq, Repr

/-- The front end at reset. -/
def Fes.reset : Fes :=
  { rects := List.replicate 6 Rect.reset, strs := List.replicate 16 Str.reset, period := ⟨0, 0, 0, 0, 0, 0⟩
    ref := 0, target := 0, iref := 0, fallow := 0, link := 0, slew := 0, edge := 0, gridPresent := false
    reengage := false, reengageOwed := false, recharge := false, segmentLoss := false, lost := [], lossClear := 0
    sagSince := none, shortSince := none, returnSince := none, covered := 0, sum := 0, count := 0, pg := 0, flat := []
    event := 0, storageShort := false, battCmd := 0, battZ := 0, battSilent := 0, battFault := false
    busCharge := false, settleOwed := false, pmb := [], smb := [], lastPoll := 0, lastStr := 0 }

/-- The basis record of a tick (R192). -/
structure Basis where
  tick : Nat
  mode : Nat
  cause : Nat
  /-- VSTO_S and VSTO_B in 0.1 V. -/
  stoS : Nat
  stoB : Nat
  /-- I_F, I_REF, I_UP, I_CAP, S_LIMIT and B_LIMIT in 0.1 A. -/
  iF : Nat
  iRef : Nat
  iUp : Nat
  iCap : Nat
  limitS : Nat
  limitB : Nat
  cBank : Nat
  eU : Nat
  /-- STORAGE_LOW, RESERVE_OUT, STORAGE_SHORT, SEGMENT_LOSS, RECHARGE, GRID_PRESENT, REENGAGE, from bit 0. -/
  flags : Nat
  offset : Int
  seqForce : Nat
  verdict : Nat
  deriving DecidableEq, Repr

/-- The plan path in the lanes (R191 to R203, R219). -/
structure Plan where
  /-- The present tick, and the rounded ring time of the last mark (R191). -/
  tick : Nat
  rounded : Nat
  /-- A tick has begun since formation; the last mark is a tick boundary not yet taken. -/
  ticking : Bool
  tickDue : Bool
  /-- Basis records of the present and the previous tick, newest first. -/
  basis : List Basis
  /-- Vectors in the plan vector channels. -/
  chan : List (List Word)
  /-- SEQ of the last vector accepted since the channels opened, and of the last read. -/
  lastSeq : Option Nat
  seqRead : Nat
  /-- The sixteen words in force. -/
  force : Option (List Word)
  verdict : Nat
  conf : Bool
  confRun : Nat
  unconfRun : Nat
  missedRun : Nat
  accepted : Word
  rejected : Word
  missed : Word
  rampClip : Nat
  capShort : Nat
  /-- A vector of the present tick has been accepted. -/
  tickOk : Bool
  /-- A rejection since the last acceptance has been reported (R197). -/
  rejectSeen : Bool
  deriving DecidableEq, Repr

/-- The plan path at reset. -/
def Plan.reset : Plan :=
  { tick := 0, rounded := 0, ticking := false, tickDue := false, basis := [], chan := [], lastSeq := none, seqRead := 0, force := none
    verdict := 13, conf := false, confRun := 0, unconfRun := 0, missedRun := 0, accepted := 0, rejected := 0
    missed := 0, rampClip := 0, capShort := 0, tickOk := false, rejectSeen := false }

/-- The emit port of the sward periphery (R193, R204, R220). -/
structure Emit where
  /-- The newest vector written and not released. -/
  written : Option (List Word)
  released : Word
  dropped : Word
  lastTick : Word
  wdog : Bool
  /-- Instant of the last voted mark received, and whether a vector has been released since. -/
  markAt : Option Time
  done : Bool
  /-- Instant of the last write, or of the start of the watch. -/
  wroteAt : Time
  deriving DecidableEq, Repr

/-- The emit port at reset. -/
def Emit.reset : Emit :=
  { written := none, released := 0, dropped := 0, lastTick := 0, wdog := false, markAt := none, done := false
    wroteAt := 0 }

end Sys2Proof.Machine
end

