-- ==== Sys2Proof/Machine/StateRow.lean ====
section
/-! DEFINITION. State of the Heathline and Furze domain and of the concord block (chapters 11 to 13). -/
namespace Sys2Proof.Machine

/-- An open entry of the throttle ledger (R401). -/
structure LedgerEntry where
  /-- 1 CAP, 2 FLOOR, 3 LIMIT, 4 DELAY. -/
  kind : Nat
  /-- Coded as in R400. -/
  reason : Nat
  step : Nat
  emergency : Bool
  steward : Bool
  /-- Job tag, partner id for DELAY, or 0 for LIMIT. -/
  tag : Nat
  floor : Nat
  action : Nat
  /-- Operating time at its opening, ms. -/
  start : Nat
  deriving DecidableEq, Repr

/-! ### Heathline -/

/-- A message this member sends over Heathline (R416 to R419). -/
structure HtlMsg where
  cls : Nat
  service : Nat
  /-- 0 to 63 a member, 0xFE the segment, 0xFF the domain (R414). -/
  dst : Nat
  seq : Nat
  payload : List Byte
  deriving DecidableEq, Repr

/-- Port states (R411). -/
inductive PortState where | absent | training | checking | up | stalled | down | test | refused
  deriving DecidableEq, Repr

/-- The code of a port state. -/
def PortState.code : PortState → Nat
  | .absent => 0 | .training => 1 | .checking => 2 | .up => 3 | .stalled => 4 | .down => 5 | .test => 6 | .refused => 7

/-- The result of a bit-error test (R439): pass, mantissa and exponent of lanes 0 and 1, operating time in ms. -/
structure BertRes where
  pass : Bool
  mant0 : Nat
  exp0 : Nat
  mant1 : Nat
  exp1 : Nat
  at_ : Nat
  deriving DecidableEq, Repr

/-- A port (R411 to R413, R424, R426, R433, R439). -/
structure HPort where
  state : PortState
  inUse : Bool
  /-- It has entered DOWN since it was last in use: the rejoin hold applies. -/
  wasDown : Bool
  /-- Entry into the present state. -/
  since : Time
  /-- The identity of the far end has passed its check. -/
  checked : Bool
  neighbour : Option Nat
  farPort : Nat
  downs : Nat
  uncorr : Nat
  corrMs : Nat
  /-- Instants of the tag failures of the last 1 ms; of the uncorrectable codewords, with how many. -/
  tagErrs : List Time
  uncErrs : List (Time × Nat)
  bert : Option BertRes
  /-- Instant of the key agreement, and a new exchange is under way (R538). -/
  keyAt : Time
  rekeying : Bool
  /-- Cells that wait for the stalled link. -/
  held : List Cell
  /-- Instant of the last TIME cell sent. -/
  timeSent : Time
  deriving DecidableEq, Repr

/-- A port at reset. -/
def HPort.reset : HPort :=
  { state := .absent, inUse := false, wasDown := false, since := 0, checked := false, neighbour := none, farPort := 0, downs := 0
    uncorr := 0, corrMs := 0, tagErrs := [], uncErrs := [], bert := none, keyAt := 0, rekeying := false, held := []
    timeSent := 0 }

/-- A message on its way in: its cells so far (R416). -/
structure Assembly where
  src : Nat
  cls : Nat
  seq : Nat
  cells : List Cell
  deriving DecidableEq, Repr

/-- A delivered message (R418, R419). -/
structure Delivered where
  src : Nat
  cls : Nat
  service : Nat
  sf : Nat
  segment : Nat
  payload : List Byte
  deriving DecidableEq, Repr

/-- A link under test by order of the head, or by hand: the member and port of its E or S end (R434). -/
structure LinkTest where
  member : Nat
  port : Port
  deriving DecidableEq, Repr

/-- The counters of HTL_DROP (R439), unsaturated. -/
structure Drops where
  stale : Nat
  tag : Nat
  link : Nat
  incomplete : Nat
  service : Nat
  local_ : Nat
  deriving DecidableEq, Repr

/-- The Heathline switch. -/
structure Htl where
  /-- Messages sent, oldest first. -/
  sent : List HtlMsg
  /-- The head, as this member has it (R429). -/
  head : Option Nat
  /-- MSG_SEQ of each class (R414). -/
  msgSeq : List Nat
  /-- HTL_TIME_STATUS.HOLDING (R431). -/
  holding : Bool
  /-- HTL_TIME_STATUS.SYNC (R431). -/
  sync : Bool
  /-- The ring-time counter (R66); its holdover mark is not used. -/
  counter : RingCopy
  ports : List HPort
  event : BitVec 8
  drops : Drops
  /-- LINK_STATE records held, of the present and the previous superframe (R422). -/
  recs : List LinkRec
  /-- Members present, in order (R422, R425). -/
  present : List Nat
  master : Option Nat
  parent : Option Port
  hops : Nat
  /-- Last offset from the parent's time plus delay, in ns. -/
  offset : Rat
  /-- Consecutive TIME cells within ±2 ns, and the instant of the last from the parent (R431). -/
  good : Nat
  timeAt : Time
  /-- The latest ring time that a HOLDING member's TIME cell has reported, and its instant (R432). -/
  heard : Option (Nat × Time)
  /-- The step owed at the next superframe boundary: the ring time to adopt, as of an instant (R432). -/
  stepTo : Option (Nat × Time)
  /-- Since when member 0 has been present (R429). -/
  zeroSince : Option Time
  /-- Superframe of the last boundary this block has taken, and of the last the lanes have taken (R587). -/
  sf : Option Nat
  sfLanes : Option Nat
  /-- Cells for local delivery that wait (R435). -/
  queue : List Cell
  parts : List Assembly
  /-- Messages delivered, by source, class, MSG_SEQ and superframe, newest first (R416). -/
  seen : List (Nat × Nat × Nat × Nat)
  /-- Messages delivered that their consumer has not taken. -/
  inbox : List Delivered
  /-- Cells sent and forwarded: port and cell, oldest first. -/
  out : List (Port × Cell)
  /-- Mirror blocks sent (R421), the interval of 8 µs of the last, and the rings of the E and W neighbour, newest block first. -/
  mirrors : Nat
  mirrorAt : Nat
  ringE : List (List Byte)
  ringW : List (List Byte)
  /-- Ring time at which a ring froze. -/
  frozenE : Option Nat
  frozenW : Option Nat
  /-- Subscribers served (R423): member and entry. -/
  subs : List (Nat × Nat)
  bertPort : Nat
  bert : Option (LinkTest × Time)
  /-- Links the head has still to test. -/
  bertQueue : List LinkTest
  /-- Operating time of the last periodic run, ms; the installation test is owed. -/
  bertLast : Nat
  bertOwed : Bool
  deriving DecidableEq, Repr

/-- The Heathline switch at reset. -/
def Htl.reset : Htl :=
  { sent := [], head := none, msgSeq := List.replicate 6 0, holding := false, sync := false, counter := RingCopy.reset
    ports := List.replicate 4 HPort.reset, event := 0, drops := ⟨0, 0, 0, 0, 0, 0⟩, recs := [], present := [], master := none
    parent := none, hops := 0, offset := 0, good := 0, timeAt := 0, heard := none, stepTo := none, zeroSince := none, sf := none
    sfLanes := none, queue := [], parts := [], seen := [], inbox := [], out := [], mirrors := 0, mirrorAt := 0, ringE := []
    ringW := [], frozenE := none, frozenW := none, subs := [], bertPort := 0, bert := none, bertQueue := [], bertLast := 0
    bertOwed := false }

/-! ### Concord -/

/-- One request of the planner's standing set (R194, R203): KIND, STEP, TAG, REASON, FLOOR. -/
structure PlanReq where
  kind : Nat
  step : Nat
  tag : Nat
  reason : Nat
  floor : Nat
  deriving DecidableEq, Repr

/-- A rack cap (R395): power in kW, window in ms, cap identifier. -/
structure RackCap where
  kw : Nat
  window : Nat
  mask : BitVec 64
  id : Nat
  deriving DecidableEq, Repr

/-- An action (R373): number, cap index, floor in 10 W, binding reason. -/
structure Action where
  num : Nat
  cap : Nat
  floor : Nat
  reason : Nat
  emergency : Bool
  deriving DecidableEq, Repr

/-- A round (R376): the action, b, c_b, START(b), the superframe of the offer. -/
structure CRound where
  act : Action
  b : Nat
  cb : Nat
  start : Nat
  offered : Nat
  deriving DecidableEq, Repr

/-- What a conductor keeps of a partner for concord (R368, R371, R372, R378, R393). -/
structure CPart where
  id : Nat
  /-- Its job tag, 0 when it is in no group. -/
  job : Nat
  /-- V/F step index it reported, and its power at each index. -/
  index : Nat
  vf : List Nat
  joining : Bool
  heldOut : Bool
  /-- It has acknowledged the present offer. -/
  acked : Bool
  /-- Deferrals in a row in which it was unacknowledged. -/
  defers : Nat
  /-- THROTTLE: the index reported and the job step it names. -/
  throttle : Option (Nat × Nat)
  /-- Matched: the cap in force before, and since when its index has been no higher. -/
  matched : Option (Nat × Option Time)
  deriving DecidableEq, Repr

/-- A report of a job step or a phase: step, partner, phase (0 for a STEP clause), START, POWER. -/
structure StepNote where
  step : Nat
  id : Nat
  phase : Option Nat
  group : Nat
  start : Nat
  power : Nat
  deriving DecidableEq, Repr

/-- A concord group (R368 to R383). -/
structure CGroup where
  tag : Nat
  act : Action
  /-- Highest action number seen. -/
  lastNum : Nat
  /-- The action offered and not decided, and those committed and not applied. -/
  round : Option CRound
  commits : List CRound
  /-- Deferrals of the present state. -/
  defers : Nat
  /-- An emergency action published, and the superframe of its publication. -/
  urgent : Option (Action × Nat)
  /-- STARTs of job steps, and phase reports, newest first. -/
  steps : List StepNote
  phases : List StepNote
  steward : Option Nat
  /-- The last REQUEST record published, and its superframe. -/
  pub : Option (ReqRec × Nat)
  /-- Superframes of the last renewal and of the last RENEW record. -/
  renewed : Nat
  renewRec : Nat
  deriving DecidableEq, Repr

/-- A governor request of one condition (R389, R390): 0 BRIDGING, 1 reserve exhausted, 2 rack cap, 3 capacity short, 4 storage
short floors; its index, its reason, whether it is an emergency, and since when the condition has been absent. -/
structure GovReq where
  cond : Nat
  index : Nat
  reason : Nat
  emergency : Bool
  absent : Option Time
  deriving DecidableEq, Repr

/-- The concord block. -/
structure Ccd where
  /-- The planner's standing requests (R203). -/
  planReq : List PlanReq
  /-- Conditions as the lanes reported them at the last planning tick (R164, R181, R186). -/
  low : Bool
  reserve : Bool
  short : Bool
  bridging : Bool
  /-- P_lim of R398, W, while a rack cap limits this conductor; its fall: instant, power and W/s. -/
  pLim : Option Rat
  ramp : Option (Time × Rat × Rat)
  ledger : List LedgerEntry
  /-- Per reason 1 to 10: closed time in ns, the instant since when an entry has been open, entries opened. -/
  ldgTime : List Nat
  ldgSince : List (Option Time)
  ldgCount : List Nat
  parts : List CPart
  groups : List CGroup
  /-- REQUEST records held, with the superframe of each (R384). -/
  reqs : List (ReqRec × Nat)
  /-- Tags refused a group (R369), and the last hour in which one was reported. -/
  refused : List Nat
  refusedHour : Option Nat
  gov : List GovReq
  event : BitVec 10
  capPend : Option RackCap
  cap : Option RackCap
  /-- P_share, W; the last share judged under R398; the rack cap request is an emergency. -/
  share : Option Rat
  capEmergency : Bool
  /-- Mean shelf output of each superframe, W, newest first, over `concord.est_window`. -/
  outMeans : List Rat
  outSum : Rat
  outCount : Nat
  /-- Planner summaries held, newest first for each member. -/
  sums : List SumRec
  /-- A clipped slew under way: operating time of its start in ms, and the shortfall so far in J. -/
  clip : Option (Nat × Rat)
  clipCount : Nat
  clipLast : Nat
  gsel : Nat
  deriving DecidableEq, Repr

/-- The concord block at reset. -/
def Ccd.reset : Ccd :=
  { planReq := [], low := false, reserve := false, short := false, bridging := false, pLim := none, ramp := none
    ledger := [], ldgTime := List.replicate 11 0, ldgSince := List.replicate 11 none
    ldgCount := List.replicate 11 0, parts := [], groups := [], reqs := [], refused := [], refusedHour := none, gov := []
    event := 0, capPend := none, cap := none, share := none, capEmergency := false, outMeans := [], outSum := 0, outCount := 0
    sums := [], clip := none, clipCount := 0, clipLast := 0, gsel := 0 }

/-! ### Furze -/

/-- The key under which a downstream clause is tagged: a given key and epoch, the addressee's K_down, or K_bc. -/
inductive DKey where | raw (key : List Byte) (epoch : Nat) | down | bc
  deriving DecidableEq, Repr

/-- A clause waiting to be sent downstream (R353): its order, addressee, FORM, verb, TREF (none: the superframe in which it is
sent, or two after it for a GRANT), the announced superframe, key, object. -/
structure DownItem where
  cls : Nat
  dst : Nat
  form : Nat
  verb : Nat
  tref : Option Nat
  announced : Option Nat
  key : DKey
  object : List Byte
  deriving DecidableEq, Repr

/-- An accepted clause on its way to the conductor fabric (R344). -/
structure Acc where
  sf : Nat
  slot : Nat
  c : Clause
  deriving DecidableEq, Repr

/-- The Furze block. -/
structure Frz where
  speaking : Bool
  speaker : Option Nat
  /-- First superframe in which it beacons (R333). -/
  speakFrom : Nat
  /-- It has decoded a lower speaker's beacon and yields at the next boundary (R335). -/
  yielding : Bool
  /-- Superframe of the last FURZE_SUPERFRAME, and of the last election. -/
  sf : Option Nat
  electSf : Option Nat
  elect : List ElectIn
  /-- Version decided, superframes at which changes not yet in force take effect, and the period P (R351). -/
  mapVersion : Nat
  mapPending : List Nat
  period : Nat
  /-- Partners by id; an id not listed is FREE. -/
  parts : List (Nat × Partner)
  down : List DownItem
  /-- Clauses sent: superframe, slot, clause, oldest first. -/
  sent : List (Nat × Nat × Clause)
  accepted : List Acc
  /-- Accepted conditional and future clauses not yet in an ACKS: superframe, id, SEQ (R354). -/
  ackDue : List (Nat × Nat × Nat)
  /-- Outcomes of contention slots (R332): superframe, slot, code. -/
  outcomes : List (Nat × Nat × Nat)
  /-- Slot instances in which a clause was accepted: superframe, slot (R357). -/
  valid : List (Nat × Nat)
  bookings : List Booking
  /-- ADMIT_OPEN as last seen (R363). -/
  admitting : Bool
  lastBegan : Nat
  strangers : List (Nat × Time)
  /-- Accepted clauses of SUBJECT 255, with their superframe. -/
  recent : List (Nat × Clause)
  /-- Superframe of the last beacon verified. -/
  beaconSf : Option Nat
  bcSeq : Nat
  event : BitVec 10
  rxOk : Word
  rxFail : Word
  trunc : Word
  reject : Word
  relayIn : Word
  dropped : Word
  collided : Nat
  decoded : Nat
  /-- FRZ_LAST_REJECT: verdict, SUBJECT, VERB, slot. -/
  lastReject : Nat × Nat × Nat × Nat
  /-- Discards in the present second of operating time (R344), and that second. -/
  dropSecond : Nat × Nat
  deriving DecidableEq, Repr

/-- The Furze block at reset. -/
def Frz.reset : Frz :=
  { speaking := false, speaker := none, speakFrom := 0, yielding := false, sf := none, electSf := none, elect := []
    mapVersion := 0, mapPending := [], period := 1, parts := [], down := [], sent := [], accepted := [], ackDue := []
    outcomes := [], valid := [], bookings := [], admitting := false, lastBegan := 0, strangers := [], recent := [], beaconSf := none
    bcSeq := 0, event := 0, rxOk := 0, rxFail := 0, trunc := 0, reject := 0, relayIn := 0, dropped := 0, collided := 0
    decoded := 0, lastReject := (0, 0, 0, 0), dropSecond := (0, 0) }

end Sys2Proof.Machine
end

