-- ==== Sys2Proof/Machine/StateStage.lean ====
section
/-! DEFINITION. State of the storage converter: the legs, the three control lanes and the voter
(chapters 4 and 5). The lanes compute their exact fields from samples every lane receives alike (R123), so
the model keeps one voted copy of them and, per lane, what each lane's own bus channel makes (log entry 10). -/
namespace Sys2Proof.Machine

/-- What a leg's switches are commanded to do (R91). -/
inductive Drive where
  | off
  /-- An on-time: direction, launch, counted length in ns. -/
  | on (d : Dir) (start : Time) (len : Nat)
  /-- A driven freewheel after an on-time of direction `d`. -/
  | freewheel (d : Dir) (start : Time)
  deriving DecidableEq, Repr

/-- A leg (R78, R80, R95, R99, R101, R108 to R113, R588). -/
structure Leg where
  state : LegState
  group : Group
  home : Group
  /-- The place a spare fills (R588). -/
  fills : Option Nat
  /-- Hiccups counted, newest first (R108). -/
  hiccups : List Time
  /-- End of the hiccup time; the leg returns at the next boundary after it. -/
  hiccupEnd : Time
  hiccupOver : Bool
  /-- The hiccup left BLIND. -/
  hiccupBlind : Bool
  limited : Nat
  trim : Int
  openSuspect : Nat
  senseSuspect : Nat
  /-- The record that its current sense has failed (R101). -/
  senseFailed : Bool
  /-- Peak magnitudes of its last eight recorded pulses, A, newest first (R99). -/
  peaks : List Rat
  /-- Pulses recorded since its trim last changed. -/
  sinceTrim : Nat
  /-- It has entered a rotation since the stage start. -/
  entered : Bool
  /-- Volt-second estimate, A, and the instant it stands for (R109). -/
  est : Rat
  estAt : Time
  /-- It was judged under row 5 of R104 at this stage start (R588). -/
  row5 : Bool
  /-- Slow part of the estimate: q takes the rest (R87). -/
  estSlow : Rat
  /-- The most recent idle check passed (R110). -/
  idleOk : Bool
  drive : Drive
  lastOnEnd : Time
  /-- Since when both its gates have been low. -/
  lowSince : Time
  deriving DecidableEq, Repr

/-- A leg at reset: ABSENT until the image and its board place it (R121). -/
def Leg.reset : Leg :=
  { state := .absent, group := .s, home := .s, fills := none, hiccups := [], hiccupEnd := 0
    hiccupOver := false, hiccupBlind := false, limited := 0, trim := 0, openSuspect := 0
    senseSuspect := 0, senseFailed := false, peaks := [], sinceTrim := 0, entered := false, est := 0
    estAt := 0, row5 := false, estSlow := 0, idleOk := true, drive := .off, lastOnEnd := 0, lowSince := 0 }

/-- A departure awaiting a spare (R114): the group and the place it leaves empty. -/
structure Departure where
  group : Group
  place : Nat
  leg : Nat
  deriving DecidableEq, Repr

/-- The latest samples the lanes hold (R59): V, and leg currents in A. -/
structure Samples where
  busA : Rat
  busB : Rat
  busC : Rat
  stoS : Rat
  stoB : Rat
  deriving DecidableEq, Repr

/-- The leg pool and sense interface (R121), with the sequencers (R96, R98). -/
structure Pool where
  legs : List Leg
  pointerS : Nat
  pointerB : Nat
  /-- LEG_EVENT. -/
  event : BitVec 10
  attempt : Nat
  windowWait : Bool
  stageRun : Bool
  running : Bool
  /-- The pre-start test awaits R102's condition or runs (R100). -/
  testing : Bool
  attemptStart : Time
  /-- The stage starts at the next voted mark (R103). -/
  startOwed : Bool
  departures : List Departure
  /-- A spare's recheck: the spare, whom it replaces, undecided results so far (R107). -/
  recheck : Option (Nat × Departure × Nat)
  recheckStart : Time
  /-- A recheck passed: it joins at the next boundary. -/
  joinOwed : Option (Nat × Departure)
  /-- I_lim in 0.1 A (R115). -/
  limitS : Nat
  limitB : Nat
  samples : Samples
  /-- A LEG_LOSS ledger entry is open (R116). -/
  lossEntry : Bool
  /-- Pulses since the last stage start, modulo 2^32 (R129). -/
  pulses : BitVec 32
  /-- Ends of blanking of the lower and upper comparator (R89). -/
  blankLower : Option Time
  blankUpper : Option Time
  /-- A trip waits for a ready leg (R97). -/
  waiting : Option Dir
  /-- Since when each leg has been off with a zero estimate is its `lowSince`; group B pulses fired. -/
  lastB : Time
  deriving DecidableEq, Repr

/-- The leg pool at reset (R121). -/
def Pool.reset : Pool :=
  { legs := List.replicate 32 Leg.reset, pointerS := 31, pointerB := 31, event := 0, attempt := 0
    windowWait := false, stageRun := false, running := false, testing := false, attemptStart := 0
    startOwed := false, departures := [], recheck := none, recheckStart := 0, joinOwed := none
    limitS := 0, limitB := 0, samples := ⟨0, 0, 0, 0, 0⟩, lossEntry := false, pulses := 0
    blankLower := none, blankUpper := none, waiting := none, lastB := 0 }

/-- One lane's own state (R120, R122, R128, R132 to R139, R150). Volts are exact. -/
structure LaneSt where
  vote : Vote
  /-- T, V (R84). -/
  target : Rat
  /-- E, V (R82). -/
  endpoint : Rat
  iOut : Rat
  iF : Rat
  /-- Load-line offset in force, V. -/
  offset : Rat
  /-- Centring trim, V (R88). -/
  centre : Rat
  ripple : Rat
  lowerCode : Nat
  upperCode : Nat
  /-- Base on-times of groups S and B, supply and absorb, ns (R92, R98). -/
  tonS : Rat
  tonA : Rat
  tonBS : Rat
  tonBA : Rat
  tripWait : BitVec 32
  busMean : Rat
  /-- Sum and number of T since the last mark: its mean over the period (R88). -/
  tSum : Rat
  tCount : Nat
  snapOk : Bool
  reloads : Nat
  /-- The PLL is locked, and parameters loaded: ready signalled (R144). -/
  ready : Bool
  clockFailed : Bool
  /-- Awaiting its first voted mark after an L1 (R65). -/
  awaitingMark : Bool
  /-- In shadow (R135): 3 own snapshot due at the next mark, 2 rebase due, 1 clean interval due, 0 it runs. -/
  reloadIn : Nat
  /-- The snapshot taken at the last mark: T, c, q and the four base on-times (R129); whether it is own_m. -/
  snap : Rat × Rat × Rat
  snapOn : List Rat
  own : Bool
  clean : Nat
  /-- The present period has not been clean (R136). -/
  dirty : Bool
  /-- Disagreements of the fence window: voted-mark count of each, newest first (R132). -/
  window : List Nat
  total : Nat
  fences : Nat
  /-- Operating times of its fences within the last hour, ms (R139). -/
  fenceTimes : List Nat
  /-- Disagreements already counted in this period: gates 0 to 63, 64 strobe, 65 snapshot (R128). -/
  counted : List Nat
  /-- KIND of its last disagreement. -/
  lastKind : Nat
  /-- Instant of its last strobe, once its watchdog is armed (R468). -/
  strobeAt : Option Time
  deriving DecidableEq, Repr

/-- A lane at reset (R120, R149, R150). -/
def LaneSt.reset : LaneSt :=
  { vote := .reset, target := 0, endpoint := 0, iOut := 0, iF := 0, offset := 0, centre := 0, ripple := 0
    lowerCode := 0, upperCode := 0, tonS := 0, tonA := 0, tonBS := 0, tonBA := 0, tripWait := 0, busMean := 0, tSum := 0
    tCount := 0, snapOk := false, reloads := 0, ready := false, clockFailed := false
    awaitingMark := false, reloadIn := 0, snap := (0, 0, 0), snapOn := [], own := false, clean := 0, dirty := false, window := [], total := 0
    fences := 0, fenceTimes := [], counted := [], lastKind := 0, strobeAt := none }

/-- The voter (R124 to R149). -/
structure Vot where
  formed : Bool
  stopLatch : Bool
  killLatch : Bool
  /-- VOT_EVENT. -/
  event : BitVec 11
  /-- VOT_LAST: lane, kind, gate, section, mark. -/
  lastLane : Nat
  lastKind : Nat
  lastGate : Nat
  lastSection : Nat
  lastMark : Nat
  mark : BitVec 64
  /-- The retained leg record (R142). -/
  retained : List (Option LegState)
  /-- Legs take the retained record at the next formation (R143). -/
  useRetained : Bool
  /-- First ready signal of the formation attempt under way (R144). -/
  waitSince : Option Time
  /-- Since when STAGE_KILL_N has been high, none while held low (R146). -/
  killHighSince : Option Time
  /-- The internal stage-kill line is driven by the always-on monitor (R583). -/
  killLine : Bool
  /-- Every voting lane has commanded every gate off since this mark. -/
  offSince : Option Nat
  /-- The first boundary after a formation has not yet passed (R81). -/
  fresh : Bool
  /-- Since the last evaluation, the sward was shed or an L2 asserted (R20). -/
  shedCond : Bool
  /-- Since the last evaluation, a warm apply or an L3 restarted the planning domain (R20). -/
  restartCond : Bool
  /-- A hold command awaits the evaluation (R20, R23). -/
  holdCond : Bool
  /-- A release command awaits the evaluation (R20, R21). -/
  releaseCond : Bool
  /-- Present period length in lane cycles (R64). -/
  period : Nat
  /-- Instant of the last voted mark. -/
  markAt : Time
  /-- Since when the conditions of R26 have held together. -/
  clearSince : Option Time
  deriving DecidableEq, Repr

/-- The voter at reset (R149, R583). -/
def Vot.reset : Vot :=
  { formed := false, stopLatch := false, killLatch := true, event := 0, lastLane := 0, lastKind := 0
    lastGate := 0, lastSection := 0, lastMark := 0, mark := 0, retained := List.replicate 32 none, useRetained := false, waitSince := none, killHighSince := none
    killLine := true, offSince := none, fresh := false, shedCond := false, restartCond := false
    holdCond := false, releaseCond := false, period := 10000, markAt := 0, clearSince := none }

end Sys2Proof.Machine
end

