-- ==== Sys2Proof/Machine/Float.lean ====
section
/-! DEFINITION. The formats of the sward (R260 to R263), exact values, rounding to nearest even and stochastic rounding
(R272), and the conversion of an exact value to a format (R274). Everything is exact rational arithmetic. -/
namespace Sys2Proof.Machine

/-- The number formats (R260), in the order of their codes (R313). -/
inductive NFmt where | t2 | i2 | i4 | e4m3 | e5m2 | bf16 | fp32 | int32
  deriving DecidableEq, Repr

/-- Formats by code (R313). -/
def NFmt.ofCode : Nat → Option NFmt
  | 0 => some .t2 | 1 => some .i2 | 2 => some .i4 | 3 => some .e4m3 | 4 => some .e5m2 | 5 => some .bf16
  | 6 => some .fp32 | 7 => some .int32 | _ => none

/-- Width of an element in bits. -/
def NFmt.bits : NFmt → Nat
  | .t2 => 2 | .i2 => 2 | .i4 => 4 | .e4m3 => 8 | .e5m2 => 8 | .bf16 => 16 | .fp32 => 32 | .int32 => 32

/-- A block-scaled integer format (R263). -/
def NFmt.scaled : NFmt → Bool
  | .t2 => true | .i2 => true | .i4 => true | _ => false

/-- A floating-point format: bits of its exponent and mantissa, its bias (R261). -/
structure FSpec where
  ebits : Nat
  mbits : Nat
  bias : Int
  deriving DecidableEq, Repr

/-- The floating-point formats (R261); none for the integer formats. -/
def NFmt.fspec : NFmt → Option FSpec
  | .e4m3 => some ⟨4, 3, 7⟩ | .e5m2 => some ⟨5, 2, 15⟩ | .bf16 => some ⟨8, 7, 127⟩ | .fp32 => some ⟨8, 23, 127⟩
  | _ => none

/-- A value: NaN, a signed infinity, or a signed magnitude (zeros keep their sign). -/
inductive FVal where
  | nan
  | inf (neg : Bool)
  | fin (neg : Bool) (mag : Rat)
  deriving DecidableEq, Repr

/-- The real number of a finite value; 0 for the others. -/
def FVal.real : FVal → Rat
  | .fin n m => if n then -m else m
  | _ => 0

/-- A real number as a value; `zneg` is the sign of a zero. -/
def FVal.ofRat (x : Rat) (zneg : Bool := false) : FVal :=
  if x = 0 then .fin zneg 0 else .fin (decide (x < 0)) |x|

/-- The sign of a value, false for NaN. -/
def FVal.neg? : FVal → Bool
  | .nan => false | .inf n => n | .fin n _ => n

/-- Sticky events of SWD_T_ARITH (R297). -/
structure Events where
  overflow : Bool
  invalid : Bool
  reserved : Bool
  bank7 : Bool
  deriving DecidableEq, Repr

/-- No event. -/
def Events.none : Events := ⟨false, false, false, false⟩
/-- Only an overflow, saturation or wrap. -/
def Events.ov : Events := ⟨true, false, false, false⟩
/-- Only an invalid operation. -/
def Events.inv : Events := ⟨false, true, false, false⟩

/-- Both sets of events. -/
def Events.or (a b : Events) : Events :=
  ⟨a.overflow || b.overflow, a.invalid || b.invalid, a.reserved || b.reserved, a.bank7 || b.bank7⟩

/-- Two to an integer power. -/
def pow2 (z : Int) : Rat := if 0 ≤ z then (2 ^ z.toNat : Nat) else 1 / (2 ^ (-z).toNat : Nat)

/-- The greatest `k` with `2^k ≤ x`, for `x > 0`. -/
def log2Rat (x : Rat) : Int :=
  let k : Int := (Nat.log2 x.num.natAbs : Int) - (Nat.log2 x.den : Int)
  if pow2 k ≤ x then k else k - 1

/-- How to round: to nearest, ties to even, or stochastically with a 16-bit draw (R272). -/
inductive Round where
  | rn
  | sr (draw : Nat)
  deriving DecidableEq, Repr

/-- A non-negative number rounded to an integer (R272). -/
def Round.int (r : Round) (q : Rat) : Nat :=
  let lo := natFloor q
  let fr := q - lo
  match r with
  | .rn => (roundEven q).toNat
  | .sr d => if d < natFloor (fr * 65536) then lo + 1 else lo

/-- A magnitude rounded to `m` mantissa bits, least exponent `emin`, no greatest: the code of exponent and mantissa,
subnormals included (R261, R272). -/
def Round.mag (r : Round) (m : Nat) (emin : Int) (x : Rat) : Nat :=
  if x = 0 then 0 else
  let e := max (log2Rat x) emin
  (e - emin).toNat * 2 ^ m + r.int (x / pow2 (e - m))

/-- The largest finite code of a format, without its sign (R261). -/
def maxCode : NFmt → Nat
  | .e4m3 => 0x7E | .e5m2 => 0x7B | .bf16 => 0x7F7F | .fp32 => 0x7F7FFFFF | _ => 0

/-- The code of infinity, or of NaN where the format has no infinity. -/
def infCode : NFmt → Nat
  | .e4m3 => 0x7F | .e5m2 => 0x7C | .bf16 => 0x7F80 | .fp32 => 0x7F800000 | _ => 0

/-- The canonical NaN (R261). -/
def nanCode : NFmt → Nat
  | .e4m3 => 0x7F | .e5m2 => 0x7E | .bf16 => 0x7FC0 | .fp32 => 0x7FC00000 | _ => 0

/-- The sign bit of a format, set. -/
def signBit (f : NFmt) (neg : Bool) : Nat := if neg then 2 ^ (f.bits - 1) else 0

/-- The value of a floating-point code (R261). -/
def decodeFloat (f : NFmt) (c : Nat) : FVal :=
  match f.fspec with
  | none => .nan
  | some k =>
    let man := c % 2 ^ k.mbits
    let e := (c / 2 ^ k.mbits) % 2 ^ k.ebits
    let neg := decide ((c / 2 ^ (k.ebits + k.mbits)) % 2 = 1)
    let top := decide (e = 2 ^ k.ebits - 1)
    if f = .e4m3 then
      if top && man == 7 then .nan
      else .fin neg (if e = 0 then (man : Rat) * pow2 (1 - k.bias - k.mbits)
        else (2 ^ k.mbits + man : Nat) * pow2 (e - k.bias - k.mbits))
    else if top then (if man = 0 then .inf neg else .nan)
    else .fin neg (if e = 0 then (man : Rat) * pow2 (1 - k.bias - k.mbits)
      else (2 ^ k.mbits + man : Nat) * pow2 (e - k.bias - k.mbits))

/-- Two's complement of an integer in `w` bits. -/
def wrapInt (w : Nat) (z : Int) : Nat := (z % (2 ^ w : Int)).toNat

/-- An exact integer into a signed range of `w` bits: saturated with SAT, else its low bits (R268, R276); whether that
changed it. -/
def fitInt (w : Nat) (sat_ : Bool) (z : Int) : Nat × Bool :=
  let lo : Int := -(2 ^ (w - 1) : Int)
  let hi : Int := 2 ^ (w - 1) - 1
  if lo ≤ z ∧ z ≤ hi then (wrapInt w z, false)
  else (wrapInt w (if sat_ then max lo (min hi z) else z), true)

/-- A value to a floating-point format or to int32 (R274), and the events of it. -/
def encodeVal (f : NFmt) (sat_ : Bool) (r : Round) (v : FVal) : Nat × Events :=
  match f.fspec with
  | none => -- int32
    match v with
    | .nan => (0x80000000, Events.none)
    | .inf n => if sat_ then ((if n then 0x80000000 else 0x7FFFFFFF), Events.ov) else (0x80000000, Events.none)
    | .fin n m =>
      let k : Int := r.int m
      let (w, o) := fitInt 32 sat_ (if n then -k else k)
      (w, if o then Events.ov else Events.none)
  | some k =>
    match v with
    | .nan => (nanCode f, Events.none)
    | .inf n =>
      if f = .e4m3 then
        if sat_ then (signBit f n + maxCode f, Events.ov) else (nanCode f, Events.inv)
      else (signBit f n + infCode f, Events.none)
    | .fin n m =>
      let c := r.mag k.mbits (1 - k.bias) m
      if c ≤ maxCode f then (signBit f n + c, Events.none)
      else if sat_ then (signBit f n + maxCode f, Events.ov)
      else if f = .e4m3 then (nanCode f, ⟨true, true, false, false⟩)
      else (signBit f n + infCode f, Events.ov)

/-- The fp32 nearest to a number, as a number; magnitudes beyond the largest finite stay at it. -/
def r32 (x : Rat) : Rat :=
  let c := Nat.min (Round.rn.mag 23 (-126) |x|) 0x7F7FFFFF
  let m := (decodeFloat .fp32 c).real
  if x < 0 then -m else m

/-- The square root of a non-negative number, to 2^-64 of its own size and never exactly on a rounding boundary unless
it is exact: every rounding of R272 and of R276 takes it to the code of the true root. -/
def sqrtFine (x : Rat) : Rat :=
  if x = 0 then 0 else
  let k := log2Rat x
  let h := k / 2 - 64
  let y := x / pow2 (2 * h)
  let n := natFloor y
  let s := Nat.sqrt n
  (if (s * s : Nat) = y then (s : Rat) else (s : Rat) + 1 / 2) * pow2 h

/-- One draw of a lane's generator (R273): the next state and 16 bits. -/
def drawGen (g : BitVec 64) : BitVec 64 × Nat :=
  let g := g ^^^ (g <<< 13)
  let g := g ^^^ (g >>> 7)
  let g := g ^^^ (g <<< 17)
  (g, (g >>> 48).toNat)

/-- The generator state of lane `j` on entry into RUN (R273). -/
def seedGen (seed : BitVec 64) (j : Nat) : BitVec 64 :=
  let g := seed + BitVec.ofNat 64 (j + 1) * 0x9E3779B97F4A7C15#64
  if g = 0 then 1 else g

end Sys2Proof.Machine
end

