-- ==== Sys2Proof/Machine/StateSward.lean ====
section
/-! DEFINITION. State of the sward die (chapters 8 to 10): tussocks, mesh, periphery and programs, and the lexicon
engine. The contents of the sward's LPDDR5X stand in `State.swm`. -/
namespace Sys2Proof.Machine

/-- STATE of a tussock (R297). -/
inductive TState where | off | reset | idle | run | halted | clockStop | gated | failed
  deriving DecidableEq, Repr

/-- Its code. -/
def TState.code : TState → Nat
  | .off => 0 | .reset => 1 | .idle => 2 | .run => 3 | .halted => 4 | .clockStop => 5 | .gated => 6 | .failed => 7

/-- An accumulator entry that does not read 0 (R267 to R271): the word held, INVALID, the exponent X of the operation
that wrote it last, and whether that was a floating-point pair. -/
structure AccEntry where
  val : Word
  invalid : Bool
  x : Int
  fp : Bool
  deriving DecidableEq, Repr

/-- A flit (R286): the fields of its header and the eight words of its payload. -/
structure Flit where
  drow : Nat
  dcol : Nat
  bank : Nat
  line : Nat
  half : Bool
  op : Nat
  wen : Nat
  stream : Nat
  tag : Nat
  payload : List Word
  deriving DecidableEq, Repr

/-- A flit in the mesh: at row 0 to 19, or at the periphery port of row 31 (above) or 30 (below); its column; the queue
it waits in; the tussock that sent it, 640 for the periphery. -/
structure Moving where
  flit : Flit
  row : Nat
  col : Nat
  via : Via
  src : Nat
  deriving DecidableEq, Repr

/-- A write or atomic that port S retries (R281): the flit with the words still to land, and the failures in a row. -/
structure Retry where
  flit : Flit
  fails : Nat
  deriving DecidableEq, Repr

/-- A change of granted step under way (R291): the new step, whether it is to a faster one, whether the clock is
stopped for it, and the state to return to. -/
structure StepChange where
  step : Nat
  faster : Bool
  stopped : Bool
  since : Time
  back : TState
  deriving DecidableEq, Repr

/-- A tussock (R257, R297, R322). -/
structure Tus where
  st : TState
  cause : Nat
  /-- Step granted (R290), step requested, and the step the clock runs at. -/
  granted : Nat
  requested : Nat
  clock : Nat
  change : Option StepChange
  /-- Cycles counted up to an instant (R279). -/
  cycles : Nat
  cyclesAt : Time
  seed : BitVec 64
  /-- Generator states of the 64 lanes (R273). -/
  gens : List (BitVec 64)
  /-- The 32 scalar registers; register 0 reads as 0 (R312). -/
  regs : List Word
  /-- Number of the next instruction (R312). -/
  pc : Nat
  /-- Local address at which its program region begins (R279). -/
  program : Nat
  sram : Mem
  acc : List (Nat × AccEntry)
  starve : BitVec 8
  busy : BitVec 8
  corrected : Nat
  uncorr : BitVec 8
  arith : Events
  entry : Nat
  role : Nat
  variant : Nat
  grant : Word
  /-- SWD_T_SHARE_i (R322). -/
  share : List Word
  rejects : Word
  rejectSeen : Bool
  /-- Arrival counters, and SWD_T_CNTBIND_i. -/
  cnt : List Word
  bind_ : List Word
  retries : List Retry
  deriving DecidableEq, Repr

/-- A tussock as power comes (R294, R297, R322). -/
def Tus.reset : Tus :=
  { st := .reset, cause := 0, granted := 0, requested := 0, clock := 0, change := none, cycles := 0, cyclesAt := 0, seed := 0
    gens := List.replicate 64 0, regs := List.replicate 32 0, pc := 0, program := 0, sram := [], acc := [], starve := 0, busy := 0
    corrected := 0, uncorr := 0, arith := Events.none, entry := 15, role := 0, variant := 0, grant := 0
    share := List.replicate 4 0, rejects := 0, rejectSeen := false, cnt := List.replicate 16 0
    bind_ := List.replicate 16 0, retries := [] }

/-- A memory area granted to an entry (R311). -/
structure Area where
  entry : Nat
  role : Nat
  name : List Byte
  region : Nat
  base : Nat
  size : Nat
  write : Bool
  keep : Bool
  format : Nat
  exported : Bool
  deriving DecidableEq, Repr

/-- A landing ring of a service (R307), and how many half-lines it has delivered. -/
structure Landing where
  entry : Nat
  service : Nat
  tus : Nat
  bank : Nat
  line : Nat
  lines : Nat
  count : Nat
  deriving DecidableEq, Repr

/-- A DMA descriptor outstanding (R310): its entry and its payload. -/
structure Dma where
  entry : Nat
  words : List Word
  deriving DecidableEq, Repr

/-- What the loader shows of an entry (R323). -/
structure Entry where
  result : Nat
  role : Nat
  variant : Nat
  tussocks : Nat
  deriving DecidableEq, Repr

/-- The sward periphery and tussocks. -/
structure Swd where
  /-- The tussocks are powered. -/
  powered : Bool
  shed : Bool
  tus : List Tus
  /-- Flits in the mesh and at the periphery ports, oldest first within each queue. -/
  mesh : List Moving
  /-- Closed links that have been reported: sender and receiver (R69, R288). -/
  closedSeen : List (Nat × Nat)
  /-- Tussocks whose PLL is locked, and whose clock failed. -/
  lock : List Nat
  clkFault : List Nat
  gov : Nat
  govEvents : Word
  /-- Power of the die over the last 100 intervals of 10 µs, 0.1 W, newest first (R292). -/
  power : List Rat
  govRaised : Time
  govLow : Option Time
  ceil : Nat
  /-- Every tussock not FAILED has reached IDLE after the last power-up (R298). -/
  meshUp : Bool
  /-- A load is owed, the start of the planning domain; a load has ended and awaits GO (R315). -/
  loadOwed : Bool
  goOwed : Bool
  /-- Instant at which the load ended. -/
  loadAt : Time
  running : Bool
  requiredFail : Bool
  entries : List Entry
  areas : List Area
  landings : List Landing
  /-- Source members subscribed to, per entry (R423). -/
  sources : List (Nat × Nat)
  reject : Word
  dma : List Dma
  /-- The EMIT half that waits for its partner (R309). -/
  emitHalf : Option Flit
  /-- Bytes of the summary coming in over SUMMARY_OUT, and the last complete one (R307). -/
  summary : List Byte
  summaryOut : Option (List Byte)
  /-- REPORT records taken in the present second, per entry. -/
  reports : List (Nat × Nat)
  reportSecond : Nat
  deriving DecidableEq, Repr

/-- The sward at reset. -/
def Swd.reset : Swd :=
  { powered := false, shed := false, tus := List.replicate 640 Tus.reset, mesh := [], closedSeen := [], lock := [], clkFault := [], gov := 0
    govEvents := 0, power := [], govRaised := 0, govLow := none, ceil := 0, meshUp := false, loadOwed := false
    goOwed := false, loadAt := 0, running := false, requiredFail := false, entries := List.replicate 8 ⟨0, 0, 0, 0⟩
    areas := [], landings := [], sources := [], reject := 0, dma := [], emitHalf := none, summary := [], summaryOut := none
    reports := [], reportSecond := 0 }

/-- A partner's last report to the lexicon (R223). -/
structure PhaseRep where
  partner : Nat
  phase : Nat
  /-- Start of the phase, ring time in ns. -/
  start : Nat
  deriving DecidableEq, Repr

/-- A pair of job tag and tray group (R223, R224). -/
structure LPair where
  job : Nat
  group : Nat
  reps : List PhaseRep
  /-- The phase of the running key, and its start, ring time in ns. -/
  phase : Nat
  start : Nat
  /-- Instant of the last report of the job by a partner of the group. -/
  lastAt : Time
  /-- The last kept observation whose successor is provisional: its key, its end, and its successor bytes before. -/
  prev : Option (Nat × Nat × List Byte)
  /-- Samples of the observation under way: instant in µs of ring time and current in 10 mA, newest first. -/
  series : List (Nat × Nat)
  deriving DecidableEq, Repr

/-- The lexicon engine. What stands before `ready` survives sheds, L2 and L3 resets (R248). -/
structure Lex where
  /-- Valid lemmas: slot and key (R238). -/
  index : List (Nat × Nat)
  /-- START of the first and of the newest block written, and blocks written (R249, R250). -/
  histOld : Nat
  histNew : Nat
  bseq : Nat
  /-- Decimated blocks written, and START of the newest (R253). -/
  decSeq : Nat
  decNew : Option Nat
  hit : Word
  miss : Word
  evicted : Word
  refused : Word
  dropped : Word
  /-- Refusals in the present hour of operating time, and that hour (R239). -/
  refusedHour : Nat × Nat
  /-- The engine has run since the last L4 or L5: its next start is a return (R248). -/
  returning : Bool
  ready : Bool
  checking : Bool
  priorsLoaded : Bool
  pairs : List LPair
  /-- Cache lines: line and slot, most recently used first (R240, R241). -/
  lines : List (Nat × Nat)
  key : BitVec 64
  /-- The operation under way: OP and OFFSET of LEX_CMD. -/
  op : Option (Nat × Nat)
  result : Nat
  slot : Nat
  words : List Word
  /-- Tray report entries of the block under way, 24 bytes each (R250). -/
  tray : List (List Byte)
  deriving DecidableEq, Repr

/-- The lexicon engine at reset. -/
def Lex.reset : Lex :=
  { index := [], histOld := 0, histNew := 0, bseq := 0, decSeq := 0, decNew := none, hit := 0, miss := 0, evicted := 0
    refused := 0, dropped := 0, refusedHour := (0, 0), returning := false, ready := false, checking := false
    priorsLoaded := false, pairs := [], lines := [], key := 0, op := none, result := 0, slot := 0
    words := List.replicate 16 0, tray := [] }

/-- What the engine keeps through a shed, an L2 and an L3 (R248, R256). -/
def Lex.kept (l : Lex) : Lex :=
  { l with ready := false, checking := false, priorsLoaded := false, pairs := [], lines := [], key := 0, op := none
           result := 0, slot := 0, words := List.replicate 16 0, tray := [] }

end Sys2Proof.Machine
end

