-- ==== Sys2Proof/Machine/State.lean ====
section
/-! DEFINITION. The state of the conductor: what no reset touches first, then what resets return to its
reset values, block by block. Plain data throughout. -/
namespace Sys2Proof.Machine

/-- Why a command stops. -/
inductive Fault where
  /-- A command addressed conductor LPDDR5X beyond its 30 GiB (R546), where no memory exists. Raised by the
  commands that read a staging buffer. Safe: the model stops where the hardware has no byte to give. -/
  | noMemory (address : Nat)
  deriving DecidableEq, Repr

/-- Why a command has no meaning. -/
inductive Refusal where
  /-- The command is not modelled. Raised by the dispatch alone. Safe: the model stops. -/
  | notModelled (mnemonic : String)
  deriving DecidableEq, Repr

/-- The local copies of ring time (R66, R67). -/
structure Rings where
  fabric : RingCopy
  lanes : RingCopy
  furze : RingCopy
  sward : RingCopy
  mgmt : RingCopy
  idsol : RingCopy
  aon : RingCopy
  /-- Heathline has reported ring time synchronised again: copies in holdover rejoin it (R67). -/
  rejoining : Bool
  deriving DecidableEq, Repr

/-- Every copy at its island's release. -/
def Rings.reset : Rings :=
  let r := RingCopy.reset
  ⟨r, r, r, r, r, r, r, false⟩

/-- The whole state. -/
structure State where
  /-- The latest instant reached (log entry 1). -/
  now : Time
  /-- Commands waiting, first in first out. -/
  pending : List Instr
  /-- How many free values have been taken: the model's own field (log entry 3). -/
  free : Nat
  nv : Nv
  core : Core
  pin : Pins
  aon : Aon
  flt : Flt
  brw : Brw
  cfg : Cfg
  ids : Ids
  mbx : Mbx
  pool : Pool
  laneA : LaneSt
  laneB : LaneSt
  laneC : LaneSt
  vot : Vot
  fes : Fes
  plan : Plan
  emit : Emit
  lex : Lex
  swd : Swd
  /-- The sward's LPDDR5X, 512 GiB (R217, R227, R249): it survives sheds, L2 and L3 resets. -/
  swm : Mem
  frz : Frz
  ccd : Ccd
  htl : Htl
  rings : Rings
  /-- Latches of the _HI registers, by address; one not listed holds its reset value (R12). -/
  latches : List (Nat × Word)
  /-- Closed handshake channels (R68). -/
  closed : List Chan
  /-- Channels whose closure has been reported (R69). -/
  closureReported : List Chan
  /-- Conductor LPDDR5X. -/
  ddr : Mem
  /-- What the last register read returned. -/
  busRead : Word
  deriving DecidableEq, Repr

/-- The machine right after an L5 reset: POWER_ON asserted, every domain in reset, the module as delivered
(R464, R465, R481, log entry 9). -/
def State.reset : State :=
  { now := 0, pending := [], free := 0, nv := Nv.delivered, core := Core.reset, pin := Pins.initial
    aon := Aon.reset, flt := Flt.reset, brw := Brw.reset, cfg := Cfg.reset, ids := Ids.reset
    mbx := Mbx.reset, pool := Pool.reset, laneA := LaneSt.reset, laneB := LaneSt.reset
    laneC := LaneSt.reset, vot := Vot.reset, fes := Fes.reset, plan := Plan.reset, emit := Emit.reset, lex := Lex.reset
    swd := Swd.reset, swm := [], frz := Frz.reset, ccd := Ccd.reset, htl := Htl.reset, rings := Rings.reset
    latches := [], closed := Chan.all, closureReported := [], ddr := [], busRead := 0 }

end Sys2Proof.Machine
end

