-- ==== Sys2Proof/Machine/Base.lean ====
section
/-! DEFINITION. The operations every block shares: the clock, ring time, configuration fields, resets as others see
them, reports to the fault collector. -/
namespace Sys2Proof.Machine

/-- Nanoseconds in a microsecond, a millisecond and a second. -/
def us : Nat := 1000
/-- A millisecond in ns. -/
def ms : Nat := 1000000
/-- A second in ns. -/
def sec : Nat := 1000000000

/-- Time advances to the instant of the command (log entry 1). -/
def State.at_ (s : State) (t : Time) : State := { s with now := max s.now t }

/-- A free value of `w` bits, and the state that has taken it (log entry 3). -/
def State.takeFree (s : State) (w : Nat) : BitVec w × State :=
  (Config.freeBits w s.free, { s with free := s.free + 1 })

/-- Operating time at instant `t`, in ms (R498). -/
def State.opAt (s : State) (t : Time) : Nat := (s.core.opBase + (t - s.core.opStart) / ms) % 2 ^ 48

/-- Operating time, in ms (R498). -/
def State.opMs (s : State) : Nat := s.opAt s.now

/-- A domain is in reset (R464). -/
def State.inRst (s : State) (d : Dom) : Bool := (s.core.doms.getD d.bit ⟨true, 0, 0⟩).inReset

/-- Has `d` elapsed since instant `t0`? -/
def State.elapsed (s : State) (t0 : Time) (d : Nat) : Bool := decide (t0 + d ≤ s.now)

/-! ### Configuration -/

/-- An image is in force (R463). -/
def State.inForce (s : State) : Bool := s.cfg.force.isSome

/-- A planner program, lexicon, sward, program or warm management field (R457). -/
def State.fld (s : State) (f : Fld) (i : Nat := 0) : Int := (s.cfg.prog.getD Image.blank).get f i

/-- A lane parameter or another field of the last full start (R453, R457). -/
def State.lfld (s : State) (f : Fld) (i : Nat := 0) : Int := (s.cfg.lane.getD Image.blank).get f i

/-- A Furze, concord or Heathline field (R457). -/
def State.rfld (s : State) (f : Fld) (i : Nat := 0) : Int := (s.cfg.row.getD Image.blank).get f i

/-- As a natural number. -/
def State.fldN (s : State) (f : Fld) (i : Nat := 0) : Nat := (s.fld f i).toNat
/-- As a natural number. -/
def State.lfldN (s : State) (f : Fld) (i : Nat := 0) : Nat := (s.lfld f i).toNat
/-- As a natural number. -/
def State.rfldN (s : State) (f : Fld) (i : Nat := 0) : Nat := (s.rfld f i).toNat

/-- This conductor's member number. -/
def State.member (s : State) : Nat := s.lfldN .topologyMember

/-! ### Lanes -/

/-- A lane. -/
def State.lane (s : State) : Lane → LaneSt
  | .a => s.laneA | .b => s.laneB | .c => s.laneC

/-- A lane through `f`. -/
def State.updLane (s : State) (x : Lane) (f : LaneSt → LaneSt) : State :=
  match x with
  | .a => { s with laneA := f s.laneA }
  | .b => { s with laneB := f s.laneB }
  | .c => { s with laneC := f s.laneC }

/-- Every lane through `f`. -/
def State.updLanes (s : State) (f : LaneSt → LaneSt) : State :=
  { s with laneA := f s.laneA, laneB := f s.laneB, laneC := f s.laneC }

/-- The lanes that vote. -/
def State.voting (s : State) : List Lane := Lane.all.filter (fun x => (s.lane x).vote == .voting)

/-! ### Ring time -/

/-- A copy of ring time at an instant (R66). -/
def RingCopy.now (r : RingCopy) (t : Time) : Nat := (r.value + (t - r.at_)) % 2 ^ 64

/-- Ring time as the Heathline island's counter shows it. -/
def State.ringTime (s : State) : Nat := s.htl.counter.now s.now

/-- The superframe count of a ring time (R331). -/
def sfOf (ring : Nat) : Nat := ring / 1000000 % 2 ^ 32

/-- `a − b` by serial arithmetic on 32 bits. -/
def diff32 (a b : Nat) : Int := signed 32 (a + 2 ^ 32 - b % 2 ^ 32)

/-- The superframe count on the Heathline island's counter (R587). -/
def State.htlSf (s : State) : Nat := sfOf s.ringTime

/-! ### Reports to the fault collector -/

/-- Add one event to the kinds observed while the fabric is held: the first of its kind carries its own
INSTANCE and DETAIL, later ones are counted (R485). -/
def holdReport (m : FaultMsg) : List (FaultMsg × Nat) → List (FaultMsg × Nat)
  | [] => [(m, 1)]
  | (x, n) :: l =>
    if x.source = m.source ∧ x.kind = m.kind then (x, n + 1) :: l else (x, n) :: holdReport m l

/-- A block reports an event: the message goes to the collector, or waits for the fabric's release (R485). -/
def State.report (s : State) (source kind inst : Nat) (detail : Nat := 0) (voted : Bool := false) : State :=
  let m : FaultMsg := ⟨source, kind, inst, detail, voted, false⟩
  if s.inRst .fabric then { s with flt := { s.flt with held := holdReport m s.flt.held } }
  else { s with flt := { s.flt with path := s.flt.path ++ [m] } }

end Sys2Proof.Machine
end

