-- ==== Sys2Proof/Machine/Route.lean ====
section
/-! DEFINITION. Wiring and routes of the Heathline domain, cells, and sending a message (R409, R410, R414, R416, R417, R425,
R427). -/
namespace Sys2Proof.Machine

/-! ### Wiring (R409) -/

/-- The other port of a ring or dimension. -/
def oppositePort : Port → Port | .e => .w | .w => .e | .n => .s | .s => .n

/-- A domain's shape: code, members, torus dimensions. -/
structure Shape where
  code : Nat
  n : Nat
  x : Nat
  y : Nat
  deriving DecidableEq, Repr

/-- The member and port at the far end of port `p` of member `m`, if the shape wires it (R409). -/
def Shape.wire (h : Shape) (m : Nat) (p : Port) : Option (Nat × Port) :=
  if h.code = 2 then
    let cx := m % h.x
    let cy := m / h.x
    match p with
    | .e => some (cy * h.x + (cx + 1) % h.x, .w)
    | .w => some (cy * h.x + (cx + h.x - 1) % h.x, .e)
    | .s => some ((cy + 1) % h.y * h.x + cx, .n)
    | .n => some ((cy + h.y - 1) % h.y * h.x + cx, .s)
  else
    let up := (m + 1) % h.n
    let down := (m + h.n - 1) % h.n
    match p with
    | .e => some (up, .w)
    | .w => some (down, .e)
    | .n => if h.code = 1 then some (up, .s) else none
    | .s => if h.code = 1 then some (down, .n) else none

/-- The link at a port of a member is a dateline (R410). -/
def Shape.dateline (h : Shape) (m : Nat) (p : Port) : Bool :=
  if h.code = 2 then
    match p with
    | .e => m % h.x + 1 == h.x
    | .w => m % h.x == 0
    | .s => m / h.x + 1 == h.y
    | .n => m / h.x == 0
  else
    match p with
    | .e | .n => m + 1 == h.n
    | .w | .s => m == 0

/-- Members round the ring or dimension of a port. -/
def Shape.round (h : Shape) (p : Port) : Nat :=
  if h.code = 2 then (match p with | .e | .w => h.x | .n | .s => h.y) else h.n

/-- This domain's shape; members and dimensions are at least 1. -/
def State.shape (s : State) : Shape :=
  ⟨s.lfldN .topologyShape, max 1 (s.lfldN .topologyMembers), max 1 (s.lfldN .topologyTorusX), max 1 (s.lfldN .topologyTorusY)⟩

/-- A port of this conductor. -/
def State.port (s : State) (p : Port) : HPort := s.htl.ports.getD p.num HPort.reset

/-- A port through `f`. -/
def State.updPort (s : State) (p : Port) (f : HPort → HPort) : State :=
  { s with htl := { s.htl with ports := upd s.htl.ports p.num f } }

/-- The newest LINK_STATE record held of a member (R422). -/
def State.recOf (s : State) (m : Nat) : Option LinkRec := s.htl.recs.find? (fun r => r.member == m)

/-! ### Links and distances (R425, R430) -/

/-- One end of a link: routes use this conductor's own port while it is in use (R413), another member's while its record shows
it UP or STALLED; `strict` asks for UP at either. -/
def State.endOk (s : State) (strict : Bool) (m : Nat) (p : Port) : Bool :=
  if m = s.member then
    let q := s.port p
    if strict then q.state == .up else q.inUse
  else match s.recOf m with
    | none => false
    | some r => let c := r.ports.getD p.num 0; c == 3 || (!strict && c == 4)

/-- A link is open. -/
def State.linkOk (s : State) (strict : Bool) (m : Nat) (p : Port) : Bool :=
  match s.shape.wire m p with
  | none => false
  | some (m', p') => s.endOk strict m p && s.endOk strict m' p'

/-- Distances from the members of `frontier`, breadth first, in at most `fuel` steps. -/
def bfs (next : Nat → List Nat) : Nat → Nat → List Nat → List (Nat × Nat) → List (Nat × Nat)
  | 0, _, _, seen => seen
  | fuel + 1, d, frontier, seen =>
    let new := ((frontier.flatMap next).eraseDups).filter (fun m => !seen.any (fun x => x.1 == m))
    if new.isEmpty then seen else bfs next fuel (d + 1) new (seen ++ new.map (fun m => (m, d + 1)))

/-- Members reachable from a member, with their distances in hops. -/
def State.reach (s : State) (strict : Bool) (m : Nat) : List (Nat × Nat) :=
  bfs (fun a => Port.all.filterMap (fun p => if s.linkOk strict a p then (s.shape.wire a p).map Prod.fst else none))
    64 0 [m] [(m, 0)]

/-- `k` links from a member onwards in one direction are open. -/
def State.pathOpen (s : State) (p : Port) : Nat → Nat → Bool
  | 0, _ => true
  | k + 1, m => s.linkOk false m p && (match s.shape.wire m p with | none => false | some (a, _) => s.pathOpen p k a)

/-- How many of the next `k` links in one direction are open before the first that is not. -/
def State.openRun (s : State) (p : Port) : Nat → Nat → Nat
  | 0, _ => 0
  | k + 1, m =>
    if !s.linkOk false m p then 0
    else match s.shape.wire m p with | none => 0 | some (a, _) => s.openRun p k a + 1

/-- The member `k` links onwards. -/
def Shape.along (h : Shape) (p : Port) : Nat → Nat → Nat
  | 0, m => m
  | k + 1, m => match h.wire m p with | none => m | some (a, _) => h.along p k a

/-! ### Routes (R425) -/

/-- The shorter way round a ring or dimension of `n` at distance `d` in the first port's direction: port and hops. -/
def shortWay (plus minus : Port) (n d : Nat) : Port × Nat := if d ≤ n - d then (plus, d) else (minus, n - d)

/-- The route to a member along one ring (R425): the shorter way, or the other when it is blocked. -/
def State.ringRoute (s : State) (plus minus : Port) (dst : Nat) : Option (Port × Nat) :=
  let h := s.shape
  let m := s.member
  let d := (dst + h.n - m % h.n) % h.n
  let w := shortWay plus minus h.n d
  let o : Port × Nat := (oppositePort w.1, h.n - w.2)
  if s.pathOpen w.1 w.2 m then some w else if s.pathOpen o.1 o.2 m then some o else none

/-- The legs of a torus route: X and Y, each with its hops. -/
def State.torusLegs (s : State) (dst : Nat) : (Port × Nat) × (Port × Nat) :=
  let h := s.shape
  let m := s.member
  (shortWay .e .w h.x ((dst % h.x + h.x - m % h.x) % h.x), shortWay .s .n h.y ((dst / h.x + h.y - m / h.x % h.y) % h.y))

/-- A torus route (R425): X first, Y first when X first is blocked. -/
def State.torusRoute (s : State) (dst : Nat) : Option (Port × Nat) :=
  let h := s.shape
  let m := s.member
  let (a, b) := s.torusLegs dst
  let open_ := fun (p q : Port × Nat) => s.pathOpen p.1 p.2 m && s.pathOpen q.1 q.2 (h.along p.1 p.2 m)
  let first := fun (p q : Port × Nat) => if p.2 = 0 then (q.1, q.2) else (p.1, p.2 + q.2)
  if open_ a b then some (first a b) else if open_ b a then some (first b a) else none

/-- The routes of a unicast cell of a class (R425): port and hops of each copy. -/
def State.routes (s : State) (cls seq dst : Nat) : List (Port × Nat) :=
  let ew := s.ringRoute .e .w dst
  let ns := s.ringRoute .n .s dst
  match s.shape.code with
  | 0 => ew.toList
  | 1 => if cls ≤ 2 then ew.toList ++ ns.toList else if seq % 2 = 0 then ew.toList else ns.toList
  | _ => (s.torusRoute dst).toList

/-- The copies of a broadcast along one ring or dimension of `n` from this member (R425). -/
def State.ringCopies (s : State) (plus minus : Port) (n : Nat) : List (Port × Nat) :=
  let m := s.member
  let a := n / 2
  let b := (n - 1) / 2
  let l := if s.pathOpen plus a m ∧ s.pathOpen minus b m then [(plus, a), (minus, b)]
    else
      let pa := s.openRun plus (n - 1) m
      [(plus, pa), (minus, min (n - 1 - pa) (s.openRun minus (n - 1) m))]
  l.filter (fun c => decide (0 < c.2))

/-- The tree of a torus broadcast is open (R425). -/
def State.treeOpen (s : State) : Bool :=
  let h := s.shape
  let m := s.member
  let row := (List.range h.x).map (fun i => h.along .e i m)
  s.pathOpen .e (h.x / 2) m && s.pathOpen .w ((h.x - 1) / 2) m &&
    row.all (fun a => s.pathOpen .s (h.y / 2) a && s.pathOpen .n ((h.y - 1) / 2) a)

/-! ### Cells -/

/-- FLAGS of R414. -/
def flagFirst : Nat := 1
/-- LAST. -/
def flagLast : Nat := 2
/-- BCAST. -/
def flagBcast : Nat := 4
/-- WRAPPED. -/
def flagWrapped : Nat := 8
/-- VC. -/
def flagVc : Nat := 16
/-- COLUMN. -/
def flagColumn : Nat := 32

/-- A flag of a cell is set. -/
def hasFlag (c : Cell) (f : Nat) : Bool := c.flags / f % 2 == 1

/-- A cell with a flag set or cleared. -/
def putFlag (c : Cell) (f : Nat) (on : Bool) : Cell :=
  { c with flags := if hasFlag c f = on then c.flags else if on then c.flags + f else c.flags - f }

/-- A cell goes out of a port (R417, R426, R427): at once while it is UP; into a STALLED link classes 1 and 2 wrap, and higher
classes wait; a port that is not in use sends nothing. -/
def State.emitCell (s : State) (p : Port) (c : Cell) : State :=
  let q := s.port p
  if q.state = .up ∧ q.inUse then { s with htl := { s.htl with out := s.htl.out ++ [(p, c)] } }
  else if !q.inUse then s
  else if c.cls ≤ 2 then
    let o := oppositePort p
    if (s.port o).state = .up ∧ (s.port o).inUse then
      let c' := { c with hops := if hasFlag c flagWrapped then c.hops else s.shape.round p - 1 }
      { s with htl := { s.htl with out := s.htl.out ++ [(o, putFlag (putFlag c' flagWrapped true) flagVc false)] } }
    else s
  else s.updPort p (fun q => { q with held := q.held ++ [c] })

/-- The cells of a message (R414, R416): at most 256 of 224 bytes. -/
def messageCells (src segment sf cls service dst seq : Nat) (payload : List Byte) : List Cell :=
  let n := max 1 ((payload.length + 223) / 224)
  (List.range n).map (fun i =>
    { cls := cls, flags := flagFirst * b2n (i == 0) + flagLast * b2n (i + 1 == n), src := src, dst := dst, hops := 0, cell := i
      service := service, seq := seq, sf := sf, segment := segment, payload := (payload.drop (224 * i)).take 224 })

/-- Send every cell of a list out of a port with a hop count and further flags. -/
def State.emitAll (s : State) (l : List Cell) (flags : Nat) (r : Port × Nat) : State :=
  l.foldl (fun (s : State) c => s.emitCell r.1 { c with hops := r.2, flags := c.flags + flags }) s

/-- The copies of a broadcast message (R425). -/
def State.broadcast (s : State) (l : List Cell) (dst cls seq : Nat) : State :=
  let h := s.shape
  match h.code with
  | 0 => (s.ringCopies .e .w h.n).foldl (fun (s : State) r => s.emitAll l flagBcast r) s
  | 1 =>
    let ew := s.ringCopies .e .w h.n
    let ns := s.ringCopies .n .s h.n
    let on := if cls ≤ 2 then ew ++ ns else if seq % 2 = 0 then ew else ns
    on.foldl (fun (s : State) r => s.emitAll l flagBcast r) s
  | _ =>
    if s.treeOpen then
      let s := (s.ringCopies .e .w h.x).foldl (fun (s : State) r => s.emitAll l flagBcast r) s
      (s.ringCopies .s .n h.y).foldl (fun (s : State) r => s.emitAll l (flagBcast + flagColumn) r) s
    else
      let to_ := s.htl.present.filter (fun m => m != s.member &&
        (dst != 0xFE || ((s.recOf m).map LinkRec.segment).getD 0 == s.lfldN .topologySegment))
      to_.foldl (fun (s : State) m => ((s.routes cls seq m).foldl (fun (s : State) r =>
        s.emitAll (l.map (fun c => { c with dst := m })) 0 r) s)) s

/-- This conductor has a topology: an image is in force (R452), and its Heathline switch runs. -/
def State.htlUp (s : State) : Bool := s.cfg.row.isSome && !s.inRst .htlFrz

/-- A message takes the next MSG_SEQ of its class and is listed (R414). -/
def State.htlTake (s : State) (cls service dst : Nat) (payload : List Byte) : Nat × List Cell × State :=
  let q := s.htl.msgSeq.getD cls 0
  (q, messageCells s.member (s.lfldN .topologySegment) (s.htlSf % 65536) cls service dst q payload,
   { s with htl := { s.htl with sent := s.htl.sent ++ [(⟨cls, service, dst, q, payload⟩ : HtlMsg)]
                                msgSeq := s.htl.msgSeq.set cls ((q + 1) % 65536) } })

/-- Send a message over Heathline (R414, R416, R425): without a topology nothing is transmitted (R452). -/
def State.htlSend (s : State) (cls service dst : Nat) (payload : List Byte) : State :=
  if !s.htlUp then s else
  let (q, l, s) := s.htlTake cls service dst payload
  if dst = 0xFE ∨ dst = 0xFF then s.broadcast l dst cls q
  else (s.routes cls q dst).foldl (fun (s : State) r => s.emitAll l 0 r) s

/-- Send a class 3 message to the neighbour at a port (R417, R421): one hop, over a port that is in use. -/
def State.htlNext (s : State) (service : Nat) (p : Port) (payload : List Byte) : State :=
  match s.shape.wire s.member p with
  | none => s
  | some (m, _) =>
    if !s.htlUp ∨ !(s.port p).inUse then s else
    let (_, l, s) := s.htlTake 3 service m payload
    s.emitAll l 0 (p, 1)

end Sys2Proof.Machine
end

