-- ==== Sys2Proof/Machine/Ops.lean ====
section
/-! DEFINITION. The operations every block shares, continued: Barrow staging, notifications, telemetry items, the
throttle ledger. -/
namespace Sys2Proof.Machine

/-! ### Barrow -/

/-- Size of a record: header, time fields present and payload (R503). -/
def BRec.len (r : BRec) : Nat :=
  16 + (if r.rt.isSome then 8 else 0) + (if r.wall.isSome then 8 else 0) + r.payload.length

/-- Bytes of the staging buffer, 16 MiB. -/
def stagingBytes : Nat := 16 * 2 ^ 20

/-- Bytes staged. -/
def Brw.staged (b : Brw) : Nat := sumNat (b.staging.map (fun r => r.item.len))

/-- Wall time, in ns since 1970, once set (R501). -/
def State.wallNow (s : State) : Option Nat := s.brw.wall.map (fun w => w.1 + (s.now - w.2))

/-- The header a record written now carries (R501, R503). The payload is padded to a multiple of 4. -/
def State.newRec (s : State) (type sub : Nat) (payload : List Byte) (flush : Bool) : BRec :=
  { rnum := s.brw.nextRnum, type := type
    flags := BitVec.ofNat 8 (b2n s.htl.holding + 2 * b2n s.brw.wall.isSome
      + 4 * b2n (s.htl.holding && s.rings.fabric.holdover) + 8 * b2n flush + 16 * b2n s.brw.unanchored)
    pcc := s.core.pcc, optime := s.opMs, sub := sub
    rt := if s.htl.holding then some (s.rings.fabric.now s.now) else none
    wall := s.wallNow, payload := padTo 4 payload }

/-- The sizes of the leading multi-byte fields of a record's payload, in order (R503, R584); bytes beyond them
are byte strings. -/
def fieldSizes (type sub : Nat) : List Nat :=
  match type, sub with
  | 0x01, _ => [6, 4]
  | 0x02, _ => [4, 4]
  | 0x03, _ => [4]
  | 0x04, _ => [4, 4, 4, 2]
  | 0x05, _ => [8, 8]
  | 0x06, _ => [1, 8, 8, 4]
  | 0x07, _ => [4, 4]
  | 0x08, _ => [1, 1, 8]
  | 0x09, _ => [1, 1, 8]
  | 0x11, _ => [8]
  | 0x12, 1 => [1, 1, 2, 4, 4, 4, 4]
  | 0x12, 2 => [1, 1, 2, 4]
  | 0x13, _ => [1, 1, 2, 4, 4, 4]
  | 0x14, _ => [1, 1, 2] ++ List.replicate 16 4
  | 0x15, 0 => [1, 1, 1, 1, 2, 2, 4]
  | 0x15, 1 => [1, 1, 1, 1, 2, 2, 4]
  | 0x16, _ => [1, 1, 2, 4, 2, 2]
  | 0x18, _ => [4, 6, 6, 2, 4]
  | 0x19, _ => [4]
  | 0x20, 0 => [4, 4]
  | 0x20, 1 => [1, 1, 2, 4]
  | 0x22, 0 => [8, 8]
  | 0x22, 1 => [1, 1, 1, 1, 4]
  | 0x24, 0 => [8]
  | 0x24, 1 => [8, 8]
  | 0x24, 2 => [4]
  | 0x24, 3 => [8]
  | _, _ => []

/-- Swap the byte order of the leading fields. -/
def swapFields : List Nat → List Byte → List Byte
  | [], bs => bs
  | n :: ns, bs => (bs.take n).reverse ++ swapFields ns (bs.drop n)

/-- A record's bytes in LU3 and in the window, little-endian (R503). -/
def BRec.bytes (r : BRec) : List Byte :=
  leBytes 2 r.len ++ [BitVec.ofNat 8 r.type, r.flags] ++ leBytes 4 r.pcc ++ leBytes 6 r.optime ++ leBytes 2 r.sub
  ++ ((r.rt.map (leBytes 8)).getD []) ++ ((r.wall.map (leBytes 8)).getD []) ++ r.payload

/-- A record's bytes on Heathline, big-endian (R503). -/
def BRec.wire (r : BRec) : List Byte :=
  beBytes 2 r.len ++ [BitVec.ofNat 8 r.type, r.flags] ++ beBytes 4 r.pcc ++ beBytes 6 r.optime ++ beBytes 2 r.sub
  ++ ((r.rt.map (beBytes 8)).getD []) ++ ((r.wall.map (beBytes 8)).getD [])
  ++ swapFields (fieldSizes r.type r.sub) r.payload

/-- The RECORD message of a record: OP 1, the sender's member number, the RNUM, the record (R510). -/
def State.recordMsg (s : State) (r : BRec) : List Byte :=
  [1, BitVec.ofNat 8 s.member] ++ beBytes 8 r.rnum ++ r.wire

/-- Send one message of the recorder to the neighbour at a port (R510). -/
def State.brwSend (s : State) (p : Port) (payload : List Byte) : State :=
  { s with brw := { s.brw with sent := s.brw.sent ++ [(p, payload)] } }.htlNext 4 p payload

/-- Send one message to the E and W neighbours (R510). -/
def State.toNeighbours (s : State) (payload : List Byte) : State := (s.brwSend .e payload).brwSend .w payload

/-- Append a record to staging, assigning its RNUM (R504), and send it to the neighbours once the recorder is
anchored (R510). -/
def State.appendRec (s : State) (r : BRec) : State :=
  let r := { r with rnum := s.brw.nextRnum }
  let s := { s with brw := { s.brw with staging := s.brw.staging ++ [(⟨r, s.now, s.brw.anchored⟩ : Staged)]
                                        nextRnum := s.brw.nextRnum + 1 } }
  if s.brw.anchored then s.toNeighbours (s.recordMsg r) else s

/-- Place a record in staging (R504). A full staging buffer counts it (R507); after staging has closed in a
final flush it is lost uncounted (R509); with the fabric in reset there is no recorder to place it. -/
def State.stageRec (s : State) (r : BRec) : State :=
  if s.inRst .fabric ∨ s.pin.stagingClosed then s
  else if stagingBytes < s.brw.staged + r.len then
    let s := if s.brw.owedFull = 0 then s.report 0xA00 0x82 1 2 else s
    { s with brw := { s.brw with lostFull := s.brw.lostFull + 1, owedFull := s.brw.owedFull + 1 } }
  else s.appendRec r

/-- Write a Barrow record (R503, R504). -/
def State.stage (s : State) (type sub : Nat) (payload : List Byte) (flush : Bool := false) : State :=
  s.stageRec (s.newRec type sub payload flush)

/-! ### Messages delivered over Heathline -/

/-- Take the oldest delivered message of class 1 with a record TYPE out of the delivery queue (R419). -/
def State.takeInbox (s : State) (type : Nat) : State :=
  match s.htl.inbox.find? (fun m => m.cls == 1 && m.service == 1 && ofBe (m.payload.take 1) == type) with
  | none => s
  | some m => { s with htl := { s.htl with inbox := s.htl.inbox.erase m } }

/-- Take the oldest delivered message of another service out of the delivery queue (R418). -/
def State.takeMsg (s : State) (service : Nat) : State :=
  match s.htl.inbox.find? (fun m => m.service == service) with
  | none => s
  | some m => { s with htl := { s.htl with inbox := s.htl.inbox.erase m } }

/-! ### Notifications and telemetry -/

/-- Types of the model's telemetry items: the specification gives none a code (log entry 11). -/
def tStatus : Nat := 1
/-- A fault message. -/
def tFault : Nat := 2
/-- A ledger record. -/
def tLedger : Nat := 3
/-- A finding. -/
def tFinding : Nat := 4
/-- A notification. -/
def tNotify : Nat := 5
/-- A telemetry seal. -/
def tSeal : Nat := 6

/-- Send one message to one manager through the firmware, while it runs (R547, R560). -/
def State.sendMsg (s : State) (m : MsgType) (dest : Mgr) (code ref result : Nat) (payload : List Byte) : State :=
  if !s.mbx.fwRunning then s else
  { s with mbx := { s.mbx with
      sent := s.mbx.sent ++ [⟨m, dest, code, s.mbx.txSeq, ref, result, payload⟩]
      txSeq := s.mbx.txSeq + 1 } }

/-- The head to which telemetry goes: none also while its LINK_STATE records do not show HEAD (R429, R571). -/
def State.telemetryHead (s : State) : Option Nat :=
  match s.htl.head with
  | none => none
  | some h => if h = s.member ∨ ((s.recOf h).map LinkRec.head).getD true then some h else none

/-- Put an item on its way (R540, R570, R571): to the head over Heathline, or, at the head itself and with no head,
to both managers. The items stay listed until they are sealed. -/
def State.item (s : State) (type : Nat) (content : List Byte) : State :=
  let s := { s with mbx := { s.mbx with items := s.mbx.items ++ [(⟨type, s.member, content⟩ : TItem)] } }
  let bytes := [BitVec.ofNat 8 type, BitVec.ofNat 8 s.member] ++ beBytes 2 content.length ++ content
  match s.telemetryHead with
  | some h =>
    if h = s.member then (s.sendMsg .telemetry .a 0 0 0 bytes).sendMsg .telemetry .b 0 0 0 bytes
    else s.htlSend 4 5 h bytes
  | none => (s.sendMsg .telemetry .a 0 0 0 bytes).sendMsg .telemetry .b 0 0 0 bytes

/-- A notification of R569: NOTIFY to both managers with one sequence number while the firmware runs, and a
telemetry item. -/
def State.notify (s : State) (code : Nat) (content : List Byte) : State :=
  let s := s.item tNotify (BitVec.ofNat 8 code :: content)
  if s.mbx.fwRunning then
    { s with mbx := { s.mbx with
        sent := s.mbx.sent ++ [⟨.notify, .a, code, s.mbx.txSeq, 0, 0, content⟩,
                               ⟨.notify, .b, code, s.mbx.txSeq, 0, 0, content⟩]
        txSeq := s.mbx.txSeq + 1 } }
  else s

/-! ### The throttle ledger (R401 to R403) -/

/-- The 32-byte ledger record of an entry (R402). -/
def LedgerEntry.bytes (e : LedgerEntry) (closing : Bool) (stop : Nat) : List Byte :=
  [BitVec.ofNat 8 e.kind, BitVec.ofNat 8 e.reason, BitVec.ofNat 8 e.step,
   BitVec.ofNat 8 (b2n closing + 2 * b2n e.emergency + 4 * b2n e.steward)]
  ++ beBytes 3 e.tag ++ [0] ++ beBytes 2 e.floor ++ [0, 0] ++ beBytes 4 e.action ++ beBytes 6 e.start
  ++ (if closing then beBytes 6 stop ++ beBytes 4 (sat (2 ^ 32 - 1) (stop - e.start))
      else List.replicate 10 0)

/-- A ledger record goes to Barrow and to telemetry (R402). -/
def State.ledgerRecord (s : State) (e : LedgerEntry) (closing : Bool) : State :=
  let b := e.bytes closing s.opMs
  (s.stage 0x17 0 b).item tLedger b

/-- An entry of reason `r` is open. -/
def Ccd.openReason (c : Ccd) (r : Nat) : Bool := c.ledger.any (fun e => e.reason == r)

/-- Open a ledger entry: record, count and time of its reason (R401 to R403). -/
def State.openLedger (s : State) (e : LedgerEntry) : State :=
  let e := { e with start := s.opMs }
  let c := s.ccd
  let since := if c.openReason e.reason then c.ldgSince else c.ldgSince.set e.reason (some s.now)
  let s := { s with ccd := { c with ledger := c.ledger ++ [e], ldgSince := since
                                    ldgCount := upd c.ldgCount e.reason (· + 1) } }
  s.ledgerRecord e false

/-- Close a ledger entry. -/
def State.closeLedger (s : State) (e : LedgerEntry) : State :=
  let l := s.ccd.ledger.erase e
  let s' := { s with ccd := { s.ccd with ledger := l } }
  let s' := if s'.ccd.openReason e.reason then s' else
    match s'.ccd.ldgSince.getD e.reason none with
    | none => s'
    | some t => { s' with ccd := { s'.ccd with
        ldgTime := upd s'.ccd.ldgTime e.reason (· + (s.now - t))
        ldgSince := s'.ccd.ldgSince.set e.reason none } }
  s'.ledgerRecord e true

/-- Close every open entry that `p` selects, oldest first. -/
def State.closeLedgers (s : State) (p : LedgerEntry → Bool) : State :=
  (s.ccd.ledger.filter p).foldl (fun s e => s.closeLedger e) s

/-- A LIMIT entry of a reason (R401). -/
def limitEntry (reason : Nat) : LedgerEntry := ⟨3, reason, 0, false, false, 0, 0, 0, 0⟩

/-- Keep a LIMIT entry of a reason open exactly while `on`. -/
def State.limitWhile (s : State) (reason : Nat) (on : Bool) : State :=
  let opened := s.ccd.ledger.any (fun e => e.kind == 3 && e.reason == reason)
  if on && !opened then s.openLedger (limitEntry reason)
  else if !on && opened then s.closeLedgers (fun e => e.kind == 3 && e.reason == reason)
  else s

end Sys2Proof.Machine
end

