-- ==== Sys2Proof/Machine/VoterOps.lean ====
section
/-! DEFINITION. The voter's counting logic (chapter 5): disagreements, fences, latches, the stop, and what the voter's
registers show. -/
namespace Sys2Proof.Machine

/-- Every gate output low and every leg's switches off. -/
def State.gatesLow (s : State) : State :=
  { s with pool := { s.pool with
             waiting := none
             legs := s.pool.legs.map (fun l => if l.drive = .off then l else { l with drive := .off, lowSince := s.now }) } }

/-- A lane takes part in the comparison: it votes or runs in shadow (R127). -/
def Vote.compared (v : Vote) : Bool := v == .voting || v == .shadow

/-- Disagreements of a lane within the fence window, the present period included (R132). -/
def State.windowCount (s : State) (x : Lane) : Nat :=
  ((s.lane x).window.filter (fun m => decide (s.vot.mark.toNat < m + s.lfldN .lanesFenceWindow))).length

/-- VOT_STATUS (R149). -/
def State.votStatus (s : State) : Word :=
  let v := s.vot
  let f := fun (x : Lane) => b2n ((s.lane x).vote != .voting)
  pack [(22, 2, (s.lane .c).vote.code), (20, 2, (s.lane .b).vote.code), (18, 2, (s.lane .a).vote.code),
        (16, 2, s.voting.length), (5, 1, b2n v.stopLatch), (4, 1, b2n v.killLatch), (3, 1, b2n v.formed),
        (2, 1, f .c), (1, 1, f .b), (0, 1, f .a)]

/-- VOT_WINDOW (R149). -/
def State.votWindow (s : State) : Word :=
  pack [(16, 8, sat 255 (s.windowCount .c)), (8, 8, sat 255 (s.windowCount .b)), (0, 8, sat 255 (s.windowCount .a))]

/-- VOT_TOTAL_x (R149). -/
def State.votTotal (s : State) (x : Lane) : Word :=
  pack [(24, 8, sat 255 (s.lane x).fences), (0, 24, sat (2 ^ 24 - 1) (s.lane x).total)]

/-- Set bit `i` of VOT_EVENT (R149). -/
def State.votEvent (s : State) (i : Nat) : State := { s with vot := { s.vot with event := setBit s.vot.event i } }

/-- The LANE record of a fence, a rejoin or a latch (R132, R137, R139, R584). -/
def State.laneRecord (s : State) (sub : Nat) (x : Lane) (kind : Nat) : State :=
  s.stage 0x13 sub ([BitVec.ofNat 8 x.num, BitVec.ofNat 8 kind, 0, 0] ++ leBytes 4 s.votWindow.toNat
    ++ leBytes 4 (s.votTotal x).toNat ++ leBytes 4 s.votStatus.toNat)

/-- The stage stops (R140 to R142): every gate low, the stop latch and its event, the setpoint links at high impedance,
the retained leg record taken, and the vote no longer formed. `detail`: 0 two lanes disagree, 1 fewer than two voting,
2 no snapshot majority. -/
def State.disagreeStop (s : State) (detail : Nat) : State :=
  if s.vot.stopLatch then s else
  let s := s.gatesLow
  let kept := s.pool.legs.map (fun (l : Leg) => if l.state.kept then some l.state else none)
  let s := { s with
    vot := { s.vot with stopLatch := true, formed := false, retained := kept, useRetained := true
                        clearSince := none, waitSince := none }
    fes := { s.fes with link := 0 } }
  let s := s.votEvent 8
  s.report 0x400 0x22 s.votStatus.toNat detail

/-- Fences of a lane within the last hour of operating time (R139). -/
def State.hourFences (s : State) (x : Lane) : List Nat :=
  (s.lane x).fenceTimes.filter (fun m => decide (s.opMs < m + 3600000))

/-- A voting lane is fenced, or latched when the fence would be one too many within an hour; a fence that would leave
fewer than two lanes voting stops the stage (R132 to R134, R139). `kind` is that of the completing disagreement, or 4. -/
def State.fence (s : State) (x : Lane) (kind : Nat) : State :=
  if (s.lane x).vote ≠ .voting ∨ s.vot.stopLatch then s
  else if s.voting.length < 3 then s.disagreeStop (if kind = 4 then 1 else 0)
  else
    let s := if kind = 4 then s.updLane x (fun l => { l with window := [] }) else s
    let hour := s.hourFences x
    if s.lfldN .lanesRefenceMax ≤ hour.length then
      let s := (s.updLane x (fun l => { l with vote := .latched, clean := 0 })).votEvent 7
      (s.laneRecord 2 x kind).report (0x300 + x.num) 0x21 x.num
    else
      let s := s.updLane x (fun l => { l with vote := .shadow, clean := 0, dirty := false, reloadIn := 3, own := false
                                              reloads := 0, fences := l.fences + 1, fenceTimes := s.opMs :: hour })
      let s := (s.votEvent x.num).laneRecord 0 x kind
      s.report (0x300 + x.num) 0x20 x.num kind

/-- A lane whose clock fails, that enters reset or whose watchdog fires is fenced at once (R133). -/
def State.fenceNow (s : State) (x : Lane) : State := s.fence x 4

/-- What the voter counts a disagreement of this kind once per period by (R128). -/
def disKey (kind gate : Nat) : Nat := match kind with | 0 => gate % 64 | 1 => 64 | _ => 65

/-- A lane disagrees (R127, R128, R132, R136, R140): counted at most once; with two lanes voting a gate or strobe
disagreement of a voting lane stops the stage; otherwise the count may complete a fence. A shadow lane's period is not
clean. -/
def State.disagree (s : State) (x : Lane) (kind gate sect : Nat) : State :=
  let l := s.lane x
  if !l.vote.compared ∨ s.vot.stopLatch ∨ l.counted.contains (disKey kind gate) then s else
  let m := s.vot.mark.toNat
  let s := s.updLane x (fun l => { l with
    counted := disKey kind gate :: l.counted
    window := m :: l.window.filter (fun y => decide (m < y + s.lfldN .lanesFenceWindow))
    total := l.total + 1, lastKind := kind, dirty := true })
  let s := { s with vot := { s.vot with lastLane := x.num, lastKind := kind, lastGate := if kind = 0 then gate else 0
                                        lastSection := if kind = 2 then sect else 0, lastMark := m } }
  if l.vote = .shadow then s
  else if s.voting.length ≤ 2 ∧ kind < 2 then s.disagreeStop 0
  else if s.lfldN .lanesFenceN ≤ s.windowCount x then s.fence x kind
  else s

end Sys2Proof.Machine
end

