-- ==== Sys2Proof/Machine/ResetOps.lean ====
section
/-! DEFINITION. Asserting a reset source, entering reset, and releasing a domain (chapter 15): the
operations that every block that can reset the conductor shares. -/
namespace Sys2Proof.Machine

/-- A level reaches a domain (R464); at L1 it reaches the lanes named. -/
def reaches (level : Nat) (lanes : List Lane) (d : Dom) : Bool :=
  (match d with
   | .lane x => lanes.contains x && level != 0
   | _ => false) ||
  (match level with
   | 2 => d == .planning || d == .swardPower
   | 3 => d == .planning
   | 4 | 5 => true
   | _ => false)

/-- Some asserted source reaches a domain (R472). -/
def State.heldBy (s : State) (d : Dom) : Bool :=
  s.core.srcs.any (fun c => c.asserted && reaches c.level c.lanes d)

/-- An asserted source other than L1 sources of that lane reaches it (R474). -/
def State.heldAbove (s : State) (d : Dom) : Bool :=
  s.core.srcs.any (fun c => c.asserted && decide (2 ≤ c.level) && reaches c.level [] d)

/-- An L4 or L5 episode is in progress: a flush window runs, or a source of that level is asserted. -/
def State.episode (s : State) : Bool :=
  s.core.flush.isSome || s.core.srcs.any (fun c => c.asserted && decide (4 ≤ c.level))

/-- RST_SOURCES (R481). -/
def Core.sources (c : Core) : Nat :=
  ((List.range 15).map (fun i => (b2n (c.srcs.getD i ⟨false, 0, none, 0, []⟩).asserted) * 2 ^ i)).foldl (· + ·) 0

/-- Fused level of a source (R466). -/
def State.fused (s : State) (src : Src) : Nat := s.nv.fuse.levels.getD src.code 0

/-- A source is a pulse (R466); a fence is a pulse unless the lane is latched. -/
def srcPulse : Src → Bool
  | .powerOn | .brownOut | .resetPin => false
  | _ => true

/-- 256 always-on cycles (R466). -/
def pulseNs : Nat := 10240

/-- Level of larger reach: L1 below L3 below L2 below L4 below L5 (R464). -/
def widerLevel (a b : Nat) : Nat :=
  let rank : Nat → Nat := fun l => match l with | 0 => 0 | 1 => 1 | 3 => 2 | 2 => 3 | 4 => 4 | _ => 5
  if rank a < rank b then b else a

/-- The internal stage-kill line is driven: gates low without a clock, and the kill latch set (R44, R145,
R470, R583). -/
def State.driveKill (s : State) : State :=
  let s := s.gatesLow
  { s with vot := { s.vot with killLine := true, killLatch := true } }

/-- Close the channels that end in a domain (R68). -/
def State.closeChans (s : State) (d : Dom) : State :=
  { s with closed := s.closed ++ (Chan.all.filter (fun c => c.ends.contains d && !s.closed.contains c)) }

/-- A lane's state through an L1 reset: the voter's record of the lane stays (R138, R465). -/
def LaneSt.l1 (l : LaneSt) : LaneSt :=
  { LaneSt.reset with tripWait := l.tripWait, total := l.total, fences := l.fences, fenceTimes := l.fenceTimes, lastKind := l.lastKind
                      window := l.window, vote := if l.vote = .latched then .latched else .reset }

/-- A tussock through an L3 (R294): its SRAM is kept and it returns to IDLE. -/
def Tus.l3 (x : Tus) : Tus :=
  match x.st with
  | .reset => x
  | .failed => x
  | .off => x
  | _ => { Tus.reset with st := .idle, sram := x.sram, granted := x.granted, requested := x.requested, clock := x.clock
                          cycles := x.cycles, cyclesAt := x.cyclesAt }

/-- The sward through an L3 (R294): the periphery restarts, the tussocks keep their power. -/
def Swd.l3 (d : Swd) : Swd :=
  { Swd.reset with powered := d.powered, shed := d.shed, tus := d.tus.map Tus.l3, lock := d.lock, clkFault := d.clkFault
                   govEvents := d.govEvents, meshUp := d.meshUp, reject := d.reject, areas := d.areas }

/-- What a domain that an L1, L2 or L3 reaches loses (R465). -/
def State.loseDomain (s : State) (d : Dom) : State :=
  match d with
  | .lane x => s.updLane x LaneSt.l1
  | .planning => { s with latches := s.latches.filter (fun p => decide (p.1 < 0x01000000))
                          plan := { s.plan with lastSeq := none, chan := [] }
                          emit := { s.emit with written := none, markAt := none }, lex := { s.lex.kept with returning := true }
                          swd := s.swd.l3 }
  | .swardPower =>
    { s with swd := { Swd.reset with govEvents := s.swd.govEvents, shed := s.swd.shed, areas := s.swd.areas }
             emit := Emit.reset }
  | _ => s

/-- One domain enters reset (R470). -/
def State.enterDomain (s : State) (d : Dom) : State :=
  if s.inRst d then s else
  let s := { s with core := { s.core with doms := upd s.core.doms d.bit (fun _ => ⟨true, s.now, 0⟩) } }
  let s := match d with
    | .lane x => s.fenceNow x
    | _ => s
  (s.loseDomain d).closeChans d

/-- Every domain enters reset at an L4 or L5: what each keeps (R464, R465, R471, R481). -/
def State.enterFull (s : State) : State :=
  let l5 := decide (s.core.lastLevel = 5)
  let doms := List.replicate 10 (⟨true, s.now, 0⟩ : DomState)
  let c := s.core
  let core : Core :=
    if l5 then
      { Core.reset with srcs := c.srcs, doms := doms, lastLevel := 5, lastSource := c.lastSource, last := c.last
                        opStart := s.now, owedMode := some s.aon.mode, bringupStart := s.now }
    else
      { c with doms := doms, bringup := true, mgmtLate := false, flush := none, countL4 := c.countL4 + 1
               mwdogTimeout := 0x0C8, mwdog := none, bringupMs := 0, owedRecords := [], idsolSignal := none
               owedMode := some s.aon.mode, bringupStart := s.now }
  { State.reset with now := s.now, pending := s.pending, free := s.free, nv := s.nv, pin := s.pin, core := core }

/-- The recorder at the start of a flush window: it stages a RESET record with FLAGS bit 3, which goes to both
neighbours (R508, R510). -/
def State.flushStart (s : State) (level : Nat) : State :=
  { s with brw := { s.brw with flush := true } }.stage 0x03 level (leBytes 4 s.core.sources) true

/-- A source asserts a level (R466, R470, R471), as a level until it is released with `hold`. During the power-fail
sequence it waits for its end (R45). -/
def State.assertSource (s : State) (src : Src) (level : Nat) (lanes : List Lane) (hold : Bool) : State :=
  if level = 0 then s
  else if s.pin.powerFail.isSome ∧ src ≠ .powerOn ∧ src ≠ .brownOut then
    { s with pin := { s.pin with deferred := s.pin.deferred ++ [(src, level)] } }
  else
  let was := s.episode
  let old := s.core.srcs.getD src.code ⟨false, 0, none, 0, []⟩
  let new : SrcState :=
    if old.asserted then
      { old with level := widerLevel old.level level, lanes := old.lanes ++ lanes
                 pulseEnd := if srcPulse src && !hold then some (s.now + pulseNs) else none }
    else ⟨true, level, if srcPulse src && !hold then some (s.now + pulseNs) else none, old.released, lanes⟩
  let s := { s with core := { s.core with srcs := s.core.srcs.set src.code new } }
  if 4 ≤ level then
    let core := s.core
    let bits := BitVec.ofNat 15 core.sources
    let core := { core with
      last := if was then core.last ||| bits else bits
      lastLevel := if was then max core.lastLevel level else level
      lastSource := if was then core.lastSource else src.code }
    let s := { s with core := core }
    if src = .powerOn ∨ src = .brownOut then
      ({ s with core := { s.core with flush := none } }).enterFull
    else if was then s
    else
      let s := s.driveKill
      let s := { s with core := { s.core with flush := some s.now } }
      if s.inRst .fabric then s else s.flushStart level
  else if was then
    { s with core := { s.core with last := s.core.last ||| BitVec.ofNat 15 s.core.sources } }
  else
    let bit := 2 ^ src.code
    let core := { s.core with
      countL1 := if level = 1 then s.core.countL1 + 1 else s.core.countL1
      countL2 := if level = 2 then s.core.countL2 + 1 else s.core.countL2
      countL3 := if level = 3 then s.core.countL3 + 1 else s.core.countL3
      lastLevel := level, lastSource := src.code
      owedRecords := s.core.owedRecords ++ [(level, bit)] }
    let s := { s with core := core
                      vot := { s.vot with shedCond := s.vot.shedCond || level == 2
                                          restartCond := s.vot.restartCond || level == 3 } }
    (Dom.all.filter (reaches level lanes)).foldl (fun s d => s.enterDomain d) s

/-- A latched lane is held in reset through the voter fence source (R139). -/
def State.holdLatched (s : State) : State :=
  Lane.all.foldl (fun (s : State) x =>
    let held := (s.core.srcs.getD (Src.fence x).code ⟨false, 0, none, 0, []⟩).asserted
    if (s.lane x).vote = Vote.latched ∧ !held then s.assertSource (.fence x) (s.fused (.fence x)) [x] true else s) s

/-- A source asserts a level (R466): a lane it resets is fenced at once, and a lane so latched is held (R133, R139). -/
def State.assertReset (s : State) (src : Src) (level : Nat) (lanes : List Lane := []) : State :=
  (s.assertSource src level lanes false).holdLatched

/-- A source releases (R466, R472). The release of the last source of an L4 or L5 episode begins bring-up; an
L5's operating time counts from it (R498). -/
def State.releaseSrc (s : State) (src : Src) : State :=
  let old := s.core.srcs.getD src.code ⟨false, 0, none, 0, []⟩
  if !old.asserted then s else
  let s := { s with core := { s.core with
    srcs := s.core.srcs.set src.code { old with asserted := false, pulseEnd := none, released := s.now } } }
  if decide (4 ≤ old.level) && !s.episode then
    { s with core := { s.core with bringupStart := s.now
                                   opStart := if old.level = 5 then s.now else s.core.opStart
                                   opBase := if old.level = 5 then 0 else s.core.opBase } }
  else s

/-- Always-on cycles of 40 ns. -/
def aonCycles (n : Nat) : Nat := 40 * n

/-- Predecessor of a domain in the release order, and its gap (R473). -/
def releaseOrder : Dom → Option Dom × Nat
  | .aon => (none, aonCycles 256)
  | .idsol => (some .aon, aonCycles 1536)
  | .fabric => (some .idsol, aonCycles 2048)
  | .lane .a => (some .fabric, aonCycles 1536)
  | .lane .b => (some (.lane .a), aonCycles 256)
  | .lane .c => (some (.lane .b), aonCycles 256)
  | .mgmt => (some (.lane .c), aonCycles 256)
  | .htlFrz => (some .mgmt, aonCycles 1024)
  | .swardPower => (some .htlFrz, aonCycles 2560)
  | .planning => (some .swardPower, aonCycles 2560)

/-- Release of the last source that reached a domain (R473). -/
def State.lastReach (s : State) (d : Dom) (above : Bool) : Time :=
  s.core.srcs.foldl (fun m c => if !c.asserted && reaches c.level (if above then [] else c.lanes) d &&
    (!above || decide (2 ≤ c.level)) then max m c.released else m) 0

/-- A domain's own reset state. -/
def State.dom (s : State) (d : Dom) : DomState := s.core.doms.getD d.bit ⟨true, 0, 0⟩

/-- A lane's release point while it is held only by its own L1 sources, or its release (R474). -/
def State.lanePoint (s : State) (x : Lane) (prev : Option Time) : Option Time :=
  let d := s.dom (.lane x)
  if !d.inReset then some d.release
  else if s.heldAbove (.lane x) then none
  else prev.map (fun p => max p (max (s.lastReach (.lane x) true) d.entered) + (releaseOrder (.lane x)).2)

/-- A domain's release point, if it has one (R474). -/
def State.point (s : State) (d : Dom) : Option Time :=
  let f := s.dom .fabric
  let pf := if f.inReset then none else some f.release
  let pa := s.lanePoint .a pf
  let pb := s.lanePoint .b pa
  let pc := s.lanePoint .c pb
  match d with
  | .lane .a => pa
  | .lane .b => pb
  | .lane .c => pc
  | d => if (s.dom d).inReset then none else some (s.dom d).release

/-- Further conditions of R473. -/
def State.furtherOk (s : State) (d : Dom) : Bool :=
  match d with
  | .fabric => s.core.idsolSignal.isSome
  | .swardPower => s.inForce && !s.core.coolLost && s.core.coolJudged && !s.swd.shed && !s.aon.thermShed
  | .planning => s.inForce && !s.swd.shed && !s.aon.thermShed
  | _ => true

/-- A domain may leave reset now (R472, R473). -/
def State.mayRelease (s : State) (d : Dom) : Bool :=
  let own := max (s.lastReach d false) (s.dom d).entered
  let after : Option Time := match d with
    | .aon => some (own + (releaseOrder d).2)
    | .planning => (s.point .swardPower).map (fun p => max p (own + (releaseOrder d).2))
    | _ => match (releaseOrder d).1 with
      | none => some own
      | some p => (s.point p).map (fun t => max t own + (releaseOrder d).2)
  (s.dom d).inReset && !s.heldBy d && !s.episode && s.furtherOk d &&
    (match after with | none => false | some t => decide (t ≤ s.now))

end Sys2Proof.Machine
end

