-- ==== Sys2Proof/Machine/Barrow.lean ====
section
/-! DEFINITION. The Barrow recorder (chapter 17): commit, checkpoint, replay, restoration, neighbours, the
reading window, clearing, and the commands of the chapter. -/
namespace Sys2Proof.Machine

/-- Own records below this number are kept for the life of the module (R497). -/
def keepSlots : Nat := 4096

/-- Slots of the ring and of each neighbour store (R497). -/
def ringSlots : Nat := 2 ^ 20

/-- Slot of a record in the ring (R497). -/
def ringSlot (r : Nat) : Nat := (r - keepSlots) % ringSlots

/-- Copy one committed record to its slot: keep below 4096, else the ring slot (R497). -/
def Lu3.place (l : Lu3) (r : BRec) : Lu3 :=
  if r.rnum < keepSlots then
    if l.keep.any (fun x => x.rnum == r.rnum) then l else { l with keep := l.keep ++ [r] }
  else { l with ring := l.ring.filter (fun x => ringSlot x.rnum != ringSlot r.rnum) ++ [r] }

/-- Copy records to their slots, in order. -/
def Lu3.placeAll (l : Lu3) (rs : List BRec) : Lu3 := rs.foldl Lu3.place l

/-- Bytes of a segment in the journal: whole 4 KiB blocks of records, and a header block (R504). -/
def Segment.size (g : Segment) : Nat := ((sumNat (g.recs.map BRec.len) + 4095) / 4096 + 1) * 4096

/-- The journal is a ring of 64 MiB: drop the oldest segments that a new one overwrites (R497). -/
def trimJournal : Nat → List Segment → List Segment
  | 0, l => l
  | n + 1, l => if 64 * 2 ^ 20 < sumNat (l.map Segment.size) then trimJournal n l.tail else l

/-- A segment is written to the journal. -/
def Lu3.addSegment (l : Lu3) (g : Segment) : Lu3 :=
  let j := l.journal ++ [g]
  { l with journal := trimJournal j.length j }

/-- The newer valid checkpoint governs (R505). -/
def Lu3.ckpt (l : Lu3) : Option Checkpoint :=
  match l.ckptA, l.ckptB with
  | some a, some b => if b.gen < a.gen then some a else some b
  | some a, none => some a
  | none, b => b

/-- Segments of the journal that a replay copies: those after the checkpoint's last copied one, up to the first
that fails (R506). -/
def Lu3.toReplay (l : Lu3) : List Segment :=
  let from_ := match l.ckpt with | some c => c.lastCopied + 1 | none => 0
  (l.journal.filter (fun g => decide (from_ ≤ g.num))).takeWhile (fun g => g.valid)

/-- Replay (R506): copy those segments to their slots, and discard the first that fails and all after it. -/
def Lu3.replay (l : Lu3) : Lu3 :=
  let good := l.toReplay
  let l' := l.placeAll (good.flatMap Segment.recs)
  { l' with journal := l.journal.takeWhile (fun g => g.valid) }

/-- The newest committed record. -/
def Lu3.newest (l : Lu3) : Option BRec :=
  (l.keep ++ l.ring).foldl (fun m r => match m with
    | none => some r
    | some x => if x.rnum < r.rnum then some r else some x) none

/-- Write a checkpoint, alternately to A and B (R505). -/
def State.writeCkpt (s : State) : State :=
  let l := s.nv.lu3
  let gen := match l.ckpt with | some c => c.gen + 1 | none => 0
  let c : Checkpoint :=
    { gen := gen, pcc := s.core.pcc, optime := s.opMs, newest := s.brw.committed, oldest := s.brw.oldestRnum
      lastCopied := s.brw.lastCopied, heldE := l.captureE.isSome, heldW := l.captureW.isSome
      storeE := (l.storeE.member, l.storeE.recs.foldl (fun m r => max m r.rnum) 0)
      storeW := (l.storeW.member, l.storeW.recs.foldl (fun m r => max m r.rnum) 0) }
  let useB := match l.ckptA, l.ckptB with
    | some a, some b => decide (b.gen < a.gen)
    | some _, none => true
    | none, _ => false
  let l := if useB then { l with ckptB := some c } else { l with ckptA := some c }
  { s with nv := { s.nv with lu3 := l }, brw := { s.brw with lastCheckpoint := s.now, toCopy := false } }

/-- The first `n` staged records become one journal segment, committed and copied to their slots (R504). -/
def State.commit (s : State) (n : Nat) : State :=
  let rs := (s.brw.staging.take n).map (fun x => x.item)
  match rs.getLast? with
  | none => s
  | some last =>
    let g : Segment := ⟨s.brw.nextSegment, rs, true⟩
    let l := (s.nv.lu3.addSegment g).placeAll rs
    { s with nv := { s.nv with lu3 := l }
             brw := { s.brw with staging := s.brw.staging.drop n, committed := last.rnum
                                 nextSegment := g.num + 1, lastCopied := g.num, toCopy := true
                                 commitFailedAt := none, ioFail := false } }

/-- A LOSS record with the counts since the previous one, which each commit that follows a loss carries
(R507); it is staged even with staging full. -/
def State.stageLoss (s : State) : State :=
  if s.brw.owedRate + s.brw.owedFull = 0 then s else
  let p := leBytes 4 (sat (2 ^ 32 - 1) s.brw.owedRate) ++ leBytes 4 (sat (2 ^ 32 - 1) s.brw.owedFull)
  let s := s.appendRec (s.newRec 0x07 0 p s.brw.flush)
  { s with brw := { s.brw with owedRate := 0, owedFull := 0 } }

/-- BARROW_IO (R507): area code and detail. -/
def State.barrowIo (s : State) (area detail : Nat) : State := s.report 0xA00 0x82 area detail

/-- JOURNAL_COMMIT (R504): a commit begins when staging holds 256 KiB, or when the oldest staged record is
10 ms old, once the recorder is anchored. -/
def execJournalCommit (t : Time) (s : State) : Host.Outcome State Fault Refusal :=
  let s := s.at_ t
  let due := decide (256 * 1024 ≤ s.brw.staged) ||
    (match s.brw.staging with | [] => false | x :: _ => s.elapsed x.stagedAt (10 * ms))
  if s.inRst .fabric ∨ !s.brw.anchored ∨ s.brw.committing.isSome ∨ s.brw.commitFailedAt.isSome ∨ !due then .next s
  else
    let s := s.stageLoss
    .next { s with brw := { s.brw with committing := some s.brw.staging.length } }

/-- COMMIT_COMPLETE (R504, R507): the segment's header is written and its records are copied to their slots; or
the commit fails, which is reported and retried. -/
def execCommitComplete (t : Time) (ok : Bool) (s : State) : Host.Outcome State Fault Refusal :=
  let s := s.at_ t
  match s.brw.committing with
  | none => .next s
  | some n =>
    let s := { s with brw := { s.brw with committing := none } }
    if ok then .next (s.commit n)
    else .next ({ s with brw := { s.brw with ioFail := true, commitFailedAt := some s.now } }.barrowIo 1 1)

/-- COMMIT_RETRY (R507): 10 ms after a failed commit the recorder tries again. -/
def execCommitRetry (t : Time) (s : State) : Host.Outcome State Fault Refusal :=
  let s := s.at_ t
  match s.brw.commitFailedAt with
  | none => .next s
  | some t0 =>
    if s.elapsed t0 (10 * ms) ∧ s.brw.committing = none then
      let s := s.stageLoss
      .next { s with brw := { s.brw with commitFailedAt := none, committing := some s.brw.staging.length } }
    else .next s

/-- CHECKPOINT (R505): while segments have been copied since the last one. -/
def execCheckpoint (t : Time) (s : State) : Host.Outcome State Fault Refusal :=
  let s := s.at_ t
  if s.inRst .fabric ∨ !s.brw.anchored ∨ !s.brw.toCopy then .next s
  else if s.brw.ioFail then .next (s.barrowIo 0 1)
  else .next s.writeCkpt

/-- Number staged records from `n` on, each stamped with the power-cycle count and with `b` ms added (R499). -/
def renumber (n pcc b : Nat) (unanchored : Bool) : List Staged → List Staged
  | [] => []
  | x :: l =>
    { x with item := { x.item with rnum := n, pcc := pcc, optime := x.item.optime + b
                                   flags := if unanchored then setBit x.item.flags 4 else x.item.flags } }
      :: renumber (n + 1) pcc b unanchored l

/-- Send every staged record that has not gone to the neighbours, in order (R510). -/
def State.mirrorStaged (s : State) : State :=
  let s := (s.brw.staging.filter (fun x => !x.mirrored)).foldl (fun s x => s.toNeighbours (s.recordMsg x.item)) s
  { s with brw := { s.brw with staging := s.brw.staging.map (fun x => { x with mirrored := true }) } }

/-- Add `b` ms to every operating time already held (R499 step 3). -/
def State.addOp (s : State) (b : Nat) : State :=
  let f : LaneSt → LaneSt := fun l => { l with fenceTimes := l.fenceTimes.map (· + b) }
  let s := s.updLanes f
  { s with
    core := { s.core with opBase := s.core.opBase + b }
    aon := { s.aon with modeTime := s.aon.modeTime + b
                        stopWatch := s.aon.stopWatch.map (fun w => { w with start := w.start + b }) }
    flt := { s.flt with bringupEndMs := s.flt.bringupEndMs.map (· + b) }
    mbx := { s.mbx with aloneSince := s.mbx.aloneSince + b, fwSince := s.mbx.fwSince + b }
    ids := { s.ids with kbcBorn := s.ids.kbcBorn + b / 1000 }
    ccd := { s.ccd with ledger := s.ccd.ledger.map (fun e => { e with start := e.start + b }) } }

/-- Steps 3 to 6 of R499: add the base, set the count, write a checkpoint, commit the ANCHOR record, and let
the staged records follow it. With LU3 unwritable the checkpoint and the commit fail under R507. -/
def State.anchor (s : State) (b pccBefore pcc source : Nat) (next : Nat) (writable : Bool) : State :=
  let un := decide (source = 2)
  let s := s.addOp b
  let s := { s with core := { s.core with pcc := pcc % 2 ^ 32 }
                    brw := { s.brw with unanchored := un, nextRnum := next } }
  let a0 := s.newRec 0x01 0 (leBytes 6 b ++ leBytes 4 pccBefore ++ [BitVec.ofNat 8 source]) false
  let a : BRec := { a0 with optime := b, rnum := next }
  let rest := renumber (next + 1) s.core.pcc b un s.brw.staging
  let s := { s with brw := { s.brw with staging := ⟨a, s.now, false⟩ :: rest
                                        nextRnum := next + 1 + rest.length } }
  let s := if writable then (s.writeCkpt).commit 1
    else (({ s with brw := { s.brw with ioFail := true, commitFailedAt := some s.now } }).barrowIo 0 1).barrowIo 1 1
  let s := { s with brw := { s.brw with anchored := true, replaying := false, queryAt := none } }
  (if writable then s.toNeighbours (s.recordMsg a) else s).mirrorStaged

/-- Send ANCHOR_QUERY to both neighbours (R500, R510). -/
def State.anchorQuery (s : State) : State :=
  { s.toNeighbours [2, BitVec.ofNat 8 s.member] with
    brw := { (s.toNeighbours [2, BitVec.ofNat 8 s.member]).brw with queryAt := some s.now } }

/-- The replayed contents of LU3 settle the numbers the recorder goes on with. -/
def State.afterReplay (s : State) : State :=
  let l := s.nv.lu3.replay
  let newest := ((l.newest).map BRec.rnum).getD 0
  let segs := l.journal.foldl (fun m g => max m (g.num + 1)) 0
  { s with nv := { s.nv with lu3 := l }
           brw := { s.brw with committed := newest, nextSegment := segs, lastCopied := segs - 1
                               oldestRnum := ((l.ckpt).map (fun c => c.oldest)).getD 0 } }

/-- BARROW_RESTORATION (R499, R500): after an L5, once the fabric is released. With neither checkpoint valid
and no committed record readable, the neighbours are asked once bring-up has ended. -/
def execBarrowRestoration (t : Time) (readable : Bool) (s : State) : Host.Outcome State Fault Refusal :=
  let s := s.at_ t
  if s.inRst .fabric ∨ s.brw.anchored ∨ s.core.lastLevel ≠ 5 ∨ s.brw.queryAt.isSome ∨ s.brw.ioFail then .next s
  else if !readable then
    let s := ({ s with brw := { s.brw with ioFail := true } }).barrowIo 0 0
    .next (if s.core.bringup then s else s.anchorQuery)
  else
    let s := s.afterReplay
    match s.nv.lu3.ckpt, s.nv.lu3.newest with
    | none, none =>
      let s := ({ s with brw := { s.brw with ioFail := true } }).barrowIo 0 3
      .next (if s.core.bringup then s else s.anchorQuery)
    | ck, nw =>
      let oc := (ck.map (fun c => c.optime)).getD 0
      let on := (nw.map (fun r => r.optime)).getD 0
      let before := match ck with | some c => c.pcc | none => (nw.map (fun r => r.pcc)).getD 0
      .next (s.anchor (max oc on + 1) before (before + 1) 0 (s.brw.committed + 1) true)

/-- L4_REPLAY (R586): after an L4 the recorder replays the journal, writes no ANCHOR, and is anchored. With LU3
unreadable the next RNUM is not known to it: a free value (log entry 13). -/
def execL4Replay (t : Time) (readable : Bool) (s : State) : Host.Outcome State Fault Refusal :=
  let s := s.at_ t
  if s.inRst .fabric ∨ s.brw.anchored ∨ s.core.lastLevel ≠ 4 then .next s
  else
    let s := if readable then
        let s := s.afterReplay
        { s with brw := { s.brw with nextRnum := s.brw.committed + 1 } }
      else
        let (v, s) := s.takeFree 64
        ({ s with brw := { s.brw with ioFail := true, nextRnum := v.toNat } }).barrowIo 1 0
    let st := renumber s.brw.nextRnum s.core.pcc 0 false s.brw.staging
    let s := { s with brw := { s.brw with staging := st, nextRnum := s.brw.nextRnum + st.length
                                          anchored := true, replaying := false } }
    .next s.mirrorStaged

/-- Restoration from what the neighbours answered, or without an anchor (R500). With nothing readable in LU3
the next RNUM is a free value (log entry 13). -/
def State.anchorFromReplies (s : State) : State :=
  let (v, s) := s.takeFree 64
  match s.brw.replies with
  | [] => (s.barrowIo 0 5).anchor 0 0 0 2 v.toNat false
  | rs =>
    let o := rs.foldl (fun m r => max m r.1) 0
    let p := rs.foldl (fun m r => max m r.2) 0
    s.anchor (o + 1000) p (p + 1) 1 v.toNat false

/-- ANCHOR_REPLY (R500, R510): a neighbour's newest OPTIME and PCC for this member; with both replies in,
restoration completes. -/
def execAnchorReply (t : Time) (p : Port) (optime pcc : Nat) (s : State) : Host.Outcome State Fault Refusal :=
  let s := s.at_ t
  if s.brw.queryAt.isNone ∨ s.brw.anchored ∨ (p ≠ Port.e ∧ p ≠ Port.w) then .next s
  else
    let s : State := { s.takeMsg 4 with brw := { s.brw with replies := s.brw.replies ++ [(optime, pcc)] } }
    .next (if 2 ≤ s.brw.replies.length then s.anchorFromReplies else s)

/-- ANCHOR_QUERY_TIMEOUT (R500): 10 s after the end of bring-up, with the replies there are. -/
def execAnchorQueryTimeout (t : Time) (s : State) : Host.Outcome State Fault Refusal :=
  let s := s.at_ t
  if s.brw.queryAt.isNone ∨ s.brw.anchored ∨
      !s.elapsed (s.core.bringupStart + s.core.bringupMs * ms) (10 * sec) then .next s
  else .next s.anchorFromReplies

/-- The store of a port (R511). -/
def Lu3.store (l : Lu3) : Port → NbrStore
  | .e => l.storeE
  | .w => l.storeW
  | _ => ⟨none, []⟩

/-- Set the store of a port. -/
def Lu3.setStore (l : Lu3) (p : Port) (x : NbrStore) : Lu3 :=
  match p with
  | .e => { l with storeE := x }
  | .w => { l with storeW := x }
  | _ => l

/-- Records of a store by operating time and count: the newest held. -/
def NbrStore.newest (x : NbrStore) : Option BRec :=
  x.recs.foldl (fun m r => match m with
    | none => some r
    | some y => if y.rnum < r.rnum then some r else some y) none

/-- ANCHOR_QUERY (R510): a neighbour asks for what its store here holds; zeros when there is none. -/
def execAnchorQuery (t : Time) (p : Port) (member : Nat) (s : State) : Host.Outcome State Fault Refusal :=
  let s := s.at_ t
  if s.inRst .fabric ∨ (p ≠ Port.e ∧ p ≠ Port.w) then .next s else
  let st := s.nv.lu3.store p
  let r := if st.member = some member then st.newest else none
  let o := (r.map (fun r => r.optime)).getD 0
  let c := (r.map (fun r => r.pcc)).getD 0
  .next ((s.takeMsg 4).brwSend p ([3, BitVec.ofNat 8 s.member] ++ beBytes 6 o ++ beBytes 4 c))

/-- Write a neighbour's record by the placement of R497, unless the slot holds that RNUM or a higher one
(R511). -/
def NbrStore.put (x : NbrStore) (r : BRec) : NbrStore :=
  if x.recs.any (fun y => y.rnum % ringSlots == r.rnum % ringSlots && decide (r.rnum ≤ y.rnum)) then x
  else { x with recs := x.recs.filter (fun y => y.rnum % ringSlots != r.rnum % ringSlots) ++ [r] }

/-- RECORD (R511): a neighbour's record is written into the store of its port; a record from another member
empties the store, which takes the new member and writes a NEIGHBOUR record. -/
def execRecord (t : Time) (p : Port) (member : Nat) (r : NbrRec) (s : State) : Host.Outcome State Fault Refusal :=
  let s := s.at_ t
  if s.inRst .fabric ∨ s.brw.ioFail ∨ (p ≠ Port.e ∧ p ≠ Port.w) then .next s else
  let s := s.takeMsg 4
  let rec_ : BRec := { rnum := r.rnum, type := r.type, flags := r.flags, pcc := r.pcc, optime := r.optime, sub := r.sub
                       rt := r.rt, wall := r.wall, payload := swapFields (fieldSizes r.type r.sub) r.payload }
  let st := s.nv.lu3.store p
  let put : State → NbrStore → State := fun s x => { s with nv := { s.nv with lu3 := s.nv.lu3.setStore p (x.put rec_) } }
  match st.member with
  | some m =>
    if m = member then .next (put s st)
    else
      let old := ((st.newest).map BRec.rnum).getD 0
      let s := put s ⟨some member, []⟩
      let s := { s with brw := if p = Port.e then { s.brw with oldestE := 0 } else { s.brw with oldestW := 0 } }
      .next (s.stage 0x08 0 ([BitVec.ofNat 8 p.num, BitVec.ofNat 8 m] ++ leBytes 8 old))
  | none => .next (put s ⟨some member, []⟩)

/-! ### Reading -/

/-- Records of an area that a reader can reach, own staged records included (R513). -/
def State.areaRecs (s : State) (a : BrwArea) : List BRec :=
  match a with
  | .ring => s.nv.lu3.keep ++ s.nv.lu3.ring.filter (fun r => decide (s.brw.oldestRnum ≤ r.rnum))
      ++ s.brw.staging.map (fun x => x.item)
  | .storeE => s.nv.lu3.storeE.recs.filter (fun r => decide (s.brw.oldestE ≤ r.rnum))
  | .storeW => s.nv.lu3.storeW.recs.filter (fun r => decide (s.brw.oldestW ≤ r.rnum))

/-- Least RNUM of a list of records. -/
def minRnum (l : List BRec) : Option Nat :=
  l.foldl (fun m r => match m with | none => some r.rnum | some x => some (min x r.rnum)) none

/-- Greatest RNUM of a list of records. -/
def maxRnum (l : List BRec) : Option Nat :=
  l.foldl (fun m r => match m with | none => some r.rnum | some x => some (max x r.rnum)) none

/-- The oldest RNUM readable in an area: for the ring, in its slots, or in the keep area while no slot holds
one, or the next RNUM when nothing is readable (R513, R514, log entry 14). -/
def State.oldestIn (s : State) (a : BrwArea) : Option Nat :=
  match a with
  | .ring =>
    let ring := s.nv.lu3.ring.filter (fun r => decide (s.brw.oldestRnum ≤ r.rnum))
    let keep := s.nv.lu3.keep.filter (fun r => decide (s.brw.oldestRnum ≤ r.rnum))
    match minRnum ring, minRnum keep with
    | some r, _ => some r
    | none, some r => some r
    | none, none => some s.brw.nextRnum
  | a => minRnum (s.areaRecs a)

/-- A command is written to BRW_CMD (R513, R516): out of range while one runs. -/
def State.brwCommand (s : State) (op : BrwOp) (a : BrwArea) : State :=
  if s.inRst .fabric then s.report 0x200 0x01 0x00900048 3
  else if s.brw.cmd.isSome then s.report 0x200 0x02 0x00900048
  else { s with brw := { s.brw with cmd := some (op, a) } }

/-- LOAD (R513). -/
def execLoad (t : Time) (area : BrwArea) (s : State) : Host.Outcome State Fault Refusal :=
  .next ((s.at_ t).brwCommand .load area)
/-- NEXT (R513). -/
def execNext (t : Time) (area : BrwArea) (s : State) : Host.Outcome State Fault Refusal :=
  .next ((s.at_ t).brwCommand .next area)
/-- OLDEST (R513). -/
def execOldest (t : Time) (area : BrwArea) (s : State) : Host.Outcome State Fault Refusal :=
  .next ((s.at_ t).brwCommand .oldest area)
/-- NEWEST (R513). -/
def execNewest (t : Time) (area : BrwArea) (s : State) : Host.Outcome State Fault Refusal :=
  .next ((s.at_ t).brwCommand .newest area)

/-- 32-bit words of a byte string, `n` of them, zero beyond its end. -/
def wordsOf (n : Nat) (bs : List Byte) : List Word :=
  (List.range n).map (fun i => BitVec.ofNat 32 (leAt bs (4 * i) 4))

/-- A load's result: a code and the bytes read (R513). -/
def State.brwLoad (s : State) (a : BrwArea) (c : Nat) (io : IoResult) : Nat × List Byte :=
  let newest : Option Nat := match a with
    | .ring => if s.brw.nextRnum = 0 then none else some (s.brw.nextRnum - 1)
    | a => maxRnum (s.areaRecs a)
  match newest with
  | none => (1, [])
  | some n =>
    if n < c then (2, []) else
    match s.areaRecs a |>.find? (fun r => r.rnum == c) with
    | none => (1, [])
    | some r =>
      let staged := match a with | .ring => s.brw.staging.any (fun x => x.item.rnum == c) | _ => false
      if staged then (0, r.bytes) else
      match io with
      | .ok => (0, r.bytes)
      | .crc => (3, [])
      | .error => (4, [])

/-- BARROW_COMMAND_COMPLETE (R513): the cursor moves, the record is loaded, BUSY returns to 0. -/
def execBarrowCommandComplete (t : Time) (io : IoResult) (s : State) : Host.Outcome State Fault Refusal :=
  let s := s.at_ t
  match s.brw.cmd with
  | none => .next s
  | some (op, a) =>
    if !s.brw.anchored then
      .next { s with brw := { s.brw with cmd := none, result := 5, len := 0, data := List.replicate 256 0 } }
    else
      let newest : Option Nat := match a with
        | .ring => if s.brw.nextRnum = 0 then none else some (s.brw.nextRnum - 1)
        | a => maxRnum (s.areaRecs a)
      let cur := s.brw.cursor.toNat
      let c : Option Nat := match op with
        | .load => some cur
        | .next => some ((cur + 1) % 2 ^ 64)
        | .oldest => s.oldestIn a
        | .newest => newest
      match c with
      | none => .next { s with brw := { s.brw with cmd := none, result := 1, len := 0, data := List.replicate 256 0 } }
      | some c =>
        let (code, bs) := s.brwLoad a c io
        let area := match a with | .ring => (if c < keepSlots then 2 else 3) | .storeE => 4 | .storeW => 5
        let s := if code = 3 then s.barrowIo area 4 else if code = 4 then s.barrowIo area 0 else s
        .next { s with brw := { s.brw with cmd := none, cursor := BitVec.ofNat 64 c, result := code, len := bs.length
                                           data := wordsOf 256 bs } }

/-- RECORD_STAGE_GO (R503, R579): a write to MBX_REC_CMD stores LEN; with GO it stages the record that the
firmware placed at MBX_REC, whose header fields the recorder fills. -/
def execRecordStageGo (t : Time) (value : Word) (s : State) : Host.Outcome State Fault Refusal :=
  let s := s.at_ t
  if s.inRst .fabric then .next (s.report 0x200 0x01 0x00C00038 3) else
  let len := field value 10 0
  let s := { s with mbx := { s.mbx with recLen := len } }
  if !value.getLsbD 30 then .next s else
  let a := s.mbx.rec_.toNat
  if 30 * 2 ^ 30 < a + len then .fault (.noMemory a) else
  let bs := s.ddr.readBytes a len
  let type := leAt bs 2 1
  let res := fun (r : Nat) (s : State) => { s with mbx := { s.mbx with recResult := r } }
  if type < 0x80 then .next (res 1 s)
  else if len < 16 ∨ 1024 < len then .next (res 2 s)
  else
    let r := s.newRec type (leAt bs 14 2) (bs.drop 16) s.brw.flush
    if stagingBytes < s.brw.staged + r.len then .next (res 3 (s.stageRec r))
    else .next (res 0 (s.stageRec r))

/-- A clear verified by Idsol (R514): targets, the manager's epoch and the command's digest. None is accepted
before restoration completes; the keep area is never cleared. -/
def State.barrowClear (s : State) (targets epoch : Nat) (digest : List Byte) : State :=
  let ring := targets.testBit 0
  let e := targets.testBit 1
  let w := targets.testBit 2
  let cap := targets.testBit 3
  let next := s.brw.nextRnum
  let oldest := (s.oldestIn .ring).getD next
  let topE := ((maxRnum s.nv.lu3.storeE.recs).map (· + 1)).getD 0
  let topW := ((maxRnum s.nv.lu3.storeW.recs).map (· + 1)).getD 0
  let first := if ring then oldest else 0
  let last := if ring then next - 1 else 0
  let brw := { s.brw with oldestRnum := if ring then next else s.brw.oldestRnum
                          oldestE := if e then topE else s.brw.oldestE
                          oldestW := if w then topW else s.brw.oldestW }
  let l := s.nv.lu3
  let l := { l with ring := if ring then [] else l.ring
                    storeE := if e then { l.storeE with recs := [] } else l.storeE
                    storeW := if w then { l.storeW with recs := [] } else l.storeW
                    captureE := if cap then none else l.captureE
                    captureW := if cap then none else l.captureW }
  let s := { s with brw := brw, nv := { s.nv with lu3 := l } }
  let s := s.stage 0x06 0 ([BitVec.ofNat 8 targets] ++ leBytes 8 first ++ leBytes 8 last ++ leBytes 4 epoch
    ++ digest.take 8)
  (s.commit s.brw.staging.length).writeCkpt

/-- The Barrow window's registers (R516). -/
def State.readBrw (s : State) (o : Nat) : Option Word :=
  let b := s.brw
  let hi := some (lookupD s.latches (0x00900000 + o) 0)
  let lo := fun (n : Nat) => some (BitVec.ofNat 32 n)
  let held := fun (p : Port) => match p with
    | .e => s.nv.lu3.captureE.isSome | .w => s.nv.lu3.captureW.isSome | _ => false
  let nbr := fun (p : Port) (cap : Bool) (mark : Nat) =>
    let st := s.nv.lu3.store p
    some (pack [(26, 6, st.member.getD 0), (25, 1, b2n (st.recs.any (fun r => decide (mark ≤ r.rnum)))),
      (24, 1, b2n (held p)), (23, 1, b2n cap)])
  match o with
  | 0x00 => some (pack [(31, 1, b2n b.anchored), (30, 1, b2n b.unanchored), (29, 1, b2n b.flush), (28, 1, b2n b.ioFail),
      (27, 1, b2n b.replaying), (0, 15, sat 32767 (b.staged / 1024))])
  | 0x04 => lo s.opMs
  | 0x0C => lo s.core.pcc
  | 0x10 => lo (b.nextRnum - 1)
  | 0x18 => lo ((s.oldestIn .ring).getD 0)
  | 0x20 => lo b.committed
  | 0x08 | 0x14 | 0x1C | 0x24 | 0x44 => hi
  | 0x28 => some (pack [(16, 16, sat 65535 b.lostRate), (0, 16, sat 65535 b.lostFull)])
  | 0x30 => nbr Port.e b.capturingE b.oldestE
  | 0x34 => nbr Port.w b.capturingW b.oldestW
  | 0x40 => some (b.cursor.setWidth 32)
  | 0x48 => some 0
  | 0x4C => some (pack [(31, 1, b2n b.cmd.isSome), (27, 4, b.result), (0, 11, b.len)])
  | o => if 0x1000 ≤ o ∧ o < 0x1400 then b.data[(o - 0x1000) / 4]? else none

/-- Writes to the Barrow window's cursor (R516); a write to a _HI half also sets the latch (R12). -/
def State.writeBrw (s : State) (o : Nat) (v : Word) : State :=
  match o with
  | 0x40 => { s with brw := { s.brw with cursor := (s.brw.cursor >>> 32 <<< 32) ||| v.setWidth 64 } }
  | 0x44 => { s with brw := { s.brw with cursor := (v.setWidth 64 <<< 32) ||| (s.brw.cursor.setWidth 32).setWidth 64 }
                     latches := insertKey s.latches 0x00900044 v }
  | _ => s

end Sys2Proof.Machine
end

