-- ==== Sys2Proof/Machine/Clocks.lean ====
section
/-! DEFINITION. Clock monitors, local copies of ring time, handshake channels (chapter 3), and the clock
registers of the always-on block. -/
namespace Sys2Proof.Machine

/-- Bit of a clock in AON_CLK_FAULT (R76). -/
def clkBit : Clk → Nat
  | .lna => 0 | .lnb => 1 | .lnc => 2 | .fab => 4 | .ids => 5 | .mgt => 6 | .swd => 7 | .frz => 8 | .htl => 9

/-- The domain whose clock it is (R55). -/
def clkDom : Clk → Dom
  | .lna => .lane .a | .lnb => .lane .b | .lnc => .lane .c | .fab => .fabric | .ids => .idsol | .mgt => .mgmt
  | .swd => .planning | .frz => .htlFrz | .htl => .htlFrz

/-- The lane of a lane clock. -/
def clkLane : Clk → Option Lane
  | .lna => some .a | .lnb => some .b | .lnc => some .c | _ => none

/-- A clock is judged: its domain is released, and so is the always-on domain that judges it (R73). -/
def State.clkJudged (s : State) (c : Clk) : Bool := !s.inRst .aon && !s.inRst (clkDom c)

/-- A clock has failed (R74): its bit, the report, and for a lane clock all its voter inputs off,
and the fence of R133. -/
def State.clkFail (s : State) (c : Clk) (detail : Nat) : State :=
  let s := { s with aon := { s.aon with clkFault := setBit s.aon.clkFault (clkBit c) } }
  let s := s.report 0x001 0x12 (clkBit c) detail
  match clkLane c with
  | none => s
  | some x => (s.updLane x (fun l => { l with clockFailed := true })).fenceNow x

/-- Deviation of a lane clock in AON_CLK_PPM, saturating (R76). -/
def ppmSat (p : Int) : Int := max (-128) (min 127 p)

/-- CLOCK_WINDOW_END (R73, R76): a monitor window ends with the clock's deviation; a lane's PPM field takes it,
and beyond 1000 ppm the clock has failed, the frequency test being suspended on the RC oscillator (R75). -/
def execClockWindowEnd (t : Time) (clk : Clk) (ppm : Int) (s : State) : Host.Outcome State Fault Refusal :=
  let s := s.at_ t
  if !s.clkJudged clk ∨ !s.elapsed (s.dom (clkDom clk)).release (40 * us) then .next s else
  let s := match clk with
    | .lna => { s with aon := { s.aon with ppmA := ppmSat ppm } }
    | .lnb => { s with aon := { s.aon with ppmB := ppmSat ppm } }
    | .lnc => { s with aon := { s.aon with ppmC := ppmSat ppm } }
    | _ => s
  .next (if !s.core.aonRc && decide (1000 < ppm.natAbs) then s.clkFail clk 0 else s)

/-- CLOCK_EDGE_TIMEOUT (R73): no edge for 1 µs. -/
def execClockEdgeTimeout (t : Time) (clk : Clk) (s : State) : Host.Outcome State Fault Refusal :=
  let s := s.at_ t
  .next (if s.clkJudged clk then s.clkFail clk 1 else s)

/-- PLL_LOCK_LOSS (R73): a PLL loses lock while its domain is released. -/
def execPllLockLoss (t : Time) (clk : Clk) (s : State) : Host.Outcome State Fault Refusal :=
  let s := s.at_ t
  if !s.clkJudged clk then .next s
  else .next ({ s with aon := { s.aon with locks := clrBit s.aon.locks (clkBit clk) } }.clkFail clk 2)

/-- AON_XTAL_FAIL (R75): the always-on island switches to its RC oscillator. -/
def execAonXtalFail (t : Time) (noEdge : Bool) (s : State) : Host.Outcome State Fault Refusal :=
  let s := s.at_ t
  if s.core.aonRc then .next s
  else
    let s := { s with core := { s.core with aonRc := true } }
    if s.inRst .aon then .next (s.report 0x001 0x12 14 (b2n noEdge)) else
    .next ({ s with aon := { s.aon with clkFault := setBit s.aon.clkFault 14 } }.report 0x001 0x12 14 (b2n noEdge))

/-! ### Local copies of ring time -/

/-- The domain of an island's copy. -/
def islandDom : Island → Dom
  | .fabric => .fabric | .lanes => .lane .a | .furze => .htlFrz | .sward => .planning | .mgmt => .mgmt
  | .idsol => .idsol | .aon => .aon

/-- An island that keeps a copy is in reset; the lanes' copy is kept while any lane runs. -/
def State.islandRst (s : State) (i : Island) : Bool :=
  match i with
  | .lanes => Lane.all.all (fun x => s.inRst (.lane x))
  | i => s.inRst (islandDom i)

/-- An island's copy. -/
def Rings.get (r : Rings) : Island → RingCopy
  | .fabric => r.fabric | .lanes => r.lanes | .furze => r.furze | .sward => r.sward | .mgmt => r.mgmt
  | .idsol => r.idsol | .aon => r.aon

/-- Set an island's copy. -/
def Rings.set (r : Rings) (i : Island) (c : RingCopy) : Rings :=
  match i with
  | .fabric => { r with fabric := c } | .lanes => { r with lanes := c } | .furze => { r with furze := c }
  | .sward => { r with sward := c } | .mgmt => { r with mgmt := c } | .idsol => { r with idsol := c }
  | .aon => { r with aon := c }

/-- Some copy is in holdover. -/
def Rings.anyHold (r : Rings) : Bool :=
  r.fabric.holdover || r.lanes.holdover || r.furze.holdover || r.sward.holdover || r.mgmt.holdover
  || r.idsol.holdover || r.aon.holdover

/-- A copy corrected by an update (R66): forward to ring time when behind, held still for at most 8 ns when
ahead; it has agreed once its lead is no more than that. -/
def RingCopy.correct (c : RingCopy) (ring now : Nat) : RingCopy :=
  let v := c.now now
  if v ≤ ring then ⟨ring, now, false⟩
  else
    let hold := min 8 (v - ring)
    ⟨v, now + hold, if v - ring ≤ 8 then false else c.holdover⟩

/-- RING_HOLDOVER follows the copies of the released islands (R67). -/
def State.holdoverBit (s : State) : State :=
  let any := [Island.fabric, .lanes, .furze, .sward, .mgmt, .idsol, .aon].any
    (fun i => (s.rings.get i).holdover && !s.islandRst i)
  { s with aon := { s.aon with ringHoldover := any } }

/-- RING_TIME_UPDATE (R66, R67): an update reaches an island's copy; a copy in holdover takes it only once
Heathline has reported ring time synchronised again, and the lanes' copy in holdover rejoins on voted marks. -/
def execRingTimeUpdate (t : Time) (isl : Island) (s : State) : Host.Outcome State Fault Refusal :=
  let s := s.at_ t
  let c := s.rings.get isl
  if s.inRst .htlFrz ∨ s.islandRst isl ∨ !s.htl.sync ∨ (c.holdover ∧ (!s.rings.rejoining ∨ isl = .lanes)) then .next s
  else
    let s := { s with rings := s.rings.set isl (c.correct s.ringTime s.now) }
    .next s.holdoverBit

/-- Every copy enters holdover (R67). -/
def State.enterHoldover (s : State) : State :=
  let f : RingCopy → RingCopy := fun c => { c with holdover := true }
  let r := s.rings
  { s with rings := ⟨f r.fabric, f r.lanes, f r.furze, f r.sward, f r.mgmt, f r.idsol, f r.aon, false⟩
           aon := { s.aon with ringHoldover := true } }

/-- RING_HOLDOVER_ENTRY (R67): no update for 10 µs, or Heathline unsynchronised or in reset. -/
def execRingHoldoverEntry (t : Time) (s : State) : Host.Outcome State Fault Refusal :=
  let s := s.at_ t
  if s.htl.sync ∧ !s.inRst .htlFrz ∧ !s.elapsed s.rings.fabric.at_ (10 * us) then .next s
  else .next s.enterHoldover

/-- RING_HOLDOVER_END (R67): Heathline reports ring time synchronised again; each copy then rejoins it. -/
def execRingHoldoverEnd (t : Time) (s : State) : Host.Outcome State Fault Refusal :=
  let s := s.at_ t
  if s.inRst .htlFrz ∨ !s.htl.sync then .next s
  else .next { s with rings := { s.rings with rejoining := true } }

/-! ### Handshake channels -/

/-- CHANNEL_REOPEN (R68): both ends have left reset: the channel reopens empty, with all its credits. -/
def execChannelReopen (t : Time) (ch : Chan) (s : State) : Host.Outcome State Fault Refusal :=
  let s := s.at_ t
  if (ch.ends).any (fun d => s.inRst d) then .next s
  else .next { s with closed := s.closed.filter (fun c => c != ch)
                      closureReported := s.closureReported.filter (fun c => c != ch) }

/-- A sender that would wait writes into a closed channel: no effect, reported once per closure (R69). -/
def State.writeClosed (s : State) (ch : Chan) (recv send : Nat) : State :=
  if s.closureReported.contains ch then s
  else { s with closureReported := s.closureReported ++ [ch] }.report 0x201 0x04 (recv * 2 ^ 16 + send) 0

/-- The clock registers (R76). -/
def State.readClk (s : State) (o : Nat) : Option Word :=
  let a := s.aon
  match o with
  | 0x60 => some (pack [(15, 1, b2n a.ringHoldover), (14, 1, b2n s.core.aonRc), (0, 10, a.locks.toNat)])
  | 0x64 => some (a.clkFault.setWidth 32)
  | 0x68 => some (pack [(16, 8, twosSat 8 a.ppmC), (8, 8, twosSat 8 a.ppmB), (0, 8, twosSat 8 a.ppmA)])
  | _ => none

end Sys2Proof.Machine
end

