-- ==== Sys2Proof/Machine/IdsolOps.lean ====
section
/-! DEFINITION. Idsol's shared operations (chapter 18): measurement, verification, seals, the broadcast key. -/
namespace Sys2Proof.Machine

/-- ASCII bytes of a name. -/
def ascii (s : String) : List Byte := s.toList.map (fun c => BitVec.ofNat 8 c.toNat)

/-- Extend measurement register `i` with a digest (R527). -/
def Ids.extend (d : Ids) (i : Nat) (x : List Byte) : Ids :=
  { d with meas := upd d.meas i (fun m => Config.sha384 (m ++ x)) }

/-- AON_SERIAL as 8 bytes little-endian. -/
def State.serialBytes (s : State) : List Byte := leBytes 8 s.nv.fuse.serial.toNat

/-- An IDSOL record (R503, R543). -/
def State.idsRecord (s : State) (sub : Nat) (payload : List Byte) : State := s.stage 0x24 sub payload s.brw.flush

/-- The fault message of R482 as an IDSOL record holds it. -/
def faultBytes (kind inst detail : Nat) : List Byte :=
  leBytes 8 (QMsgWord 0xC00 kind inst detail)
where
  /-- A message of a source with the collector's bits 0. -/
  QMsgWord (source kind inst detail : Nat) : Nat :=
    source % 2 ^ 12 * 2 ^ 52 + kind % 2 ^ 8 * 2 ^ 44 + inst % 2 ^ 32 * 2 ^ 12 + detail % 16 * 2 ^ 8

/-- A verification failed: VERIFY with OBJECT and DETAIL, the event, the count, an IDSOL record with SUB 3
(R525, R543, R545). -/
def State.verifyFail (s : State) (object detail : Nat) : State :=
  let s := { s with ids := { s.ids with event := setBit s.ids.event 1, failObject := object, failDetail := detail
                                        failCount := sat (2 ^ 24 - 1) (s.ids.failCount + 1) } }
  (s.report 0xC00 0x81 object detail).idsRecord 3 (faultBytes 0x81 object detail)

/-- A verification passed (R545). -/
def State.verifyOk (s : State) : State := { s with ids := { s.ids with verifyOk := s.ids.verifyOk + 1 } }

/-- The Idsol has signalled ready since its release and is not failed (R475). -/
def State.idsOk (s : State) : Bool := s.ids.ready && !s.ids.failed && !s.inRst .idsol

/-- A key of a role is in the trust store. -/
def TrustStore.has (t : TrustStore) (role : Nat) (hash : List Byte) : Bool :=
  t.keys.any (fun k => k.role == role && k.hash == hash)

/-- Why a signer is not accepted for an object, none when it is (R525, R543): 1 unknown, 2 not permitted. -/
def TrustStore.signerBad (t : TrustStore) (object : Nat) (signer : List Byte) : Option Nat :=
  let role := match object with | 1 => 1 | 2 => 2 | 3 => 3 | 5 => 4 | 7 => 4 | _ => 0
  if t.has role signer then none
  else if object = 2 ∧ signer = Config.enollithBundleKey then (if t.policy.getLsbD 1 ∨ t.owner = none then none else some 2)
  else if object = 3 ∧ signer = Config.enollithFirmwareKey then (if t.policy.getLsbD 0 ∨ t.owner = none then none else some 2)
  else if t.keys.any (fun k => k.hash == signer) then some 2
  else some 1

/-- Idsol judges a signature on an object (R525): none when accepted, else the DETAIL of R543. `svn` is the
object's SVN where it has one. -/
def State.judge (s : State) (object : Nat) (signer message signature : List Byte) (svn : Option Nat) : Option Nat :=
  if !s.idsOk ∨ !s.ids.storeOk then some 6
  else match s.nv.trust.signerBad object signer with
    | some d => some d
    | none =>
      if !Config.ecdsaOk signer message signature then some 0
      else match svn with
        | none => none
        | some v => if v < (if object = 3 then s.nv.trust.svnFw else s.nv.trust.svnBundle) then some 3 else none

/-- Judge, count and report (R525, R543). -/
def State.verify (s : State) (object : Nat) (signer message signature : List Byte) (svn : Option Nat) : Bool × State :=
  match s.judge object signer message signature svn with
  | none => (true, s.verifyOk)
  | some d => (false, s.verifyFail object d)

/-- The signature trailer of a bundle or firmware file (R524): object, SVN, digest, signer, signature and the
signed bytes; none when malformed. -/
def trailer (file : List Byte) : Option (Nat × Nat × List Byte × List Byte × List Byte × List Byte) :=
  let n := file.length
  if n < 256 then none else
  let tr := file.drop (n - 256)
  if tr.take 4 = ascii "UB3S" ∧ (tr.drop 5).take 3 = [0, 0, 0] ∧ leAt tr 12 4 = 0
      ∧ tr.drop 208 = List.replicate 48 0 then
    some (leAt tr 4 1, leAt tr 8 4, (tr.drop 16).take 48, (tr.drop 64).take 48, (tr.drop 112).take 96, tr.take 112)
  else none

/-- Verify a bundle (2) or firmware (3) under R524 and R525. -/
def State.verifyFile (s : State) (object : Nat) (file : List Byte) : Bool × State :=
  match trailer file with
  | none => (false, s.verifyFail object 4)
  | some (o, svn, digest, signer, sig, msg) =>
    if o ≠ object then (false, s.verifyFail object 4)
    else if digest ≠ Config.sha384 (file.take (file.length - 256)) then (false, s.verifyFail object 0)
    else s.verify object signer msg sig (some svn)

/-- Records of this power cycle, committed or staged, that no seal covers (R539). -/
def State.unsealed (s : State) : List BRec :=
  (s.nv.lu3.keep ++ s.nv.lu3.ring ++ s.brw.staging.map (fun x => x.item)).filter
    (fun r => decide (s.ids.sealedTo ≤ r.rnum) && r.pcc == s.core.pcc)

/-- Idsol seals the records since the last seal (R539): the batch digest, the chain, and an IDSOL record with
SUB 1. `staged` takes staged records into the batch, as the flushes do. -/
def State.seal (s : State) (staged : Bool) : State :=
  let rs := s.unsealed.filter (fun r => staged || decide (r.rnum ≤ s.brw.committed))
  match minRnum rs, maxRnum rs with
  | some lo, some hi =>
    let head := ascii "UB3B" ++ s.serialBytes ++ leBytes 4 s.core.pcc
    let h0 := s.ids.chain.getD (Config.sha384 head)
    let d := Config.sha384 (rs.flatMap BRec.bytes)
    let h := Config.sha384 (h0 ++ d)
    let nums := leBytes 8 lo ++ leBytes 8 hi
    let sig := Config.dikSign (head ++ nums ++ h)
    let s := { s with ids := { s.ids with chain := some h, sealedTo := hi + 1 } }
    s.idsRecord 1 (nums ++ h ++ sig)
  | _, _ => s

end Sys2Proof.Machine
end

