-- ==== Sys2Proof/Machine/ImageParse.lean ====
section
/-! DEFINITION. Reading a configuration image: header, sections, field records, ranges and constraints (R440 to
R449), and the factory calibration region (R459). -/
namespace Sys2Proof.Machine

/-- A section of an image (R442). -/
structure Sec where
  type : Nat
  /-- Offset of its header in the image. -/
  off : Nat
  value : List Byte
  /-- Header, value and padding. -/
  raw : List Byte
  deriving DecidableEq, Repr

/-- Section types of R443. -/
def listedSection (t : Nat) : Bool := decide (1 ≤ t) && decide (t ≤ 0x13)

/-- The sections of a body (R442, R443), or the offset of the first that fails; `skipped` counts unlisted
non-critical ones. -/
def parseSections : Nat → List Byte → Nat → Nat → Nat → List Sec → Except Nat (List Sec × Nat)
  | 0, _, off, _, _, _ => .error off
  | fuel + 1, bs, off, prev, skipped, acc =>
    if bs.isEmpty then .ok (acc.reverse, skipped) else
    let type := leAt bs 0 2
    let flags := leAt bs 2 2
    let n := leAt bs 4 4
    let total := 8 + n + (8 - n % 8) % 8
    if bs.length < 8 ∨ bs.length < total ∨ 1 < flags ∨ type ≤ prev
        ∨ ((bs.take total).drop (8 + n)).any (fun b => b != 0) then .error off
    else if !listedSection type ∧ flags = 1 then .error off
    else if !listedSection type then parseSections fuel (bs.drop total) (off + total) type (skipped + 1) acc
    else parseSections fuel (bs.drop total) (off + total) type skipped
      (⟨type, off, (bs.drop 8).take n, bs.take total⟩ :: acc)

/-- A field record: name, value, offset (R444). -/
structure FRec where
  name : List Byte
  value : List Byte
  off : Nat
  raw : List Byte
  deriving DecidableEq, Repr

/-- The field records of a section (R444), or the offset of the first that is malformed. -/
def parseRecords : Nat → List Byte → Nat → List FRec → Except Nat (List FRec)
  | 0, _, off, _ => .error off
  | fuel + 1, bs, off, acc =>
    if bs.isEmpty then .ok acc.reverse else
    let nlen := leAt bs 0 1
    let vlen := leAt bs 1 1
    if nlen = 0 then (if bs.all (fun b => b == 0) then .ok acc.reverse else .error off)
    else if 40 < nlen ∨ vlen = 0 ∨ 48 < vlen ∨ bs.length < 2 + nlen + vlen then .error off
    else
      let n := 2 + nlen + vlen
      parseRecords fuel (bs.drop n) (off + n)
        (⟨(bs.drop 2).take nlen, (bs.drop (2 + nlen)).take vlen, off, bs.take n⟩ :: acc)

/-- A decimal number without leading zeros. -/
def decimal (l : List Byte) : Option Nat :=
  match l with
  | [] => none
  | [b] => if 48 ≤ b.toNat ∧ b.toNat ≤ 57 then some (b.toNat - 48) else none
  | [a, b] => if 49 ≤ a.toNat ∧ a.toNat ≤ 57 ∧ 48 ≤ b.toNat ∧ b.toNat ≤ 57 then
      some ((a.toNat - 48) * 10 + (b.toNat - 48)) else none
  | _ => none

/-- A lower-case hexadecimal digit. -/
def hexDigit (b : Byte) : Option Nat :=
  if 48 ≤ b.toNat ∧ b.toNat ≤ 57 then some (b.toNat - 48)
  else if 97 ≤ b.toNat ∧ b.toNat ≤ 102 then some (b.toNat - 87) else none

/-- The index a name's suffix spells (R444, R548). -/
def suffixIndex : Idx → List Byte → Option Nat
  | .one, l => if l.isEmpty then some 0 else none
  | .leg, l => (decimal l).bind (fun n => if n < 32 then some n else none)
  | .entry, l => (decimal l).bind (fun n => if n < 8 then some n else none)
  | .lane, l => if l = ascii "a" then some 0 else if l = ascii "b" then some 1 else if l = ascii "c" then some 2 else none
  | .phase, l => if l = ascii "l1" then some 0 else if l = ascii "l2" then some 1 else if l = ascii "l3" then some 2 else none
  | .port, l => if l = ascii "e" then some 0 else if l = ascii "w" then some 1 else if l = ascii "n" then some 2
      else if l = ascii "s" then some 3 else none
  | .source, l => match l with
    | [a, b, c] => match hexDigit a, hexDigit b, hexDigit c with
      | some x, some y, some z =>
        let n := x * 256 + y * 16 + z
        if faultSources.contains n then some n else none
      | _, _, _ => none
    | _ => none

/-- The field a name spells in a section (R444, R446). -/
def nameField (section_ : Nat) (name : List Byte) : Option (Fld × Nat) :=
  Fld.all.findSome? (fun f =>
    let sp := f.spec
    let p := ascii sp.name
    if sp.section_ = section_ ∧ name.take p.length = p then
      (suffixIndex sp.idx (name.drop p.length)).map (fun i => (f, i))
    else none)

/-- The length of a value is one R445 allows. -/
def vlenOk (e : Enc) (n : Nat) : Bool :=
  match e with
  | .num | .listed | .mask => [1, 2, 4, 8].contains n
  | .coded => n == 1
  | .seed => n == 8
  | .bert => n == 2
  | .bytes k => n == k
  | .flt k => n == k

/-- The number a value encodes (R445); 0 for a byte string. -/
def decodeValue (e : Enc) (v : List Byte) : Int :=
  match e with
  | .num | .listed => signed (8 * v.length) (ofLe v)
  | .bytes _ => 0
  | _ => (ofLe v : Int)

/-- A value is within its field's range (R445, R449 check 10). -/
def inRange (f : Fld) (idx : Nat) (v : Int) : Bool :=
  let sp := f.spec
  match sp.enc with
  | .bytes _ => true
  | .listed => v == sp.lo || v == sp.hi
  | .bert =>
    let m := v.toNat % 256
    let e := v.toNat / 256
    decide (1 ≤ m) && decide (m ≤ 9) && decide (4 ≤ e) && decide (e ≤ 12) && !(e == 4 && decide (2 ≤ m))
  | _ =>
    decide (sp.lo ≤ v) && decide (v ≤ sp.hi) &&
    (match f with
     | .mgmtFltReact =>
       let n := v.toNat
       let ok := fun (c : Nat) => decide (c ≤ 4) && (c != 1 || (decide (0x300 ≤ idx) && decide (idx ≤ 0x302)))
       n / 64 % 4 == 0 && ok (n % 8) && ok (n / 256 % 8)
     | _ => true)

/-- T_low of R16 in V. -/
def Image.tLow (im : Image) : Rat :=
  let n : Rat := im.get .loadlineNominal / 10
  n - (im.get .loadlineRLl : Rat) / 10000 * (im.get .topologyShelfRating * 1000 : Int) / n

/-- Addresses on the PMBus and SMBus that an image gives out (R188). -/
def Image.addresses (im : Image) : List Nat :=
  let bits := fun (m n : Nat) => (List.range n).filter (fun i => m.testBit i)
  (bits (im.nat .frontendModules) 6).map (im.nat .frontendPmbusAddr + ·)
  ++ (bits (im.nat .stringsActive ||| im.nat .stringsSpare) 16).map (im.nat .stringsAddrBase + ·)
  ++ (if im.nat .batteryPresent = 1 then [im.nat .batteryAddr] else [])

/-- The phase key of a prior core (R221, R228). -/
def coreKey (c : List Byte) : Nat := leAt c 0 8

/-- Every constraint that a chapter places on an image (R449 check 11). -/
def Image.constraints (im : Image) : Bool :=
  let n := fun (f : Fld) => im.nat f
  let g := im.get
  let (s, b, x) := (n .legsGroupS, n .legsGroupB, n .legsGroupX)
  let keys := im.priors.map coreKey
  decide ((g .limitsStoreVMax : Rat) ≤ im.tLow - 40)                                             -- R16
  && s &&& b == 0 && s &&& x == 0 && b &&& x == 0 && (s ||| b ||| x) == n .legsActive && s != 0  -- R77
  && ((b != 0) == (n .batteryPresent == 1))                                                      -- R77, R177
  && !(n .loadlineRLl == 0 && decide (1 < n .topologySegmentShelves))                            -- R83
  && decide (g .phaseTOnMin ≤ g .phaseTOnMax) && decide (2 * g .legsIRated ≤ g .legsIPeak)       -- R119
  && decide (g .phaseDeadTime ≤ g .phaseMinOff)
  && decide (g .lanesFenceN ≤ g .lanesFenceWindow)                                               -- R148
  && n .stringsActive != 0 && n .stringsActive &&& n .stringsSpare == 0                          -- R166
  && n .stringsBusCharge != 0
  && n .stringsBusCharge &&& (n .stringsActive ||| n .stringsSpare) == n .stringsBusCharge
  && decide ((g .batteryVMax : Rat) ≤ im.tLow - 40) && decide (g .batteryVMin < g .batteryVMax)  -- R177
  && decide (g .limitsStoreVMin < g .limitsStoreVLow) && decide (g .limitsStoreVLow < g .limitsStoreVCentre) -- R188
  && decide (g .limitsStoreVCentre < g .limitsStoreVHigh) && decide (g .limitsStoreVHigh < g .limitsStoreVMax)
  && decide (g .frontendSagPct < g .frontendReturnPct)
  && decide ((g .frontendAutoV : Rat) / 10 ≤ im.tLow - 2)
  && decide (10 * (g .limitsStoreVMax + 2 * g .legsSwnTol + 10) ≤ g .frontendAutoV)
  && decide im.addresses.Nodup
  && decide (im.priors.length ≤ 256)                                                             -- R255
  && keys.all (fun k => k / 2 ^ 40 == 0xFFFFFF && k % 2 ^ 16 == 0xFFFF) && decide keys.Nodup
  && decide (4 * g .concordRenewSf ≤ g .concordLeaseSf)                                          -- R405
  && decide (g .topologyMember < g .topologyMembers)                                             -- R409
  && (n .topologyShape != 2 || n .topologyTorusX * n .topologyTorusY == n .topologyMembers)
  && decide (25 * g .legsIPeak ≤ g .calIsnsScale)                                                -- R461
  && (List.range 3).all (fun i => decide (g .loadlineNominal + g .loadlineOffsetMax + g .phaseBand
      ≤ 2 * im.get .calVbusScale i))
  && decide (10 * g .limitsStoreVMax ≤ 2 * g .calVstoScaleS)
  && (n .batteryPresent != 1 || decide (10 * g .batteryVMax ≤ 2 * g .calVstoScaleB))
  && decide (g .mgmtDerateT0 < g .mgmtDerateT1)                                                  -- R576

/-- Split the value of the prior lemmas section into cores (R448), none when malformed. -/
def priorCores (v : List Byte) : Option (List (List Byte)) :=
  let n := leAt v 0 4
  if v.length ≠ 4 + 4096 * n then none else
  let cores := (List.range n).map (fun i => (v.drop (4 + 4096 * i)).take 4096)
  if cores.all (fun c => (crc32 (c.take 60)).toNat == leAt c 60 4) then some cores else none

/-- The fields of one section's records: (field, index, value, bytes, offset, raw), or a failing check and the
offset (R444 to R446). -/
def sectionFields (sec : Sec) (recs : List FRec) :
    Except (Nat × Nat) (List (Fld × Nat × Int × List Byte × FRec)) :=
  recs.foldl (fun acc r => match acc with
    | .error e => .error e
    | .ok l => match nameField sec.type r.name with
      | none => .error (10, r.off)
      | some (f, i) =>
        if l.any (fun x => x.1 == f && x.2.1 == i) || !vlenOk f.spec.enc r.value.length then .error (10, r.off)
        else .ok (l ++ [(f, i, decodeValue f.spec.enc r.value, r.value, r)])) (.ok [])

/-- A judgement: result code of R449, offset for CFG_FIRST_BAD, and the image when VALID. -/
structure Judged where
  code : Nat
  bad : Nat
  image : Option Image
  deriving DecidableEq, Repr

/-- Fields that must have a record when their section is present (R446). -/
def requiredFields (sections : List Nat) : List (Fld × Nat) :=
  [(.topologyDomainId, 0), (.topologyShelfRating, 0)]
  ++ (if sections.contains 0x13 then [(.mgmtMgrAAddr, 0), (.mgmtMgrBAddr, 0)] else [])

/-- Checks 8 to 11 on the body of an image (R449). -/
def judgeBody (seq sections : Nat) (digest body : List Byte) : Judged :=
  match parseSections (body.length + 1) body 0x200 0 0 [] with
  | .error off => ⟨9, off, none⟩
  | .ok (secs, skipped) =>
    if secs.length + skipped ≠ sections then ⟨9, 0x200, none⟩ else
    let parsed : Except Nat (List (Sec × List FRec) × List (List Byte)) :=
      secs.foldl (fun acc sec => match acc with
        | .error e => .error e
        | .ok (l, p) =>
          if sec.type = 0x0C then
            match priorCores sec.value with
            | none => .error sec.off
            | some cs => .ok (l, p ++ cs)
          else match parseRecords (sec.value.length + 1) sec.value (sec.off + 8) [] with
            | .error off => .error off
            | .ok rs => .ok (l ++ [(sec, rs)], p)) (.ok ([], []))
    match parsed with
    | .error off => ⟨9, off, none⟩
    | .ok (recs, priors) =>
      let fields : Except (Nat × Nat) (List (Fld × Nat × Int × List Byte × FRec)) :=
        recs.foldl (fun acc p => match acc with
          | .error e => .error e
          | .ok l => match sectionFields p.1 p.2 with
            | .error e => .error e
            | .ok m => .ok (l ++ m)) (.ok [])
      match fields with
      | .error (c, off) => ⟨c, off, none⟩
      | .ok fs =>
        let types := secs.map Sec.type
        if !types.contains 1 ∨ (requiredFields types).any (fun q => !fs.any (fun x => x.1 == q.1 && x.2.1 == q.2)) then
          ⟨10, 0, none⟩
        else match fs.find? (fun x => !inRange x.1 x.2.1 x.2.2.1) with
        | some x => ⟨11, x.2.2.2.2.off, none⟩
        | none =>
          let isBytes := fun (f : Fld) => match f.spec.enc with | .bytes _ => true | _ => false
          let laneTypes := [1, 2, 3, 4, 5, 6, 7, 8, 9, 0x12]
          let im : Image :=
            { seq := seq
              vals := (fs.filter (fun x => !isBytes x.1)).map (fun x => ((x.1, x.2.1), x.2.2.1))
              blobs := (fs.filter (fun x => isBytes x.1)).map (fun x => ((x.1, x.2.1), x.2.2.2.1))
              priors := priors, skipped := skipped, digest := digest
              laneBytes := (secs.filter (fun c => laneTypes.contains c.type)).flatMap Sec.raw
                ++ (fs.filter (fun x => x.1 == .plannerStateTol || x.1 == .plannerWatchdog)).flatMap
                  (fun x => x.2.2.2.2.raw) }
          if im.constraints then ⟨0, 0, some im⟩ else ⟨12, 0, none⟩

/-- Bytes of "UB3C". -/
def magic : List Byte := [0x55, 0x42, 0x33, 0x43]

/-- The loader judges an image of the bytes given (R449); the signature check goes through Idsol. -/
def State.judgeImage (s : State) (bs : List Byte) : Judged × State :=
  let len := leAt bs 0x0C 4
  let ser := leAt bs 0x18 8
  if bs.take 4 ≠ magic then (⟨1, 0, none⟩, s)
  else if leAt bs 4 2 ≠ 1 ∨ ((bs.drop 0x12).take 6).any (fun b => b != 0)
      ∨ ((bs.drop 0xE0).take 288).any (fun b => b != 0) then (⟨3, 0, none⟩, s)
  else if leAt bs 0x10 2 ≠ s.nv.fuse.part then (⟨4, 0, none⟩, s)
  else if ser ≠ 0 ∧ ser ≠ s.nv.fuse.serial.toNat then (⟨5, 0, none⟩, s)
  else if len < 0x208 ∨ 0x04000000 < len ∨ len % 8 ≠ 0 ∨ bs.length < len then (⟨6, 0, none⟩, s)
  else
    let body := (bs.take len).drop 0x200
    let digest := (bs.drop 0x20).take 48
    if digest ≠ Config.sha384 (bs.take 0x20 ++ body) then (⟨7, 0, none⟩, s)
    else
      let (ok, s) := s.verify 1 ((bs.drop 0x50).take 48) (bs.take 0x80) ((bs.drop 0x80).take 96) none
      if !ok then (⟨8, 0, none⟩, s)
      else (judgeBody (leAt bs 8 4) (leAt bs 6 2) digest body, s)

/-- Channels every factory calibration region holds once (R459). -/
def otpChannels : List Nat := List.range 0x36 ++ (List.range 6).map (0x40 + ·)

/-- The entries of the calibration region. -/
def otpEntries (b : List Byte) : List OtpEntry :=
  (List.range (leAt b 6 2)).map (fun i =>
    let o := 16 + 8 * i
    ⟨leAt b o 2, signed 16 (leAt b (o + 2) 2), leAt b (o + 4) 4⟩)

/-- Why the factory calibration fails, as the DETAIL of CFG_OTP (R459, R484): 0 CRC, 1 serial, 2 channel
missing, 3 channel twice. -/
def Fuses.otpFault (f : Fuses) : Option Nat :=
  let b := f.otp
  if b.length ≠ 65536 then some 0
  else if (crc32 (b.take 0xFFFC)).toNat ≠ leAt b 0xFFFC 4 then some 0
  else if leAt b 8 8 ≠ f.serial.toNat then some 1
  else
    let cs := (otpEntries b).map OtpEntry.channel
    if otpChannels.any (fun c => !cs.contains c) then some 2
    else if otpChannels.any (fun c => decide (1 < cs.count c)) then some 3
    else none

end Sys2Proof.Machine
end

