-- ==== Sys2Proof/Machine/Aon.lean ====
section
/-! DEFINITION. The registers of the always-on block (R28, R51, R76, R578). -/
namespace Sys2Proof.Machine

/-- AON_MODE (R28). -/
def State.aonMode (s : State) : Word :=
  pack [(24, 8, s.aon.count.toNat), (16, 5, s.aon.cause.code), (8, 3, s.aon.prevMode.code), (0, 3, s.aon.mode.code)]

/-- AON_SUPPLY (R51). -/
def State.aonSupply (s : State) : Word :=
  let a := s.aon
  pack [(16, 16, a.railMv), (8, 8, sat 255 a.holdupDj), (3, 1, b2n a.auxFault), (2, 1, b2n a.holdupReady),
        (1, 1, b2n a.auxBOk), (0, 1, b2n a.auxAOk)]

/-- AON_COOL (R578). -/
def State.aonCool (s : State) : Word :=
  let a := s.aon
  pack [(31, 1, b2n s.core.coolLost), (30, 1, b2n a.leak), (29, 1, b2n a.sensorFault),
        (28, 1, b2n a.returning.isSome), (16, 9, a.derate), (0, 16, sat 65535 a.flow)]

/-- AON_THERM (R578). -/
def State.aonTherm (s : State) : Word :=
  let a := s.aon
  pack [(24, 8, a.swardMax), (16, 8, a.condMax), (8, 8, a.senseMax), (1, 1, b2n a.dieKill), (0, 1, b2n a.thermShed)]

/-- The always-on registers, by address (R28, R51, R76, R578). -/
def State.readAon (s : State) (o : Nat) : Option Word :=
  let f := s.nv.fuse
  let hi := some (lookupD s.latches o 0)
  match o with
  | 0x00 => some (pack [(20, 12, f.vendor), (8, 12, f.part), (4, 4, f.step), (0, 4, f.build)])
  | 0x04 => some (f.serial.setWidth 32)
  | 0x08 => some (lookupD s.latches o ((f.serial >>> 32).setWidth 32))
  | 0x40 => some s.aonMode
  | 0x44 => some (BitVec.ofNat 32 s.aon.modeTime)
  | 0x48 => hi
  | 0x4C => some (pack [(8, 1, b2n s.aon.stopLatched), (0, 4, sat 15 s.aon.restarts)])
  | 0x50 => some s.aonSupply
  | 0x80 => some s.aonCool
  | 0x84 => some (pack [(16, 16, twosSat 16 s.aon.tout), (0, 16, twosSat 16 s.aon.tin)])
  | 0x88 => some s.aonTherm
  | o => s.readClk o

/-- Writes to the always-on block: AUX_FAULT and the clock fault bits clear where 1 is written (R51, R76). -/
def State.writeAon (s : State) (o : Nat) (v : Word) : State :=
  match o with
  | 0x50 => { s with aon := { s.aon with auxFault := s.aon.auxFault && !v.getLsbD 3 } }
  | 0x64 => { s with aon := { s.aon with clkFault := s.aon.clkFault &&& ~~~(v.setWidth 16) } }
  | _ => s

end Sys2Proof.Machine
end

