-- ==== Sys2Proof/Machine/MgmtOps.lean ====
section
/-! DEFINITION. Managers and mailboxes (chapter 19): epochs, replies, stored results, the mailbox registers, and
the commands EPOCH_SET, HEARTBEAT, DTLS_HANDSHAKE, ALONE. -/
namespace Sys2Proof.Machine

/-- A later B is after A by serial arithmetic on 32 bits (R450). -/
def later (a b : Nat) : Bool :=
  let d := (a + 2 ^ 32 - b % 2 ^ 32) % 2 ^ 32
  decide (1 ≤ d) && decide (d ≤ 2 ^ 31 - 1)

/-- What is kept of a manager. -/
def Mbx.mgr (m : Mbx) : Mgr → MgrState
  | .a => m.mgrA | .b => m.mgrB

/-- A manager's part through `f`. -/
def Mbx.updMgr (m : Mbx) (g : Mgr) (f : MgrState → MgrState) : Mbx :=
  match g with
  | .a => { m with mgrA := f m.mgrA }
  | .b => { m with mgrB := f m.mgrB }

/-- Manager B is the active one: its kept epoch is later (R564). -/
def Mbx.activeB (m : Mbx) : Bool := later m.mgrB.epoch m.mgrA.epoch

/-- Unread commands of a manager. -/
def Mbx.pendingOf (m : Mbx) (g : Mgr) : Nat := (m.box.filter (fun p => p.mgr == g)).length

/-- MBX_STATUS (R579). -/
def State.mbxStatus (s : State) : Word :=
  let m := s.mbx
  pack [(31, 1, b2n m.ready), (30, 1, b2n m.alone), (29, 1, b2n m.fwRunning), (28, 1, b2n m.activeB),
        (27, 1, b2n m.mgrA.session), (26, 1, b2n m.mgrB.session), (25, 1, b2n m.held), (24, 1, b2n m.fwSlot),
        (16, 8, m.pendingOf .a), (8, 8, m.pendingOf .b)]

/-- Result codes of R568. -/
def rDone : Nat := 0
/-- NOT_READY. -/
def rNotReady : Nat := 1
/-- BUSY. -/
def rBusy : Nat := 2
/-- BAD_SIGNATURE. -/
def rBadSignature : Nat := 3
/-- STALE_EPOCH. -/
def rStaleEpoch : Nat := 4
/-- WRONG_EPOCH. -/
def rWrongEpoch : Nat := 5
/-- REFUSED. -/
def rRefused : Nat := 6
/-- UNKNOWN. -/
def rUnknown : Nat := 7
/-- BAD_OPERAND. -/
def rBadOperand : Nat := 8
/-- FAILED. -/
def rFailed : Nat := 9

/-- The EPOCH message to a manager (R561): the conductor's epoch, MBX_STATUS and AON_MODE. -/
def State.sendEpoch (s : State) (g : Mgr) (ref : Nat := 0) : State :=
  s.sendMsg .epoch g 0 ref 0 (beBytes 4 s.mbx.epoch ++ beBytes 4 s.mbxStatus.toNat ++ beBytes 4 s.aonMode.toNat)

/-- EPOCH_SET (R562): at the later of the end of bring-up and BRW_STATUS.ANCHORED. -/
def execEpochSet (t : Time) (s : State) : Host.Outcome State Fault Refusal :=
  let s := s.at_ t
  if s.inRst .fabric ∨ s.core.bringup ∨ !s.brw.anchored ∨ s.mbx.ready then .next s
  else
    let e := s.core.pcc % 2 ^ 16 * 2 ^ 16 + s.core.countL4.toNat % 2 ^ 16
    let s := { s with mbx := { s.mbx with ready := true, epoch := e, lastMsg := s.now } }
    .next ((s.sendEpoch .a).sendEpoch .b)

/-- A message of a manager bears an epoch (R563): an earlier one is refused; a later one discards its unread
commands and transfers of older epochs, with the results kept of the older one (R566, R573). -/
def State.takeEpoch (s : State) (g : Mgr) (epoch : Nat) : Bool × State :=
  let m := s.mbx.mgr g
  if m.known && later m.epoch epoch then (false, s)
  else if m.known && m.epoch == epoch then (true, s)
  else
    let mbx := s.mbx.updMgr g (fun m => { m with epoch := epoch, known := true, lastSeq := none, results := [] })
    (true, { s with mbx := { mbx with
      box := mbx.box.filter (fun p => p.mgr != g || p.epoch == epoch)
      xfers := mbx.xfers.filter (fun (x : Xfer) => x.mgr != g || x.epoch == epoch) } })

/-- A message from a manager has been accepted (R572): silence ends, and ALONE with it, which is notified with
the interval alone in ms of operating time. -/
def State.heard (s : State) : State :=
  let was := s.mbx.alone
  let span := s.opMs - s.mbx.aloneSince
  let s := { s with mbx := { s.mbx with lastMsg := s.now, alone := false } }
  if was then s.notify 6 (beBytes 6 span) else s

/-- The bytes of a REPLY message (R560). -/
def State.replyBytes (s : State) (h : CmdHdr) (code result : Nat) (payload : List Byte) : List Byte :=
  [1, 2, 2, BitVec.ofNat 8 h.mgr.byte, BitVec.ofNat 8 s.member, BitVec.ofNat 8 code] ++ beBytes 2 payload.length
  ++ beBytes 4 s.mbx.epoch ++ beBytes 4 h.epoch ++ beBytes 4 s.mbx.txSeq ++ beBytes 4 h.seq
  ++ [BitVec.ofNat 8 result] ++ List.replicate 7 0 ++ payload

/-- A payload in the parts that its REPLY messages carry, of up to 1024 bytes each (R560, R568). -/
def replyParts (n : Nat) (payload : List Byte) : List (List Byte) :=
  match n with
  | 0 => [payload.take 1024]
  | n + 1 => if payload.length ≤ 1024 then [payload] else payload.take 1024 :: replyParts n (payload.drop 1024)

/-- One REPLY goes out on the conductor's own port while its firmware runs and holds a session with the sender;
otherwise a relayed command's goes back to the relaying member in a COMMAND record (R567). -/
def State.sendPart (s : State) (h : CmdHdr) (code result : Nat) (payload : List Byte) : State :=
  if s.mbx.fwRunning && (s.mbx.mgr h.mgr).session then s.sendMsg .reply h.mgr code h.seq result payload
  else if h.relayed then
    let s := s.htlSend 1 1 h.relay (0x05 :: s.replyBytes h code result payload)
    { s with mbx := { s.mbx with txSeq := s.mbx.txSeq + 1 } }
  else s

/-- The reply to a command, in one or more messages (R567, R568). -/
def State.sendReply (s : State) (h : CmdHdr) (code result : Nat) (payload : List Byte) : State :=
  (replyParts (payload.length / 1024) payload).foldl (fun s p => s.sendPart h code result p) s

/-- MBX_LAST and the counts (R579): DONE and FAILED are commands executed. -/
def State.countCmd (s : State) (h : CmdHdr) (code result : Nat) : State :=
  let ran := result == rDone || result == rFailed
  { s with mbx := { s.mbx with
      lastCode := code, lastResult := result, lastSender := h.mgr.byte, lastRelayed := h.relayed
      accepted := if ran then s.mbx.accepted + 1 else s.mbx.accepted
      refused := if ran then s.mbx.refused else s.mbx.refused + 1 } }

/-- The result of an executed command: stored among its sender's last 64 (R566), counted, answered. -/
def State.complete (s : State) (h : CmdHdr) (code result : Nat) (payload : List Byte) : State :=
  let s := s.countCmd h code result
  let s := { s with mbx := s.mbx.updMgr h.mgr (fun m =>
    { m with results := ((h.seq, code, result, payload) :: m.results).take 64 }) }
  s.sendReply h code result payload

/-- The fabric takes up a command (R562, R563, R566, R568): whether it is to be executed, once its epoch, its number
and its signature have been judged; a command that is not has been answered. -/
def State.takeCommand (s : State) (h : CmdHdr) (code : Nat) (needSigned : Bool) : Bool × State :=
  if s.inRst .fabric then (false, s)
  else if !s.mbx.ready then (false, (s.countCmd h code rNotReady).sendReply h code rNotReady [])
  else
    let (ok, s) := s.takeEpoch h.mgr h.epoch
    let m := s.mbx.mgr h.mgr
    if !ok then (false, (s.countCmd h code rStaleEpoch).sendReply h code rStaleEpoch [])
    else if (match m.lastSeq with | some n => decide (h.seq ≤ n) | none => false) then
      match m.results.find? (fun r => r.1 == h.seq) with
      | some r => (false, s.sendReply h r.2.1 r.2.2.1 r.2.2.2)
      | none => (false, (s.countCmd h code rStaleEpoch).sendReply h code rStaleEpoch [])
    else
      let s := { s with mbx := s.mbx.updMgr h.mgr (fun m => { m with lastSeq := some h.seq }) }
      if needSigned && !h.signed then (false, s.complete h code rBadSignature [])
      else (true, s)

/-- The fabric executes a command (R565, R568): `f` is its effect, answering the result and the payload; `after` acts
once the reply to a DONE is sent. -/
def State.runCommand (s : State) (h : CmdHdr) (code : Nat) (needSigned : Bool)
    (f : State → (Nat × List Byte) × State) (after : State → State := id) : State :=
  let (go, s) := s.takeCommand h code needSigned
  if !go then s else
  let ((r, p), s) := f s
  let s := s.complete h code r p
  if r = rDone then after s else s

/-- HEARTBEAT (R561, R563): judged by its epochs and answered with an EPOCH message; NOT_READY until the epoch is
set. It comes over a session that the running firmware holds (R559), VERSION 1, in one datagram (R560). -/
def execHeartbeat (t : Time) (m : MsgHdr) (s : State) : Host.Outcome State Fault Refusal :=
  let s := s.at_ t
  if s.inRst .mgmt ∨ !s.mbx.fwRunning ∨ !m.session ∨ m.version ≠ 1 ∨ 1200 < m.length then .next s
  else if !s.mbx.ready then .next (s.sendMsg .reply m.mgr 0 m.seq rNotReady [])
  else
    let (ok, s) := s.takeEpoch m.mgr m.epoch
    if !ok then .next (s.sendMsg .reply m.mgr 0 m.seq rStaleEpoch [])
    else if m.receiver ≠ 0 ∧ m.receiver ≠ s.mbx.epoch then
      .next ((s.sendMsg .reply m.mgr 0 m.seq rWrongEpoch []).sendEpoch m.mgr m.seq)
    else .next (s.heard.sendEpoch m.mgr m.seq)

/-- DTLS_HANDSHAKE (R559): a client whose certificate key is a MANAGER role key of the trust store is accepted,
and no other; one session for each manager on each port. -/
def execDtlsHandshake (t : Time) (mgr : Mgr) (portB : Bool) (key : List Byte) (s : State) :
    Host.Outcome State Fault Refusal :=
  let s := s.at_ t
  if s.inRst .mgmt ∨ !s.mbx.fwRunning ∨ !s.ids.storeOk
      ∨ !s.nv.trust.keys.any (fun k => k.role == 4 && k.hash == key) then .next s
  else .next { s with mbx := { (s.mbx.updMgr mgr (fun m =>
    { m with session := true, portA := m.portA || !portB, portB := m.portB || portB })) with fwSession := true } }

/-- ALONE (R572): no message from either manager has been accepted for `mgmt.silent_time`. -/
def execAlone (t : Time) (s : State) : Host.Outcome State Fault Refusal :=
  let s := s.at_ t
  if s.inRst .fabric ∨ !s.mbx.ready ∨ s.mbx.alone ∨ !s.elapsed s.mbx.lastMsg (s.fldN .mgmtSilentTime * sec) then .next s
  else
    let s := { s with mbx := { s.mbx with alone := true, aloneSince := s.opMs } }
    .next (s.stage 0x19 0 (leBytes 4 s.aonMode.toNat))

/-- A sensor's 10 ms mean in 0.01 °C (R549). -/
def Sensor.mean (x : Sensor) : Int :=
  if x.samples.isEmpty then 0 else (meanRat (x.samples.map (fun (v : Int) => (v : Rat)))).floor

/-- The mailbox registers (R579). -/
def State.readMbx (s : State) (o : Nat) : Option Word :=
  let m := s.mbx
  let n := fun (x : Nat) => some (BitVec.ofNat 32 x)
  let hi := some (lookupD s.latches (0x00C00000 + o) 0)
  match o with
  | 0x00 => some s.mbxStatus
  | 0x04 => n m.epoch
  | 0x08 => n m.mgrA.epoch
  | 0x0C => n m.mgrB.epoch
  | 0x10 => n (m.holdEpoch.getD 0)
  | 0x14 => n (m.capEpoch.getD 0)
  | 0x18 => some (pack [(24, 8, m.lastCode), (16, 8, m.lastResult), (8, 8, m.lastSender), (7, 1, b2n m.lastRelayed)])
  | 0x1C => some m.accepted
  | 0x20 => some m.refused
  | 0x24 => n (s.wallNow.getD 0)
  | 0x28 => hi
  | 0x30 => some (m.rec_.setWidth 32)
  | 0x34 => hi
  | 0x38 => some (pack [(31, 1, b2n m.recBusy), (28, 2, m.recResult), (0, 11, m.recLen)])
  | 0x40 => some (pack [(4, 4, m.stepModule), (0, 4, m.stepShelf)])
  | 0x48 => some 0
  | o =>
    if 0x100 ≤ o ∧ o < 0x260 then
      (s.aon.sensors[(o - 0x100) / 4]?).map (fun x =>
        pack [(31, 1, b2n x.valid), (30, 1, b2n x.fault), (0, 16, twosSat 16 x.mean)])
    else none

/-- Writes to the mailbox registers that have no command of their own (R557, R579). -/
def State.writeMbx (s : State) (o : Nat) (v : Word) : State :=
  match o with
  | 0x30 => if v.toNat % 4 ≠ 0 then s.report 0x200 0x02 0x00C00030
            else { s with mbx := { s.mbx with rec_ := (s.mbx.rec_ >>> 32 <<< 32) ||| v.setWidth 64 } }
  | 0x34 => { s with mbx := { s.mbx with rec_ := (v.setWidth 64 <<< 32) ||| (s.mbx.rec_.setWidth 32).setWidth 64 }
                     latches := insertKey s.latches 0x00C00034 v }
  | 0x40 => { s with mbx := { s.mbx with stepModule := field v 7 4, stepShelf := field v 3 0 } }
  | _ => s

end Sys2Proof.Machine
end

