-- ==== Sys2Proof/Machine/LoaderOps.lean ====
section
/-! DEFINITION. The operations of the configuration loader (chapter 14): WRITE, APPLY_WARM, APPLY_FULL and ERASE as
CFG_CMD and the managers start them, their end, and the loader's registers. -/
namespace Sys2Proof.Machine

/-- The bytes of a slot. -/
def Nv.slot (n : Nv) (k : Bool) : List Byte := if k then n.slot1 else n.slot0

/-- Set a slot. -/
def Nv.setSlot (n : Nv) (k : Bool) (b : List Byte) : Nv := if k then { n with slot1 := b } else { n with slot0 := b }

/-- The staged image (R455): the VALID image of the slot not in use whose SEQ is one above the SEQ in force; with
no image in force, a VALID image of either slot (R458). -/
def Cfg.staged (c : Cfg) : Option Image :=
  match c.force with
  | none => match c.image0 with | some i => some i | none => c.image1
  | some f => (if c.active then c.image0 else c.image1).filter (fun i => i.seq == (f.seq + 1) % 2 ^ 32)

/-- The slot that WRITE and ERASE act on: the slot not in use, or slot 0 with no image in force (R454, R455). -/
def Cfg.target (c : Cfg) : Bool := c.force.isSome && !c.active

/-- The loader records the judgement of a slot (R463). -/
def Cfg.judged (c : Cfg) (k : Bool) (bytes : List Byte) (j : Judged) : Cfg :=
  let seq := if j.code = 1 then 0 else leAt bytes 8 4
  let c := if 9 ≤ j.code then { c with firstBad := j.bad } else c
  if k then { c with check1 := j.code, seq1 := seq, image1 := j.image }
  else { c with check0 := j.code, seq0 := seq, image0 := j.image }

/-- Count an operation on a slot (R463). -/
def Cfg.countWrite (c : Cfg) (k : Bool) : Cfg :=
  if k then { c with writes1 := sat 65535 (c.writes1 + 1) } else { c with writes0 := sat 65535 (c.writes0 + 1) }

/-- An operation ends: LAST_OP, RESULT, its Barrow record (R458, R584), and the reply a manager awaits. -/
def State.cfgDone (s : State) (op : CfgOp) (result seq : Nat) (by_ : Option CmdHdr) : State :=
  let s := { s with cfg := { s.cfg with lastOp := op.code, result := result } }
  let s := s.stage 0x20 1 ([BitVec.ofNat 8 op.code, BitVec.ofNat 8 result, 0, 0] ++ leBytes 4 seq) s.brw.flush
  match by_ with
  | none => s
  | some h => s.complete h 0x30 (if result = 0 then rDone else if result = 15 then rRefused else rFailed)
      [BitVec.ofNat 8 result]

/-- SEQ an operation concerns (R458): of the staged image, or of the slot erased. -/
def State.cfgSeq (s : State) (op : CfgOp) : Nat :=
  match op with
  | .erase => if s.cfg.target then s.cfg.seq1 else s.cfg.seq0
  | _ => match s.cfg.staged with | some i => i.seq | none => ((s.cfg.force).map Image.seq).getD 0

/-- Bytes of conductor LPDDR5X, 30 GiB (R546). -/
def ddrBytes : Nat := 30 * 2 ^ 30

/-- The staging buffer of a WRITE lies beyond the memory there is. -/
def State.stagingBeyond (s : State) : Bool := decide (ddrBytes < s.cfg.src.toNat + s.cfg.len)

/-- WRITE, steps 1 to 3 (R454): the staged image is judged, its SEQ checked, and the slot erased. -/
def State.cfgWrite (s : State) (by_ : Option CmdHdr) : State :=
  let bytes := s.ddr.readBytes s.cfg.src.toNat s.cfg.len
  let (j, s) := s.judgeImage bytes
  let s := if 9 ≤ j.code then { s with cfg := { s.cfg with firstBad := j.bad } } else s
  let seq := leAt bytes 8 4
  match j.image with
  | none => s.cfgDone .write j.code seq by_
  | some im =>
    let inOrder := match s.cfg.force with | none => true | some f => seq == (f.seq + 1) % 2 ^ 32
    if !inOrder then s.cfgDone .write 13 seq by_
    else
      let k := s.cfg.target
      let n := leAt bytes 0x0C 4
      { s with nv := s.nv.setSlot k []
               cfg := { (s.cfg.judged k [] ⟨1, 0, none⟩).countWrite k with
                          op := some (.write, bytes.take n, some im), opBy := by_ } }

/-- The set a warm apply forms (R456): the staged image's fields that take effect at it, with the fields of the
last full start. -/
def Cfg.combined (c : Cfg) (st : Image) : Image :=
  let old := c.lane.getD Image.blank
  { st with vals := st.vals.filter (fun v => !v.1.1.spec.full) ++ old.vals.filter (fun v => v.1.1.spec.full)
            blobs := st.blobs.filter (fun v => !v.1.1.spec.full) ++ old.blobs.filter (fun v => v.1.1.spec.full) }

/-- APPLY_WARM (R456): refused without an image in force, a staged image or the end of bring-up; judged; put in
force, to take effect from the next voted mark. -/
def State.cfgWarm (s : State) (by_ : Option CmdHdr) : State :=
  let seq := s.cfgSeq .applyWarm
  match s.cfg.force, s.cfg.staged with
  | some _, some st =>
    if s.core.bringup then s.cfgDone .applyWarm 15 seq by_
    else if !(s.cfg.combined st).constraints then s.cfgDone .applyWarm 14 seq by_
    else
      let s := { s with cfg := { s.cfg with active := !s.cfg.active, force := some st, warmPending := true }
                        ids := s.ids.extend 2 st.digest }
      s.cfgDone .applyWarm 0 seq by_
  | _, _ => s.cfgDone .applyWarm 15 seq by_

/-- APPLY_FULL (R458): requires an image in force or a staged one; asserts the remote reset source. -/
def State.cfgFull (s : State) (by_ : Option CmdHdr) : State :=
  let seq := s.cfgSeq .applyFull
  if s.cfg.force.isNone ∧ s.cfg.staged.isNone then s.cfgDone .applyFull 15 seq by_
  else (s.cfgDone .applyFull 0 seq by_).assertReset .remote (s.fused .remote)

/-- ERASE (R455): the slot not in use is erased. -/
def State.cfgErase (s : State) (by_ : Option CmdHdr) : State :=
  let k := s.cfg.target
  { s with nv := s.nv.setSlot k []
           cfg := { s.cfg.countWrite k with op := some (.erase, [], none), opBy := by_ } }

/-- An operation is commanded (R454 to R458, R462): refused while another runs. -/
def State.cfgCommand (s : State) (op : CfgOp) (by_ : Option CmdHdr) : State :=
  if s.cfg.op.isSome then s.cfgDone op 15 (s.cfgSeq op) by_
  else match op with
    | .write => s.cfgWrite by_
    | .applyWarm => s.cfgWarm by_
    | .applyFull => s.cfgFull by_
    | .erase => s.cfgErase by_

/-- A WRITE or ERASE ends (R454 steps 4 to 6, R455): the slot programmed and judged VALID again, or left erased. -/
def State.cfgEnd (s : State) (ok : Bool) : State :=
  match s.cfg.op with
  | none => s
  | some (op, bytes, im) =>
    let k := s.cfg.target
    let by_ := s.cfg.opBy
    let s := { s with cfg := { s.cfg with op := none, opBy := none } }
    match op with
    | .write =>
      let seq := leAt bytes 8 4
      if ok then
        let (j, s) := s.judgeImage bytes
        match j.image with
        | some _ =>
          ({ s with nv := s.nv.setSlot k bytes, cfg := s.cfg.judged k bytes j }).cfgDone .write 0 seq by_
        | none => ({ s with cfg := s.cfg.judged k [] ⟨1, 0, none⟩ }).cfgDone .write j.code ((im.map Image.seq).getD seq) by_
      else s.cfgDone .write 1 seq by_
    | _ =>
      let seq := if k then s.cfg.seq1 else s.cfg.seq0
      ({ s with cfg := s.cfg.judged k [] ⟨1, 0, none⟩ }).cfgDone .erase (if ok then 0 else 1) seq by_

/-- Indices a field can carry. -/
def fieldIndices (f : Fld) : List Nat :=
  match f.spec.idx with
  | .one => [0]
  | .source => faultSources
  | _ => List.range 32

/-- PENDING_FULL (R457): a full-start field differs between the image in force and the values in force. -/
def Cfg.pendingFull (c : Cfg) : Bool :=
  match c.force, c.lane with
  | some a, some b => Fld.all.any (fun f => f.spec.full && (fieldIndices f).any (fun i => a.get f i != b.get f i))
  | _, _ => false

/-- The loader's registers (R463). -/
def State.readCfg (s : State) (o : Nat) : Option Word :=
  let c := s.cfg
  let n := fun (x : Nat) => some (BitVec.ofNat 32 x)
  match o with
  | 0x00 => some (pack [(31, 1, b2n c.op.isSome), (30, 1, b2n c.staged.isSome), (29, 1, b2n c.pendingFull),
      (28, 1, b2n c.otpBad), (27, 1, b2n c.retainedOk), (20, 4, c.lastOp), (16, 4, c.result),
      (8, 8, sat 255 ((c.force.map Image.skipped).getD 0)), (1, 1, b2n c.active), (0, 1, b2n c.force.isSome)])
  | 0x04 => n c.seq0
  | 0x08 => n c.seq1
  | 0x0C => some (pack [(28, 4, c.check0), (0, 16, c.writes0)])
  | 0x10 => some (pack [(28, 4, c.check1), (0, 16, c.writes1)])
  | 0x14 => n ((c.force.map Image.seq).getD 0)
  | 0x18 => n ((c.lane.map Image.seq).getD 0)
  | 0x20 => some 0
  | 0x24 => some (c.src.setWidth 32)
  | 0x28 => some (lookupD s.latches 0x00A00028 0)
  | 0x2C => n c.len
  | 0x30 => n c.firstBad
  | o => if 0x10000 ≤ o ∧ o < 0x20000 then n (leAt s.nv.fuse.otp (o - 0x10000) 4) else none

/-- The operation a CFG_CMD.OP code names (R463). -/
def cfgOpOf : Nat → Option CfgOp
  | 1 => some .write | 2 => some .applyWarm | 3 => some .applyFull | 4 => some .erase | _ => none

/-- Writes to the loader's registers but CFG_CMD (R463). -/
def State.writeCfg (s : State) (o : Nat) (v : Word) : State :=
  match o with
  | 0x24 => if v.toNat % 64 ≠ 0 then s.report 0x200 0x02 0x00A00024
            else { s with cfg := { s.cfg with src := (s.cfg.src >>> 32 <<< 32) ||| v.setWidth 64 } }
  | 0x28 => { s with cfg := { s.cfg with src := (v.setWidth 64 <<< 32) ||| (s.cfg.src.setWidth 32).setWidth 64 }
                     latches := insertKey s.latches 0x00A00028 v }
  | 0x2C => if v.toNat < 0x208 ∨ 0x04000000 < v.toNat then s.report 0x200 0x02 0x00A0002C
            else { s with cfg := { s.cfg with len := v.toNat } }
  | _ => s

/-- A register command that starts a loader operation: with the fabric in reset it answers as R70 lays down, and a
WRITE whose staging buffer lies beyond the memory stops the model. -/
def State.cfgStart (s : State) (op : CfgOp) : Host.Outcome State Fault Refusal :=
  if s.inRst .fabric then .next (s.report 0x200 0x01 0x00A00020 3)
  else if op = .write ∧ s.cfg.op.isNone ∧ s.stagingBeyond then .fault (.noMemory s.cfg.src.toNat)
  else .next (s.cfgCommand op none)

/-- WRITE (R454). -/
def execWrite (t : Time) (s : State) : Host.Outcome State Fault Refusal := (s.at_ t).cfgStart .write
/-- APPLY_WARM (R456). -/
def execApplyWarm (t : Time) (s : State) : Host.Outcome State Fault Refusal := (s.at_ t).cfgStart .applyWarm
/-- APPLY_FULL (R458). -/
def execApplyFull (t : Time) (s : State) : Host.Outcome State Fault Refusal := (s.at_ t).cfgStart .applyFull
/-- ERASE (R455). -/
def execErase (t : Time) (s : State) : Host.Outcome State Fault Refusal := (s.at_ t).cfgStart .erase

/-- CFG_OPERATION_COMPLETE (R454, R455, R458): the NOR has finished a WRITE or ERASE, or failed in it. -/
def execCfgOperationComplete (t : Time) (ok : Bool) (s : State) : Host.Outcome State Fault Refusal :=
  .next ((s.at_ t).cfgEnd ok)

end Sys2Proof.Machine
end

