-- ==== Sys2Proof/Machine/Idsol.lean ====
section
/-! DEFINITION. Idsol's commands (chapter 18) but those of the broadcast key: the trust store and its commands,
measurement, seals, tamper, and its registers. -/
namespace Sys2Proof.Machine

/-- TRUST_STORE_LOAD (R521): within 200 ms of the fabric's release the store is loaded, or found unreadable. -/
def execTrustStoreLoad (t : Time) (ok : Bool) (s : State) : Host.Outcome State Fault Refusal :=
  let s := s.at_ t
  if s.inRst .fabric ∨ !s.idsOk ∨ s.ids.storeTried then .next s
  else if ok then .next { s with ids := { s.ids with storeOk := true, storeTried := true } }
  else .next ({ s with ids := { s.ids with storeOk := false, storeTried := true } }.verifyFail 0 6)

/-- One operation of a trust command (R523). -/
structure TrustOp where
  op : Nat
  operand : List Byte
  deriving DecidableEq, Repr

/-- The operations that a byte string spells. -/
def parseTrustOps : Nat → List Byte → Option (List TrustOp)
  | 0, bs => if bs.isEmpty then some [] else none
  | n + 1, bs =>
    let len := leAt bs 2 2
    if bs.length < 4 + len then none
    else (parseTrustOps n (bs.drop (4 + len))).map (fun l => ⟨leAt bs 0 2, (bs.drop 4).take len⟩ :: l)

/-- The operand has the size and values R523 gives it. -/
def TrustOp.wellFormed (o : TrustOp) : Bool :=
  let n := o.operand.length
  let b0 := leAt o.operand 0 1
  match o.op with
  | 1 => n == 50 && decide (1 ≤ b0) && decide (b0 ≤ 4)
  | 2 => n == 48
  | 3 => n == 8
  | 4 => n == 8
  | 5 => n == 5 && (b0 == 2 || b0 == 3)
  | 6 => n == 2 && decide (leAt o.operand 0 2 < 64)
  | 7 => n == 82 && decide (leAt o.operand 81 1 < 4)
  | 8 => n == 49
  | 9 => decide (49 ≤ n)
  | _ => false

/-- The operations are permitted for the signer (R519, R520, R522): the voucher key signs ENROL_OWNER alone, the
owner root everything else; after TRANSFER only ADD_KEY and LOAD_ENROL. -/
def permitted (voucher : Bool) (ops : List TrustOp) : Bool :=
  if voucher then ops.map TrustOp.op == [9]
  else
    let after := (ops.dropWhile (fun o => o.op != 8)).drop 1
    ops.all (fun o => o.op != 9) && after.all (fun o => o.op == 1 || o.op == 7)

/-- One operation's effect on the store; none where it cannot be applied (R523, R530). The flag says that it expels
the partners of the former K_enrol. -/
def TrustStore.apply (t : TrustStore) (o : TrustOp) : Option (TrustStore × Bool) :=
  let tok := BitVec.ofNat 64 (leAt o.operand 0 8)
  match o.op with
  | 1 =>
    let k : RoleKey := ⟨leAt o.operand 0 1, Config.sha384 (o.operand.drop 1)⟩
    let others := t.keys.filter (fun x => x.hash != k.hash)
    if 32 ≤ others.length then none else some ({ t with keys := others ++ [k] }, false)
  | 2 => some ({ t with keys := t.keys.filter (fun k => k.hash != o.operand) }, false)
  | 3 =>
    if t.barred.contains tok then some (t, false)
    else if 1024 ≤ t.barred.length then none else some ({ t with barred := t.barred ++ [tok] }, false)
  | 4 => some ({ t with barred := t.barred.filter (fun x => x != tok) }, false)
  | 5 =>
    let v := leAt o.operand 1 4
    if leAt o.operand 0 1 = 3 then some ({ t with svnFw := max t.svnFw v }, false)
    else some ({ t with svnBundle := max t.svnBundle v }, false)
  | 6 => some ({ t with policy := BitVec.ofNat 16 (leAt o.operand 0 2) }, false)
  | 7 =>
    (Config.unwrapEnrol (o.operand.take 81)).map (fun k =>
      let flags := leAt o.operand 81 1
      ({ t with enrol := if flags.testBit 0 then [k] else (k :: t.enrol).take 2 }, flags.testBit 1))
  | 8 => some ({ t with owner := some (Config.sha384 o.operand), keys := [], enrol := [] }, false)
  | 9 => some ({ t with owner := some (Config.sha384 (o.operand.take 49)), policy := 3 }, false)
  | _ => none

/-- All operations in order, or none. -/
def TrustStore.applyAll (t : TrustStore) : List TrustOp → Option (TrustStore × Bool)
  | [] => some (t, false)
  | o :: os => match t.apply o with
    | none => none
    | some (t, e) => (t.applyAll os).map (fun r => (r.1, r.2 || e))

/-- Idsol judges and applies a trust command (R519 to R523): the DETAIL of its failure, none when accepted. -/
def State.trustCommand (s : State) (bytes voucher : List Byte) : Option Nat × State :=
  let n := leAt bytes 18 2
  let body := bytes.take (20 + n)
  let signer := (bytes.drop (20 + n)).take 48
  let sig := (bytes.drop (68 + n)).take 96
  let seq := leAt bytes 4 4
  let serial := leAt bytes 8 8
  let count := leAt bytes 16 2
  let own := s.nv.fuse.serial.toNat
  let st := s.nv.trust
  let fail := fun (d : Nat) => (some d, s.verifyFail 4 d)
  if !s.idsOk ∨ !s.ids.storeOk then fail 6
  else match parseTrustOps count ((bytes.drop 20).take n) with
  | none => fail 4
  | some ops =>
    let byVoucher := st.owner.isNone
    if bytes.take 4 ≠ ascii "UB3T" ∨ bytes.length ≠ 164 + n ∨ count < 1 ∨ 64 < count
        ∨ ops.any (fun o => !o.wellFormed) ∨ (serial ≠ 0 ∧ serial ≠ own) then fail 4
    else if st.owner.isSome ∧ !later seq st.seq.toNat then fail 5
    else if byVoucher ∧ (serial ≠ own ∨ !Config.voucherKeyOk voucher signer) then fail 7
    else if !byVoucher ∧ st.owner ≠ some signer then fail 1
    else if !Config.ecdsaOk signer (body ++ signer) sig then fail 0
    else if !permitted byVoucher ops then fail 2
    else match st.applyAll ops with
      | none => fail 4
      | some (st', expel) =>
        let st' := { st' with seq := BitVec.ofNat 32 seq }
        let digest := Config.sha384 bytes
        let change := ops.any (fun o => o.op == 8 || o.op == 9)
        let ids := (s.ids.extend 5 digest)
        let ids := { ids with event := if change then setBit (setBit ids.event 2) 3 else setBit ids.event 2
                              expelOld := ids.expelOld || expel }
        let s := ({ s with nv := { s.nv with trust := st' }, ids := ids }).verifyOk
        let s := s.idsRecord 2 (leBytes 4 seq ++ digest)
        (none, if change then s.idsRecord 4 (st'.owner.getD []) else s)

/-- TRUST_COMMAND (R522): a trust command reaches Idsol, with the voucher certificate where it carries one. -/
def execTrustCommand (t : Time) (bytes voucher : List Byte) (s : State) : Host.Outcome State Fault Refusal :=
  let s := s.at_ t
  if s.inRst .idsol then .next s else .next (s.trustCommand bytes voucher).2

/-- MEASUREMENT_EXTEND (R527): M7 takes 48 bytes at the running firmware's request. -/
def execMeasurementExtend (t : Time) (bytes : List Byte) (s : State) : Host.Outcome State Fault Refusal :=
  let s := s.at_ t
  if !s.idsOk ∨ !s.mbx.fwRunning ∨ bytes.length ≠ 48 then .next s
  else .next { s with ids := s.ids.extend 7 bytes }

/-- BARROW_SEAL (R539): once each second while records have been committed. -/
def execBarrowSeal (t : Time) (s : State) : Host.Outcome State Fault Refusal :=
  let s := s.at_ t
  if !s.idsOk ∨ s.inRst .fabric ∨ !s.brw.anchored ∨ !s.elapsed s.ids.sealAt sec then .next s
  else .next ({ s with ids := { s.ids with sealAt := s.now } }.seal false)

/-- TELEMETRY_SEAL (R540): once each second the items originated in it are sealed, and the seal is itself sent. -/
def execTelemetrySeal (t : Time) (s : State) : Host.Outcome State Fault Refusal :=
  let s := s.at_ t
  if !s.idsOk ∨ s.inRst .fabric ∨ !s.elapsed s.ids.teleSealAt sec then .next s
  else
    let head := ascii "UB3M" ++ s.serialBytes ++ leBytes 4 s.core.pcc
    let h0 := s.ids.teleChain.getD (Config.sha384 head)
    let d := Config.sha384 (s.mbx.items.flatMap (fun i =>
      [BitVec.ofNat 8 i.type, BitVec.ofNat 8 i.member] ++ beBytes 2 i.content.length ++ i.content))
    let h := Config.sha384 (h0 ++ d)
    let at_ := leBytes 8 (s.opMs / 1000)
    let s := { s with ids := { s.ids with teleChain := some h, teleSealAt := s.now }, mbx := { s.mbx with items := [] } }
    .next (s.item tSeal (at_ ++ h ++ Config.dikSign (head ++ at_ ++ h)))

/-- Policy of a detector (R541, R542). -/
def TrustStore.tamperPolicy (t : TrustStore) (d : Nat) : Nat :=
  match d with
  | 0 => t.policy.toNat / 4 % 4
  | 1 => t.policy.toNat / 16 % 4
  | 4 => 3
  | _ => 2

/-- A detector fires (R542). -/
def State.tamperFire (s : State) (d : Nat) : State :=
  let p := s.nv.trust.tamperPolicy d
  if p = 0 then s else
  let s := { s with ids := { s.ids with tamperSeen := setBit s.ids.tamperSeen d, event := setBit s.ids.event 0 } }
  let s := (s.report 0xC00 0x80 d p).idsRecord 0 (faultBytes 0x80 d p)
  let s := if p = 3 then
      { s with nv := { s.nv with trust := { s.nv.trust with enrol := [] } }
               ids := { s.ids with event := setBit s.ids.event 4 } }.idsRecord 5 []
    else s
  if 2 ≤ p then s.assertReset .tamper (s.fused .tamper) else s

/-- TAMPER_DETECT (R541, R542): a detector turns from healthy to tripped. It fires while Idsol runs, and not when it
was found tripped at the release and has not been healthy since. -/
def execTamperDetect (t : Time) (d : Nat) (s : State) : Host.Outcome State Fault Refusal :=
  let s := s.at_ t
  if 5 ≤ d then .next s else
  let was := s.pin.tripped.getLsbD d
  let s := { s with pin := { s.pin with tripped := setBit s.pin.tripped d } }
  if s.inRst .idsol ∨ was then .next s
  else .next ({ s with ids := { s.ids with tamperOpen := setBit s.ids.tamperOpen d } }.tamperFire d)

/-- TAMPER_LOOP_RESTORED (R541): a detector returns to healthy, and is armed again. -/
def execTamperLoopRestored (t : Time) (d : Nat) (s : State) : Host.Outcome State Fault Refusal :=
  let s := s.at_ t
  if 5 ≤ d then .next s else
  let s := { s with pin := { s.pin with tripped := clrBit s.pin.tripped d } }
  if s.inRst .idsol then .next s
  else .next { s with ids := { s.ids with tamperOpen := clrBit s.ids.tamperOpen d
                                          disarmed := clrBit s.ids.disarmed d } }

/-- The Idsol block's registers (R545). -/
def State.readIds (s : State) (o : Nat) : Option Word :=
  let d := s.ids
  let st := s.nv.trust
  let hop := fun (i : Nat) => let h := d.hop.getD i (false, 0); 128 * b2n h.1 + h.2 % 128
  let word := fun (bs : List Byte) (j : Nat) => some (BitVec.ofNat 32 (leAt bs (4 * j) 4))
  match o with
  | 0x00 => some (pack [(31, 1, b2n d.ready), (30, 1, b2n d.failed), (29, 1, b2n d.storeOk),
      (28, 1, b2n (d.storeOk && st.owner.isSome)), (27, 1, b2n (d.storeOk && st.policy.getLsbD 0)),
      (26, 1, b2n (d.storeOk && st.policy.getLsbD 1)), (24, 2, if d.storeOk then st.enrol.length else 0),
      (18, 6, if d.storeOk then st.keys.length else 0), (8, 8, d.kbcNum)])
  | 0x04 => some (d.event.setWidth 32)
  | 0x08 => some (pack [(21, 5, d.tamperSeen.toNat), (16, 5, d.tamperOpen.toNat), (2, 2, st.tamperPolicy 1),
      (0, 2, st.tamperPolicy 0)])
  | 0x0C => some d.verifyOk
  | 0x10 => some (pack [(28, 4, d.failObject), (24, 4, d.failDetail), (0, 24, d.failCount)])
  | 0x14 => some (if d.storeOk then st.seq else 0)
  | 0x18 => some (if d.storeOk then pack [(16, 16, sat 65535 st.svnFw), (0, 16, sat 65535 st.svnBundle)] else 0)
  | 0x1C => some (pack [(24, 8, hop 3), (16, 8, hop 2), (8, 8, hop 1), (0, 8, hop 0)])
  | o =>
    if 0x100 ≤ o ∧ o < 0x280 then word (d.meas.getD ((o - 0x100) / 0x30) []) ((o - 0x100) % 0x30 / 4)
    else if 0x400 ≤ o ∧ o < 0x430 then word s.nv.fuse.devid ((o - 0x400) / 4)
    else if 0x440 ≤ o ∧ o < 0x470 then word (if d.storeOk then st.owner.getD [] else []) ((o - 0x440) / 4)
    else none

/-- Writes to the Idsol block: event and SEEN bits clear where 1 is written (R545). -/
def State.writeIds (s : State) (o : Nat) (v : Word) : State :=
  match o with
  | 0x04 => { s with ids := { s.ids with event := s.ids.event &&& ~~~(v.setWidth 7) } }
  | 0x08 => { s with ids := { s.ids with tamperSeen := s.ids.tamperSeen &&& ~~~((v >>> 21).setWidth 5) } }
  | _ => s

end Sys2Proof.Machine
end

