-- ==== Sys2Proof/Machine/Faults.lean ====
section
/-! DEFINITION. The fault collector (chapter 16): the message, counting and severity, reactions, the queue,
its registers, and the commands FAULT_MESSAGE, FAULT_BIN_BOUNDARY, FAULT_QUEUE_READ, TRAP_ACK, FAULT_CLEAR. -/
namespace Sys2Proof.Machine

/-- Kinds marked S in the kind table: severe on every message (R484). -/
def kindSevere (k : Nat) : Bool :=
  [0x05, 0x12, 0x21, 0x22, 0x25, 0x26, 0x44, 0x49, 0x71, 0x72, 0x75, 0x80].contains k

/-- The 64-bit layout of a message (R482). -/
def QMsg.word (q : QMsg) : BitVec 64 :=
  BitVec.ofNat 64 (q.msg.source % 2 ^ 12 * 2 ^ 52 + q.msg.kind % 2 ^ 8 * 2 ^ 44 + q.msg.inst % 2 ^ 32 * 2 ^ 12
    + q.msg.detail % 16 * 2 ^ 8 + 8 * b2n q.msg.voted + 4 * b2n q.msg.lost + 2 * b2n q.pin + b2n q.severe)

/-- A source's part of the collector. -/
def Flt.src (f : Flt) (c : Nat) : Option FltSource := f.srcs.find? (fun x => x.code == c)

/-- A source's part through `g`. -/
def Flt.updSrc (f : Flt) (c : Nat) (g : FltSource → FltSource) : Flt :=
  { f with srcs := f.srcs.map (fun x => if x.code = c then g x else x) }

/-- Width of a bin in ns: T / 16, with T in 0.1 s (R486). -/
def FltSource.binNs (x : FltSource) : Nat := x.t * 6250000

/-- The bins after `n` boundaries: the oldest `n` discarded, empty ones begun (R486). -/
def shiftBins (n : Nat) (bins : List Nat) : List Nat := (List.replicate (min n 16) 0 ++ bins).take 16

/-- Bring a source's bins up to an instant (R486). -/
def FltSource.advance (x : FltSource) (now : Time) : FltSource :=
  if x.binNs = 0 then x else
  let n := (now - x.binStart) / x.binNs
  { x with bins := shiftBins n x.bins, binStart := x.binStart + n * x.binNs }

/-- The window count: the sum of the 16 bins (R486). -/
def FltSource.window (x : FltSource) : Nat := sumNat x.bins

/-- N is not 0 and the window count is at least N (R486). -/
def FltSource.severe (x : FltSource) : Bool := x.n != 0 && decide (x.n ≤ x.window)

/-- A message is severe: its kind is, or its source's count is (R486). -/
def severeNow (kind : Nat) (x : FltSource) : Bool := kindSevere kind || x.severe

/-- Reset code of a class (R488). -/
def FltSource.resetCode (x : FltSource) (sev : Bool) : Nat :=
  if sev then x.react.toNat / 2 ^ 8 % 8 else x.react.toNat % 8
/-- INT of a class (R488). -/
def FltSource.int (x : FltSource) (sev : Bool) : Bool := x.react.getLsbD (if sev then 11 else 3)
/-- NMI of a class (R488). -/
def FltSource.nmi (x : FltSource) (sev : Bool) : Bool := x.react.getLsbD (if sev then 12 else 4)
/-- ERR_N of a class (R488). -/
def FltSource.errN (x : FltSource) (sev : Bool) : Bool := x.react.getLsbD (if sev then 13 else 5)

/-- Messages the queue holds (R493). -/
def queueDepth : Nat := 1024

/-- A classified message enters the queue, or is counted as dropped (R493). -/
def Flt.enqueue (f : Flt) (q : QMsg) : Flt :=
  if f.queue.length < queueDepth then { f with queue := f.queue ++ [q] } else { f with dropped := f.dropped + 1 }

/-- The non-maskable trap (R490). -/
def State.nmi (s : State) (q : QMsg) : State :=
  if s.flt.trap then { s with flt := { s.flt with trapsHeld := s.flt.trapsHeld + 1 } }
  else if s.inRst .mgmt then
    { s with flt := { s.flt with trapMsg := q.word, trap := true, trapOwed := true } }
  else { s with flt := { s.flt with trapMsg := q.word, trap := true, trapsDelivered := s.flt.trapsDelivered + 1 } }

/-- The L4 hold interval of R489 runs: bring-up, or L4_HOLD seconds of operating time after it. -/
def State.l4Held (s : State) : Bool :=
  s.core.bringup || (match s.flt.bringupEndMs with
    | none => true
    | some t => decide (s.opMs < t + s.flt.l4Hold * 1000))

/-- A RESET reaction: the FAULT source at the level coded, an L4 held in the hold interval (R488, R489). -/
def State.resetReaction (s : State) (source code : Nat) : State :=
  if code = 4 ∧ s.l4Held then { s with flt := { s.flt with hold := true } }
  else if code = 1 then
    match source with
    | 0x300 => s.assertReset .fault 1 [.a]
    | 0x301 => s.assertReset .fault 1 [.b]
    | 0x302 => s.assertReset .fault 1 [.c]
    | _ => s
  else s.assertReset .fault code

/-- A FAULT record in Barrow: at most 100 per second of operating time from each source (R488, R507). -/
def State.faultRecord (s : State) (q : QMsg) : State :=
  let second := s.opMs / 1000
  let counts := if s.brw.rateSecond = second then s.brw.rateCount else []
  let n := lookupD counts q.msg.source 0
  let s := { s with brw := { s.brw with rateSecond := second, rateCount := insertKey counts q.msg.source (n + 1) } }
  if n < 100 then s.stage 0x11 0 (leBytes 8 q.word.toNat)
  else { s with brw := { s.brw with lostRate := s.brw.lostRate + 1, owedRate := s.brw.owedRate + 1 } }

/-- The collector takes one message: counts it, classifies it, and applies its class's reactions in the
order pending bit, queue entry, INT, NMI, RESET (R486 to R490). A code that is no source is none of its. -/
def State.collect (s : State) (m : FaultMsg) : State :=
  match s.flt.src m.source with
  | none => s
  | some x0 =>
    let x := x0.advance s.now
    let x := { x with bins := upd x.bins 0 (· + 1), total := x.total + 1 }
    let sev := severeNow m.kind x
    let q : QMsg := ⟨m, sev, x.errN sev⟩
    let x := { x with pend := x.pend || x.errN sev }
    let f := (s.flt.updSrc m.source (fun _ => x)).enqueue q
    let f := if x.int sev then { f with intStatus := setBit f.intStatus (m.source / 256 % 16) } else f
    let s := { s with flt := f }
    let s := (s.faultRecord q).item tFault (beBytes 8 q.word.toNat)
    let s := if x.nmi sev then s.nmi q else s
    s.resetReaction m.source (x.resetCode sev)

/-- FAULT_MESSAGE (R485 to R490): the oldest message on its way from a source reaches the collector, the
`lost` older ones having found no free entry; or a block without a step of its own reports. While the
fabric is in reset no message is collected. -/
def execFaultMessage (t : Time) (x : FaultIn) (s : State) : Host.Outcome State Fault Refusal :=
  let s := s.at_ t
  match x with
  | .report source kind inst detail =>
    if s.inRst .fabric then .next (s.report source kind inst detail)
    else .next (s.collect ⟨source, kind, inst, detail, false, false⟩)
  | .path source lost =>
    if s.inRst .fabric then .next s else
    let mine : List FaultMsg := s.flt.path.filter (fun z => z.source == source)
    match mine.drop lost with
    | [] => .next s
    | m :: rest =>
      let s := { s with flt := { s.flt with path := s.flt.path.filter (fun (z : FaultMsg) => z.source != source) ++ rest } }
      .next (s.collect { m with lost := m.lost || decide (0 < lost) })

/-- FAULT_BIN_BOUNDARY (R486): at a bin boundary of a source the oldest bin is discarded and an empty bin
begins. -/
def execFaultBinBoundary (t : Time) (source : Nat) (s : State) : Host.Outcome State Fault Refusal :=
  let s := s.at_ t
  .next { s with flt := s.flt.updSrc source (fun x => x.advance s.now) }

/-- Address of FLT_MSG_HI. -/
def fltMsgHi : Nat := 0x0020000C

/-- FAULT_QUEUE_READ (R493): a read of FLT_MSG_LO removes the oldest message, returns its low half and latches
its high half; from an empty queue both are 0. With the fabric in reset it answers as R70 lays down. -/
def execFaultQueueRead (t : Time) (s : State) : Host.Outcome State Fault Refusal :=
  let s := s.at_ t
  if s.inRst .fabric then .next ({ s with busRead := 0 }.report 0x200 0x01 0x00200008 3) else
  match s.flt.queue with
  | [] => .next { s with busRead := 0, latches := insertKey s.latches fltMsgHi 0 }
  | q :: rest =>
    let w := q.word
    .next { s with flt := { s.flt with queue := rest }, busRead := w.setWidth 32
                   latches := insertKey s.latches fltMsgHi ((w >>> 32).setWidth 32) }

/-- TRAP_ACK (R490): a write of 1 to FLT_TRAP_ACK clears TRAP and TRAPS_HELD. -/
def execTrapAck (t : Time) (value : Word) (s : State) : Host.Outcome State Fault Refusal :=
  let s := s.at_ t
  if s.inRst .fabric then .next (s.report 0x200 0x01 0x00200028 3)
  else if value.getLsbD 0 then
    .next { s with flt := { s.flt with trap := false, trapsHeld := 0, trapOwed := false } }
  else .next s

/-- Clear the pending bit of one source, or of every source (R491). -/
def Flt.clearPend (f : Flt) (all : Bool) (source : Nat) : Flt :=
  { f with srcs := f.srcs.map (fun x => if all || x.code == source then { x with pend := false } else x) }

/-- FAULT_CLEAR (R491, R496): a write to FLT_CLEAR; a code that is no source is out of range (R11). -/
def execFaultClear (t : Time) (value : Word) (s : State) : Host.Outcome State Fault Refusal :=
  let s := s.at_ t
  let all := value.getLsbD 31
  let source := field value 11 0
  if s.inRst .fabric then .next (s.report 0x200 0x01 0x00200030 3)
  else if !all && (s.flt.src source).isNone then .next (s.report 0x200 0x02 0x00200030)
  else .next { s with flt := s.flt.clearPend all source }

/-- ERR_N is driven low (R491). -/
def Flt.errN (f : Flt) : Bool := f.srcs.any (fun x => x.pend)

/-- A field of FLT_POL_s and FLT_REACT_s is locked once bring-up has ended (R478). -/
def State.rwlOpen (s : State) : Bool := s.core.bringup

/-- The reset code of a reaction is in range for a source (R496). -/
def resetCodeOk (source code : Nat) : Bool :=
  decide (code ≤ 4) && (code != 1 || (decide (0x300 ≤ source) && decide (source ≤ 0x302)))

/-- The fault collector's registers, by offset in the block (R496). -/
def State.readFlt (s : State) (o : Nat) : Option Word :=
  let f := s.flt
  match o with
  | 0x00 => some (pack [(31, 1, b2n f.errN), (30, 1, b2n f.trap), (29, 1, b2n f.hold),
      (24, 5, sat 31 f.trapsHeld), (12, 12, (f.srcs.filter (fun x => x.pend)).length), (0, 11, f.queue.length)])
  | 0x04 => some (pack [(0, 12, f.l4Hold)])
  | 0x08 => some (match f.queue with | [] => 0 | q :: _ => q.word.setWidth 32)
  | 0x0C => some (lookupD s.latches fltMsgHi 0)
  | 0x10 => some f.dropped
  | 0x14 => some (f.intStatus.setWidth 32)
  | 0x18 => some (f.intEnable.setWidth 32)
  | 0x20 => some (f.trapMsg.setWidth 32)
  | 0x24 => some (lookupD s.latches 0x00200024 0)
  | 0x28 => some 0
  | 0x30 => some 0
  | o =>
    let c := o % 0x4000 / 4
    if o < 0x4000 ∨ 0x10000 ≤ o then none else
    (f.src c).map (fun x =>
      if o < 0x8000 then pack [(24, 8, x.n), (0, 16, x.t)]
      else if o < 0xC000 then pack [(0, 14, x.react.toNat)]
      else
        let y := x.advance s.now
        pack [(31, 1, b2n y.pend), (30, 1, b2n y.severe), (16, 8, sat 255 y.window), (0, 16, sat 65535 y.total)])

/-- Realign a source's bins to a new width, from the fabric's release (R486). -/
def FltSource.realign (x : FltSource) (start now : Time) : FltSource :=
  if x.binNs = 0 then x else { x with binStart := start + (now - start) / x.binNs * x.binNs }

/-- Writes to the fault collector's registers that have no command of their own (R496): RWL fields take the
write during bring-up only. -/
def State.writeFlt (s : State) (o : Nat) (v : Word) : State :=
  let a := 0x00200000 + o
  let locked := s.report 0x200 0x01 a 2
  let range := s.report 0x200 0x02 a
  match o with
  | 0x04 =>
    let h := field v 11 0
    if !s.rwlOpen then locked
    else if h < 10 ∨ 3600 < h then range else { s with flt := { s.flt with l4Hold := h } }
  | 0x14 => { s with flt := { s.flt with intStatus := s.flt.intStatus &&& ~~~(v.setWidth 16) } }
  | 0x18 => { s with flt := { s.flt with intEnable := v.setWidth 16 } }
  | o =>
    let c := o % 0x4000 / 4
    if o < 0x4000 ∨ 0xC000 ≤ o then s
    else if !s.rwlOpen then locked
    else if o < 0x8000 then
      let tt := field v 15 0
      let s := { s with flt := s.flt.updSrc c (fun x => { x with n := field v 31 24 }) }
      if tt = 0 then s.report 0x200 0x02 a
      else { s with flt := s.flt.updSrc c (fun x => ({ x with t := tt }).realign (s.dom .fabric).release s.now) }
    else
      let old := ((s.flt.src c).map (fun x => x.react.toNat)).getD 0
      let sr := field v 10 8
      let mr := field v 2 0
      let okS := resetCodeOk c sr
      let okM := resetCodeOk c mr
      let r := (if okS then sr else old / 256 % 8) * 256 + (if okM then mr else old % 8)
        + v.toNat / 2048 % 8 * 2048 + v.toNat / 8 % 8 * 8
      let s := { s with flt := s.flt.updSrc c (fun x => { x with react := BitVec.ofNat 14 r }) }
      if okS && okM then s else s.report 0x200 0x02 a

end Sys2Proof.Machine
end

