-- ==== Sys2Proof/Machine/Firmware.lean ====
section
/-! DEFINITION. Management firmware (chapter 19): slots, verification, running, confirmation, and the policy it
loads into the fault collector. -/
namespace Sys2Proof.Machine

/-- A firmware slot: LU0 false, LU1 true. -/
def Nv.fw (n : Nv) (k : Bool) : FwSlot := if k then n.fw1 else n.fw0

/-- A firmware slot through `f`. -/
def State.updFw (s : State) (k : Bool) (f : FwSlot → FwSlot) : State :=
  { s with nv := if k then { s.nv with fw1 := f s.nv.fw1 } else { s.nv with fw0 := f s.nv.fw0 } }

/-- The code of a slot state (R574). -/
def FwState.code : FwState → Nat
  | .empty => 0 | .staged => 1 | .trying => 2 | .good => 3 | .bad => 4

/-- A slot header's bytes, their CRC included (R574). -/
def FwSlot.header (f : FwSlot) : List Byte :=
  let b := ascii "UB3W" ++ [BitVec.ofNat 8 f.state.code, BitVec.ofNat 8 f.tries] ++ leBytes 4 f.svn
    ++ leBytes 4 f.length ++ leBytes 4 f.gen
  b ++ leBytes 4 (crc32 b).toNat

/-- The boot ROM boots from a GOOD slot after marking one BAD (R569). -/
def State.fallback (s : State) : State := s.notify 5 (s.nv.fw0.header ++ s.nv.fw1.header)

/-- The GOOD slot of higher GEN (R574 rule 3). -/
def Nv.goodSlot (n : Nv) : Option Bool :=
  match n.fw0.state, n.fw1.state with
  | .good, .good => some (decide (n.fw0.gen < n.fw1.gen))
  | .good, _ => some false
  | _, .good => some true
  | _, _ => none

/-- The slot that is TRYING. -/
def Nv.tryingSlot (n : Nv) : Option Bool :=
  if n.fw0.state = .trying then some false else if n.fw1.state = .trying then some true else none

/-- FIRMWARE_SLOT_SELECT (R547, R574): at each release of the management domain the boot ROM selects a slot. -/
def execFirmwareSlotSelect (t : Time) (s : State) : Host.Outcome State Fault Refusal :=
  let s := s.at_ t
  if s.inRst .mgmt ∨ s.mbx.bootTried then .next s
  else
    let s := { s with mbx := { s.mbx with bootTried := true } }
    let boot := fun (s : State) (k : Option Bool) => { s with mbx := { s.mbx with boot := k } }
    match s.nv.tryingSlot with
    | some k =>
      if (s.nv.fw k).tries < 3 then .next (boot (s.updFw k (fun f => { f with tries := f.tries + 1 })) (some k))
      else
        let s := s.updFw k (fun f => { f with state := .bad })
        let g := s.nv.goodSlot
        .next (boot (if g.isSome then s.fallback else s) g)
    | none => .next (boot s s.nv.goodSlot)

/-- FIRMWARE_VERIFY (R528, R547): Idsol judges the image the boot ROM has read. An accepted one extends M1 and the
cores leave their boot ROM; a refused one marks its slot BAD, and the other slot is tried if it is GOOD. -/
def execFirmwareVerify (t : Time) (s : State) : Host.Outcome State Fault Refusal :=
  let s := s.at_ t
  match s.mbx.boot with
  | none => .next s
  | some k =>
    if s.inRst .mgmt ∨ !s.idsOk then .next s else
    let image := (s.nv.fw k).image
    let (ok, s) := s.verifyFile 3 image
    if ok then
      let digest := ((trailer image).map (fun x => x.2.2.1)).getD []
      .next { s with ids := { s.ids.extend 1 digest with permit := true }
                     mbx := { s.mbx with boot := none, fwSlot := k } }
    else
      let s := s.updFw k (fun f => { f with state := .bad })
      if (s.nv.fw (!k)).state = .good then .next { s.fallback with mbx := { s.fallback.mbx with boot := some (!k) } }
      else .next { s with mbx := { s.mbx with boot := none } }

/-- FIRMWARE_RUNNING (R547, R579): a write to MBX_RUN; KEY 0xC3A5 reports the firmware running, any other value is
reported. -/
def execFirmwareRunning (t : Time) (value : Word) (s : State) : Host.Outcome State Fault Refusal :=
  let s := s.at_ t
  if s.inRst .fabric then .next (s.report 0x200 0x01 0x00C00048 3)
  else if field value 15 0 ≠ 0xC3A5 then .next (s.report 0x200 0x01 0x00C00048 0)
  else if s.mbx.fwRunning then .next s
  else .next { s with mbx := { s.mbx with fwRunning := true, fwSince := s.opMs, fwSession := false } }

/-- FIRMWARE_CONFIRM (R575): firmware booted from a TRYING slot that has run for `mgmt.fw_confirm` and has held a
session marks its slot GOOD, with GEN one above the other slot's. -/
def execFirmwareConfirm (t : Time) (s : State) : Host.Outcome State Fault Refusal :=
  let s := s.at_ t
  let k := s.mbx.fwSlot
  if !s.mbx.fwRunning ∨ !s.mbx.fwSession ∨ (s.nv.fw k).state ≠ .trying
      ∨ s.opMs < s.mbx.fwSince + s.fldN .mgmtFwConfirm * 10000 then .next s
  else .next (s.updFw k (fun f => { f with state := .good, gen := ((s.nv.fw (!k)).gen + 1) % 2 ^ 32 }))

/-- FIRMWARE_POLICY_LOAD (R548): before bring-up ends the firmware writes the collector's policy and reactions from
the image in force; a source without records keeps its values. -/
def execFirmwarePolicyLoad (t : Time) (s : State) : Host.Outcome State Fault Refusal :=
  let s := s.at_ t
  match s.cfg.force with
  | none => .next s
  | some im =>
    if !s.mbx.fwRunning ∨ !s.core.bringup ∨ s.inRst .fabric then .next s
    else
      let f := fun (x : FltSource) =>
        let n := (im.vals.lookup (Fld.mgmtFltN, x.code)).map Int.toNat
        let w := (im.vals.lookup (Fld.mgmtFltT, x.code)).map Int.toNat
        let r := (im.vals.lookup (Fld.mgmtFltReact, x.code)).map Int.toNat
        let y := { x with n := n.getD x.n, t := w.getD x.t, react := (r.map (BitVec.ofNat 14)).getD x.react }
        if w.isSome then y.realign (s.dom .fabric).release s.now else y
      .next { s with flt := { s.flt with srcs := s.flt.srcs.map f } }

end Sys2Proof.Machine
end

