-- ==== Sys2Proof/Machine/LegOps.lean ====
section
/-! DEFINITION. Legs (chapter 4): states and their records, estimates, pulses and the sequencers, departures,
spares, hiccups, tests, and what a stage start and a stage stop do to the pool. -/
namespace Sys2Proof.Machine

/-- Leg `k`. -/
def State.leg (s : State) (k : Nat) : Leg := s.pool.legs.getD k Leg.reset

/-- Leg `k` through `f`. -/
def State.updLeg (s : State) (k : Nat) (f : Leg → Leg) : State :=
  { s with pool := { s.pool with legs := upd s.pool.legs k f } }

/-- Set bit `i` of LEG_EVENT (R121). -/
def State.legEvent (s : State) (i : Nat) : State :=
  { s with pool := { s.pool with event := setBit s.pool.event i } }

/-- LEG_LIMIT (R121). -/
def State.legLimit (s : State) : Word := pack [(16, 16, sat 65535 s.pool.limitB), (0, 16, sat 65535 s.pool.limitS)]

/-- `legs.hiccup_window` in ns. -/
def State.hiccupWindow (s : State) : Nat := s.lfldN .legsHiccupWindow * 100 * ms

/-- Hiccups of a leg within the window (R108). -/
def State.hiccupCount (s : State) (l : Leg) : Nat :=
  (l.hiccups.filter (fun t => decide (s.now < t + s.hiccupWindow))).length

/-- In rotation: ROTATION or BLIND. -/
def Leg.inRotation (l : Leg) : Bool := l.state == .rotation || l.state == .blind

/-- In rotation, or in HICCUP. -/
def Leg.inService (l : Leg) : Bool := l.inRotation || l.state == .hiccup

/-- A leg of a group in rotation or HICCUP. -/
def Leg.serves (l : Leg) (g : Group) : Bool := l.inService && l.group == g

/-- A leg changes state: its Barrow record carries the counts that stood (R121); out of rotation its switches are
off (R98). -/
def State.legState (s : State) (k : Nat) (st : LegState) (f : Leg → Leg := id) : State :=
  let l := s.leg k
  if l.state = st then s.updLeg k f else
  let s := s.stage 0x12 0 ([k, l.state.code, st.code, l.group.code, l.limited, s.hiccupCount l, l.openSuspect,
    l.senseSuspect].map (BitVec.ofNat 8))
  s.updLeg k (fun l =>
    let l := { l with state := st }
    f (if l.inRotation ∨ l.drive = .off then l else { l with drive := .off, lowSince := s.now }))

/-! ### The volt-second estimate (R109) -/

/-- Mean of the voting lanes' bus samples. -/
def State.vbus (s : State) : Rat :=
  meanRat (s.voting.map (fun x => match x with
    | .a => s.pool.samples.busA | .b => s.pool.samples.busB | .c => s.pool.samples.busC))

/-- Storage voltage of a group (R92, R98). -/
def State.vsto (s : State) (g : Group) : Rat := match g with | .b => s.pool.samples.stoB | _ => s.pool.samples.stoS

/-- Amperes per volt and nanosecond: 1 ns over the inductance. -/
def State.perVns (s : State) : Rat := 1 / (100 * s.lfld .legsInductance)

/-- The estimate after `dt` ns of a switch state, `vs` storage and `vb` bus volts (R109). -/
def estStep (d : Drive) (est vs vb k : Rat) (dt : Nat) : Rat :=
  let up := vs * k * dt
  let down := (vs - vb) * k * dt
  match d with
  | .on .supply _ _ => est + up
  | .on .absorb _ _ => est + down
  | .freewheel .supply _ => est + down
  | .freewheel .absorb _ => est + up
  | .off => if 0 < est then max 0 (est + down) else if est < 0 then min 0 (est + up) else 0

/-- Bring a leg's estimate up to now. -/
def State.legNow (s : State) (l : Leg) : Leg :=
  { l with est := estStep l.drive l.est (s.vsto l.group) s.vbus s.perVns (s.now - l.estAt), estAt := s.now }

/-- Bring every estimate up to now. -/
def State.estimates (s : State) : State :=
  { s with pool := { s.pool with legs := s.pool.legs.map s.legNow } }

/-! ### The sequencers (R95 to R98) -/

/-- Leg numbers after `p`, ascending and wrapping, `p` last (R96). -/
def afterPointer (p : Nat) : List Nat := (List.range 32).map (fun i => (p + 1 + i) % 32)

/-- A group's pointer. -/
def Pool.pointer (p : Pool) (g : Group) : Nat := match g with | .b => p.pointerB | _ => p.pointerS

/-- The leg that follows the pointer in a group's rotation. -/
def State.nextLeg (s : State) (g : Group) : Option Nat :=
  (afterPointer (s.pool.pointer g)).find? (fun k => (s.leg k).group == g && (s.leg k).inRotation)

/-- A leg is ready (R95). -/
def State.legReady (s : State) (g : Group) (k : Nat) : Bool :=
  let l := s.leg k
  l.group == g && l.inRotation && l.drive == .off && s.elapsed l.lowSince (s.lfldN .phaseDeadTime)
    && s.elapsed l.lastOnEnd (s.lfldN .phaseMinOff) && (l.state != .blind || (s.legNow l).est == 0)

/-- The leg the sequencer holds ready (R96). -/
def State.readyLeg (s : State) (g : Group) : Option Nat :=
  (afterPointer (s.pool.pointer g)).find? (s.legReady g)

/-- End a leg's freewheel. -/
def Leg.endFreewheel (l : Leg) (now : Time) : Leg :=
  match l.drive with
  | .freewheel _ _ => { l with drive := .off, lowSince := now }
  | _ => l

/-- End the freewheel of the leg that follows the pointer (R96). -/
def State.endNextFreewheel (s : State) (g : Group) : State :=
  match s.nextLeg g with
  | none => s
  | some k => s.updLeg k (fun l => (s.legNow l).endFreewheel s.now)

/-- What an on-time of a lane length, in each direction and group, comes to at the pin: the second of three edges, the
earlier of two (R124). -/
def votedLen (l : List Rat) : Rat :=
  match l with
  | [a, b] => min a b
  | [a, b, c] => max (min a b) (min (max a b) c)
  | _ => 0

/-- The voted base on-time (R92, R98). -/
def State.baseOn (s : State) (g : Group) (d : Dir) : Rat :=
  let ton : LaneSt → Rat := match g, d with
    | .b, .supply => LaneSt.tonBS
    | .b, .absorb => LaneSt.tonBA
    | _, .supply => LaneSt.tonS
    | _, .absorb => LaneSt.tonA
  votedLen (s.voting.map (fun x => ton (s.lane x)))

/-- On-time of a pulse on a leg (R92). -/
def State.onTime (s : State) (g : Group) (d : Dir) (l : Leg) : Nat :=
  let r := roundEven (s.baseOn g d * (1 + (l.trim : Rat) / 1024))
  min (s.lfldN .phaseTOnMax) (max (s.lfldN .phaseTOnMin) r.toNat)

/-- The on-time of a leg ends: to its freewheel, driven when `phase.sync` is 1 (R91). -/
def State.toFreewheel (s : State) (d : Dir) (l : Leg) : Leg :=
  if s.lfldN .phaseSync = 1 then { l with drive := .freewheel d s.now, lastOnEnd := s.now }
  else { l with drive := .off, lastOnEnd := s.now, lowSince := s.now }

/-- The other legs of a group at a launch in direction `d` (R91, R93): on-times in the other direction end in their
freewheel; freewheels of the other direction that already run end. -/
def State.opposed (s : State) (g : Group) (d : Dir) (l : Leg) : Leg :=
  if l.group ≠ g then l else
  match l.drive with
  | .on d' _ _ => if d' = d then l else s.toFreewheel d' (s.legNow l)
  | .freewheel d' _ => if d' = d then l else (s.legNow l).endFreewheel s.now
  | .off => l

/-- A pulse fires on leg `k` (R91, R93, R96, R129). -/
def State.launch (s : State) (g : Group) (d : Dir) (k : Nat) : State :=
  let len := s.onTime g d (s.leg k)
  let s := { s with pool := { s.pool with legs := s.pool.legs.map (s.opposed g d) } }
  let s := s.updLeg k (fun l => { s.legNow l with drive := .on d s.now len })
  let p := s.pool
  let s := { s with pool := { p with
    pointerS := if g = Group.b then p.pointerS else k
    pointerB := if g = Group.b then k else p.pointerB
    pulses := p.pulses + 1
    lastB := if g = Group.b then s.now else p.lastB } }
  s.endNextFreewheel g

/-- The gates can be driven: a vote of at least two lanes, no kill latch, the stage started (R124, R141, R145). -/
def State.drives (s : State) : Bool :=
  s.vot.formed && !s.vot.killLatch && !s.vot.stopLatch && s.pool.stageRun && decide (2 ≤ s.voting.length)

/-- A window edge inhibits a direction (R90). -/
def State.inhibited (s : State) (d : Dir) : Bool :=
  match d with
  | .absorb => decide ((s.lfld .limitsStoreVMax : Rat) ≤ s.pool.samples.stoS)
  | .supply => decide (s.pool.samples.stoS ≤ (s.lfld .limitsStoreVMin : Rat))

/-- A comparator is blanked (R89). -/
def State.blanked (s : State) (d : Dir) : Bool :=
  match (match d with | .supply => s.pool.blankLower | .absorb => s.pool.blankUpper) with
  | none => false
  | some e => decide (s.now < e)

/-- A trip fires on the leg held ready and blanks its comparator, or waits (R89, R97). -/
def State.trip (s : State) (d : Dir) : State :=
  if !s.drives || s.inhibited d then s else
  match s.readyLeg .s with
  | none =>
    if s.pool.waiting = some d then s
    else ({ s with pool := { s.pool with waiting := some d } }).updLanes (fun (l : LaneSt) =>
      if l.vote = Vote.reset ∨ l.vote = Vote.latched then l else { l with tripWait := l.tripWait + 1 })
  | some k =>
    let s := s.launch .s d k
    let e := some (s.now + s.lfldN .phaseBlank)
    { s with pool := { s.pool with waiting := none
                                   blankLower := if d = .supply then e else s.pool.blankLower
                                   blankUpper := if d = .absorb then e else s.pool.blankUpper } }

/-- Both bus comparators captured in one lane cycle (R89). -/
def State.dualTrip (s : State) : State := (s.report 0x303 0x24 0 0 true).legEvent 9

/-- Comparators captured asserted (R89). -/
def State.trips (s : State) (lower upper : Bool) : State :=
  if lower && upper then (if s.drives then s.dualTrip else s)
  else if lower then (if s.blanked .supply then s else s.trip .supply)
  else if upper then (if s.blanked .absorb then s else s.trip .absorb)
  else s

/-! ### Leaving for good, and spares (R114, R116, R588) -/

/-- The place a leg holds (R588). -/
def Leg.place (l : Leg) (k : Nat) : Nat := l.fills.getD k

/-- READY legs of group X, ascending (R114). -/
def State.spares (s : State) : List Nat :=
  (List.range 32).filter (fun k => (s.leg k).group == .x && (s.leg k).state == .ready)

/-- READY spares that no departure before this one takes. -/
def State.freeSpares (s : State) : Nat :=
  s.spares.length - (s.pool.departures.length + b2n s.pool.recheck.isSome + b2n s.pool.joinOwed.isSome)

/-- LEG_LOSS (R116): the event, a Barrow record, and the ledger entry of reason LEG_LOSS. -/
def State.legLoss (s : State) (leg : Nat) (g : Group) : State :=
  let s := (s.legEvent 8).stage 0x12 2 ([BitVec.ofNat 8 leg, BitVec.ofNat 8 g.code, 0, 0] ++ leBytes 4 s.legLimit.toNat)
  ({ s with pool := { s.pool with lossEntry := true } }).limitWhile 5 true

/-- A leg leaves for good: its place awaits a spare at the next boundary, or is lost (R114, R116). -/
def State.departs (s : State) (k : Nat) (st : LegState) : State :=
  let l := s.leg k
  let served := l.inService
  let g := l.group
  let p := l.place k
  let lost := s.freeSpares = 0
  let s := s.legState k st
  if !served ∨ g = .x ∨ !s.pool.stageRun then s
  else
    let s := if lost then s.legLoss k g else s
    { s with pool := { s.pool with departures := s.pool.departures ++ [(⟨g, p, k⟩ : Departure)] } }

/-- A departure comes before another: group S first, then ascending legs (R114). -/
def Departure.before (a b : Departure) : Bool :=
  decide (a.group.code < b.group.code) || (a.group == b.group && decide (a.leg ≤ b.leg))

/-- The first departure in the order of R114. -/
def firstDeparture (l : List Departure) : Option Departure :=
  l.foldl (fun m d => match m with
    | none => some d
    | some x => if x.before d then some x else some d) none

/-- The recheck of the lowest READY spare starts for the first departure (R107, R114). -/
def State.startRecheck (s : State) : State :=
  if s.pool.recheck.isSome ∨ s.pool.joinOwed.isSome ∨ !s.pool.stageRun then s else
  match firstDeparture s.pool.departures, s.spares.head? with
  | some d, some k =>
    { s with pool := { s.pool with departures := s.pool.departures.erase d, recheck := some (k, d, 0)
                                   recheckStart := s.now } }
  | _, _ => s

/-- A spare joins a rotation in place of the leg that left (R107, R114). -/
def State.joinSpare (s : State) (k : Nat) (d : Departure) : State :=
  let s := { s with pool := { s.pool with
    joinOwed := none
    legs := s.pool.legs.map (fun (l : Leg) => if l.fills = some d.place then { l with fills := none } else l) } }
  let s := s.legState k .rotation (fun l => { l with group := d.group, fills := some d.place, trim := 0
                                                     peaks := [], sinceTrim := 0, entered := true })
  let s := s.legEvent 6
  if s.spares.isEmpty then s.legEvent 7 else s

/-! ### Hiccups and failures (R108 to R113) -/

/-- A limited cycle is counted; at `legs.hiccup_n` the leg enters HICCUP or FAILED_LIMIT (R108). -/
def State.countLimited (s : State) (k : Nat) : State :=
  let s := s.updLeg k (fun l => { l with limited := l.limited + 1 })
  let l := s.leg k
  if l.limited < s.lfldN .legsHiccupN ∨ !l.inRotation then s
  else if s.lfldN .legsHiccupM ≤ s.hiccupCount l + 1 then
    (s.updLeg k (fun l => { l with hiccups := s.now :: l.hiccups })).departs k .failedLimit |>.legEvent 2
  else
    let blind := l.state == .blind
    let s := s.updLeg k (fun l => { l with hiccups := s.now :: l.hiccups })
    (s.legState k .hiccup (fun l => { l with hiccupEnd := s.now + s.lfldN .legsHiccupTime * ms
                                             hiccupOver := false, hiccupBlind := blind })).legEvent 1

/-- A pulse is classified from the sensed rise and the estimated one (R110 to R112). -/
def State.classify (s : State) (k : Nat) (sensed est : Rat) : State :=
  let l := s.leg k
  let floor : Rat := s.lfld .legsOpenIFloor / 10
  let tol : Rat := (s.lfld .legsSenseTolPct : Rat) / 100 * |est| + (s.lfld .legsSenseTolAbs : Rat) / 10
  let isOpen := decide (|sensed| < floor) && decide (4 * floor ≤ |est|) && l.idleOk
  if l.state ≠ .rotation then s
  else if (!l.idleOk || decide (tol < |sensed - est|)) && !isOpen then
    let s := s.updLeg k (fun l => { l with senseSuspect := l.senseSuspect + 1 })
    if (s.leg k).senseSuspect < s.lfldN .legsSenseK then s
    else if s.freeSpares ≠ 0 then (s.departs k .failedSense).legEvent 4
    else
      let g := l.group
      ((s.legState k .blind).legEvent 5).legLoss k g
  else if isOpen then
    let s := s.updLeg k (fun l => { l with openSuspect := l.openSuspect + 1 })
    if (s.leg k).openSuspect < s.lfldN .legsOpenK then s else (s.departs k .failedOpen).legEvent 3
  else if |est| < 4 * floor then s
  else s.updLeg k (fun l => { l with openSuspect := 0, senseSuspect := 0 })

/-- Volts across a leg's inductor in an on-time (R109). -/
def State.onVolts (s : State) (l : Leg) (d : Dir) : Rat :=
  match d with | .supply => s.vsto l.group | .absorb => s.vsto l.group - s.vbus

/-- An on-time ends untruncated (R91, R94, R99, R108, R110): to its freewheel; limited or recorded for balance;
classified. -/
def State.endOnTime (s : State) (k : Nat) (d : Dir) (limited : Bool) (x : PulseIn) : State :=
  let est := s.onVolts (s.leg k) d * s.perVns * ((x.tLast - x.tFirst : Nat) : Rat)
  let s := s.updLeg k (fun l => s.toFreewheel d (s.legNow l))
  let g := (s.leg k).group
  let s := if s.nextLeg g = some k then s.updLeg k (fun l => l.endFreewheel s.now) else s
  let s := if limited then s else s.updLeg k (fun l =>
    if l.state = .blind then { l with limited := 0 }
    else { l with limited := 0, peaks := (|x.last| :: l.peaks).take 8, sinceTrim := l.sinceTrim + 1 })
  let s := s.classify k (x.last - x.first) est
  if limited then s.countLimited k else s

/-! ### The pre-start test (R100 to R107, R588) -/

/-- The row of R104 that a leg's means match: 1 to 6. -/
def State.judgeRow (s : State) (x : TestIn) (k : Nat) (l : Leg) : Nat :=
  let n := x.nodes.getD k (0, 0)
  let vs := match l.group with | .b => x.vb | _ => x.vs
  let tol : Rat := s.lfld .legsSwnTol
  let imax : Rat := s.lfld .legsIdleIMax / 10
  let near := decide (|n.1 - vs| ≤ tol)
  if n.2 < -imax ∧ !l.senseFailed then 1
  else if |n.1 - x.vbus| ≤ tol then 2
  else if n.1 ≤ tol ∧ 2 * tol < vs then 3
  else if l.senseFailed then (if near then 5 else 6)
  else if near ∧ |n.2| ≤ imax then 4
  else if near ∧ imax < n.2 then 5
  else 6

/-- Volts in 10 mV as 4 bytes. -/
def centiV (v : Rat) : List Byte := leBytes 4 (twosSat 32 (roundEven (v * 100)))

/-- A leg is condemned (R105). -/
def State.condemn (s : State) (k : Nat) (st : LegState) (x : TestIn) : State :=
  let n := x.nodes.getD k (0, 0)
  let vs := match (s.leg k).group with | .b => x.vb | _ => x.vs
  let s := (s.legState k st).legEvent 0
  let s := s.stage 0x12 1 ([BitVec.ofNat 8 k, BitVec.ofNat 8 st.code, 0, 0] ++ centiV n.1 ++ centiV x.vbus ++ centiV vs
    ++ leBytes 4 (twosSat 32 (roundEven (n.2 * 1000))))
  s.report (0x500 + k) 0x25 k st.code

/-- One leg under test is judged (R103, R104); on the third attempt an undecided one is condemned. -/
def State.judgeLeg (s : State) (x : TestIn) (last : Bool) (k : Nat) : State :=
  let l := s.leg k
  if l.state ≠ .testing ∨ l.row5 then s else
  match s.judgeRow x k l with
  | 1 => s.condemn k .condemnedHs x
  | 2 => s.condemn k .condemnedHs x
  | 3 => s.condemn k .condemnedLs x
  | 4 => s.legState k .ready
  | 5 => s.updLeg k (fun l => { l with row5 := true })
  | _ => if last then s.condemn k .condemnedNode x else s

/-- The places of a group, ascending (R588). -/
def State.places (s : State) (g : Group) : List Nat :=
  let m := match g with | .s => s.lfldN .legsGroupS | .b => s.lfldN .legsGroupB | .x => 0
  (List.range 32).filter (fun k => m.testBit k)

/-- The holder of a place (R588). -/
def State.holder (s : State) (p : Nat) : Nat :=
  ((List.range 32).find? (fun k => (s.leg k).fills == some p)).getD p

/-- One place is completed (R588); the flag says that it stays short. -/
def State.completePlace (g : Group) (a : State × Bool) (p : Nat) : State × Bool :=
  let (s, short) := a
  let h := s.holder p
  let l := s.leg h
  if l.state = .ready ∧ l.group = g then (s, short) else
  match s.spares.head? with
  | some k =>
    let s := if l.row5 ∧ l.group = g then (s.legState h .failedSense).legEvent 4 else s
    let s := { s with pool := { s.pool with legs := s.pool.legs.map (fun (l : Leg) =>
      if l.fills = some p then { l with fills := none } else l) } }
    let s := (s.updLeg k (fun l => { l with group := g, fills := some p, trim := 0 })).legEvent 6
    (if s.spares.isEmpty then s.legEvent 7 else s, short)
  | none =>
    if l.row5 ∧ l.group = g then
      (((s.legState h .blind).updLeg h (fun l => { l with senseFailed := true })).legEvent 5, true)
    else (s, true)

/-- The groups are completed after the last judgement (R588, R116); a spare judged under row 5 has no place and is
FAILED_SENSE; with no leg of group S READY or BLIND the stage does not start (R106). -/
def State.completeGroups (s : State) : State :=
  let (s, shortS) := (s.places .s).foldl (State.completePlace .s) (s, false)
  let (s, shortB) := (s.places .b).foldl (State.completePlace .b) (s, false)
  let s := (List.range 32).foldl (fun (s : State) k =>
    let l := s.leg k
    let s := if l.state ≠ .testing then s else if l.row5 then (s.legState k .failedSense).legEvent 4
      else s.legState k .untested
    s.updLeg k (fun l => { l with row5 := false })) s
  let s := if shortS then s.legLoss 0xFF .s else s
  let s := if shortB then s.legLoss 0xFF .b else s
  let s := if shortS || shortB then s else
    ({ s with pool := { s.pool with lossEntry := false } }).limitWhile 5 false
  let any := s.pool.legs.any (fun (l : Leg) => l.group == .s && (l.state == .ready || l.state == .blind))
  let spareBits := sumNat (s.spares.map (fun k => 2 ^ k))
  if any then { s with pool := { s.pool with startOwed := true, testing := false, running := false } }
  else ({ s with pool := { s.pool with attempt := 0, running := false } }).report 0x520 0x26 spareBits 0 true

/-- A stage start (R100): the pre-start test awaits R102's condition, every gate off. -/
def State.testStart (s : State) : State :=
  { s.gatesLow with pool := { s.gatesLow.pool with testing := true, running := false, attempt := 0, startOwed := false
                                                   windowWait := false, stageRun := false } }

/-- Legs in service return to UNTESTED (R101). -/
def State.toUntested (s : State) : State :=
  let s := s.gatesLow
  let s := { s with pool := { s.pool with stageRun := false, testing := false, running := false, startOwed := false
                                          windowWait := false, departures := [], recheck := none
                                          joinOwed := none, waiting := none } }
  (List.range 32).foldl (fun (s : State) k =>
    let l := s.leg k
    let sf := l.senseFailed || l.state == .blind || (l.state == .hiccup && l.hiccupBlind)
    if l.inService ∨ l.state = .ready ∨ l.state = .testing then
      s.legState k .untested (fun l => { l with senseFailed := sf, row5 := false, entered := false })
    else s) s

/-- The stage starts at a shaping-period boundary (R103, R96, R99, R85, R88). -/
def State.stageBegin (s : State) : State :=
  let s := (List.range 32).foldl (fun (s : State) k =>
    let l := s.leg k
    let enter := fun (l : Leg) => { l with trim := if l.state = .blind then l.trim else 0
                                           peaks := [], sinceTrim := 0, limited := 0, openSuspect := 0
                                           senseSuspect := 0, entered := true }
    if l.state = .ready ∧ l.group ≠ .x then s.legState k .rotation enter
    else if l.state = .blind then s.updLeg k enter else s) s
  let s := { s with pool := { s.pool with startOwed := false, stageRun := true, pointerS := 31, pointerB := 31
                                          pulses := 0, blankLower := none, blankUpper := none, waiting := none } }
  s.updLanes (fun l => { l with centre := 0 })

/-- Legs are placed by the image in force and the boards present (R77 to R79). -/
def State.placeLegs (s : State) : State :=
  let m := fun (f : Fld) (k : Nat) => (s.lfldN f).testBit k
  { s with pool := { s.pool with legs := (List.range 32).map (fun k =>
    let g := if m .legsGroupS k then Group.s else if m .legsGroupB k then Group.b else Group.x
    let here := m .legsActive k && !s.pin.boardAbsent.getLsbD (k / 4)
    { Leg.reset with state := if here then .untested else .absent, group := g, home := g, lowSince := s.now
                     estAt := s.now }) } }

/-- The leg pool's registers (R121). -/
def State.readLeg (s : State) (o : Nat) : Option Word :=
  let p := s.pool
  let mask := fun (f : Leg → Bool) => some (pack ((List.range 32).map (fun k => (k, 1, b2n (f (s.leg k))))))
  match o with
  | 0x00 => mask Leg.inRotation
  | 0x04 => mask (fun l => l.group == .x && l.state == .ready)
  | 0x08 => some s.legLimit
  | 0x0C => some (p.event.setWidth 32)
  | 0x10 => some (pack [(4, 2, p.attempt), (2, 1, b2n p.windowWait), (1, 1, b2n p.stageRun),
      (0, 1, b2n (p.running || p.recheck.isSome))])
  | o =>
    if 0x100 ≤ o ∧ o < 0x180 then
      let l := s.leg ((o - 0x100) / 4)
      some (pack [(28, 4, l.state.code), (26, 2, l.group.code), (24, 2, l.home.code), (20, 4, sat 15 (s.hiccupCount l)),
        (12, 8, sat 255 l.limited), (0, 8, twosSat 8 l.trim)])
    else if 0x200 ≤ o ∧ o < 0x280 then
      let l := s.leg ((o - 0x200) / 4)
      some (pack [(16, 8, sat 255 l.openSuspect), (8, 8, sat 255 l.senseSuspect)])
    else none

/-- Writes to the leg pool: LEG_EVENT bits clear where 1 is written (R121). -/
def State.writeLeg (s : State) (o : Nat) (v : Word) : State :=
  if o = 0x0C then { s with pool := { s.pool with event := s.pool.event &&& ~~~(v.setWidth 10) } } else s

end Sys2Proof.Machine
end

