-- ==== Sys2Proof/Machine/FrontOps.lean ====
section
/-! DEFINITION. The front end's quantities, the grid current reference and the setpoint frames (chapter 6). -/
namespace Sys2Proof.Machine

/-- `loadline.nominal`, V. -/
def State.nominal (s : State) : Rat := (s.lfld .loadlineNominal : Rat) / 10

/-- `topology.shelf_rating`, W. -/
def State.shelfW (s : State) : Rat := 1000 * (s.lfld .topologyShelfRating : Rat)

/-- The rating current I_r, A (chapter 6). -/
def State.rating (s : State) : Rat := if s.nominal = 0 then 0 else s.shelfW / s.nominal

/-- `loadline.fe_eta`. -/
def State.eta (s : State) : Rat := (s.lfld .loadlineFeEta : Rat) / 1000

/-- Set bit `i` of FES_EVENT (R189). -/
def State.fesEvent (s : State) (i : Nat) : State := { s with fes := { s.fes with event := setBit s.fes.event i } }

/-- Module `k`. -/
def Fes.rect (f : Fes) (k : Nat) : Rect := f.rects.getD k Rect.reset

/-- Modules IN_SERVICE. -/
def Fes.inService (f : Fes) : List Nat := (List.range 6).filter (fun k => (f.rect k).state == 1)

/-- I_cap, A (R158). -/
def State.iCap (s : State) : Rat := s.fes.inService.length * ((s.lfld .frontendRectIMax : Rat) / 10)

/-! ### The bank (R171, R175) -/

/-- c_j, F (R171). -/
def State.strCap (s : State) (x : Str) : Rat :=
  if x.ests.length < 16 then (s.lfld .stringsCRated : Rat) / 1000 else meanRat x.ests

/-- r_j, in 10 µΩ (R171). -/
def Str.esr (x : Str) : Rat := meanRat (x.esrs.map (fun (n : Nat) => (n : Rat)))

/-- C_bank, F (R175). -/
def State.cBank (s : State) : Rat :=
  sumRat ((s.fes.strs.filter (fun x => x.state == 3)).map s.strCap)

/-- Energy of the bank at a voltage, J. -/
def State.bankJ (s : State) (v : Rat) : Rat := s.cBank * v * v / 2

/-- E_u, J (R175). -/
def State.eU (s : State) : Rat := s.bankJ (s.lfld .limitsStoreVMax) - s.bankJ (s.lfld .limitsStoreVMin)

/-- C_bank falls below the bound of R175. -/
def State.bankShort (s : State) : Bool :=
  let n := ((List.range 16).filter (fun j => (s.lfldN .stringsActive).testBit j)).length
  decide (s.cBank < (s.lfld .stringsShortPct : Rat) / 100 * ((s.lfld .stringsCRated : Rat) / 1000) * n)

/-- STORAGE_SHORT follows C_bank: its event at entry, and the ledger entry while it stands (R175, R401). -/
def State.shortCheck (s : State) : State :=
  let b := s.inForce && s.bankShort
  let s := if b && !s.fes.storageShort then s.fesEvent 10 else s
  ({ s with fes := { s.fes with storageShort := b } }).limitWhile 4 b

/-! ### The reference (R159 to R163) -/

/-- P_rc, W (R160). -/
def State.pRc (s : State) : Rat := (s.lfld .limitsRechargeMax : Rat) / 100 * s.shelfW

/-- VSTO_S over the last period, V. -/
def State.vs (s : State) : Rat := s.fes.period.stoS

/-- I_rc, A (R160). -/
def State.iRc (s : State) : Rat :=
  clampRat (-s.pRc) s.pRc ((s.bankJ (s.lfld .limitsStoreVCentre) - s.bankJ s.vs) / s.lfld .limitsSocTau) / s.nominal

/-- I_f, A: the voted value. -/
def State.iF (s : State) : Rat := match s.voting with | [] => s.laneA.iF | x :: _ => (s.lane x).iF

/-- What sets I_up (R161). -/
inductive UpCause where | cap | share | recharge
  deriving DecidableEq, Repr

/-- P_lim, W, as it stands now: while it falls, the line of R398. -/
def State.pLimNow (s : State) : Option Rat :=
  s.ccd.pLim.map (fun p => match s.ccd.ramp with
    | none => p
    | some (t0, p0, r) => max p (p0 - r * ((s.now - t0 : Nat) : Rat) / 1000000000))

/-- The shelf grid limit, A (R397). -/
def State.gridLimit (s : State) : Option Rat := s.pLimNow.map (fun p => s.eta * p / s.nominal)

/-- I_up, A, and what sets it, the first of R161's list on a tie. -/
def State.iUp (s : State) : Rat × UpCause :=
  let a : Rat × UpCause := (s.iCap, .cap)
  let a := match s.gridLimit with
    | none => a
    | some g => if g < a.1 then (g, UpCause.share) else a
  let r := s.iF + s.pRc / s.nominal
  if s.fes.recharge ∧ r < a.1 then (r, .recharge) else a

/-- Micro-amperes. -/
def micro (a : Rat) : Rat := 1000000 * a

/-- A slew in percent of rating per second, as µA per 1 µs step. -/
def State.slewStep (s : State) (pctPerS : Rat) : Rat := s.rating * pctPerS / 100

/-- The slews of R162, µA per step: 0 flat, 1 max, 2 return, 3 trip. -/
def State.slewOf (s : State) (code : Nat) : Rat :=
  match code with
  | 0 => s.slewStep ((s.lfld .frontendSlewFlat : Rat) / 10)
  | 1 => s.slewStep (s.lfld .frontendSlewMax)
  | 2 => s.slewStep (5 * s.lfld .frontendSlewReturn)
  | _ => s.slewStep (10000 * s.lfld .frontendSlewTrip)

/-- I_ref is above I_up for a cause other than I_cap (R162). -/
def State.aboveUp (s : State) : Bool :=
  let (u, c) := s.iUp
  decide (micro u < s.fes.ref) && c != UpCause.cap

/-- The slew in force (R162). -/
def State.slewCode (s : State) : Nat :=
  let soft := decide ((s.lfld .limitsStoreVLow : Rat) ≤ s.vs) && decide (s.vs ≤ (s.lfld .limitsStoreVHigh : Rat))
  if s.fes.edge ≠ 0 then 3
  else if s.aboveUp then 3
  else if s.aon.mode = Mode.bridging ∧ s.fes.reengage then 2
  else if s.aon.mode = Mode.fallow ∨ !soft ∨ s.fes.segmentLoss ∨ s.shelfW < s.iF * s.nominal then 1
  else 0

/-- A leg of group S is in ROTATION, BLIND or HICCUP (R117). -/
def State.servedS (s : State) : Bool := s.pool.legs.any (fun (l : Leg) => l.serves .s)

/-- The frame type the links carry (R153). -/
def State.linkType (s : State) (agreed : Bool) : Nat :=
  if s.inRst .fabric ∨ s.pin.powerFail.isSome ∨ !s.vot.formed ∨ s.vot.stopLatch ∨ s.voting.length < 2 ∨ !agreed then 0
  else match s.aon.mode with
    | .held => 2
    | .stopped => 2
    | .bridging => if !s.servedS then 2 else if s.fes.reengage then 1 else 3
    | _ => if s.servedS then 1 else 2

/-- Front-end output current over the last period, A (R154). -/
def State.iFe (s : State) : Rat :=
  if s.fes.period.bus = 0 then 0 else s.eta * s.fes.period.grid / s.fes.period.bus

/-- The fallow target, A (R160). -/
def State.fallowTarget (s : State) : Rat := s.fes.fallow + s.iRc

/-- The target of I_ref in µA, before R161's clamp (R159, R163, R182). -/
def State.refTarget (s : State) : Rat :=
  match s.fes.edge with
  | 1 => 0
  | 2 => micro s.iUp.1
  | _ => match s.aon.mode with
    | .fallow => micro s.fallowTarget
    | .conducting => s.fes.target
    | .bridging => if s.fes.reengage then micro (s.iF + max s.iRc 0) else 0
    | _ => s.fes.ref

/-- `x` moved towards `y` by at most `d`. -/
def towards (x y d : Rat) : Rat := if x < y then min y (x + d) else max y (x - d)

/-- Word `i` of the vector in force, 0 without one. -/
def Plan.word (p : Plan) (i : Nat) : Word := (p.force.getD []).getD i 0

/-- One step of the CONDUCTING target's ramp (R202). -/
def State.rampStep (s : State) : State :=
  match s.aon.mode, s.plan.force with
  | .conducting, some _ =>
    let iset : Rat := (s.plan.word 2).toNat
    let ramp : Rat := (s.plan.word 3).toNat
    { s with fes := { s.fes with target := if ramp = 0 then iset else towards s.fes.target iset (ramp / 1000) } }
  | _, _ => s

/-- One step of I_ref (R158, R161, R162). -/
def State.refStep (s : State) : State :=
  let (u, c) := s.iUp
  let up := micro u
  let ref := s.fes.ref
  let new :=
    if up < ref then (if c = UpCause.cap then up else max up (ref - s.slewOf 3))
    else towards ref (clampRat 0 up s.refTarget) (s.slewOf s.slewCode)
  { s with fes := { s.fes with ref := new } }

/-- I_ref, µA (R159). -/
def Fes.iRef (f : Fes) : Nat := natFloor f.ref

/-- CRC-16, polynomial 0x1021, initial value 0xFFFF, no reflection, over the bits of `n` from bit `k - 1` down (R152). -/
def crc16 (n : Nat) : Nat → BitVec 16 → BitVec 16
  | 0, c => c
  | k + 1, c => crc16 n k (if c.getLsbD 15 != n.testBit k then (c <<< 1) ^^^ 0x1021#16 else c <<< 1)

/-- A setpoint frame (R152). -/
def frame (type seq iref mode link : Nat) : BitVec 64 :=
  let body := type % 16 * 2 ^ 36 + seq % 16 * 2 ^ 32 + iref % 65536 * 2 ^ 16 + mode % 8 * 2 ^ 8 + link % 16 * 2 ^ 4
  BitVec.ofNat 64 (0xD5 * 2 ^ 56 + body * 2 ^ 16 + (crc16 body 40 0xFFFF#16).toNat)

/-- IREF of each IN_SERVICE module, in 0.01 A (R158). -/
def State.iRefShare (s : State) : Nat :=
  let n := s.fes.inService.length
  if n = 0 then 0 else (roundEven ((s.fes.iRef : Rat) / 10000 / n)).toNat

/-- Send one frame on every link of a fitted module (R151 to R153). -/
def State.sendFrames (s : State) (type : Nat) : State :=
  if type = 0 then { s with fes := { s.fes with link := 0 } } else
  let share := s.iRefShare
  let rects := (List.range 6).map (fun k =>
    let r := s.fes.rect k
    if r.state = 0 then r else
    let i := if type = 1 ∧ r.state = 1 then share else 0
    { r with frame := frame type r.seq i s.aon.mode.code k, seq := (r.seq + 1) % 16 })
  { s with fes := { s.fes with rects := rects, link := type, iref := if type = 1 then share else 0 } }

/-- The links pass to REFERENCE from another type: the reference starts at the measured current, or from 0 A at
re-engagement (R154, R182). -/
def State.handover (s : State) (type : Nat) : State :=
  if type ≠ 1 ∨ s.fes.link = 1 then s else
  { s with fes := { s.fes with ref := if s.fes.reengage then 0 else max 0 (micro s.iFe) } }

/-- LIMIT ledger entries of the reference: I_ref equals I_up, set by the rack cap share or by I_cap (R401). -/
def State.refLedger (s : State) : State :=
  let (u, c) := s.iUp
  let at_ := s.fes.link == 1 && s.fes.ref == micro u
  (s.limitWhile 2 (at_ && c == UpCause.share)).limitWhile 1 (at_ && c == UpCause.cap)

/-- RESERVE_OUT (R164). -/
def State.reserveOut (s : State) : Bool :=
  decide (s.vs < (s.lfld .limitsStoreVLow : Rat)) && s.fes.link == 1 && s.fes.ref == micro s.iUp.1

/-- STORAGE_LOW (R164). -/
def State.storageLow (s : State) : Bool := s.inForce && decide (s.vs < (s.lfld .limitsStoreVLow : Rat))

/-- Capacity short (R186). -/
def State.capacityShort (s : State) : Bool :=
  (s.plan.force.isSome && decide (micro s.iCap < ((s.plan.word 2).toNat : Rat)))
  || decide ((s.lfld .limitsShelfPeak : Rat) / 100 * s.shelfW < s.iF * s.nominal)

/-- Tenths, saturating in 16 bits. -/
def deci (x : Rat) : Nat := sat 65535 (natFloor (10 * x))

/-- Sample standard deviation squared of a list. -/
def variance (l : List Rat) : Rat :=
  let m := meanRat l
  meanRat (l.map (fun x => (x - m) * (x - m)))

/-- Standard deviation in units of 10 W, rounded down (R165, R189). -/
def State.flatSd (s : State) : Nat := Nat.sqrt (natFloor (variance s.fes.flat / 100))

/-- FLAT_OK (R165). -/
def State.flatOk (s : State) : Bool :=
  let lim := (s.lfld .frontendFlatPct : Rat) / 1000 * s.shelfW
  s.fes.flat != [] && decide (variance s.fes.flat ≤ lim * lim)

/-- V_g in 0.1 V (R180, R189). -/
def State.vgDeci (s : State) : Nat := Nat.sqrt (natFloor (100 * s.fes.period.vgSq))

/-- FES_STATUS (R189). -/
def State.fesStatus (s : State) : Word :=
  let f := s.fes
  pack [(26, 1, b2n f.segmentLoss), (25, 1, b2n f.recharge), (24, 1, b2n f.reengage), (22, 2, f.edge),
        (19, 3, f.slew), (16, 3, f.link), (15, 1, b2n f.gridPresent), (14, 1, b2n f.storageShort),
        (13, 1, b2n s.reserveOut), (12, 1, b2n s.storageLow)] |||
  pack (f.inService.map (fun k => (k, 1, 1)))

/-- FES_REF (R189). -/
def State.fesRef (s : State) : Word := pack [(16, 16, s.fes.iref), (0, 16, sat 65535 (s.fes.iRef / 100000))]

/-- The front end and storage registers (R189). -/
def State.readFes (s : State) (o : Nat) : Option Word :=
  let f := s.fes
  match o with
  | 0x00 => some s.fesStatus
  | 0x04 => some s.fesRef
  | 0x08 => some (pack [(16, 16, sat 65535 (natFloor (f.pg / 100))), (0, 16, sat 65535 s.vgDeci)])
  | 0x0C => some (pack [(16, 16, sat 65535 s.flatSd), (15, 1, b2n s.flatOk)])
  | 0x10 => some (f.event.setWidth 32)
  | 0x14 => some (pack [(16, 16, sat 65535 (natFloor (s.eU / 100))), (0, 16, sat 65535 (natFloor (1000 * s.cBank)))])
  | 0x18 => some (pack [(16, 16, twosSat 16 (floorRat (10 * f.battCmd))), (0, 16, deci f.period.stoB)])
  | o =>
    if 0x40 ≤ o ∧ o < 0x58 then
      let r := f.rect ((o - 0x40) / 4)
      some (pack [(30, 2, r.state), (16, 8, sat 255 r.temp), (0, 16, r.iout)])
    else if 0x80 ≤ o ∧ o < 0xC0 then
      let x := f.strs.getD ((o - 0x80) / 4) Str.reset
      let rel := fun (v r : Rat) => if r = 0 then 0 else sat 4095 (natFloor (1000 * v / r))
      if x.state = 0 then some 0 else
      some (pack [(28, 4, x.state), (16, 12, rel (1000 * s.strCap x) (s.lfld .stringsCRated)),
        (4, 12, rel x.esr (10 * s.lfld .stringsEsrRated))])
    else none

/-- Writes: FES_EVENT clears where 1 is written (R189). -/
def State.writeFes (s : State) (o : Nat) (v : Word) : State :=
  if o = 0x10 then { s with fes := { s.fes with event := s.fes.event &&& ~~~(v.setWidth 14) } } else s

/-- SETPOINT_STEP (R151 to R154, R159 to R162, R202): one 1 µs step of the word voter, on whose words at least two
voting lanes agree or not (R123). -/
def execSetpointStep (t : Time) (agreed : Bool) (s : State) : Host.Outcome State Fault Refusal :=
  let s := s.at_ t
  if s.inRst .fabric then .next s else
  let type := s.linkType agreed
  if type = 0 then .next (s.sendFrames 0) else
  let s := s.handover type
  let s := s.rampStep
  let s := match type with
    | 1 => s.refStep
    | 3 => { s with fes := { s.fes with ref := 0 } }
    | _ => s
  let s := { s with fes := { s.fes with slew := s.slewCode } }
  .next (s.sendFrames type).refLedger

end Sys2Proof.Machine
end

