-- ==== Sys2Proof/Machine/PlanOps.lean ====
section
/-! DEFINITION. The plan path (chapter 7): the basis record, the checks of a plan vector, its acceptance, rejection and
withdrawal, missed ticks, the emit port, and the registers. -/
namespace Sys2Proof.Machine

/-- Word `i` of a vector. -/
def vw (w : List Word) (i : Nat) : Word := w.getD i 0

/-- SEQ (R194). -/
def vecSeq (w : List Word) : Nat := field (vw w 0) 15 0
/-- TICK. -/
def vecTick (w : List Word) : Nat := (vw w 1).toNat
/-- CONF. -/
def vecConf (w : List Word) : Bool := bitOf (vw w 0) 27
/-- ISET, µA. -/
def vecIset (w : List Word) : Nat := (vw w 2).toNat
/-- RAMP, mA/s. -/
def vecRamp (w : List Word) : Nat := (vw w 3).toNat
/-- OFFSET, 10 mV. -/
def vecOffset (w : List Word) : Int := signed 16 (field (vw w 5) 15 0)
/-- BATT, 0.1 A. -/
def vecBatt (w : List Word) : Int := signed 16 (field (vw w 6) 31 16)

/-- Concord request slot `i`, 0 to 3 (R194). -/
def vecSlot (w : List Word) (i : Nat) : PlanReq :=
  let a := vw w (7 + 2 * i)
  let b := vw w (8 + 2 * i)
  ⟨field a 31 30, field a 27 24, field a 23 0, field b 31 28, field b 15 0⟩

/-- CHECK is right: the CRC-32 of W0 to W14, each most significant byte first (R194, R196). -/
def vecCheckOk (w : List Word) : Bool :=
  w.length == 16 && crc32 ((w.take 15).flatMap (fun x => beBytes 4 x.toNat)) == vw w 15

/-- FORMAT and the bits shown as 0 (R194, R196). -/
def vecFormatOk (w : List Word) : Bool :=
  field (vw w 0) 31 28 == 1 && field (vw w 0) 25 16 == 0 && field (vw w 6) 15 0 == 0
  && (List.range 4).all (fun i => field (vw w (7 + 2 * i)) 29 28 == 0 && field (vw w (8 + 2 * i)) 27 16 == 0)

/-- Reasons a planner may give: GRID_CAP, MANAGER_CAP, STORAGE_LOW, STORAGE_SHORT, LEG_LOSS, THERMAL_SHELF, BRIDGING. -/
def planReasons : List Nat := [1, 2, 3, 4, 5, 6, 10]

/-- A slot is consistent with R194. -/
def slotOk (r : PlanReq) : Bool :=
  match r.kind with
  | 0 => r.step == 0 && r.tag == 0 && r.reason == 0 && r.floor == 0
  | k =>
    (if k = 2 then r.step == 0 else decide (1 ≤ r.step)) && (k != 1 || r.floor == 0) && r.tag != 0
    && planReasons.contains r.reason

/-- The concord slots pass the check of order 12 (R196). -/
def vecConcordOk (w : List Word) : Bool :=
  let l := (List.range 4).map (vecSlot w)
  let tags := (l.filter (fun r => r.kind != 0)).map PlanReq.tag
  l.all slotOk && tags.all (fun g => tags.count g == 1)

/-- `a` is older than `b` by serial arithmetic on 32 bits. -/
def older (a b : Nat) : Bool :=
  let d := (b + 2 ^ 32 - a % 2 ^ 32) % 2 ^ 32
  decide (1 ≤ d) && decide (d < 2 ^ 31)

/-- The basis record of a tick. -/
def Plan.basisOf (p : Plan) (n : Nat) : Option Basis := p.basis.find? (fun b => b.tick == n)

/-- The verdict on a vector read at a voted mark (R195, R196). -/
def State.verdict (s : State) (w : List Word) : Nat :=
  let p := s.plan
  let n := vecTick w
  let f := fun (x : Fld) => s.lfld x
  let wHi : Int := field (vw w 4) 31 16
  let wLo : Int := field (vw w 4) 15 0
  let vExp : Int := field (vw w 5) 31 16
  let micros : Rat := vecIset w
  if !vecCheckOk w then 2
  else if !vecFormatOk w then 1
  else if p.ticking && older n p.tick then 4
  else
  match (if p.ticking && n == p.tick then p.basisOf n else none) with
  | none => 5
  | some b =>
    if p.lastSeq = some (vecSeq w) then 3
    else if micro ((f .limitsShelfPeak : Rat) / 100 * s.rating) < micros then 6
    else if vecRamp w ≠ 0 ∧ 1000 * ((f .frontendSlewMax : Rat) / 100 * s.rating) < vecRamp w then 7
    else if wLo < 10 * f .limitsStoreVMin ∨ wHi ≤ wLo ∨ 10 * f .limitsStoreVMax < wHi
        ∨ (vecConf w = true ∧ (wLo < min (10 * f .limitsStoreVLow) vExp ∨ max (10 * f .limitsStoreVHigh) vExp < wHi)) then 8
    else if f .plannerStateTol < |vExp - (b.stoS : Int)| then 9
    else if 10 * f .loadlineOffsetMax < |vecOffset w| then 10
    else if f .batteryPresent = 0 ∧ vecBatt w ≠ 0 then 11
    else if vecBatt w < -(10 * f .batteryIChgMax) ∨ (f .batteryPresent ≠ 0 ∧ 10 * f .batteryIDisMax < vecBatt w) then 11
    else if !vecConcordOk w then 12
    else 0

/-- The lanes hand the standing requests of the vector in force to the concord engine (R203). -/
def State.handRequests (s : State) : State :=
  let l := match s.plan.force with
    | none => []
    | some w => ((List.range 4).map (vecSlot w)).filter (fun r => r.kind != 0)
  { s with ccd := { s.ccd with planReq := l } }

/-- The vector in force is withdrawn (R201, R203). -/
def State.withdraw (s : State) : State :=
  ({ s with plan := { s.plan with force := none } }).handRequests

/-- A vector is put in force (R201, R203). -/
def State.putInForce (s : State) (w : List Word) : State :=
  ({ s with plan := { s.plan with force := some w } }).handRequests

/-- A count saturating at 255. -/
def inc255 (n : Nat) : Nat := sat 255 (n + 1)

/-- A vector is accepted: counts and runs (R198, R199, R202, R219). -/
def State.acceptVec (s : State) (w : List Word) : State :=
  let p := s.plan
  let c := vecConf w
  let clip := decide (1000 * s.slewOf s.slewCode < (vecRamp w : Rat))
  let short := decide (micro s.iCap < (vecIset w : Rat))
  { s with plan := { p with
      verdict := 0, conf := c, confRun := if c then inc255 p.confRun else 0
      unconfRun := if c then 0 else inc255 p.unconfRun
      missedRun := 0, accepted := p.accepted + 1, lastSeq := some (vecSeq w), tickOk := true, rejectSeen := false
      rampClip := if clip then sat 65535 (p.rampClip + 1) else p.rampClip
      capShort := if short then sat 65535 (p.capShort + 1) else p.capShort } }

/-- A vector is rejected (R197): counted and shown; the first since an acceptance is reported and recorded. -/
def State.rejectVec (s : State) (w : List Word) (v : Nat) : State :=
  let seen := s.plan.rejectSeen
  let s := { s with plan := { s.plan with verdict := v, rejected := s.plan.rejected + 1, rejectSeen := true } }
  if seen then s else
  (s.report 0x303 0x27 (vecTick w) v true).stage 0x14 v
    ([BitVec.ofNat 8 v, BitVec.ofNat 8 s.aon.mode.code, 0, 0] ++ (List.range 16).flatMap (fun i => leBytes 4 (vw w i).toNat))

/-- The lanes read and judge the vector that has arrived, by the row of R201 for the mode (R196, R201). -/
def State.judgeVec (s : State) : State :=
  match s.plan.chan with
  | [] => s
  | w :: rest =>
    let s := { s with plan := { s.plan with chan := rest } }
    if s.aon.mode = Mode.held then s else
    let s := { s with plan := { s.plan with seqRead := vecSeq w } }
    let v := s.verdict w
    if v ≠ 0 then s.rejectVec w v else
    let s := s.acceptVec w
    match s.aon.mode with
    | .fallow => s
    | _ => s.putInForce w

/-- The basis record of tick `n` (R192). -/
def State.basisRec (s : State) (n : Nat) : Basis :=
  let st := s.fesStatus
  { tick := n, mode := s.aon.mode.code, cause := s.aon.cause.code
    stoS := deci s.fes.period.stoS, stoB := deci s.fes.period.stoB, iF := deci s.iF
    iRef := sat 65535 (s.fes.iRef / 100000), iUp := deci s.iUp.1, iCap := deci s.iCap
    limitS := s.pool.limitS, limitB := s.pool.limitB
    cBank := sat 65535 (natFloor (1000 * s.cBank)), eU := sat 65535 (natFloor (s.eU / 100))
    flags := b2n (bitOf st 12) + 2 * b2n (bitOf st 13) + 4 * b2n (bitOf st 14) + 8 * b2n (bitOf st 26)
      + 16 * b2n (bitOf st 25) + 32 * b2n (bitOf st 15) + 64 * b2n (bitOf st 24)
    offset := match s.plan.force with | none => 0 | some w => vecOffset w
    seqForce := match s.plan.force with | none => 0 | some w => vecSeq w
    verdict := s.plan.verdict }

/-- The present tick ends: missed when no vector of it was accepted (R198). -/
def State.endTick (s : State) : State :=
  let p := s.plan
  if !p.ticking ∨ p.tickOk then s else
  let s := { s with plan := { p with verdict := 13, confRun := 0, missed := p.missed + 1
                                     missedRun := sat 3 (p.missedRun + 1) } }
  if s.plan.missedRun = 3 ∧ (s.aon.mode = Mode.bridging ∨ s.aon.mode = Mode.stopped) then s.withdraw else s

/-- A tick begins: its number and its basis record (R191, R192). -/
def State.beginTick (s : State) : State :=
  let n := s.plan.rounded / 250000 % 2 ^ 32
  let s := { s with plan := { s.plan with tick := n, ticking := true, tickDue := false, tickOk := false } }
  { s with plan := { s.plan with basis := (s.basisRec n :: s.plan.basis).take 2 } }

/-! ### The emit port (R193, R204, R220) -/

/-- A sward program writes a vector to the emit port (R193): newer than any unreleased one, which is discarded; every
vector is discarded while the vote is not formed. -/
def State.emitVec (s : State) (w : List Word) : State :=
  let e := { s.emit with wroteAt := s.now }
  if !s.vot.formed then { s with emit := { e with dropped := e.dropped + 1 } }
  else { s with emit := { e with written := some w, dropped := if e.written.isSome then e.dropped + 1 else e.dropped } }

/-- The periphery receives a voted mark from the voter (R193). -/
def State.emitMark (s : State) : State :=
  if s.inRst .planning then s else { s with emit := { s.emit with markAt := some s.now, done := false } }

/-- The plan registers of a lane (R219). -/
def State.readPlan (s : State) (o : Nat) : Option Word :=
  let p := s.plan
  match o with
  | 0x200 => some (pack [(28, 4, p.verdict), (27, 1, b2n p.force.isSome), (26, 1, b2n p.conf), (16, 8, p.confRun),
      (8, 8, p.unconfRun), (0, 2, p.missedRun)])
  | 0x204 => some (pack [(16, 16, match p.force with | none => 0 | some w => vecSeq w), (0, 16, p.seqRead)])
  | 0x208 => some (BitVec.ofNat 32 p.tick)
  | 0x20C => some p.accepted
  | 0x210 => some p.rejected
  | 0x214 => some p.missed
  | 0x218 => some (pack [(16, 16, p.rampClip), (0, 16, p.capShort)])
  | o => if 0x240 ≤ o ∧ o < 0x280 then some (p.word ((o - 0x240) / 4)) else none

/-- The plan release registers (R220). -/
def State.readEmit (s : State) (o : Nat) : Option Word :=
  let e := s.emit
  match o with
  | 0x00 => some (pack [(2, 1, b2n e.wdog), (1, 1, b2n (e.markAt.isSome && s.vot.formed)), (0, 1, b2n e.written.isSome)])
  | 0x04 => some e.released
  | 0x08 => some e.dropped
  | 0x0C => some e.lastTick
  | _ => none

/-- Writes: WDOG clears where 1 is written (R220). -/
def State.writeEmit (s : State) (o : Nat) (v : Word) : State :=
  if o = 0 then { s with emit := { s.emit with wdog := s.emit.wdog && !v.getLsbD 2 } } else s

/-- PLAN_RELEASE (R193): from 2 µs after a mark the newest vector written enters the plan vector channels. -/
def execPlanRelease (t : Time) (s : State) : Host.Outcome State Fault Refusal :=
  let s := s.at_ t
  match s.emit.markAt, s.emit.written with
  | some m, some w =>
    if s.inRst .planning ∨ s.emit.done ∨ !s.vot.formed ∨ !s.elapsed m 2000 then .next s
    else
      let room := if s.plan.chan.length < 2 then s.plan.chan else s.plan.chan.drop 1
      let open_ := Lane.all.any (fun x => !s.closed.contains (.planVector x))
      .next { s with
        emit := { s.emit with written := none, released := s.emit.released + 1, lastTick := vw w 1, done := true }
        plan := { s.plan with chan := if open_ then room ++ [w] else s.plan.chan } }
  | _, _ => .next s

/-- A PLANNER entry is in RUN (R317). -/
def State.plannerRuns (s : State) : Bool := s.swd.running && s.swd.entries.any (fun e => e.result == 1 && e.role == 1)

/-- SWARD_WATCHDOG (R204, R317): no vector has been written for `planner.watchdog` while a PLANNER entry is in RUN. -/
def execSwardWatchdog (t : Time) (s : State) : Host.Outcome State Fault Refusal :=
  let s := s.at_ t
  if s.inRst .planning ∨ s.swd.shed ∨ !s.plannerRuns ∨ s.aon.mode = Mode.held
      ∨ !s.elapsed (max s.emit.wroteAt (s.dom .planning).release) (s.lfldN .plannerWatchdog * 10 * ms) then .next s
  else .next (({ s with emit := { s.emit with wdog := true, wroteAt := s.now } }).assertReset .swardWdog (s.fused .swardWdog))

end Sys2Proof.Machine
end

