-- ==== Sys2Proof/Machine/Strings.lean ====
section
/-! DEFINITION. Rectifier modules on PMBus and supercapacitor strings and the battery on SMBus (R156 to R158, R166 to
R179, R581): the commands PMBUS_POLL, PMB_ALERT, BUS_TRANSACTION_END, STRING_POLL, PRECHARGE_TIMEOUT. -/
namespace Sys2Proof.Machine

/-! ### Rectifier modules -/

/-- Module `k` through `f`. -/
def State.updRect (s : State) (k : Nat) (f : Rect → Rect) : State :=
  { s with fes := { s.fes with rects := upd s.fes.rects k f } }

/-- Fitted modules (R151). -/
def State.fitted (s : State) : List Nat := (List.range 6).filter (fun k => (s.lfldN .frontendModules).testBit k)

/-- FES_RECT_k (R189). -/
def State.fesRect (s : State) (k : Nat) : Word := (s.readFes (0x40 + 4 * k)).getD 0

/-- A module changes state: event, Barrow record, report (R157, R584). -/
def State.rectState (s : State) (k new : Nat) : State :=
  let r := s.fes.rect k
  if r.state = new then s else
  let s := s.updRect k (fun r => { r with state := new, clean := 0 })
  let s := if new = 2 then s.fesEvent 5 else if new = 3 then s.fesEvent 6 else s
  let s := s.stage 0x15 0 ([k, r.state, new, 0].map (BitVec.ofNat 8) ++ leBytes 2 r.status ++ [0, 0]
    ++ leBytes 4 (s.fesRect k).toNat)
  s.report (0x600 + k) 0x30 r.iout new

/-- The modules as an image fits them: IN_SERVICE at bring-up, or ABSENT (R157). -/
def State.placeRects (s : State) : State :=
  { s with fes := { s.fes with rects := (List.range 6).map (fun k =>
      { Rect.reset with state := if (s.lfldN .frontendModules).testBit k then 1 else 0 }) } }

/-- Bits of STATUS_WORD that take a module out of service (R157): OFF, VOUT_OV_FAULT, IOUT_OC_FAULT, TEMPERATURE, and
VOUT and IOUT/POUT of the upper byte, at the places PMBus gives them (log entry 16). -/
def rectFault (status : Nat) : Bool := [6, 5, 4, 2, 15, 14].any (fun i => status.testBit i)

/-- At each stage start the conductor writes VOUT_COMMAND to each fitted module and reads it back (R156). -/
def State.writeVout (s : State) : State :=
  { s with fes := { s.fes with pmb := s.fes.pmb ++ s.fitted.flatMap (fun k =>
      [(⟨k, .voutWrite, false⟩ : BusTx), ⟨k, .voutRead, false⟩]) } }

/-- PMBUS_POLL (R156): every 10 ms, six reads of each fitted module. -/
def execPmbusPoll (t : Time) (s : State) : Host.Outcome State Fault Refusal :=
  let s := s.at_ t
  if s.inRst .fabric ∨ !s.inForce ∨ !s.elapsed s.fes.lastPoll (10 * ms) then .next s else
  let cmds : List PmCmd := [.statusWord, .readVin, .readIin, .readVout, .readIout, .readTemp]
  .next { s with fes := { s.fes with
    lastPoll := s.now
    pmb := s.fes.pmb ++ s.fitted.flatMap (fun k => cmds.map (fun c => (⟨k, c, true⟩ : BusTx))) } }

/-- PMB_ALERT (R156): a status sweep begins with the transaction after the one in progress. -/
def execPmbAlert (t : Time) (s : State) : Host.Outcome State Fault Refusal :=
  let s := s.at_ t
  if s.inRst .fabric ∨ !s.inForce then .next s else
  let sweep := s.fitted.map (fun k => (⟨k, .statusWord, false⟩ : BusTx))
  .next { s with fes := { s.fes with pmb := s.fes.pmb.take 1 ++ sweep ++ s.fes.pmb.drop 1 } }

/-- A poll of a module ends (R157). -/
def State.endPoll (s : State) (k : Nat) : State :=
  let r := s.fes.rect k
  let clean := !r.missed && !rectFault r.status
  let s := s.updRect k (fun r => { r with
    missed := false
    clean := if clean then r.clean + 1 else 0
    silent := if r.missed then r.silent + 1 else 0 })
  let r := s.fes.rect k
  if 3 ≤ r.silent then s.rectState k 3
  else if (r.state = 2 ∨ r.state = 3) ∧ 100 ≤ r.clean then s.rectState k 1
  else s

/-- DETAIL of BUS_ERROR (R484, R581). -/
def txDetail : TxRes → Option Nat
  | .ok _ => none | .noAck => some 0 | .pec => some 1 | .stretched => some 2

/-- Report a failed transaction. -/
def State.busError (s : State) (source addr : Nat) (r : TxRes) : State :=
  match txDetail r with
  | none => s
  | some d => s.report source 0x84 addr d

/-- BUS_TRANSACTION_END (R157, R581): the transaction in progress on PMBus, or on SMBus, ends. -/
def execBusTransactionEnd (t : Time) (pmbus : Bool) (r : TxRes) (s : State) : Host.Outcome State Fault Refusal :=
  let s := s.at_ t
  if s.inRst .fabric then .next s
  else if !pmbus then
    match s.fes.smb with
    | [] => .next s
    | c :: rest => .next (({ s with fes := { s.fes with smb := rest } }).busError 0xD31 c.addr r)
  else
  match s.fes.pmb with
  | [] => .next s
  | x :: rest =>
    let s := { s with fes := { s.fes with pmb := rest } }
    let k := x.module
    let s := s.busError 0xD30 (s.lfldN .frontendPmbusAddr + k) r
    let s := match r with
      | .ok v =>
        let s := s.updRect k (fun m => match x.cmd with
          | .statusWord => { m with status := v }
          | .readIout => { m with iout := v }
          | .readTemp => { m with temp := v }
          | _ => m)
        let bad : Bool := match x.cmd with
          | .statusWord => rectFault v
          | .voutRead => v != s.lfldN .frontendAutoV
          | _ => false
        if bad ∧ (s.fes.rect k).state ≠ 0 then (s.rectState k 2).updRect k (fun m => { m with clean := 0 }) else s
      | _ => if x.poll then s.updRect k (fun m => { m with missed := true }) else s
    .next (if x.poll && x.cmd == PmCmd.readTemp then s.endPoll k else s)

/-! ### Strings -/

/-- String `j`. -/
def State.str (s : State) (j : Nat) : Str := s.fes.strs.getD j Str.reset

/-- String `j` through `f`. -/
def State.updStr (s : State) (j : Nat) (f : Str → Str) : State :=
  { s with fes := { s.fes with strs := upd s.fes.strs j f } }

/-- Write a byte to a string's monitor (R167). -/
def State.strCmd (s : State) (j code byte : Nat) : State :=
  { s with fes := { s.fes with smb := s.fes.smb ++ [(⟨s.lfldN .stringsAddrBase + j, code, byte⟩ : StrCmd)] } }

/-- FES_STR_j (R189). -/
def State.fesStr (s : State) (j : Nat) : Word := (s.readFes (0x80 + 4 * j)).getD 0

/-- The lowest SPARE string enters PRECHARGE (R174). -/
def State.nextSpare (s : State) : State :=
  match (List.range 16).find? (fun j => (s.str j).state == 1) with
  | none => s
  | some j => (s.updStr j (fun x => { x with state := 2, preAt := s.now, closing := false })).strCmd j 0x11 0xA5

/-- A string is retired (R172, R173): event, record, report; a faulty or hot one is opened at once. -/
def State.retire (s : State) (j st : Nat) : State :=
  let s := s.updStr j (fun x => { x with state := st, retiredAt := s.now, opened := st == 6 || st == 7 })
  let x := s.str j
  let s := (s.fesEvent 7).stage 0x16 0 ([BitVec.ofNat 8 j, BitVec.ofNat 8 st, 0, 0] ++ leBytes 4 (s.fesStr j).toNat
    ++ leBytes 2 x.volt ++ leBytes 2 (twosSat 16 x.temp))
  let s := s.report (0x610 + j) 0x31 x.volt st
  if st = 6 ∨ st = 7 then s.strCmd j 0x10 0x5A else s

/-- A precharging string fails to join (R174). -/
def State.joinFails (s : State) (j : Nat) : State := ((s.retire j 7).fesEvent 9).nextSpare

/-- The strings are settled before the pre-start test (R170). -/
def State.settle (s : State) : State :=
  let active := s.lfldN .stringsActive
  let spare := s.lfldN .stringsSpare
  let s := { s with fes := { s.fes with settleOwed := false } }
  (List.range 16).foldl (fun (s : State) j =>
    let x := s.str j
    if 4 ≤ x.state then s
    else if active.testBit j then
      if x.closed then s.updStr j (fun x => { x with state := 3 })
      else if x.state = 2 then s
      else (s.updStr j (fun x => { x with state := 2, preAt := s.now, closing := false })).strCmd j 0x11 0xA5
    else if spare.testBit j then
      if x.state = 3 ∨ x.state = 2 then s
      else
        let s := s.updStr j (fun x => { x with state := 1 })
        if x.closed then s.strCmd j 0x10 0x5A else s
    else s) s

/-- Sign of a current. -/
def sign (c : Int) : Int := if 0 < c then 1 else if c < 0 then -1 else 0

/-- The capacitance and ESR estimates of an answered poll (R171). -/
def Str.estimate (x : Str) (now : Time) (volt : Nat) (curr : Int) (esr : Nat) : Str :=
  let esrs := (esr :: x.esrs).take 16
  if sign curr ≠ sign x.curr ∨ x.lastAt = 0 then { x with esrs := esrs, charge := 0, chargeVolt := volt }
  else
    let q := x.charge + ((x.curr + curr : Int) : Rat) / 2 * (1 / 50) * ((now - x.lastAt : Nat) : Rat) / 1000000000
    let dv := ((volt : Rat) - (x.chargeVolt : Rat)) / 50
    if 20 ≤ |dv| then { x with esrs := esrs, ests := (-(q / dv) :: x.ests).take 16, charge := 0, chargeVolt := volt }
    else { x with esrs := esrs, charge := q }

/-- The retirement condition an ACTIVE string meets (R172). -/
def State.retireWhy (s : State) (x : Str) (status : Nat) : Option Nat :=
  let c := 1000 * s.strCap x
  if status.testBit 3 ∨ status.testBit 5 then some 7
  else if status.testBit 4 ∨ 3 ≤ x.hot then some 6
  else if c < (s.lfld .stringsCMinPct : Rat) / 100 * s.lfld .stringsCRated then some 4
  else if (s.lfld .stringsEsrMaxPct : Rat) / 100 * (10 * s.lfld .stringsEsrRated) < x.esr then some 5
  else none

/-- A retired string is opened when R173 says. -/
def State.openRetired (s : State) (j : Nat) : State :=
  let x := s.str j
  if x.state = 8 then (s.updStr j (fun x => { x with opened := true })).strCmd j 0x10 0x5A
  else if 4 ≤ x.state ∧ !x.opened
      ∧ ((x.curr.natAbs : Rat) / 50 ≤ s.lfld .stringsOpenI ∨ s.elapsed x.retiredAt sec) then
    (s.updStr j (fun x => { x with opened := true })).strCmd j 0x10 0x5A
  else s

/-- One string's part of a poll cycle (R168, R171 to R174). -/
def State.pollStr (s : State) (j : Nat) (r : StrRes) : State :=
  let x := s.str j
  let m := s.lfldN .stringsActive ||| s.lfldN .stringsSpare
  if !m.testBit j then s else
  match r with
  | .fail d =>
    let s := s.report 0xD31 0x84 (s.lfldN .stringsAddrBase + j) d
    let s := s.updStr j (fun x => { x with silent := x.silent + 1, closed := if x.closing then false else x.closed })
    let s := if x.state = 3 ∧ 3 ≤ x.silent + 1 then s.retire j 8
      else if x.state = 2 ∧ x.closing then s.joinFails j else s
    s.openRetired j
  | .read status volt curr temp esr =>
    let s := s.updStr j (fun x =>
      let y := if x.state = 3 then x.estimate s.now volt curr esr else x
      { y with volt := volt, curr := curr, temp := temp, silent := 0, lastAt := s.now, closed := status.testBit 0
               hot := if 10 * s.lfld .stringsTMax < temp then x.hot + 1 else 0 })
    let x := s.str j
    match x.state with
    | 3 =>
      match s.retireWhy x status with
      | none => s
      | some st => (s.retire j st).openRetired j
    | 2 =>
      if x.closing then
        if x.closed then
          ((s.updStr j (fun x => { x with state := 3, closing := false, lastAt := 0 })).strCmd j 0x11 0x5A).fesEvent 8
        else s.joinFails j
      else if |(volt : Rat) / 50 - s.pool.samples.stoS| ≤ s.lfld .stringsCloseDv then
        (s.updStr j (fun x => { x with closing := true })).strCmd j 0x10 0xA5
      else s
    | _ => s.openRetired j

/-- The bus charge path (R176). -/
def State.busCharge (s : State) : State :=
  let v := s.pool.samples.stoS
  let low : Rat := s.lfld .limitsStoreVMin
  let strs := (List.range 16).filter (fun j => (s.lfldN .stringsBusCharge).testBit j)
  let send := fun (s : State) (b : Nat) => strs.foldl (fun (s : State) j => s.strCmd j 0x12 b) s
  if s.fes.busCharge then
    if low + 20 ≤ v ∨ s.aon.mode ≠ Mode.stopped ∨ !s.fes.gridPresent then
      send { s with fes := { s.fes with busCharge := false } } 0x5A
    else s
  else if s.aon.mode = Mode.stopped ∧ s.fes.gridPresent ∧ v ≤ low + 10 then
    (send { s with fes := { s.fes with busCharge := true } } 0xA5).fesEvent 13
  else s

/-- The battery's part of a poll cycle (R177, R179). -/
def State.pollBatt (s : State) (r : StrRes) : State :=
  if s.lfldN .batteryPresent = 0 then s else
  let was := s.fes.battFault
  let (s, bad) := match r with
    | .fail d =>
      let s := s.report 0xD31 0x84 (s.lfldN .batteryAddr) d
      let n := s.fes.battSilent + 1
      ({ s with fes := { s.fes with battSilent := n } }, was || decide (3 ≤ n))
    | .read status _ _ _ _ => ({ s with fes := { s.fes with battSilent := 0 } }, status.testBit 3)
  let s := { s with fes := { s.fes with battFault := bad, battCmd := if bad then 0 else s.fes.battCmd } }
  if bad && !was then
    ({ s with fes := { s.fes with smb := s.fes.smb ++ [(⟨s.lfldN .batteryAddr, 0x10, 0x5A⟩ : StrCmd)] } }).fesEvent 12
  else s

/-- Length of a string poll cycle (R168). -/
def State.strCycle (s : State) : Nat := if s.lfldN .stringsSmbusKhz = 100 then 40 * ms else 10 * ms

/-- STRING_POLL (R168 to R176): every monitor of the bank and the battery is read once. A spare that is to serve a
retirement enters PRECHARGE after every string of the poll is judged, one for each retirement, lowest first. -/
def execStringPoll (t : Time) (x : List StrRes) (batt : StrRes) (s : State) : Host.Outcome State Fault Refusal :=
  let s := s.at_ t
  if s.inRst .fabric ∨ !s.inForce ∨ !s.elapsed s.fes.lastStr s.strCycle then .next s else
  let s := { s with fes := { s.fes with lastStr := s.now } }
  let before := (List.range 16).filter (fun j => (s.str j).state == 3)
  let s := (List.range 16).foldl (fun (s : State) j => s.pollStr j (x.getD j (.fail 0))) s
  let gone := (before.filter (fun j => (s.str j).state != 3)).length
  let s := (List.range gone).foldl (fun (s : State) _ => s.nextSpare) s
  let s := if s.fes.settleOwed then s.settle else s
  .next (((s.pollBatt batt).shortCheck).busCharge)

/-- PRECHARGE_TIMEOUT (R174): a precharging string has not matched the bank within `strings.precharge_time`. -/
def execPrechargeTimeout (t : Time) (j : Nat) (s : State) : Host.Outcome State Fault Refusal :=
  let s := s.at_ t
  let x := s.str j
  if s.inRst .fabric ∨ x.state ≠ 2 ∨ x.closing ∨ !s.elapsed x.preAt (s.lfldN .stringsPrechargeTime * sec) then .next s
  else .next (s.joinFails j)

end Sys2Proof.Machine
end

