-- ==== Sys2Proof/Machine/MarkOps.lean ====
section
/-! DEFINITION. What the lanes do at each voted mark and at each DAC update, mode evaluation apart (R63 to R67, R81 to R88,
R92, R99, R115, R122, R135 to R146, R160, R163, R178 to R184). -/
namespace Sys2Proof.Machine

/-! ### The vote (R135 to R138, R142 to R146) -/

/-- STAGE_KILL_N is high and the internal stage-kill line is released (R583). -/
def State.killFree (s : State) : Bool := !s.pin.stageKill && !s.vot.killLine

/-- The kill latch clears (R146): the line high for 1 µs, and every gate commanded off for a whole period. -/
def State.killClear (s : State) : State :=
  let v := s.vot
  if !v.killLatch then { s with vot := { v with offSince := none } } else
  let s := s.gatesLow
  let m := v.mark.toNat
  let high := match v.killHighSince with | none => false | some t => s.killFree && s.elapsed t us
  match v.offSince with
  | none => { s with vot := { v with offSince := some m } }
  | some m0 =>
    if high && decide (m0 < m) then { s with vot := { v with killLatch := false, offSince := none } } else s

/-- The retained leg record (R142). -/
def State.retain (s : State) : State :=
  { s with vot := { s.vot with
      retained := s.pool.legs.map (fun (l : Leg) => if l.state.kept then some l.state else none) } }

/-- Mean over the voting lanes of a value. -/
def State.votedMean (s : State) (f : LaneSt → Rat) : Rat := meanRat (s.voting.map (fun x => f (s.lane x)))

/-- A shadow lane rebases on the voting lanes' snapshots at the handshake point (R135): exact fields are the voting
lanes', toleranced ones their snapshot's mean carried by what the lane itself changed since. -/
def State.rebase (s : State) (x : Lane) : State :=
  let v := match s.voting with | [] => s.lane x | y :: _ => s.lane y
  let move := fun (l : LaneSt) (snap cur : LaneSt → Rat) =>
    s.votedMean snap + (if l.own then cur l - snap l else 0)
  s.updLane x (fun l => { l with
    endpoint := v.endpoint, iOut := v.iOut, iF := v.iF, offset := v.offset
    target := move l (fun y => y.snap.1) LaneSt.target
    centre := move l (fun y => y.snap.2.1) LaneSt.centre
    ripple := move l (fun y => y.snap.2.2) LaneSt.ripple
    tonS := move l (fun y => y.snapOn.getD 0 0) LaneSt.tonS
    tonA := move l (fun y => y.snapOn.getD 1 0) LaneSt.tonA
    tonBS := move l (fun y => y.snapOn.getD 2 0) LaneSt.tonBS
    tonBA := move l (fun y => y.snapOn.getD 3 0) LaneSt.tonBA })

/-- A shadow lane at a voted mark (R135 to R138). -/
def State.shadowMark (s : State) (x : Lane) : State :=
  let l := s.lane x
  if l.vote ≠ .shadow then s else
  if l.clockFailed then s.updLane x (fun l => { l with clean := 0, reloadIn := 3, dirty := false }) else
  match l.reloadIn with
  | 3 => s.updLane x (fun l => { l with own := true, reloadIn := 2, dirty := false })
  | 2 =>
    let s := (s.rebase x).updLane x (fun l => { l with reloads := l.reloads + 1, reloadIn := 1, dirty := false })
    if s.lfldN .lanesReloadMax ≤ (s.lane x).reloads then
      (s.votEvent 6).assertReset (.fence x) (s.fused (.fence x)) [x]
    else s
  | 1 => s.updLane x (fun l => { l with reloadIn := 0, dirty := false })
  | _ =>
    if l.dirty then s.updLane x (fun l => { l with clean := 0, own := true, reloadIn := 2, dirty := false })
    else if s.lfldN .lanesRejoinTime * 1000 ≤ l.clean + 1 then
      let s := s.updLane x (fun l => { l with vote := .voting, clean := 0, window := [], reloads := 0 })
      (s.votEvent (3 + x.num)).laneRecord 1 x l.lastKind
    else s.updLane x (fun l => { l with clean := l.clean + 1 })

/-- A lane that left an L1 reset sees its first voted mark: it runs in shadow and reloads every field (R65, R135). -/
def State.firstMark (s : State) (x : Lane) : State :=
  let l := s.lane x
  if l.awaitingMark ∧ l.vote = .reset then
    s.updLane x (fun l => { l with vote := .shadow, awaitingMark := false, reloadIn := 2, own := false, clean := 0
                                   dirty := false })
  else s

/-- Each compared lane's snapshot at the mark (R129), and a new period for the voter's counting. -/
def State.snapshots (s : State) : State :=
  s.updLanes (fun (l : LaneSt) =>
    if l.vote.compared then { l with snap := (l.target, l.centre, l.ripple), snapOn := [l.tonS, l.tonA, l.tonBS, l.tonBA] }
    else l)

/-! ### Ring time at a mark (R64, R67, R191) -/

/-- The lanes' copy at a voted mark: in holdover exactly 10,000 ns on, or 9,920 ns while it runs down a lead once ring
time is synchronised again; a copy behind steps forward (R67). -/
def State.markRing (s : State) : State :=
  let c := s.rings.lanes
  let v := c.value
  let next : RingCopy :=
    if !c.holdover then ⟨c.now s.now, s.now, false⟩
    else if !s.rings.rejoining then ⟨v + 10000, s.now, true⟩
    else
      let r := s.ringTime
      if v + 10000 ≤ r then ⟨r, s.now, false⟩
      else if v + 9920 ≤ r then ⟨max r (v + 9920), s.now, false⟩
      else ⟨v + 9920, s.now, true⟩
  let near := (next.value + 5000) / 10000 * 10000
  let e : Int := (next.value : Int) - (near : Int)
  let period := if next.holdover then 10000 else if 10 < e then 9999 else if e < -10 then 10001 else 10000
  let due := decide (near % 250000 = 0) && (!s.plan.ticking || decide (s.plan.rounded < near))
  ({ s with rings := { s.rings with lanes := next }, vot := { s.vot with period := period }
            plan := { s.plan with rounded := max s.plan.rounded near, tickDue := due } }).holdoverBit

/-! ### Load line and pulses -/

/-- Bus mean of a lane over the period. -/
def busOf (x : MarkIn) : Lane → Rat | .a => x.busA | .b => x.busB | .c => x.busC

/-- P_st, W (R81). -/
def State.pStorage (s : State) (x : MarkIn) : Rat :=
  let cur := fun (g : Group) => sumRat ((List.range 32).map (fun k =>
    let l := s.leg k
    if l.serves g then (if l.state = LegState.blind then (s.legNow l).est else x.legs.getD k 0) else 0))
  x.stoS * cur .s + x.stoB * cur .b

/-- What the period just ended measured. -/
def State.measure (s : State) (x : MarkIn) : State :=
  let bus := meanRat (s.voting.map (busOf x))
  let p : Period := ⟨x.grid, bus, x.stoS, x.stoB, s.pStorage x, x.v1 * x.v1 + x.v2 * x.v2 + x.v3 * x.v3⟩
  let s := { s with fes := { s.fes with period := p, sum := s.fes.sum + x.grid, count := s.fes.count + 1 }
                    ccd := { s.ccd with outSum := s.ccd.outSum + s.eta * x.grid + p.pst, outCount := s.ccd.outCount + 1 } }
  let iOut := (s.eta * x.grid + p.pst) / s.nominal
  let tau : Rat := s.lfld .loadlineTauI * 10000
  s.updLanes (fun (l : LaneSt) =>
    if !l.vote.compared then l else
    { l with iOut := iOut
             iF := if s.vot.fresh ∨ tau = 0 then iOut else Config.firstOrder l.iF iOut tau 10000 })

/-- Each compared lane's own bus mean. -/
def State.busMeans (s : State) (x : MarkIn) : State :=
  Lane.all.foldl (fun (s : State) y => s.updLane y (fun l =>
    if l.vote.compared then { l with busMean := busOf x y } else l)) s

/-- T_low, V (R16, R82). -/
def State.tLow (s : State) : Rat := s.nominal - (s.lfld .loadlineRLl : Rat) / 10000 * s.rating

/-- The load-line offset in force, V (R82). -/
def State.offsetV (s : State) : Rat :=
  let m : Rat := (s.lfld .loadlineOffsetMax : Rat) / 10
  match s.plan.force with
  | none => 0
  | some w => clampRat (-m) m ((vecOffset w : Rat) / 100)

/-- The endpoint E (R82). -/
def State.endpoint (s : State) (iF : Rat) : Rat :=
  min (max (s.nominal + s.offsetV - (s.lfld .loadlineRLl : Rat) / 10000 * iF) s.tLow)
    (s.nominal + (s.lfld .loadlineOffsetMax : Rat) / 10)

/-- E and the offset of each compared lane. -/
def State.endpoints (s : State) : State :=
  s.updLanes (fun (l : LaneSt) => if l.vote.compared then { l with offset := s.offsetV, endpoint := s.endpoint l.iF } else l)

/-- The centring trim (R88). -/
def State.centring (s : State) : State :=
  let b : Rat := (s.lfld .phaseBand : Rat) / 20
  s.updLanes (fun (l : LaneSt) =>
    let t := if l.tCount = 0 then l.target else l.tSum / l.tCount
    let c := if l.vote.compared && s.pool.stageRun then
      clampRat (-b) b (l.centre + (s.lfld .phaseCentreGain : Rat) / 256 * (t - l.busMean)) else l.centre
    { l with centre := c, tSum := 0, tCount := 0 })

/-- Legs of a group in ROTATION or BLIND. -/
def State.nRot (s : State) (g : Group) : Nat := (s.pool.legs.filter (fun (l : Leg) => l.inRotation && l.group == g)).length

/-- T_p of a group, ns (R92, R98). -/
def State.tP (s : State) (g : Group) : Rat :=
  if s.nRot g = 0 ∨ s.lfldN .phaseFTarget = 0 then 0
  else 1000000 / (s.lfldN .phaseFTarget : Rat) * (s.places g).length / s.nRot g

/-- The base on-times (R92, R98): unchanged while no leg is in the rotation. -/
def State.baseOnTimes (s : State) (x : MarkIn) : State :=
  let tp := s.tP .s
  let tb := s.tP .b
  s.updLanes (fun (l : LaneSt) =>
    if !l.vote.compared ∨ l.busMean = 0 then l else
    let r := x.stoS / l.busMean
    let rb := x.stoB / l.busMean
    let l := if s.nRot .s = 0 then l else { l with tonS := (1 - r) * tp, tonA := r * tp }
    if s.nRot .b = 0 then l else { l with tonBS := (1 - rb) * tb, tonBA := rb * tb })

/-- Current balance (R99). -/
def State.balance (s : State) : State :=
  let ok : Leg → Bool := fun l => l.state == .rotation && l.group == .s && decide (8 ≤ l.sinceTrim)
  let ps := (s.pool.legs.filter ok).map (fun l => meanRat l.peaks)
  let p := meanRat ps
  if ps.length < 2 ∨ p < (s.lfld .legsOpenIFloor : Rat) / 10 ∨ p = 0 then s else
  let m := s.lfld .phaseBalanceMax
  { s with pool := { s.pool with legs := s.pool.legs.map (fun (l : Leg) =>
    if !ok l then l else
    let t := roundEven ((l.trim : Rat) + 4 * s.lfld .phaseBalanceGain * (p - meanRat l.peaks) / p)
    let t := max (-m) (min m t)
    if t = l.trim then l else { l with trim := t, sinceTrim := 0 }) } }

/-- I_lim of a group in 0.1 A (R115). -/
def State.groupLimit (s : State) (g : Group) : Nat :=
  let w := sumRat (s.pool.legs.map (fun (l : Leg) =>
    if !l.serves g then 0
    else if l.state = .blind ∨ (l.state = .hiccup ∧ l.hiccupBlind = true) then 7 / 10 else 1))
  natFloor (10 * ((s.aon.derate : Rat) / 256) * s.lfld .legsIRated * w)

/-- LEG_LIMIT (R115). -/
def State.groupLimits (s : State) : State :=
  { s with pool := { s.pool with limitS := s.groupLimit .s, limitB := s.groupLimit .b } }

/-- Legs that enter a rotation at the boundary (R98, R103, R107, R108). -/
def State.entries (s : State) : State :=
  let s := (List.range 32).foldl (fun (s : State) k =>
    let l := s.leg k
    if l.state = .hiccup ∧ l.hiccupOver = true then
      s.legState k (if l.hiccupBlind then .blind else .rotation) (fun l => { l with limited := 0, hiccupOver := false })
    else s) s
  let s := match s.pool.joinOwed with
    | none => s
    | some (k, d) => s.joinSpare k d
  s

/-- The stage starts when it is owed and may (R103): T begins at the endpoint (R85). -/
def State.startStage (s : State) : State :=
  if !s.pool.startOwed ∨ s.vot.killLatch ∨ s.aon.mode = Mode.held ∨ s.aon.mode = Mode.stopped then s
  else s.stageBegin.updLanes (fun (l : LaneSt) => { l with target := l.endpoint })

/-- While the stage is not started T is 0 (R120). -/
def State.idleTarget (s : State) : State :=
  if s.pool.stageRun then s else s.updLanes (fun (l : LaneSt) => { l with target := 0 })

/-! ### The front end at a mark -/

/-- The fallow filter (R160). -/
def State.fallowUpdate (s : State) : State :=
  let y := if s.vot.fresh then s.iF
    else Config.firstOrder s.fes.fallow s.iF (s.lfld .limitsFallowTau * 1000000) 10000
  { s with fes := { s.fes with fallow := y } }

/-- The group B current command, A (R178, R179). -/
def State.groupB (s : State) : State :=
  let vb := s.fes.period.stoB
  let out := s.iF * s.nominal
  let z := if s.aon.mode = Mode.bridging then
      Config.firstOrder s.fes.battZ out (s.lfld .batteryTau * 1000000000) 10000 else s.fes.battZ
  let want : Rat := match s.aon.mode with
    | .conducting => (match s.plan.force with | none => 0 | some w => (vecBatt w : Rat) / 10)
    | .bridging => if vb = 0 then 0 else z / vb
    | _ => 0
  let dis : Rat := if vb ≤ s.lfld .batteryVMin then 0 else s.lfld .batteryIDisMax
  let chg : Rat := if (s.lfld .batteryVMax : Rat) ≤ vb then 0 else s.lfld .batteryIChgMax
  let lim : Rat := (s.pool.limitB : Rat) / 10
  let cmd := clampRat (-lim) lim (clampRat (-chg) dis want)
  { s with fes := { s.fes with battZ := z
                               battCmd := if s.fes.battFault ∨ s.lfldN .batteryPresent = 0 then 0 else cmd } }

/-- The edge backstop (R163), while the stage runs. -/
def State.edgeUpdate (s : State) (x : MarkIn) : State :=
  let v := s.fes.period.stoS
  let high := x.upper && (s.fes.edge == 1 || decide ((s.lfld .limitsStoreVMax : Rat) ≤ v))
  let low := x.lower && s.aon.mode != Mode.bridging && (s.fes.edge == 2 || decide (v ≤ (s.lfld .limitsStoreVMin : Rat)))
  let e := if !s.pool.stageRun then 0 else if high then 1 else if low then 2 else 0
  let was := s.fes.edge
  let s := { s with fes := { s.fes with edge := e } }
  if e = 0 ∨ e = was then s else
  (s.fesEvent (if e = 1 then 3 else 4)).stage 0x15 1
    ([BitVec.ofNat 8 e, 0, 0, 0] ++ leBytes 2 (deci v) ++ [0, 0] ++ leBytes 4 s.fesRef.toNat)

/-- V_g is below the sag threshold, or at the return threshold (R180, R182): squares are compared. -/
def State.vgBelow (s : State) (pct : Int) : Bool :=
  let th : Rat := (pct : Rat) / 100 * s.lfld .frontendGridVNom
  decide (s.fes.period.vgSq < th * th)

/-- Grid voltage and delivery (R180), the return timer (R182) and the covered periods (R183). -/
def State.gridUpdate (s : State) (start : Time) : State :=
  let f := s.fes
  let sag := s.vgBelow (s.lfld .frontendSagPct)
  let short := f.link == 1 && decide (micro s.rating / 10 ≤ f.ref) && decide (micro s.iFe < f.ref / 2)
  let ret := !s.vgBelow (s.lfld .frontendReturnPct) && !sag && !short
  let keep := fun (on : Bool) (t : Option Time) => if on then (match t with | none => some start | some t => some t) else none
  { s with fes := { f with
      sagSince := keep sag f.sagSince, shortSince := keep short f.shortSince, returnSince := keep ret f.returnSince
      covered := if f.reengage then (if f.period.pst ≤ 0 then f.covered + 1 else 0) else 0
      recharge := f.recharge && decide (f.period.stoS < (s.lfld .limitsStoreVCentre : Rat)) } }

/-- A loss condition of R180 has held for `frontend.sag_time`. -/
def State.gridLossDue (s : State) : Bool :=
  let n := s.lfldN .frontendSagTime * 100 * us
  let due : Option Time → Bool := fun o => match o with | none => false | some t => s.elapsed t n
  due s.fes.sagSince || due s.fes.shortSince

/-- Re-engagement begins at the boundary after the return (R182). -/
def State.reengageStart (s : State) : State :=
  if !s.fes.reengageOwed then s
  else if s.aon.mode = Mode.bridging ∧ s.fes.gridPresent then
    { s with fes := { s.fes with reengageOwed := false, reengage := true, ref := 0, covered := 0 } }
  else { s with fes := { s.fes with reengageOwed := false } }

/-- Grid input is lost (R180, R183): the event; during re-engagement it begins again. -/
def State.gridLost (s : State) : State :=
  let was := s.fes.gridPresent || s.fes.reengage
  let s := { s with fes := { s.fes with
    gridPresent := false, returnSince := none, reengageOwed := false
    ref := if s.fes.reengage then 0 else s.fes.ref, reengage := false, covered := 0 } }
  let s := s.busCharge
  if was ∨ s.aon.mode = Mode.fallow ∨ s.aon.mode = Mode.conducting then s.fesEvent 0 else s

/-! ### The DAC update (R84 to R87) -/

/-- The factory entry of a channel (R459). -/
def State.otpEntry (s : State) (ch : Nat) : OtpEntry :=
  ((otpEntries s.nv.fuse.otp).find? (fun e => e.channel == ch)).getD ⟨ch, 0, 2 ^ 30⟩

/-- The code of a threshold DAC channel for bus volts (R86, R460): `hi` is the upper channel. -/
def State.dacCode (s : State) (x : Lane) (hi : Bool) (volts : Rat) : Nat :=
  let i := x.num
  let sc : Rat := (s.lfld .calVbusScale i : Rat) / 10 * (1 + (s.lfld .calVbusGain i : Rat) / 100000)
  let e := s.otpEntry (0x40 + 2 * i + b2n hi)
  if sc = 0 ∨ e.gain = 0 then 0 else
  let v := (volts - (s.lfld .calVbusOffset i : Rat) / 1000) / sc
  let c := v / ((e.gain : Rat) / 2 ^ 30 * (2 / 65536)) + (e.offset : Rat) / 256
  min 65535 (roundEven c).toNat

/-- The slow part of each group S estimate (R87). -/
def State.slowParts (s : State) (dt : Rat) : State :=
  let tau : Rat := s.lfld .phaseRampTau * 1000
  { s with pool := { s.pool with legs := s.pool.legs.map (fun (l : Leg) =>
    if l.group = .s then { l with estSlow := Config.firstOrder l.estSlow l.est tau dt } else l) } }

/-- The injected ripple q, V (R87). -/
def State.ripple (s : State) : Rat :=
  (s.lfld .phaseRampGain : Rat) / 1000
    * sumRat (s.pool.legs.map (fun (l : Leg) => if l.group = .s then l.est - l.estSlow else 0))

/-- One lane's DAC update: T by the slew, q, and both codes. -/
def State.dacLane (s : State) (q : Rat) (x : Lane) : State :=
  let half : Rat := (s.lfld .phaseBand : Rat) / 20
  s.updLane x (fun l =>
    if !l.vote.compared then l else
    let e : Rat := (roundEven (micro l.endpoint) : Rat) / 1000000
    let t := if s.pool.stageRun then towards l.target e ((s.lfld .loadlineSlew : Rat) / 20000) else 0
    { l with target := t, ripple := q, tSum := l.tSum + t, tCount := l.tCount + 1
             lowerCode := s.dacCode x false (t + l.centre - half - q)
             upperCode := s.dacCode x true (t + l.centre + half - q) })

/-- A group B pulse falls due at the rate |command| / Q_B (R178). -/
def State.groupBPulse (s : State) : State :=
  let c := s.fes.battCmd
  let vb := s.vsto .b
  let v := s.vbus
  if !s.drives ∨ c = 0 ∨ v = 0 then s else
  let tp := s.tP .b
  -- charge of one pulse in nC: ns · ns · V · V / (V · nH)
  let qb := tp * tp * vb * (v - vb) / (2 * v * (100 * s.lfld .legsInductance))
  if qb ≤ 0 ∨ (s.now - s.pool.lastB : Nat) < qb / |c| then s else
  match s.readyLeg .b with
  | none => s
  | some k => s.launch .b (if 0 < c then .supply else .absorb) k

/-- DAC_UPDATE (R84 to R87): every 50 ns. -/
def execDacUpdate (t : Time) (x : DacIn) (s : State) : Host.Outcome State Fault Refusal :=
  let s := s.at_ t
  if s.inRst .fabric then .next s else
  let s := s.estimates
  let s := { s with pool := { s.pool with samples := ⟨x.busA, x.busB, x.busC, x.stoS, x.stoB⟩ } }
  if !s.vot.formed then .next s else
  let s := s.slowParts 50
  let q := s.ripple
  .next (Lane.all.foldl (fun (s : State) y => s.dacLane q y) s).groupBPulse

/-- The registers of a lane (R120, R150). -/
def State.readLane (s : State) (x : Lane) (o : Nat) : Option Word :=
  let l := s.lane x
  let mv := fun (v : Rat) => some (pack [(0, 20, sat (2 ^ 20 - 1) (natFloor (1000 * v)))])
  match o with
  | 0x000 => some (pack [(24, 8, sat 255 l.reloads), (2, 1, b2n l.snapOk), (0, 2, l.vote.code)])
  | 0x004 => mv l.busMean
  | 0x100 => mv l.target
  | 0x104 => mv l.endpoint
  | 0x108 => some (pack [(0, 16, deci l.iF)])
  | 0x10C => some (pack [(16, 16, l.upperCode), (0, 16, l.lowerCode)])
  | 0x110 => some (pack [(16, 16, twosSat 16 (roundEven (100 * l.offset))), (0, 16, twosSat 16 (roundEven (1000 * l.centre)))])
  | 0x114 => some (pack [(16, 16, sat 65535 (roundEven l.tonA).toNat), (0, 16, sat 65535 (roundEven l.tonS).toNat)])
  | 0x118 => some l.tripWait
  | o => s.readPlan o

/-- The voter's registers (R149). -/
def State.readVot (s : State) (o : Nat) : Option Word :=
  let v := s.vot
  let clean := fun (x : Lane) => some (pack [(0, 23, sat (2 ^ 23 - 1) (s.lane x).clean)])
  match o with
  | 0x00 => some s.votStatus
  | 0x04 => some (v.event.setWidth 32)
  | 0x08 => some (pack [(30, 2, v.lastLane), (28, 2, v.lastKind), (22, 6, v.lastGate), (18, 4, v.lastSection),
      (0, 16, v.lastMark)])
  | 0x0C => some s.votWindow
  | 0x10 => some (s.votTotal .a)
  | 0x14 => some (s.votTotal .b)
  | 0x18 => some (s.votTotal .c)
  | 0x20 => clean .a
  | 0x24 => clean .b
  | 0x28 => clean .c
  | 0x30 => some (v.mark.setWidth 32)
  | 0x34 => some (lookupD s.latches 0x003C0034 0)
  | _ => none

/-- Writes: VOT_EVENT clears where 1 is written (R149). -/
def State.writeVot (s : State) (o : Nat) (v : Word) : State :=
  if o = 0x04 then { s with vot := { s.vot with event := s.vot.event &&& ~~~(v.setWidth 11) } } else s

end Sys2Proof.Machine
end

