-- ==== Sys2Proof/Machine/LexOps.lean ====
section
/-! DEFINITION. The lexicon engine's operations (chapter 8): a lemma's fields in sward memory, learning from an
observation, allocation and eviction, the cache, the query operations, and the engine's start. -/
namespace Sys2Proof.Machine

/-- 1 GiB. -/
def gib : Nat := 2 ^ 30

/-- Regions of the sward's memory (R217, R227, R249): base and size, by the code a bundle gives them. The specification
gives the sizes; the order and so the bases are the model's (log entry 17). -/
def regionOf : Nat → Nat × Nat
  | 0 => (0, 64 * gib)
  | 1 => (64 * gib, 256 * gib)
  | 2 => (320 * gib, 64 * gib)
  | 3 => (384 * gib, 64 * gib)
  | _ => (448 * gib, 64 * gib - 64 * 2 ^ 20)

/-- Slots of the lexicon. -/
def lexSlots : Nat := 1048576

/-- Byte `o` of a slot in sward memory (R227). -/
def slotAt (slot o : Nat) : Nat := slot * 0x10000 + o

/-- A field of a lemma, little-endian (R228). -/
def lemN (m : Mem) (slot o n : Nat) : Nat := ofLe (m.readBytes (slotAt slot o) n)

/-- Write a field of a lemma. -/
def lemSet (m : Mem) (slot o n v : Nat) : Mem := m.writeBytes (slotAt slot o) (leBytes n v)

/-- HCHECK as the header's first 60 bytes give it (R228). -/
def lemCrc (m : Mem) (slot : Nat) : Nat := (crc32 (m.readBytes (slotAt slot 0) 60)).toNat

/-- Recompute HCHECK. -/
def lemSeal (m : Mem) (slot : Nat) : Mem := lemSet m slot 0x3C 4 (lemCrc m slot)

/-- FLAGS of a lemma. -/
def lemFlag (m : Mem) (slot i : Nat) : Bool := (lemN m slot 8 2).testBit i

/-- Write one bit of FLAGS and recompute HCHECK (R225). -/
def lemFlagSet (m : Mem) (slot i : Nat) (v : Bool) : Mem :=
  lemSeal (lemSet m slot 8 2 (putBit (BitVec.ofNat 16 (lemN m slot 8 2)) i v).toNat) slot

/-- A slot zeroed. -/
def lemZero (m : Mem) (slot : Nat) : Mem :=
  m.filter (fun c => decide (c.1 < slotAt slot 0) || decide (slotAt (slot + 1) 0 ≤ c.1))

/-- A phase key (R221). -/
def phaseKey (job phase group : Nat) : Nat :=
  (job % 2 ^ 24) * 2 ^ 40 + (phase % 2 ^ 24) * 2 ^ 16 + group % 2 ^ 16

/-- A key for which no lemma is allocated (R222). -/
def keyReserved (k : Nat) : Bool := k / 2 ^ 40 == 0xFFFFFF || k % 65536 == 0xFFFF || k % 65536 == 0

/-- A prior's key (R235). -/
def keyPrior (k : Nat) : Bool := k / 2 ^ 40 == 0xFFFFFF && k % 65536 == 0xFFFF

/-- The key of the prior of class `phase`. -/
def priorKey (phase : Nat) : Nat := phaseKey 0xFFFFFF phase 0xFFFF

/-! ### Learning (R230 to R234) -/

/-- The new mean and standard deviation of a sample after value `x`, the `n`-th observation to count (R231). -/
def blend (n m sd : Nat) (x : Rat) : Rat × Rat :=
  let w := r32 (1 / (n : Rat))
  let v := r32 ((sd * sd : Nat) : Rat)
  let d := r32 (x - m)
  let v' := r32 (r32 (1 - w) * r32 (v + r32 (w * r32 (d * d))))
  (r32 (m + r32 (w * d)), sqrtFine v')

/-- A quantity rounded to the nearest unit within `b` bits. -/
def unit (b : Nat) (x : Rat) : Nat := sat (2 ^ b - 1) (roundEven x).toNat

/-- A tier (R227): its offset, its samples, its interval in µs, and whether it is counted back from the end. -/
structure Tier where
  off : Nat
  n : Nat
  per : Nat
  fromEnd : Bool

/-- The five tiers (R227). -/
def tiers : List Tier :=
  [⟨0x100, 960, 16000, false⟩, ⟨0x1000, 1024, 250, false⟩, ⟨0x2000, 2048, 1, false⟩, ⟨0x4000, 2048, 1, true⟩,
   ⟨0x6000, 1024, 1000000, false⟩]

/-- What an observation from `a` to `b` µs records for sample `i` of a tier (R231): none unless it spans half of the
interval and the series has a value in the part it spans. -/
def Tier.value (t : Tier) (a b : Nat) (series : List (Nat × Nat)) (i : Nat) : Option Rat :=
  let lo := if t.fromEnd then b + i * t.per - t.n * t.per else a + i * t.per
  if t.fromEnd ∧ b + i * t.per < t.n * t.per + a then none else
  let hi := min b (lo + t.per)
  if 2 * (hi - lo) < t.per then none else
  let xs := series.filter (fun p => decide (lo ≤ p.1) && decide (p.1 < hi))
  if xs.isEmpty then none else some (meanRat (xs.map (fun p => ((p.2 : Nat) : Rat))))

/-- Mean and standard deviation of a tier sample (R230). -/
def tierSample (m : Mem) (slot : Nat) (t : Tier) (i : Nat) : Nat × Nat :=
  let w := lemN m slot (t.off + 4 * i) 4
  (w % 65536, w / 65536)

/-- No sample of a lemma has been written: its tiers are as allocation left them (R238). -/
def tiersBlank (m : Mem) (slot : Nat) : Bool :=
  m.all (fun c => decide (c.1 < slotAt slot 0x100) || decide (slotAt slot 0x7000 ≤ c.1))

/-- Mark every sample of a lemma as covered by no observation (R230). -/
def tiersMark (m : Mem) (slot : Nat) : Mem :=
  tiers.foldl (fun m t => (List.range t.n).foldl (fun m i => lemSet m slot (t.off + 4 * i) 4 0xFFFF0000) m) m

/-- One tier through an observation, the `n`-th to count. -/
def tierLearn (m : Mem) (slot n a b : Nat) (series : List (Nat × Nat)) (t : Tier) : Mem :=
  (List.range t.n).foldl (fun m i =>
    match t.value a b series i with
    | none => m
    | some x =>
      let (mean, sd) := tierSample m slot t i
      let (mean', sd') := if sd = 0xFFFF then (x, 0) else blend n mean sd x
      lemSet m slot (t.off + 4 * i) 4 (unit 16 mean' + 65536 * min 0xFFFE (unit 16 sd'))) m

/-- The fine tier lies outside its envelope often enough for a misfit (R232), `sigma` in 0.1. -/
def misfit (m : Mem) (slot sigma pct a b : Nat) (series : List (Nat × Nat)) : Bool :=
  let t : Tier := ⟨0x1000, 1024, 250, false⟩
  let xs := (List.range t.n).filterMap (fun i => (t.value a b series i).map (fun x => (i, x)))
  let out := xs.filter (fun p =>
    let (mean, sd) := tierSample m slot t p.1
    decide ((sigma * sd : Nat) < 10 * |p.2 - (mean : Rat)|))
  decide (8 ≤ lemN m slot 0x0A 2) && decide (pct * xs.length < 100 * out.length)

/-- A kept observation from `a` to `b`, ring time in ns, updates its lemma but for its successors (R231, R232, R234). -/
def lemLearn (m : Mem) (learnN confN sigma pct slot a b : Nat) (series : List (Nat × Nat)) : Mem :=
  let au := a / 1000
  let bu := b / 1000
  let dur := bu - au
  let bad := misfit m slot sigma pct au bu series
  let count := lemN m slot 0x0A 2
  let count' := if bad then count / 2 else sat 65535 (count + 1)
  let obs := (lemN m slot 0x0C 4 + 1) % 2 ^ 32
  let n := max 1 (min obs learnN)
  let (dm, dsd) := blend n (lemN m slot 0x20 4) (lemN m slot 0x24 4) dur
  let first := obs == 1
  let flags := BitVec.ofNat 16 (lemN m slot 8 2)
  let flags := putBit (putBit flags 5 bad) 2 (!flags.getLsbD 1 && decide (confN ≤ count'))
  let m := lemSet m slot 0x08 2 flags.toNat
  let m := lemSet m slot 0x0A 2 count'
  let m := lemSet m slot 0x0C 4 obs
  let m := lemSet m slot 0x18 8 b
  let m := lemSet m slot 0x20 4 (unit 32 dm)
  let m := lemSet m slot 0x24 4 (if first then 0 else unit 32 dsd)
  let m := lemSet m slot 0x28 4 (if first then dur else min dur (lemN m slot 0x28 4))
  let m := lemSet m slot 0x2C 4 (if first then dur else max dur (lemN m slot 0x2C 4))
  let m := if series.isEmpty then m else
    let xs := series.map (fun p => p.2)
    let m := lemSet m slot 0x34 2 (unit 16 (meanRat (xs.map (fun (x : Nat) => (x : Rat)))))
    let m := lemSet m slot 0x36 2 (sat 65535 (xs.foldl max 0))
    let m := if tiersBlank m slot then tiersMark m slot else m
    tiers.foldl (fun m t => tierLearn m slot n au bu series t) m
  lemSeal m slot

/-- A successor entry (R229): key, COUNT, GAP. -/
structure Succ where
  key : Nat
  count : Nat
  gap : Int

/-- The order of successor entries (R229). -/
def succBefore (a b : Succ) : Bool := decide (b.count < a.count) || (a.count == b.count && decide (a.key ≤ b.key))

/-- Insert in order. -/
def succInsert (e : Succ) : List Succ → List Succ
  | [] => [e]
  | x :: l => if succBefore e x then e :: x :: l else x :: succInsert e l

/-- The successor entries in use. -/
def succRead (m : Mem) (slot : Nat) : List Succ :=
  ((List.range 8).map (fun i =>
    let o := 0x40 + 16 * i
    (⟨lemN m slot o 8, lemN m slot (o + 8) 2, signed 32 (lemN m slot (o + 12) 4)⟩ : Succ))).filter (fun e => e.key != 0)

/-- PROB of a count (R233). -/
def succProb (count total : Nat) : Nat :=
  if total = 0 then 0 else sat 65535 (roundEven ((65536 * count : Nat) / (total : Rat))).toNat

/-- The successor `key` of a lemma, `gap` µs after its end (R233). -/
def lemSuccessor (m : Mem) (learnN slot key : Nat) (gap : Int) : Mem :=
  let l := succRead m slot
  let total := lemN m slot 0x30 4
  let l' : List Succ := match l.find? (fun e => e.key == key) with
    | some e =>
      let c := e.count + 1
      let w := r32 (1 / ((max 1 (min c learnN) : Nat) : Rat))
      let g := roundEven (r32 ((e.gap : Rat) + r32 (w * r32 ((gap : Rat) - e.gap))))
      ⟨key, c, g⟩ :: l.filter (fun e => e.key != key)
    | none => ⟨key, 1, gap⟩ :: (if l.length < 8 then l else l.take 7)
  let past := l'.any (fun e => decide (65535 < e.count))
  let l' := if past then l'.map (fun e => { e with count := e.count / 2 }) else l'
  let total := if past then sumNat (l'.map Succ.count) else (total + 1) % 2 ^ 32
  let sorted := l'.foldr succInsert []
  let m := lemSet m slot 0x30 4 total
  let m := (List.range 8).foldl (fun m i =>
    let o := 0x40 + 16 * i
    match sorted[i]? with
    | none => m.writeBytes (slotAt slot o) (List.replicate 16 0)
    | some e => m.writeBytes (slotAt slot o)
        (leBytes 8 e.key ++ leBytes 2 e.count ++ leBytes 2 (succProb e.count total) ++ leBytes 4 (wrapInt 32 e.gap))) m
  lemSeal m slot

/-- The successor bytes of a lemma and SUCC_TOTAL, to be put back when a successor proves to be discarded (R224). -/
def succSave (m : Mem) (slot : Nat) : List Byte :=
  m.readBytes (slotAt slot 0x40) 128 ++ m.readBytes (slotAt slot 0x30) 4

/-- Put them back. -/
def succRestore (m : Mem) (slot : Nat) (b : List Byte) : Mem :=
  lemSeal ((m.writeBytes (slotAt slot 0x40) (b.take 128)).writeBytes (slotAt slot 0x30) (b.drop 128)) slot

/-! ### The engine on the state -/

/-- The sward periphery's copy of ring time (R66). -/
def State.swardRing (s : State) : Nat := s.rings.sward.now s.now

/-- The slot of a key's lemma. -/
def Lex.slotOf (l : Lex) (key : Nat) : Option Nat := (l.index.find? (fun p => p.2 == key)).map Prod.fst

/-- Free a slot: its lemma is valid no longer. -/
def State.lemFree (s : State) (slot : Nat) : State :=
  { s with swm := lemZero s.swm slot
           lex := { s.lex with index := s.lex.index.filter (fun p => p.1 != slot)
                               lines := s.lex.lines.filter (fun p => p.2 != slot) } }

/-- The check of a lemma after a return (R248): freed and counted when HCHECK fails. -/
def State.lemCheck (s : State) (slot : Nat) : State :=
  if lemN s.swm slot 0x3C 4 = lemCrc s.swm slot then s else
  let s := s.lemFree slot
  { s with lex := { s.lex with dropped := s.lex.dropped + 1 } }

/-- The slot of a key, checked first while a check runs (R248). -/
def State.lemFind (s : State) (key : Nat) : Option Nat × State :=
  match s.lex.slotOf key with
  | none => (none, s)
  | some slot =>
    if !s.lex.checking then (some slot, s) else
    let s := s.lemCheck slot
    (s.lex.slotOf key, s)

/-- Tussock (r, c) is FAILED. -/
def Swd.failed (d : Swd) (r c : Nat) : Bool := (d.tus.getD (32 * r + c) Tus.reset).st == TState.failed

/-- A cache line may be used (R240, R245): its tussock is not FAILED, and it is reached from above or from below. -/
def Swd.lineUsable (d : Swd) (line : Nat) : Bool :=
  let r := line / 512
  let c := line / 16 % 32
  !d.failed r c && ((List.range r).all (fun i => !d.failed i c)
    || (List.range (19 - r)).all (fun i => !d.failed (r + 1 + i) c))

/-- Usable lines (LEX_STATUS.LINES). -/
def State.usableLines (s : State) : List Nat := (List.range 8192).filter s.swd.lineUsable

/-- A slot whose line is held (R241). -/
def State.lemHeld (s : State) (slot : Nat) : Bool :=
  decide (slot < 256) || lemFlag s.swm slot 3 || lemFlag s.swm slot 4

/-- A core is brought into the cache, or becomes most recently used there (R241, R243). -/
def State.bring (s : State) (slot : Nat) : State :=
  let ls := s.lex.lines
  match ls.find? (fun p => p.2 == slot) with
  | some p => { s with lex := { s.lex with lines := p :: ls.filter (fun q => q.2 != slot) } }
  | none =>
    match s.usableLines.find? (fun l => !(ls.any (fun p => p.1 == l))) with
    | some l => { s with lex := { s.lex with lines := (l, slot) :: ls } }
    | none =>
      match ls.reverse.find? (fun p => !s.lemHeld p.2) with
      | none => s
      | some p => { s with lex := { s.lex with lines := (p.1, slot) :: ls.filter (fun q => q.1 != p.1) } }

/-- Lines that are no longer usable are left; held cores that stood in them are fetched again (R245). -/
def State.recache (s : State) : State :=
  let bad := s.lex.lines.filter (fun p => !s.swd.lineUsable p.1)
  let s := { s with lex := { s.lex with lines := s.lex.lines.filter (fun p => s.swd.lineUsable p.1) } }
  (bad.filter (fun p => s.lemHeld p.2)).foldl (fun s p => s.bring p.2) s

/-- A lookup's count: the core was in the cache or not (R244, R256). -/
def State.lookupCount (s : State) (slot : Nat) : State :=
  if s.lex.lines.any (fun p => p.2 == slot) then { s with lex := { s.lex with hit := s.lex.hit + 1 } }
  else { s with lex := { s.lex with miss := s.lex.miss + 1 } }

/-- Prefetch a key's core and, to a depth, those of its likely successors (R243). -/
def State.prefetch : Nat → State → Nat → State
  | 0, s, key =>
    match s.lex.slotOf key with
    | none => s
    | some slot => s.bring slot
  | d + 1, s, key =>
    match s.lex.slotOf key with
    | none => s
    | some slot =>
      let s := s.bring slot
      let total := lemN s.swm slot 0x30 4
      let next := (succRead s.swm slot).filter
        (fun e => decide (65536 * s.fldN .lexiconPrefetchP ≤ 100 * succProb e.count total))
      next.foldl (fun s e => State.prefetch d s e.key) s

/-- The lowest free slot from 256 (R238). -/
def Lex.freeSlot (l : Lex) : Option Nat :=
  ((List.range (l.index.length + 1)).map (· + 256)).find?
    (fun n => decide (n < lexSlots) && !(l.index.any (fun p => p.1 == n)))

/-- The age bin of a lemma, 0 the youngest to 63 (R239); `protect` in 8 h. -/
def ageBin (ring seen protect : Nat) : Nat := min 63 ((ring - seen) / (protect * 3600 * sec))

/-- The slot to evict (R239). -/
def State.victim (s : State) : Option Nat :=
  let ring := s.swardRing
  let p := s.fldN .lexiconProtect
  let seen := fun slot => lemN s.swm slot 0x18 8
  let ok := (s.lex.index.map Prod.fst).filter (fun slot =>
    decide (256 ≤ slot) && !lemFlag s.swm slot 3 && !lemFlag s.swm slot 4
    && decide (seen slot + p * 8 * 3600 * sec < ring))
  let top := (ok.map (fun slot => ageBin ring (seen slot) p)).foldl max 0
  (ok.filter (fun slot => ageBin ring (seen slot) p == top)).foldl
    (fun (m : Option Nat) slot => match m with | none => some slot | some x => some (min x slot)) none

/-- A key is refused (R239): counted, the first of each hour of operating time reported. -/
def State.lemRefuse (s : State) : State :=
  let hour := s.opMs / 3600000
  let (h, n) := s.lex.refusedHour
  let n := if h = hour then n + 1 else 1
  let s := { s with lex := { s.lex with refused := s.lex.refused + 1, refusedHour := (hour, n) } }
  if n = 1 then s.report 0xE01 0x40 n else s

/-- A lemma for a key (R238): its bytes all 0 but KEY, FLAGS, FIRST_SEEN and HCHECK. -/
def State.lemPlace (s : State) (slot key start : Nat) : State :=
  let m := lemZero s.swm slot
  let m := lemSet m slot 0 8 key
  let m := lemSet m slot 8 2 0x11
  let m := lemSeal (lemSet m slot 0x10 8 start) slot
  { s with swm := m, lex := { s.lex with index := s.lex.index ++ [(slot, key)] } }

/-- Allocate a lemma (R238, R239). -/
def State.lemAlloc (s : State) (key start : Nat) : State :=
  match s.lex.freeSlot with
  | some slot => s.lemPlace slot key start
  | none =>
    match s.victim with
    | none => s.lemRefuse
    | some slot =>
      let s := s.lemFree slot
      ({ s with lex := { s.lex with evicted := s.lex.evicted + 1 } }).lemPlace slot key start

/-- A key starts running on a pair (R225, R238, R243). -/
def State.keyStart (s : State) (key start : Nat) : State :=
  if keyReserved key then s else
  let (f, s) := s.lemFind key
  let s := match f with
    | none => s.lemAlloc key start
    | some slot => { s with swm := lemFlagSet s.swm slot 4 true }
  s.prefetch (s.fldN .lexiconPrefetchDepth) key

/-- The observation of a pair ends at `b`, with the start of the key that follows, if one does (R224, R225, R231, R233).
What the pair keeps of it is returned. -/
def State.obsEnd (s : State) (p : LPair) (b : Nat) (next : Option (Nat × Nat)) : Option (Nat × Nat × List Byte) × State :=
  let key := phaseKey p.job p.phase p.group
  let (f, s) := s.lemFind key
  let s := match f with
    | none => s
    | some slot => { s with swm := lemFlagSet s.swm slot 4 false }
  let kept := decide (s.fldN .lexiconMinObs * 100000 ≤ b - p.start)
  let learnN := s.fldN .lexiconLearnN
  let followed := fun (s : State) (q : Option (Nat × Nat × List Byte)) =>
    match q, next with
    | some (k, e, _), some (nk, ns) =>
      match s.lex.slotOf k with
      | none => s
      | some slot => { s with swm := lemSuccessor s.swm learnN slot nk (((ns : Int) - e) / 1000) }
    | _, _ => s
  if kept then
    match f with
    | none => (none, s)
    | some slot =>
      let m := lemLearn s.swm learnN (s.fldN .lexiconConfidentN) (s.fldN .lexiconSigma) (s.fldN .lexiconMisfitPct)
        slot p.start b p.series
      let s := ({ s with swm := m }).bring slot
      let q := some (key, b, succSave s.swm slot)
      (q, followed s q)
  else
    let s := match p.prev with
      | none => s
      | some (k, _, bytes) =>
        match s.lex.slotOf k with
        | none => s
        | some slot => { s with swm := succRestore s.swm slot bytes }
    (p.prev, followed s p.prev)

/-- The phase that the partners of a pair report (R223). -/
def LPair.leading (p : LPair) : Nat :=
  let n := fun ph => (p.reps.filter (fun r => r.phase == ph)).length
  let best := (p.reps.map (fun r => n r.phase)).foldl max 0
  let l := (p.reps.map PhaseRep.phase).filter (fun ph => n ph == best)
  l.foldl min (l.headD 0)

/-- The median of a list of numbers: the mean of the middle two of an even number (R223, R375). -/
def median (l : List Nat) : Nat :=
  let ins := fun (x : Nat) (l : List Nat) => (l.filter (fun y => decide (y ≤ x))) ++ [x] ++ l.filter (fun y => decide (x < y))
  let l := l.foldl (fun acc x => ins x acc) []
  let n := l.length
  if n = 0 then 0
  else if n % 2 = 1 then l.getD (n / 2) 0
  else (l.getD (n / 2 - 1) 0 + l.getD (n / 2) 0) / 2

/-- The start of a pair's leading phase, rounded to 1 µs (R223). -/
def LPair.startOf (p : LPair) (ph : Nat) : Nat :=
  (roundEven ((median ((p.reps.filter (fun r => r.phase == ph)).map PhaseRep.start) : Nat) / (1000 : Rat))).toNat * 1000

/-- The lexicon engine is in use: the planning domain runs with the sward powered. -/
def State.lexUp (s : State) : Bool := !s.inRst .planning && s.swd.powered && !s.swd.shed

/-- A partner of a tray group reports a phase of a job (R223). -/
def State.phaseReport (s : State) (job group : Nat) (r : PhaseRep) : State :=
  if !s.lexUp ∨ group = 0 then s else
  match s.lex.pairs.find? (fun p => p.job == job && p.group == group) with
  | none =>
    let start := (roundEven ((r.start : Rat) / 1000)).toNat * 1000
    let p : LPair := ⟨job, group, [r], r.phase, start, s.now, none, []⟩
    ({ s with lex := { s.lex with pairs := s.lex.pairs ++ [p] } }).keyStart (phaseKey job r.phase group) start
  | some p =>
    let p' := { p with reps := r :: p.reps.filter (fun x => x.partner != r.partner), lastAt := s.now }
    let ph := p'.leading
    let others := s.lex.pairs.filter (fun q => !(q.job == job && q.group == group))
    if ph = p.phase then { s with lex := { s.lex with pairs := others ++ [p'] } }
    else
      let start := p'.startOf ph
      let key := phaseKey job ph group
      let (prev, s) := s.obsEnd p' start (some (key, start))
      let p' := { p' with phase := ph, start := start, prev := prev, series := p'.series.filter (fun x => decide (start / 1000 ≤ x.1)) }
      ({ s with lex := { s.lex with pairs := others ++ [p'] } }).keyStart key start

/-- A partner no longer reports the jobs but `job`: its reports of other pairs go (R223, R358). -/
def State.phaseForget (s : State) (partner : Nat) (job : Option Nat) : State :=
  { s with lex := { s.lex with pairs := s.lex.pairs.map (fun p =>
      if some p.job = job then p else { p with reps := p.reps.filter (fun r => r.partner != partner) }) } }

/-- A pair ends with no successor (R223, R224). -/
def State.pairEnd (s : State) (p : LPair) : State :=
  let (_, s) := s.obsEnd p s.swardRing none
  { s with lex := { s.lex with pairs := s.lex.pairs.filter (fun q => !(q.job == p.job && q.group == p.group)) } }

/-! ### Queries (R237, R246) -/

/-- Lemmas pinned by PIN. -/
def State.pins (s : State) : Nat :=
  (s.lex.index.filter (fun p => decide (256 ≤ p.1) && lemFlag s.swm p.1 3)).length

/-- Another held core would leave fewer than 256 usable lines free (R245). -/
def State.pinBlocked (s : State) (slot : Nat) : Bool :=
  let held := (s.lex.index.filter (fun p => s.lemHeld p.1)).length + b2n (!s.lemHeld slot)
  decide (s.usableLines.length < held + 256)

/-- A query operation (R246): result code, slot, the 64 bytes. OP as LEX_CMD codes it; `off` in units of 64 B. -/
def State.query (s : State) (op key off : Nat) : (Nat × Nat × List Byte) × State :=
  let bytes := fun (s : State) slot o => s.swm.readBytes (slotAt slot o) 64
  let none64 : List Byte := List.replicate 64 0
  if !s.lex.ready then ((6, 0, none64), s) else
  let (f, s) := s.lemFind key
  match op with
  | 1 =>
    match f with
    | none => ((1, 0, none64), s)
    | some slot =>
      let s := (s.lookupCount slot).bring slot
      ((0, slot, bytes s slot 0), s)
  | 2 =>
    let prior := match s.lex.slotOf (priorKey (key / 65536 % 2 ^ 24)) with
      | some x => some x
      | none => s.lex.slotOf (priorKey 0)
    let confident := match f with | none => false | some slot => lemFlag s.swm slot 2
    let pick : Option (Nat × Nat) :=
      match f, prior with
      | some slot, some p => if confident then some (0, slot) else some (4, p)
      | some slot, none => if confident then some (0, slot) else some (5, slot)
      | none, some p => some (4, p)
      | none, none => none
    match pick with
    | none => ((1, 0, none64), s)
    | some (r, slot) =>
      let s := (s.lookupCount slot).bring slot
      ((r, slot, bytes s slot 0), s)
  | 3 =>
    if keyPrior key then ((3, f.getD 0, none64), s) else
    match f with
    | none => ((1, 0, none64), s)
    | some slot =>
      if lemFlag s.swm slot 3 then ((0, slot, bytes s slot 0), s)
      else if s.fldN .lexiconPinMax ≤ s.pins ∨ s.pinBlocked slot then ((2, slot, none64), s)
      else
        let s := ({ s with swm := lemFlagSet s.swm slot 3 true }).bring slot
        ((0, slot, bytes s slot 0), s)
  | 4 =>
    if keyPrior key then ((3, f.getD 0, none64), s) else
    match f with
    | none => ((1, 0, none64), s)
    | some slot =>
      let s := if lemFlag s.swm slot 3 then { s with swm := lemFlagSet s.swm slot 3 false } else s
      ((0, slot, bytes s slot 0), s)
  | _ =>
    match f with
    | none => ((1, 0, none64), s)
    | some slot =>
      let s := if off < 64 then (s.lookupCount slot).bring slot else s
      ((0, slot, bytes s slot (64 * off)), s)

/-! ### Starts (R236, R248) -/

/-- The engine starts with the planning domain (R236, R248): after a return it checks, and no lemma is running. -/
def State.lexStart (s : State) : State :=
  let l := s.lex
  if !l.returning then { s with lex := { l with priorsLoaded := false, ready := false, returning := true } } else
  let m := l.index.foldl (fun m p => if lemFlag m p.1 4 then lemFlagSet m p.1 4 false else m) s.swm
  { s with swm := m, lex := { l.kept with checking := true, returning := true } }

/-- The planning domain starts (R236, R315, R527): M4 is cleared, the priors and a program load are owed. -/
def State.planStart (s : State) : State :=
  { s with ids := { s.ids with meas := upd s.ids.meas 4 (fun _ => List.replicate 48 0) }
           lex := { s.lex with priorsLoaded := false }
           swd := { s.swd with loadOwed := true, goOwed := false, running := false } }

/-- The lexicon's registers (R256). -/
def State.readLex (s : State) (o : Nat) : Option Word :=
  let l := s.lex
  let count := fun (p : Nat × Nat → Bool) => (l.index.filter p).length
  match o with
  | 0x00 => some (pack [(8, 14, s.usableLines.length), (4, 1, b2n (s.lexUp && s.vot.formed)),
      (3, 1, b2n (l.freeSlot.isNone)), (2, 1, b2n l.checking), (1, 1, b2n l.priorsLoaded), (0, 1, b2n l.ready)])
  | 0x04 => some (pack [(0, 21, l.index.length)])
  | 0x08 => some (pack [(0, 21, count (fun p => lemFlag s.swm p.1 2))])
  | 0x0C => some (pack [(16, 9, count (fun p => decide (p.1 < 256))), (0, 12, s.pins)])
  | 0x10 => some l.hit
  | 0x14 => some l.miss
  | 0x18 => some l.evicted
  | 0x1C => some l.refused
  | 0x20 => some l.dropped
  | 0x40 => some (l.key.setWidth 32)
  | 0x44 => some (lookupD s.latches (0x02000000 + 0x44) 0)
  | 0x48 => some 0
  | 0x4C => some (pack [(31, 1, b2n l.op.isSome), (27, 4, l.result), (0, 21, l.slot)])
  | 0x100 => some (BitVec.ofNat 32 l.histOld)
  | 0x104 => some (lookupD s.latches (0x02000000 + 0x104) 0)
  | 0x108 => some (BitVec.ofNat 32 l.histNew)
  | 0x10C => some (lookupD s.latches (0x02000000 + 0x10C) 0)
  | o => if 0x80 ≤ o ∧ o < 0xC0 ∧ o % 4 = 0 then l.words[(o - 0x80) / 4]? else none

/-- A write of LEX_CMD (R246, R256): starts an operation; out of range with another OP or while one runs. -/
def State.lexCmd (s : State) (op off : Nat) : State :=
  if op = 0 ∨ 5 < op ∨ s.lex.op.isSome then s.report 0x200 0x02 0x02000048
  else { s with lex := { s.lex with op := some (op, off) } }

/-- Writes to the lexicon's registers. -/
def State.writeLex (s : State) (o : Nat) (v : Word) : State :=
  match o with
  | 0x40 => { s with lex := { s.lex with key := (s.lex.key &&& 0xFFFFFFFF00000000#64) ||| v.setWidth 64 } }
  | 0x44 => { s with lex := { s.lex with key := (s.lex.key &&& 0xFFFFFFFF#64) ||| (v.setWidth 64 <<< 32) }
                     latches := insertKey s.latches 0x02000044 v }
  | 0x48 => s.lexCmd (field v 31 28) (field v 9 0)
  | _ => s

end Sys2Proof.Machine
end

