-- ==== Sys2Proof/Machine/Flags.lean ====
section
/-! DEFINITION. The arithmetic of the vector unit on values and on int32 (R261, R276, R278), and the sticky events each
operation sets in SWD_T_ARITH (R274, R276, R277). -/
namespace Sys2Proof.Machine

/-- The sum of two values (R276). -/
def addV (a b : FVal) : FVal × Events :=
  match a, b with
  | .nan, _ => (.nan, Events.none)
  | _, .nan => (.nan, Events.none)
  | .inf x, .inf y => if x = y then (.inf x, Events.none) else (.nan, Events.inv)
  | .inf x, _ => (.inf x, Events.none)
  | _, .inf y => (.inf y, Events.none)
  | .fin x _, .fin y _ => (FVal.ofRat (a.real + b.real) (x && y), Events.none)

/-- The value with its sign changed. -/
def negV : FVal → FVal
  | .nan => .nan | .inf n => .inf (!n) | .fin n m => .fin (!n) m

/-- The product of two values (R276). -/
def mulV (a b : FVal) : FVal × Events :=
  match a, b with
  | .nan, _ => (.nan, Events.none)
  | _, .nan => (.nan, Events.none)
  | .inf x, .inf y => (.inf (x ^^ y), Events.none)
  | .inf x, .fin y m => if m = 0 then (.nan, Events.inv) else (.inf (x ^^ y), Events.none)
  | .fin x m, .inf y => if m = 0 then (.nan, Events.inv) else (.inf (x ^^ y), Events.none)
  | .fin x m, .fin y n => (.fin (x ^^ y) (m * n), Events.none)

/-- The fused multiply-add `a * b + c` (R276). -/
def fmaV (a b c : FVal) : FVal × Events :=
  let (p, e) := mulV a b
  let (r, f) := if c = .nan then (.nan, Events.none) else addV p c
  (r, e.or f)

/-- The quotient (R276). -/
def divV (a b : FVal) : FVal × Events :=
  match a, b with
  | .nan, _ => (.nan, Events.none)
  | _, .nan => (.nan, Events.none)
  | .inf _, .inf _ => (.nan, Events.inv)
  | .inf x, .fin y _ => (.inf (x ^^ y), Events.none)
  | .fin x _, .inf y => (.fin (x ^^ y) 0, Events.none)
  | .fin x m, .fin y n =>
    if n = 0 then (if m = 0 then (.nan, Events.inv) else (.inf (x ^^ y), Events.none))
    else (.fin (x ^^ y) (m / n), Events.none)

/-- The square root (R276). -/
def sqrtV : FVal → FVal × Events
  | .nan => (.nan, Events.none)
  | .inf false => (.inf false, Events.none)
  | .inf true => (.nan, Events.inv)
  | .fin n m => if m = 0 then (.fin n 0, Events.none) else if n then (.nan, Events.inv) else (.fin false (sqrtFine m), Events.none)

/-- `a` is below `b`, neither being NaN. -/
def ltV (a b : FVal) : Bool :=
  match a, b with
  | .inf x, .inf y => x && !y
  | .inf x, _ => x
  | _, .inf y => !y
  | _, _ => decide (a.real < b.real)

/-- The greater or the lesser of two values; of two zeros of different sign, `tie` (R260, R261). -/
def maxV (least : Bool) (tie : FVal) (a b : FVal) : FVal × Events :=
  if a = .nan ∨ b = .nan then (.nan, Events.none)
  else if ltV a b then ((if least then a else b), Events.none)
  else if ltV b a then ((if least then b else a), Events.none)
  else if a = b then (a, Events.none) else (tie, Events.none)

/-- The operations of the vector unit on elements. -/
inductive VOp where | add | sub | mul | fma | div | sqrt | max_ | min_ | shl | shr | sar
  deriving DecidableEq, Repr

/-- An operation on floating-point values; none where the vector unit has it on int32 alone. -/
def VOp.onVal (op : VOp) (tie : FVal) (a b c : FVal) : Option (FVal × Events) :=
  match op with
  | .add => some (addV a b)
  | .sub => some (addV a (negV b))
  | .mul => some (mulV a b)
  | .fma => some (fmaV a b c)
  | .div => some (divV a b)
  | .sqrt => some (sqrtV a)
  | .max_ => some (maxV false tie a b)
  | .min_ => some (maxV true tie a b)
  | _ => none

/-- The word of an exact integer under SAT (R268, R276), and the overflow it sets. -/
def intOut (sat_ : Bool) (z : Int) : Nat × Events :=
  let (w, o) := fitInt 32 sat_ z
  (w, if o then Events.ov else Events.none)

/-- An operation on int32 (R276); none where the unit has none. A shift by 32 or more has no stated result: `open_`. -/
def VOp.onInt (op : VOp) (sat_ : Bool) (r : Round) (open_ : Nat) (a b c : Nat) : Option (Nat × Events) :=
  let x := signed 32 a
  let y := signed 32 b
  let z := signed 32 c
  match op with
  | .add => some (intOut sat_ (x + y))
  | .sub => some (intOut sat_ (x - y))
  | .mul => some (intOut sat_ (x * y))
  | .fma =>
    let (p, e) := intOut sat_ (x * y)
    let (q, f) := intOut sat_ (signed 32 p + z)
    some (q, e.or f)
  | .div =>
    if y = 0 then some (0x80000000, Events.inv)
    else
      let k : Int := r.int |(x : Rat) / y|
      some (intOut sat_ (if decide (x < 0) ^^ decide (y < 0) then -k else k))
  | .sqrt => none
  | .max_ => some (if x < y then b else a, Events.none)
  | .min_ => some (if x < y then a else b, Events.none)
  | .shl => some (if 32 ≤ b then (open_, Events.none) else intOut sat_ (x * 2 ^ b))
  | .shr => some (if 32 ≤ b then open_ else a / 2 ^ b, Events.none)
  | .sar => some (if 32 ≤ b then open_ else wrapInt 32 (x / 2 ^ b), Events.none)

/-- The approximations of R278, in the order of their codes from RECIP. -/
inductive AOp where | recip | rsqrt | exp2 | exp | log2 | tanh | sigmoid | sin | cos
  deriving DecidableEq, Repr

/-- The number under which Config.approx gives it. -/
def AOp.num : AOp → Nat
  | .recip => 0 | .rsqrt => 1 | .exp2 => 2 | .exp => 3 | .log2 => 4 | .tanh => 5 | .sigmoid => 6 | .sin => 7 | .cos => 8

/-- An approximated result that the specification bounds and does not fix: some fp32 (log entry 6). -/
def AOp.free (op : AOp) (code : Nat) : FVal := decodeFloat .fp32 (Config.approx op.num (BitVec.ofNat 32 code)).toNat

/-- One of the fp32 values within 1 ulp of a positive number (R278). -/
def ulpChoice (pick : Nat) (q : Rat) : Nat :=
  let lo := (Round.sr 65535).mag 23 (-126) q
  let ulp := pow2 (max (log2Rat q) (-126) - 23)
  let ok := [lo - 1, lo, lo + 1].filter (fun c => decide (|(decodeFloat .fp32 c).real - q| ≤ ulp) || decide (0x7F7FFFFF < c))
  ok.getD (pick % ok.length) lo

/-- A value within 1 ulp of `q` or, beyond the largest finite fp32, an infinity. -/
def AOp.near (op : AOp) (code : Nat) (neg : Bool) (q : Rat) : FVal × Events :=
  let c := ulpChoice (Config.approx op.num (BitVec.ofNat 32 code)).toNat q
  if 0x7F7FFFFF < c then (.inf neg, Events.ov) else (.fin neg (decodeFloat .fp32 c).real, Events.none)

/-- An approximation at an fp32 value (R278): the stated result outside its domain, a bounded one within. -/
def AOp.eval (op : AOp) (code : Nat) : FVal × Events :=
  let x := decodeFloat .fp32 code
  let r := x.real
  let fr := (op.free code, Events.none)
  match op, x with
  | _, .nan => (.nan, Events.none)
  | .recip, .inf n => (.fin n 0, Events.none)
  | .recip, .fin n m => if m = 0 then (.inf n, Events.none) else op.near code n (1 / m)
  | .rsqrt, .inf false => (.fin false 0, Events.none)
  | .rsqrt, .inf true => (.nan, Events.inv)
  | .rsqrt, .fin n m =>
    if m = 0 then (if n then fr else (.inf false, Events.none))
    else if n then (.nan, Events.inv) else op.near code false (1 / sqrtFine m)
  | .exp2, .inf n => (if n then .fin false 0 else .inf false, Events.none)
  | .exp2, .fin _ _ => if r < -150 then (.fin false 0, Events.none) else if 128 < r then (.inf false, Events.none) else fr
  | .exp, .inf n => (if n then .fin false 0 else .inf false, Events.none)
  | .exp, .fin _ _ => if r < -104 then (.fin false 0, Events.none) else if 89 < r then (.inf false, Events.none) else fr
  | .log2, .inf n => if n then (.nan, Events.inv) else (.inf false, Events.none)
  | .log2, .fin n m => if m = 0 then (.inf true, Events.none) else if n then (.nan, Events.inv) else fr
  | .tanh, .inf n => (.fin n 1, Events.none)
  | .tanh, .fin _ _ => fr
  | .sigmoid, .inf n => (.fin false (if n then 0 else 1), Events.none)
  | .sigmoid, .fin _ _ => fr
  | .sin, .inf _ => (.nan, Events.inv)
  | .cos, .inf _ => (.nan, Events.inv)
  | .sin, .fin _ m => if 4096 < m then (.nan, Events.inv) else fr
  | .cos, .fin _ m => if 4096 < m then (.nan, Events.inv) else fr

end Sys2Proof.Machine
end

