-- ==== Sys2Proof/Machine/Operands.lean ====
section
/-! DEFINITION. Operand forms of a tussock's instructions (R258, R259, R262, R263, R283, R312, R313): scalar registers,
local memory through port N, packed elements and block scales, descriptors, and running an instruction. -/
namespace Sys2Proof.Machine

/-- Bytes of a tussock's SRAM (R258). -/
def sramBytes : Nat := 2 ^ 19

/-- Scalar register `i`: register 0 reads as 0 (R312). -/
def Tus.reg (k : Tus) (i : Nat) : Word := if i = 0 then 0 else k.regs.getD i 0

/-- Write a scalar register: a write of register 0 has no effect (R312). -/
def Tus.setReg (k : Tus) (i : Nat) (v : Word) : Tus := if i = 0 then k else { k with regs := k.regs.set i v }

/-- On to the next instruction. -/
def Tus.next (k : Tus) : Tus := { k with pc := k.pc + 1 }

/-- Set sticky bits of SWD_T_ARITH (R277). -/
def Tus.events (k : Tus) (e : Events) : Tus := { k with arith := k.arith.or e }

/-- A tussock halts with a cause (R266, R279, R283). -/
def Tus.halt (k : Tus) (cause : Nat) : Tus := { k with st := .halted, cause := cause }

/-- What an instruction sees beside its tussock: its operands, the row, the free values it may take, the instant. -/
structure Ctx where
  ins : TIns
  row : Nat
  free : Nat
  now : Time

/-- What an instruction does: the tussock after it, reports as kind and DETAIL, flits it sends. -/
structure TOut where
  tus : Tus
  reports : List (Nat × Nat)
  sends : List Flit

/-- An instruction that does no more than change its tussock. -/
def TOut.ok (k : Tus) : TOut := ⟨k, [], []⟩

/-- A sequencer fault: an undecodable instruction or a descriptor out of its ranges (R266, R279). -/
def seqFault (k : Tus) : TOut := ⟨k.halt 3, [(0x43, 3)], []⟩

/-- Bank 7 of rows 0 to 15 belongs to the lemma cache (R259). -/
def cacheBank (row a : Nat) : Bool := decide (row ≤ 15) && a % sramBytes / 65536 == 7

/-- A byte as port N reads it (R259, R280): 0 in the cache bank, undefined in a word that port S writes, else as held.
Addresses wrap at 512 KiB (log entry 18). -/
def Ctx.byte (x : Ctx) (k : Tus) (a : Nat) : Byte :=
  let a := a % sramBytes
  if cacheBank x.row a then 0
  else if x.ins.ev.lookup (a / 4 * 4) = some WordEv.clash then
    ((Config.freeWord x.free (a / 4)).toNat / 256 ^ (a % 4) : Nat)
  else k.sram.read a

/-- `n` bytes as port N reads them. -/
def Ctx.bytes (x : Ctx) (k : Tus) (a n : Nat) : List Byte := (List.range n).map (fun i => x.byte k (a + i))

/-- The word at an address, its bits [1:0] taken as 0 (R258, log entry 18). -/
def Ctx.word (x : Ctx) (k : Tus) (a : Nat) : Word := BitVec.ofNat 32 (ofLe (x.bytes k (a / 4 * 4) 4))

/-- Element `i` of a packed array of a format, least significant first (R262). -/
def Ctx.elem (x : Ctx) (k : Tus) (f : NFmt) (a i : Nat) : Nat :=
  let bit := i * f.bits
  ofLe (x.bytes k (a + bit / 8) ((f.bits + 7) / 8)) / 2 ^ (bit % 8) % 2 ^ f.bits

/-- Store bytes through port N: none lands in the cache bank (R259). -/
def Ctx.store (x : Ctx) (k : Tus) (a : Nat) : List Byte → Tus
  | [] => k
  | b :: bs =>
    let p := a % sramBytes
    x.store (if cacheBank x.row p then k else { k with sram := k.sram.write p b }) (a + 1) bs

/-- A word at `w` lies in one of the ranges (start, bytes). -/
def inRanges (w : Nat) (rs : List (Nat × Nat)) : Bool :=
  rs.any (fun r => r.2 != 0 && decide ((w + sramBytes - r.1 / 4 * 4 % sramBytes) % sramBytes < r.1 % 4 + r.2))

/-- A range touches the cache bank. -/
def rangeCache (row : Nat) (r : Nat × Nat) : Bool :=
  decide (row ≤ 15) && r.2 != 0 && (let a := r.1 % sramBytes
    decide (a + r.2 > 7 * 65536) && decide (a < sramBytes) || decide (sramBytes + 7 * 65536 < a + r.2))

/-- An instruction that reads the ranges `rs` and then, when no word of them has two bits in error, acts by `go` and
writes the ranges `ws` (R259, R283). -/
def Ctx.access (x : Ctx) (k : Tus) (rs ws : List (Nat × Nat)) (go : Tus → TOut) : TOut :=
  let hit := x.ins.ev.filter (fun e => inRanges e.1 rs && !cacheBank x.row e.1)
  let single := (hit.filter (fun e => e.2 == WordEv.single)).length
  let double := hit.filter (fun e => e.2 == WordEv.double)
  let own := (rs ++ ws).any (rangeCache x.row)
  let k := { k with corrected := sat 65535 (k.corrected + single) }
  let k := if own then k.events ⟨false, false, false, true⟩ else k
  let reps : List (Nat × Nat) := if own then [(0x45, 0)] else []
  match double with
  | [] =>
    let o := go k
    { o with reports := reps ++ o.reports }
  | e :: _ =>
    let k := double.foldl (fun (k : Tus) d => { k with uncorr := setBit k.uncorr (d.1 % sramBytes / 65536) }) k
    ⟨k.halt 1, reps ++ [(0x44, e.1 % sramBytes / 65536)], []⟩

/-- The second operand of a SCALAR operation: register C, or IMM with OP bit 7 set (R312). -/
def Ctx.src (x : Ctx) (k : Tus) : Word := if x.ins.useImm then x.ins.imm else k.reg x.ins.c

/-- The local address B + IMM (R312). -/
def Ctx.addr (x : Ctx) (k : Tus) : Nat := (k.reg x.ins.b + x.ins.imm).toNat

/-- An instruction with a descriptor (R312): 64-byte aligned and within the SRAM, else the tussock halts (R266). Its
sixteen words go to `go`. -/
def Ctx.descriptor (x : Ctx) (k : Tus) (go : (Nat → Word) → Tus → TOut) : TOut :=
  let d := x.addr k
  if d % 64 ≠ 0 ∨ sramBytes ≤ d then seqFault k
  else x.access k [(d, 64)] [] (fun k => go (fun i => x.word k (d + 4 * i)) k)

/-- Draw 16 bits from a lane (R273). -/
def Tus.draw (k : Tus) (lane : Nat) : Nat × Tus :=
  let (g, d) := drawGen (k.gens.getD lane 0)
  (d, { k with gens := k.gens.set lane g })

/-- The rounding of an element of a lane: RN, or SR with that lane's next draw (R272). -/
def Tus.round (k : Tus) (sr : Bool) (lane : Nat) : Round × Tus :=
  if sr then
    let (d, k) := k.draw lane
    (.sr d, k)
  else (.rn, k)

/-- The value of an integer code of a block-scaled format; a reserved t2 code reads 0 (R260, R262). -/
def blockInt (f : NFmt) (c : Nat) : Int × Events :=
  match f with
  | .t2 => if c = 2 then (0, ⟨false, false, true, false⟩) else (signed 2 c, Events.none)
  | f => (signed f.bits c, Events.none)

/-- The exact value of a block-scaled element under scale `e` (R263). -/
def scaledVal (f : NFmt) (e c : Nat) : FVal × Events :=
  let (q, ev) := blockInt f c
  if e = 255 then (.nan, ev.or Events.inv) else (FVal.ofRat ((q : Rat) * pow2 ((e : Int) - 127)), ev)

/-- The scale that R275 chooses for a block of values. -/
def chooseScale (f : NFmt) (xs : List FVal) : Nat :=
  if xs.any (fun v => match v with | .fin _ _ => false | _ => true) then 255 else
  let m := xs.foldl (fun (m : Rat) v => max m |v.real|) 0
  if m = 0 then 127 else
  let y := m / (if f = .i4 then 7 else 1)
  let k := log2Rat y
  let c := if pow2 k = y then k else k + 1
  (max 1 (min (c + 127) 254)).toNat

/-- A value as an element of a block of scale `e` (R274, R275). -/
def encodeScaled (f : NFmt) (sat_ : Bool) (r : Round) (e : Nat) (v : FVal) : Nat × Events :=
  match v with
  | .fin n m =>
    if e = 255 then (0, Events.inv) else
    let k : Int := r.int (m / pow2 ((e : Int) - 127))
    let z := if n then -k else k
    match f with
    | .t2 => if -1 ≤ z ∧ z ≤ 1 then (wrapInt 2 z, Events.none) else (wrapInt 2 (max (-1) (min 1 z)), Events.ov)
    | f =>
      let (w, o) := fitInt f.bits sat_ z
      (w, if o then Events.ov else Events.none)
  | .inf _ => (0, Events.inv)
  | .nan => (0, Events.none)

/-- Pack elements of a format into bytes, least significant first (R262). -/
def packElems (f : NFmt) (l : List Nat) : List Byte :=
  leBytes ((l.length * f.bits + 7) / 8) (l.foldr (fun e acc => e % 2 ^ f.bits + 2 ^ f.bits * acc) 0)

/-- Values to a format, element `i` by lane `lane i` (R272, R274, R275): the codes, the block scales written, and the
tussock after its draws. For a block-scaled format `given` are scales that the instruction gives; blocks are 32 long. -/
def Tus.convert (k : Tus) (f : NFmt) (sr sat_ : Bool) (given : Option (Nat → Nat)) (lane : Nat → Nat) (vs : List FVal) :
    List Nat × List Nat × Tus :=
  let block := fun i => (vs.drop (i / 32 * 32)).take 32
  let scale := fun i => match given with | some g => g (i / 32) | none => chooseScale f (block i)
  let go := fun (acc : List Nat × Tus) (iv : Nat × FVal) =>
    let (r, k) := acc.2.round sr (lane iv.1)
    let (c, e) := if f.scaled then encodeScaled f sat_ r (scale iv.1) iv.2 else encodeVal f sat_ r iv.2
    (acc.1 ++ [c], k.events e)
  let (codes, k) := ((List.range vs.length).zip vs).foldl go ([], k)
  let bad := fun i => (block (32 * i)).any (fun v => match v with | .fin _ _ => false | _ => true)
  let scales := (List.range ((vs.length + 31) / 32)).map (fun i => if bad i then 255 else scale (32 * i))
  (codes, if f.scaled then scales else [], k)

/-! ### Running an instruction -/

/-- Tussock `t` is there and powered. -/
def State.tus (s : State) (t : Nat) : Tus := s.swd.tus.getD t Tus.reset

/-- A tussock through `f`. -/
def State.updTus (s : State) (t : Nat) (f : Tus → Tus) : State :=
  { s with swd := { s.swd with tus := upd s.swd.tus t f } }

/-- A report of a tussock to the fault collector (R483): its row is the source, its index the instance. -/
def State.tusReport (s : State) (t kind detail : Nat) : State := s.report (0xF00 + t / 32) kind t detail

/-- A flit enters the mesh at the router of a tussock, or at a periphery port's link. -/
def State.inject (s : State) (f : Flit) (row col : Nat) (via : Via) (src : Nat) : State :=
  { s with swd := { s.swd with mesh := s.swd.mesh ++ [⟨f, row, col, via, src⟩] } }

/-- A tussock in RUN executes an instruction (R279, R312): nothing happens to a tussock in another state. -/
def State.insn (s : State) (x : TIns) (f : Ctx → Tus → TOut) : State :=
  let k := s.tus x.tus
  if 640 ≤ x.tus ∨ !s.swd.powered ∨ k.st ≠ TState.run then s else
  let o := f ⟨x, x.tus / 32, s.free, s.now⟩ k
  let s := { s with free := s.free + 1 }.updTus x.tus (fun _ => o.tus)
  let s := o.reports.foldl (fun (s : State) r => s.tusReport x.tus r.1 r.2) s
  o.sends.foldl (fun (s : State) fl => s.inject fl (x.tus / 32) (x.tus % 32) .local_ x.tus) s

end Sys2Proof.Machine
end

