-- ==== Sys2Proof/Machine/Scalar.lean ====
section
/-! DEFINITION. The SCALAR and CONTROL instructions of a tussock (R312). -/
namespace Sys2Proof.Machine

/-- An instruction that writes register A and goes on. -/
def Ctx.toA (x : Ctx) (k : Tus) (v : Word) : TOut := .ok (k.setReg x.ins.a v).next

/-- The result of a shift: free where the amount is 32 or more (R312 states none; log entry 19). -/
def Ctx.shift (x : Ctx) (k : Tus) (v : Word) : Word :=
  if (x.src k).toNat < 32 then v else Config.freeWord x.free 0

/-- A meaning from what an instruction does to its tussock. -/
def State.instr (s : State) (t : Time) (x : TIns) (f : Ctx → Tus → TOut) : Host.Outcome State Fault Refusal :=
  .next ((s.at_ t).insn x f)

/-- The command that a running tussock's next instruction spells, none where it is undecodable: the little-endian word at its place in the program region, read through
port N (R279, R312). The machine does not hold the commands it is given against it (log entry 22). -/
def State.nextIns (s : State) (t : Time) (tus : Nat) (ev : List (Nat × WordEv)) : Option Instr :=
  let s := s.at_ t
  let k := s.tus tus
  let x : Ctx := ⟨⟨tus, 0, 0, 0, false, 0, ev⟩, tus / 32, s.free, s.now⟩
  tusIns t tus ev (BitVec.ofNat 64 (ofLe (x.bytes k (k.program + 8 * k.pc) 8)))

/-- Cycles of the tussock clock: 4.8 GHz through the divider of the step, none while it is stopped (R279, R289). -/
def Tus.cyclesNow (k : Tus) (now : Time) : Nat :=
  let run := k.st == TState.run || k.st == TState.idle || k.st == TState.halted
  let div := [3, 4, 5, 6, 12].getD k.clock 0
  (k.cycles + (if run && div != 0 then (now - k.cyclesAt) * 48 / (10 * div) else 0)) % 2 ^ 64

/-- SCALAR_ADD (R312): writes B plus C, or B plus IMM, to A. -/
def execScalarAdd (t : Time) (x : TIns) (s : State) : Host.Outcome State Fault Refusal :=
  s.instr t x (fun x k => x.toA k (k.reg x.ins.b + x.src k))

/-- SCALAR_SUB (R312): writes the difference to A. -/
def execScalarSub (t : Time) (x : TIns) (s : State) : Host.Outcome State Fault Refusal :=
  s.instr t x (fun x k => x.toA k (k.reg x.ins.b - x.src k))

/-- SCALAR_MUL (R312): writes the low 32 bits of the product to A. -/
def execScalarMul (t : Time) (x : TIns) (s : State) : Host.Outcome State Fault Refusal :=
  s.instr t x (fun x k => x.toA k (k.reg x.ins.b * x.src k))

/-- SCALAR_AND (R312): writes the bitwise and to A. -/
def execScalarAnd (t : Time) (x : TIns) (s : State) : Host.Outcome State Fault Refusal :=
  s.instr t x (fun x k => x.toA k (k.reg x.ins.b &&& x.src k))

/-- SCALAR_OR (R312): writes the bitwise or to A. -/
def execScalarOr (t : Time) (x : TIns) (s : State) : Host.Outcome State Fault Refusal :=
  s.instr t x (fun x k => x.toA k (k.reg x.ins.b ||| x.src k))

/-- SCALAR_XOR (R312): writes the bitwise exclusive or to A. -/
def execScalarXor (t : Time) (x : TIns) (s : State) : Host.Outcome State Fault Refusal :=
  s.instr t x (fun x k => x.toA k (k.reg x.ins.b ^^^ x.src k))

/-- SCALAR_SHL (R312): writes the left shift to A; a shift by 32 or more has no stated result. -/
def execScalarShl (t : Time) (x : TIns) (s : State) : Host.Outcome State Fault Refusal :=
  s.instr t x (fun x k => x.toA k (x.shift k (k.reg x.ins.b <<< (x.src k).toNat)))

/-- SCALAR_SHR (R312): writes the logical right shift to A; a shift by 32 or more has no stated result. -/
def execScalarShr (t : Time) (x : TIns) (s : State) : Host.Outcome State Fault Refusal :=
  s.instr t x (fun x k => x.toA k (x.shift k (k.reg x.ins.b >>> (x.src k).toNat)))

/-- SCALAR_SAR (R312): writes the arithmetic right shift to A; a shift by 32 or more has no stated result. -/
def execScalarSar (t : Time) (x : TIns) (s : State) : Host.Outcome State Fault Refusal :=
  s.instr t x (fun x k => x.toA k (x.shift k ((k.reg x.ins.b).sshiftRight (x.src k).toNat)))

/-- SCALAR_SLT (R312): writes 1 or 0 by signed comparison to A. -/
def execScalarSlt (t : Time) (x : TIns) (s : State) : Host.Outcome State Fault Refusal :=
  s.instr t x (fun x k => x.toA k (if (k.reg x.ins.b).slt (x.src k) then 1 else 0))

/-- SCALAR_LOAD (R259, R280, R283, R312): the word at local address B + IMM into A. -/
def execScalarLoad (t : Time) (x : TIns) (s : State) : Host.Outcome State Fault Refusal :=
  s.instr t x (fun x k => x.access k [(x.addr k / 4 * 4, 4)] [] (fun k => x.toA k (x.word k (x.addr k))))

/-- SCALAR_STORE (R259, R280, R312): C to the word at local address B + IMM. -/
def execScalarStore (t : Time) (x : TIns) (s : State) : Host.Outcome State Fault Refusal :=
  s.instr t x (fun x k => x.access k [] [(x.addr k / 4 * 4, 4)] (fun k =>
    .ok (x.store k (x.addr k / 4 * 4) (leBytes 4 (k.reg x.ins.c).toNat)).next))

/-- CYCLE_LO (R279, R312): the low half of the cycle counter into A. -/
def execCycleLo (t : Time) (x : TIns) (s : State) : Host.Outcome State Fault Refusal :=
  s.instr t x (fun x k => x.toA k (BitVec.ofNat 32 (k.cyclesNow x.now)))

/-- CYCLE_HI (R279, R312): the high half of the cycle counter into A. -/
def execCycleHi (t : Time) (x : TIns) (s : State) : Host.Outcome State Fault Refusal :=
  s.instr t x (fun x k => x.toA k (BitVec.ofNat 32 (k.cyclesNow x.now / 2 ^ 32)))

/-- NOP (R312). -/
def execNop (t : Time) (x : TIns) (s : State) : Host.Outcome State Fault Refusal :=
  s.instr t x (fun _ k => .ok k.next)

/-- JUMP (R312): on at instruction IMM. -/
def execJump (t : Time) (x : TIns) (s : State) : Host.Outcome State Fault Refusal :=
  s.instr t x (fun x k => .ok { k with pc := x.ins.imm.toNat })

/-- BNZ (R312): on at IMM when B is not zero. -/
def execBnz (t : Time) (x : TIns) (s : State) : Host.Outcome State Fault Refusal :=
  s.instr t x (fun x k => .ok (if k.reg x.ins.b = 0 then k.next else { k with pc := x.ins.imm.toNat }))

/-- BZ (R312): on at IMM when B is zero. -/
def execBz (t : Time) (x : TIns) (s : State) : Host.Outcome State Fault Refusal :=
  s.instr t x (fun x k => .ok (if k.reg x.ins.b = 0 then { k with pc := x.ins.imm.toNat } else k.next))

/-- The arrival counter that IMM[3:0] names (R306, R312). -/
def Ctx.counter (x : Ctx) (k : Tus) : Word := k.cnt.getD (x.ins.imm.toNat % 16) 0

/-- WAIT (R312): on once counter IMM[3:0] has reached B; until then the instruction stands. -/
def execWait (t : Time) (x : TIns) (s : State) : Host.Outcome State Fault Refusal :=
  s.instr t x (fun x k => .ok (if (k.reg x.ins.b).toNat ≤ (x.counter k).toNat then k.next else k))

/-- TAKE (R312): lowers counter IMM[3:0] by B, at least to 0. -/
def execTake (t : Time) (x : TIns) (s : State) : Host.Outcome State Fault Refusal :=
  s.instr t x (fun x k => .ok { k with
    cnt := k.cnt.set (x.ins.imm.toNat % 16) (BitVec.ofNat 32 ((x.counter k).toNat - (k.reg x.ins.b).toNat)) }.next)

/-- FENCE (R312): on once every flit this tussock sent has entered a link; every operation has completed by then. -/
def execFence (t : Time) (x : TIns) (s : State) : Host.Outcome State Fault Refusal :=
  let waiting := s.swd.mesh.any (fun m => m.src == x.tus && m.via == Via.local_)
  s.instr t x (fun _ k => .ok (if waiting then k else k.next))

/-- STEP (R290, R312): requests step IMM[2:0]; codes 6 and 7 are not used and halt the tussock. -/
def execStep (t : Time) (x : TIns) (s : State) : Host.Outcome State Fault Refusal :=
  s.instr t x (fun x k =>
    let n := x.ins.imm.toNat % 8
    if 5 < n then seqFault k else .ok { k with requested := n }.next)

/-- HALT (R312): HALTED with CAUSE 0. -/
def execHalt (t : Time) (x : TIns) (s : State) : Host.Outcome State Fault Refusal :=
  s.instr t x (fun _ k => .ok (k.halt 0))

/-- UNDECODABLE_INSTRUCTION (R279, R312): an unused class or OP halts the tussock with CAUSE 3. -/
def execUndecodableInstruction (t : Time) (tus : Nat) (s : State) : Host.Outcome State Fault Refusal :=
  s.instr t ⟨tus, 0, 0, 0, false, 0, []⟩ (fun _ k => seqFault k)

end Sys2Proof.Machine
end

