-- ==== Sys2Proof/Machine/Matrix.lean ====
section
/-! DEFINITION. The matrix unit (R264 to R271): MMA and DRAIN. -/
namespace Sys2Proof.Machine

/-- The array for a pair of formats (R264): its columns N, and whether the pair accumulates integers; none for a pair
that does not exist. -/
def mmaShape (a b : NFmt) : Option (Nat × Bool) :=
  let two := fun (f : NFmt) => f = .t2 ∨ f = .i2
  let eight := fun (f : NFmt) => f = .e4m3 ∨ f = .e5m2
  if a.scaled ∧ b.scaled then (if two a ∧ two b then some (128, true) else some (64, true))
  else if eight a ∧ eight b then some (32, false)
  else if a = .bf16 ∧ b = .bf16 then some (16, false)
  else none

/-- An accumulator entry. -/
def Tus.entryAt (k : Tus) (m n : Nat) : AccEntry := lookupD k.acc (128 * m + n) ⟨0, false, 0, false⟩

/-- One block of an integer pair onto an entry (R267 to R269): `p` the exact sum, `ea` and `eb` the scales. -/
def accInt (x : Int) (sat_ : Bool) (ea eb : Nat) (p : Int) (e : AccEntry) : AccEntry × Events :=
  if ea = 255 ∨ eb = 255 then ({ e with invalid := true, x := x, fp := false }, Events.inv) else
  let sh := ((ea : Int) - 127) + ((eb : Int) - 127) - x
  let c : Int := if 0 ≤ sh then p * 2 ^ sh.toNat else roundEven ((p : Rat) * pow2 sh)
  let (cw, o1) := fitInt 32 sat_ c
  let (vw, o2) := fitInt 32 sat_ (e.val.toInt + signed 32 cw)
  (⟨BitVec.ofNat 32 vw, e.invalid, x, false⟩, ⟨o1 || o2, false, false, false⟩)

/-- One block of a floating-point pair onto an entry (R270): the products and the value held, in one rounding. -/
def accFloat (sat_ : Bool) (prods : List (FVal × FVal)) (e : AccEntry) : AccEntry × Events :=
  let held := decodeFloat .fp32 e.val.toNat
  let ps := prods.map (fun p => mulV p.1 p.2)
  let terms := held :: ps.map Prod.fst
  let nan := terms.any (fun v => v == .nan)
  let pos := terms.any (fun v => v == .inf false)
  let neg := terms.any (fun v => v == .inf true)
  let (v, bad) : FVal × Bool :=
    if nan || (pos && neg) then (.nan, true)
    else if pos then (.inf false, false) else if neg then (.inf true, false)
    else
      let t := sumRat (terms.map FVal.real)
      (FVal.ofRat t (terms.all (fun v => v == .fin true 0)), false)
  let (c, ev) := encodeVal .fp32 sat_ .rn v
  (⟨BitVec.ofNat 32 c, e.invalid, e.x, true⟩, ev.or (if bad then Events.inv else Events.none))

/-- The operands of an MMA as its descriptor gives them (R265, R313). -/
structure Mma where
  fa : NFmt
  fb : NFmt
  m : Nat
  n : Nat
  k : Nat
  x : Int
  sat_ : Bool
  clear : Bool
  a : Nat
  b : Nat
  sa : Nat
  sb : Nat

/-- The block of row `m` of A along K, as codes; of column `n` of B (R262, R265). -/
def Ctx.blockA (x : Ctx) (k : Tus) (d : Mma) (m kb : Nat) : List Nat :=
  (List.range 32).map (fun i => x.elem k d.fa d.a (m * d.k + 32 * kb + i))

/-- The block of column `n` of B along K (R265). -/
def Ctx.blockB (x : Ctx) (k : Tus) (d : Mma) (n kb : Nat) : List Nat :=
  (List.range 32).map (fun i => x.elem k d.fb d.b ((32 * kb + i) * d.n + n))

/-- Block `kb` onto entry (m, n): the tussock after it (R267 to R270). -/
def Ctx.mmaBlock (x : Ctx) (d : Mma) (ints : Bool) (src : Tus) (m n kb : Nat) (k : Tus) : Tus :=
  let ca := x.blockA src d m kb
  let cb := x.blockB src d n kb
  let e := k.entryAt m n
  let (e', ev) :=
    if ints then
      let va := ca.map (blockInt d.fa)
      let vb := cb.map (blockInt d.fb)
      let p := (va.zip vb).foldl (fun (t : Int) q => t + q.1.1 * q.2.1) 0
      let res := (va ++ vb).any (fun q => q.2.reserved)
      let ea := (x.byte src (d.sa + m * (d.k / 32) + kb)).toNat
      let eb := (x.byte src (d.sb + n * (d.k / 32) + kb)).toNat
      let (e', ev) := accInt d.x d.sat_ ea eb p e
      (e', ev.or ⟨false, false, res, false⟩)
    else
      accFloat d.sat_ ((ca.map (decodeFloat d.fa)).zip (cb.map (decodeFloat d.fb))) e
  { k with acc := insertKey k.acc (128 * m + n) e' }.events ev

/-- A matrix operation (R265): every entry of C through the blocks of K in ascending order. -/
def Ctx.mma (x : Ctx) (d : Mma) (ints : Bool) (k : Tus) : Tus :=
  let cells := (List.range d.m).flatMap (fun m => (List.range d.n).map (fun n => (m, n)))
  let k := if d.clear then { k with acc := k.acc.filter (fun p => !(cells.any (fun c => 128 * c.1 + c.2 == p.1))) } else k
  let src := k
  cells.foldl (fun k c => (List.range (d.k / 32)).foldl (fun k kb => x.mmaBlock d ints src c.1 c.2 kb k) k) k

/-- MMA (R264 to R270, R313): halts the tussock when its pairing or a parameter is out of range (R266). -/
def execMma (t : Time) (x : TIns) (s : State) : Host.Outcome State Fault Refusal :=
  s.instr t x (fun x k => x.descriptor k (fun w k =>
    match NFmt.ofCode (field (w 0) 3 0), NFmt.ofCode (field (w 0) 7 4) with
    | some fa, some fb =>
      match mmaShape fa fb with
      | none => seqFault k
      | some (cols, ints) =>
        let d : Mma := { fa := fa, fb := fb, m := field (w 0) 14 8 + 1, n := field (w 1) 14 8 + 1
                         k := 32 * (field (w 1) 7 0 + 1), x := signed 8 (field (w 0) 22 15), sat_ := bitOf (w 0) 23
                         clear := bitOf (w 0) 24, a := (w 2).toNat, b := (w 3).toNat, sa := (w 4).toNat, sb := (w 5).toNat }
        let addrs := if ints then [d.a, d.b, d.sa, d.sb] else [d.a, d.b]
        if cols < d.n ∨ addrs.any (fun a => a % 64 != 0 || decide (sramBytes ≤ a)) then seqFault k
        else
          let rs := [(d.a, d.m * d.k * fa.bits / 8), (d.b, d.k * d.n * fb.bits / 8)]
            ++ (if ints then [(d.sa, d.m * d.k / 32), (d.sb, d.n * d.k / 32)] else [])
          x.access k rs [] (fun k => .ok (x.mma d ints k).next)
    | _, _ => seqFault k))

/-- The fp32 value of an accumulator entry, and an overflow on the way (R271). -/
def AccEntry.value (sat_ : Bool) (e : AccEntry) : FVal × Events :=
  if e.fp then (decodeFloat .fp32 e.val.toNat, Events.none)
  else if e.invalid then (.nan, Events.inv)
  else
    let (c, ev) := encodeVal .fp32 sat_ .rn (FVal.ofRat ((e.val.toInt : Rat) * pow2 e.x))
    (decodeFloat .fp32 c, ev)

/-- A drain (R271): the entries read, as codes of the format with their scales, and the tussock after it. -/
def Ctx.drain (f : NFmt) (sr sat_ : Bool) (m n : Nat) (k : Tus) : List (List Nat × List Nat) × Tus :=
  let row := fun (acc : List (List Nat × List Nat) × Tus) (i : Nat) =>
    let k := acc.2
    let es := (List.range n).map (fun j => k.entryAt i j)
    if f = .int32 ∧ es.all (fun e => !e.fp) then
      let codes := es.map (fun e => if e.invalid then 0x80000000 else e.val.toNat)
      (acc.1 ++ [(codes, [])], k.events ⟨false, es.any (fun e => e.invalid), false, false⟩)
    else
      let vs := es.map (AccEntry.value sat_)
      let k := vs.foldl (fun (k : Tus) v => k.events v.2) k
      if f = .fp32 then
        let cs := vs.map (fun v => (encodeVal .fp32 sat_ .rn v.1).1)
        (acc.1 ++ [(cs, [])], k)
      else
        let (codes, scales, k) := k.convert f sr sat_ none (fun j => j % 64) (vs.map Prod.fst)
        (acc.1 ++ [(codes, scales)], k)
  (List.range m).foldl row ([], k)

/-- DRAIN (R271, R313): entries converted into SRAM and cleared. -/
def execDrain (t : Time) (x : TIns) (s : State) : Host.Outcome State Fault Refusal :=
  s.instr t x (fun x k => x.descriptor k (fun w k =>
    match NFmt.ofCode (field (w 0) 3 0) with
    | none => seqFault k
    | some f =>
      let m := field (w 0) 12 6 + 1
      let n := field (w 0) 19 13 + 1
      let dst := (w 1).toNat
      let sdst := (w 2).toNat
      if sramBytes ≤ dst ∨ (f.scaled ∧ sramBytes ≤ sdst) then seqFault k
      else
        let bytes := (m * n * f.bits + 7) / 8
        let ws := (dst, bytes) :: (if f.scaled then [(sdst, m * ((n + 31) / 32))] else [])
        x.access k [] ws (fun k =>
          let (rows, k) := Ctx.drain f (bitOf (w 0) 4) (bitOf (w 0) 5) m n k
          let k := x.store k dst (packElems f (rows.flatMap Prod.fst))
          let k := x.store k sdst ((rows.flatMap Prod.snd).map (BitVec.ofNat 8))
          let gone := fun (i : Nat) => decide (i / 128 < m) && decide (i % 128 < n)
          .ok { k with acc := k.acc.filter (fun p => !gone p.1) }.next)))

end Sys2Proof.Machine
end

