-- ==== Sys2Proof/Machine/Vector.lean ====
section
/-! DEFINITION. The vector unit's instructions (R274 to R278, R313). -/
namespace Sys2Proof.Machine

/-- The fields of a VECTOR descriptor (R313). -/
structure Vec where
  src : NFmt
  dst : NFmt
  sr : Bool
  sat_ : Bool
  given : Bool
  n : Nat
  a : Nat
  b : Nat
  c : Nat
  d : Nat
  scales : Nat
  deriving DecidableEq, Repr

/-- The descriptor, when its formats exist and its addresses are local ones (R258, R313). -/
def vecOf (w : Nat → Word) : Option Vec :=
  match NFmt.ofCode (field (w 0) 3 0), NFmt.ofCode (field (w 0) 7 4) with
  | some src, some dst =>
    if ((List.range 5).map (fun i => (w (i + 2)).toNat)).any (fun a => decide (sramBytes ≤ a)) then none
    else some ⟨src, dst, bitOf (w 0) 8, bitOf (w 0) 9, bitOf (w 0) 10, field (w 1) 15 0 + 1,
               (w 2).toNat, (w 3).toNat, (w 4).toNat, (w 5).toNat, (w 6).toNat⟩
  | _, _ => none

/-- Formats the vector unit reads and writes directly (R260). -/
def directFmt (f : NFmt) : Bool := f == .bf16 || f == .fp32 || f == .int32

/-- Bytes of `n` elements. -/
def vecBytes (f : NFmt) (n : Nat) : Nat := (n * f.bits + 7) / 8

/-- A value computed in the source format into the destination: an fp32 or bf16 result by one rounding, through fp32 to
a narrower or an integer destination (R276). -/
def floatOut (v : Vec) (r : Round) (x : FVal) : Nat × Events :=
  if v.dst = .fp32 then encodeVal .fp32 v.sat_ r x
  else
    let (c, e) := encodeVal .fp32 v.sat_ .rn x
    let (d, f) := encodeVal v.dst v.sat_ r (decodeFloat .fp32 c)
    (d, e.or f)

/-- One element of an operation on floating-point operands. -/
def VOp.floatElem (op : VOp) (v : Vec) (tie : FVal) (a b c : Nat) (k : Tus) (i : Nat) : Nat × Tus :=
  match op.onVal tie (decodeFloat v.src a) (decodeFloat v.src b) (decodeFloat v.src c) with
  | none => (0, k)
  | some (x, ev) =>
    let exact := (op = .max_ ∨ op = .min_) ∧ v.src = v.dst
    let (r, k) := k.round (v.sr && !exact) (i % 64)
    let (w, e) := floatOut v r x
    (w, k.events (ev.or e))

/-- One element of an operation on int32 operands. -/
def VOp.intElem (op : VOp) (v : Vec) (open_ : Nat) (a b c : Nat) (k : Tus) (i : Nat) : Nat × Tus :=
  let (r, k) := k.round (v.sr && (op == .div || v.dst != .int32)) (i % 64)
  match op.onInt v.sat_ r open_ a b c with
  | none => (0, k)
  | some (w, ev) =>
    if v.dst = .int32 then (w, k.events ev)
    else
      let (w', e) := encodeVal v.dst v.sat_ r (FVal.ofRat (signed 32 w))
      (w', k.events (ev.or e))

/-- The operation exists on the formats (R260, R276). -/
def VOp.fits (op : VOp) (v : Vec) : Bool :=
  directFmt v.src && directFmt v.dst &&
    (if v.src = .int32 then op != .sqrt else !(op == .shl || op == .shr || op == .sar))

/-- Operands an operation reads beside A. -/
def VOp.arity : VOp → Nat
  | .sqrt => 1 | .fma => 3 | _ => 2

/-- An element-wise operation of the vector unit (R276, R313). -/
def State.vecOp (s : State) (t : Time) (x : TIns) (op : VOp) : Host.Outcome State Fault Refusal :=
  s.instr t x (fun x k => x.descriptor k (fun w k =>
    match vecOf w with
    | none => seqFault k
    | some v =>
      if !op.fits v then seqFault k
      else
        let n := vecBytes v.src v.n
        let rs := [(v.a, n)] ++ (if 2 ≤ op.arity then [(v.b, n)] else []) ++ (if 3 ≤ op.arity then [(v.c, n)] else [])
        x.access k rs [(v.d, vecBytes v.dst v.n)] (fun k =>
          let src := k
          let go := fun (acc : List Nat × Tus) (i : Nat) =>
            let a := x.elem src v.src v.a i
            let b := x.elem src v.src v.b i
            let c := x.elem src v.src v.c i
            let fw := Config.freeWord x.free (sramBytes + i)
            let (y, k) := if v.src = .int32 then op.intElem v fw.toNat a b c acc.2 i
              else op.floatElem v (.fin (fw.getLsbD 0) 0) a b c acc.2 i
            (acc.1 ++ [y], k)
          let (codes, k) := (List.range v.n).foldl go ([], k)
          .ok (x.store k v.d (packElems v.dst codes)).next)))

/-- An approximation of the vector unit (R278, R313): on fp32 or bf16 operands. -/
def State.vecApprox (s : State) (t : Time) (x : TIns) (op : AOp) : Host.Outcome State Fault Refusal :=
  s.instr t x (fun x k => x.descriptor k (fun w k =>
    match vecOf w with
    | none => seqFault k
    | some v =>
      if !(v.src == .fp32 || v.src == .bf16) || !directFmt v.dst then seqFault k
      else
        x.access k [(v.a, vecBytes v.src v.n)] [(v.d, vecBytes v.dst v.n)] (fun k =>
          let src := k
          let go := fun (acc : List Nat × Tus) (i : Nat) =>
            let a := x.elem src v.src v.a i
            let code := if v.src = .bf16 then a * 65536 else a
            let (y, ev) := op.eval code
            let (r, k) := acc.2.round (v.sr && v.dst != .fp32) (i % 64)
            let (c, e) := encodeVal v.dst v.sat_ r y
            (acc.1 ++ [c], k.events (ev.or e))
          let (codes, k) := (List.range v.n).foldl go ([], k)
          .ok (x.store k v.d (packElems v.dst codes)).next)))

/-- The value of an element of any format, with the scale its block has (R260, R263). -/
def Ctx.value (x : Ctx) (k : Tus) (v : Vec) (i : Nat) : FVal × Events :=
  let c := x.elem k v.src v.a i
  if v.src.scaled then scaledVal v.src (x.byte k (v.scales + i / 32)).toNat c
  else if v.src = .int32 then (FVal.ofRat (signed 32 c), Events.none)
  else (decodeFloat v.src c, Events.none)

/-- CVT (R274, R275, R313): between any two formats, choosing block scales unless they are given. -/
def execCvt (t : Time) (x : TIns) (s : State) : Host.Outcome State Fault Refusal :=
  s.instr t x (fun x k => x.descriptor k (fun w k =>
    match vecOf w with
    | none => seqFault k
    | some v =>
      let blocks := (v.n + 31) / 32
      let reads := v.src.scaled || (v.dst.scaled && v.given)
      x.access k ([(v.a, vecBytes v.src v.n)] ++ (if reads then [(v.scales, blocks)] else []))
        ([(v.d, vecBytes v.dst v.n)] ++ (if v.dst.scaled then [(v.scales, blocks)] else [])) (fun k =>
          let src := k
          let vs := (List.range v.n).map (x.value src v)
          let k := vs.foldl (fun (k : Tus) y => k.events y.2) k
          let given := if v.given then some (fun j => (x.byte src (v.scales + j)).toNat) else none
          let (codes, scales, k) := k.convert v.dst v.sr v.sat_ given (fun i => i % 64) (vs.map Prod.fst)
          let k := x.store k v.d (packElems v.dst codes)
          .ok (x.store k v.scales (scales.map (BitVec.ofNat 8))).next)))

/-- VECTOR_ADD (R276). -/
def execVectorAdd (t : Time) (x : TIns) (s : State) : Host.Outcome State Fault Refusal := s.vecOp t x .add
/-- VECTOR_SUB (R276). -/
def execVectorSub (t : Time) (x : TIns) (s : State) : Host.Outcome State Fault Refusal := s.vecOp t x .sub
/-- VECTOR_MUL (R276). -/
def execVectorMul (t : Time) (x : TIns) (s : State) : Host.Outcome State Fault Refusal := s.vecOp t x .mul
/-- VECTOR_FMA (R276). -/
def execVectorFma (t : Time) (x : TIns) (s : State) : Host.Outcome State Fault Refusal := s.vecOp t x .fma
/-- VECTOR_DIV (R276). -/
def execVectorDiv (t : Time) (x : TIns) (s : State) : Host.Outcome State Fault Refusal := s.vecOp t x .div
/-- VECTOR_SQRT (R276). -/
def execVectorSqrt (t : Time) (x : TIns) (s : State) : Host.Outcome State Fault Refusal := s.vecOp t x .sqrt
/-- VECTOR_MAX (R276). -/
def execVectorMax (t : Time) (x : TIns) (s : State) : Host.Outcome State Fault Refusal := s.vecOp t x .max_
/-- VECTOR_MIN (R276). -/
def execVectorMin (t : Time) (x : TIns) (s : State) : Host.Outcome State Fault Refusal := s.vecOp t x .min_
/-- VECTOR_SHL (R276). -/
def execVectorShl (t : Time) (x : TIns) (s : State) : Host.Outcome State Fault Refusal := s.vecOp t x .shl
/-- VECTOR_SHR (R276). -/
def execVectorShr (t : Time) (x : TIns) (s : State) : Host.Outcome State Fault Refusal := s.vecOp t x .shr
/-- VECTOR_SAR (R276). -/
def execVectorSar (t : Time) (x : TIns) (s : State) : Host.Outcome State Fault Refusal := s.vecOp t x .sar
/-- RECIP (R278). -/
def execRecip (t : Time) (x : TIns) (s : State) : Host.Outcome State Fault Refusal := s.vecApprox t x .recip
/-- RSQRT (R278). -/
def execRsqrt (t : Time) (x : TIns) (s : State) : Host.Outcome State Fault Refusal := s.vecApprox t x .rsqrt
/-- EXP2 (R278). -/
def execExp2 (t : Time) (x : TIns) (s : State) : Host.Outcome State Fault Refusal := s.vecApprox t x .exp2
/-- EXP (R278). -/
def execExp (t : Time) (x : TIns) (s : State) : Host.Outcome State Fault Refusal := s.vecApprox t x .exp
/-- LOG2 (R278). -/
def execLog2 (t : Time) (x : TIns) (s : State) : Host.Outcome State Fault Refusal := s.vecApprox t x .log2
/-- TANH (R278). -/
def execTanh (t : Time) (x : TIns) (s : State) : Host.Outcome State Fault Refusal := s.vecApprox t x .tanh
/-- SIGMOID (R278). -/
def execSigmoid (t : Time) (x : TIns) (s : State) : Host.Outcome State Fault Refusal := s.vecApprox t x .sigmoid
/-- SIN (R278). -/
def execSin (t : Time) (x : TIns) (s : State) : Host.Outcome State Fault Refusal := s.vecApprox t x .sin
/-- COS (R278). -/
def execCos (t : Time) (x : TIns) (s : State) : Host.Outcome State Fault Refusal := s.vecApprox t x .cos

end Sys2Proof.Machine
end

