-- ==== Sys2Proof/Machine/Mesh.lean ====
section
/-! DEFINITION. Streams and the mesh (R280 to R288, R303 to R306, R313): sending, routing, arrival at port S, and the
local atomics. -/
namespace Sys2Proof.Machine

/-- The STREAM a tussock sends for the value a descriptor names (R303, R304): none where it may not send it. -/
def Tus.outStream (k : Tus) (n : Nat) : Option Nat :=
  if n ≤ 0x1BF then (if k.entry < 8 then some (0x1C0 * k.entry + n) else none)
  else if 0xE00 ≤ n ∧ n ≤ 0xEFF then
    if k.share.any (fun w => bitOf w 31 && bitOf w 30 && field w 11 0 == n) then some n else none
  else if 0xF00 ≤ n ∧ n ≤ 0xF1F then (if bitOf k.grant (n - 0xF00) then some n else none)
  else none

/-- A tussock admits a flit of this STREAM to port S (R305), the lexicon engine's apart. -/
def Tus.admits (k : Tus) (n : Nat) : Bool :=
  (k.entry < 8 && decide (0x1C0 * k.entry ≤ n) && decide (n ≤ 0x1C0 * k.entry + 0x1BF))
  || k.share.any (fun w => bitOf w 31 && !bitOf w 30 && field w 11 0 == n)
  || (decide (0xF00 ≤ n) && decide (n ≤ 0xF1F) && bitOf k.grant (n - 0xF00))

/-- A STREAM operation over the mesh (R304, R313): OP of the flits as R286 codes it. -/
def Ctx.send (x : Ctx) (op : Nat) (k : Tus) : TOut :=
  x.descriptor k (fun w k =>
    let src := (w 2).toNat
    let n := field (w 1) 27 12 + 1
    if src % 32 ≠ 0 ∨ sramBytes ≤ src then seqFault k else
    match k.outStream (field (w 1) 11 0) with
    | none => ⟨k.halt 3, [(0x43, 5)], []⟩
    | some stream =>
      x.access k [(src, min sramBytes (32 * n))] [] (fun k =>
        let flit := fun i =>
          let h := 2 * field (w 0) 18 9 + field (w 0) 8 8 + i
          let words := (List.range 8).map (fun j =>
            if j = 7 ∧ (op = 3 ∨ op = 4) then w 4 else x.word k (src + 32 * i + 4 * j))
          (⟨field (w 0) 31 27, field (w 0) 26 22, field (w 0) 21 19, h / 2 % 1024, h % 2 == 1, op,
            field (w 3) 23 16, stream, field (w 3) 15 0, words⟩ : Flit)
        ⟨k.next, [], (List.range n).map flit⟩))

/-- SEND (R304, R313): half-lines as WRITE flits. -/
def execSend (t : Time) (x : TIns) (s : State) : Host.Outcome State Fault Refusal := s.instr t x (Ctx.send · 0)
/-- SEND_ADD_I32 (R282, R304, R313). -/
def execSendAddI32 (t : Time) (x : TIns) (s : State) : Host.Outcome State Fault Refusal := s.instr t x (Ctx.send · 1)
/-- SEND_ADD_F32 (R282, R304, R313). -/
def execSendAddF32 (t : Time) (x : TIns) (s : State) : Host.Outcome State Fault Refusal := s.instr t x (Ctx.send · 2)
/-- STREAM_READ (R286, R304, R313): READ flits with a return address. -/
def execStreamRead (t : Time) (x : TIns) (s : State) : Host.Outcome State Fault Refusal := s.instr t x (Ctx.send · 3)
/-- STREAM_SWAP (R282, R286, R304, R313): SWAP flits with a return address. -/
def execStreamSwap (t : Time) (x : TIns) (s : State) : Host.Outcome State Fault Refusal := s.instr t x (Ctx.send · 4)

/-- The word an atomic stores over `old`, and the events of it (R282): 1 ADD_I32, 2 ADD_F32, else SWAP. -/
def atomicWord (op : Nat) (old v : Word) : Word × Events :=
  match op with
  | 1 => (old + v, Events.none)
  | 2 =>
    let (x, e) := addV (decodeFloat .fp32 old.toNat) (decodeFloat .fp32 v.toNat)
    let (c, f) := encodeVal .fp32 false .rn x
    (BitVec.ofNat 32 c, e.or f)
  | _ => (v, Events.none)

/-- A local atomic through port N (R282, R313): the old value goes to the address of W2. -/
def Ctx.atomic (x : Ctx) (op : Nat) (k : Tus) : TOut :=
  x.descriptor k (fun w k =>
    let a := (w 0).toNat
    let d := (w 2).toNat
    if sramBytes ≤ a ∨ sramBytes ≤ d then seqFault k else
    let a := a / 4 * 4
    let d := d / 4 * 4
    x.access k [(a, 4)] [(d, 4)] (fun k =>
      let old := x.word k a
      let (v, e) := atomicWord op old (w 1)
      let k := x.store k a (leBytes 4 v.toNat)
      let k := x.store k d (leBytes 4 old.toNat)
      .ok (k.events e).next))

/-- ADD_I32 (R282). -/
def execAddI32 (t : Time) (x : TIns) (s : State) : Host.Outcome State Fault Refusal := s.instr t x (Ctx.atomic · 1)
/-- ADD_F32 (R282). -/
def execAddF32 (t : Time) (x : TIns) (s : State) : Host.Outcome State Fault Refusal := s.instr t x (Ctx.atomic · 2)
/-- SWAP (R282). -/
def execSwap (t : Time) (x : TIns) (s : State) : Host.Outcome State Fault Refusal := s.instr t x (Ctx.atomic · 3)

/-! ### Routing -/

/-- A flit of the reply class (R286). -/
def Flit.reply (f : Flit) : Bool := f.op == 5 || f.op == 6

/-- Why a router discards a flit (R286), by the DETAIL of FLIT_DISCARD; none for a well-formed one. -/
def Flit.bad (f : Flit) : Option Nat :=
  if 7 ≤ f.op then some 1
  else if f.op = 3 ∧ f.wen ≠ 1 then some 2
  else if 20 ≤ f.drow ∧ f.drow ≤ 29 then some 3
  else none

/-- Where a router sends a flit next (R287): along its row first, then along its column. -/
inductive Hop where
  | here
  | to_ (row col : Nat) (via : Via)
  | edge
  deriving DecidableEq, Repr

/-- The next hop from router (r, c). -/
def Flit.hop (f : Flit) (r c : Nat) : Hop :=
  if c < f.dcol then (if c = 31 then .edge else .to_ r (c + 1) .left)
  else if f.dcol < c then .to_ r (c - 1) .right
  else if f.drow = r then .here
  else if f.drow = 31 ∨ f.drow < r then (if r = 0 then .to_ 31 c .local_ else .to_ (r - 1) c .down)
  else if r = 19 then .to_ 30 c .local_
  else .to_ (r + 1) c .up

/-- Flits of a class that wait in a queue. -/
def Swd.waiting (d : Swd) (row col : Nat) (via : Via) (reply : Bool) : List Moving :=
  d.mesh.filter (fun m => m.row == row && m.col == col && m.via == via && m.flit.reply == reply)

/-- Remove the first occurrence of a flit. -/
def Swd.remove (d : Swd) (m : Moving) : Swd := { d with mesh := d.mesh.erase m }

/-- The clock of a tussock stands for a change of step or at D5 (R289, R291). -/
def Tus.stopped (k : Tus) : Bool := k.st == .clockStop || k.st == .gated

/-- A link to a tussock is closed (R288). -/
def Tus.closed (k : Tus) : Bool := k.st == .off || k.st == .reset || k.st == .failed

/-- A flit is lost at a closed link; the sender reports it once per closure (R69, R288). -/
def State.flitLost (s : State) (src dst : Nat) : State :=
  if s.swd.closedSeen.contains (src, dst) then s
  else { s with swd := { s.swd with closedSeen := s.swd.closedSeen ++ [(src, dst)] } }.report 0x201 0x04
    ((0xF00 + dst / 32) * 2 ^ 16 + (0xF00 + src / 32)) 0

/-- FLIT_ROUTE (R284 to R288): the router of (row, col) forwards the oldest flit of a queue and class: the link needs a
credit, of eight at the receiver, and a receiver whose clock stands holds it. -/
def execFlitRoute (t : Time) (row col : Nat) (via : Via) (reply : Bool) (s : State) : Host.Outcome State Fault Refusal :=
  let s := s.at_ t
  let here := 32 * row + col
  if 20 ≤ row ∨ 32 ≤ col ∨ (s.tus here).stopped then .next s else
  match s.swd.waiting row col via reply with
  | [] => .next s
  | m :: _ =>
    let gone := { s with swd := s.swd.remove m }
    match m.flit.bad with
    | some d => .next (gone.tusReport here 0x47 d)
    | none =>
      match m.flit.hop row col with
      | .here => .next s
      | .edge => .next (gone.tusReport here 0x47 0)
      | .to_ r c v =>
        if r < 20 ∧ (s.tus (32 * r + c)).closed then .next (gone.flitLost here (32 * r + c))
        else if 8 ≤ (s.swd.waiting r c v reply).length ∨ (r < 20 ∧ (s.tus (32 * r + c)).stopped) then .next s
        else .next (gone.inject m.flit r c v m.src)

/-! ### Port S -/

/-- The bytes a flit addresses begin here (R258, R286). -/
def Flit.addr (f : Flit) : Nat := f.bank * 65536 + f.line * 64 + (if f.half then 32 else 0)

/-- Address of payload word `i` of a flit. -/
def Flit.word (f : Flit) (i : Nat) : Nat := f.addr + 4 * i

/-- Enabled words of a flit. -/
def Flit.enabled (f : Flit) : List Nat := (List.range 8).filter (fun i => f.wen.testBit i)

/-- Port N's access to a word in this cycle stops a write or atomic of port S (R280). -/
def blocks (n : List (Nat × NAcc)) (a : Nat) : Bool :=
  match n.lookup a with
  | some .write => true
  | some .atomic => true
  | _ => false

/-- A bank raises the busy warning to port S (R280). -/
def Tus.warn (k : Tus) (bank : Nat) : Tus := { k with busy := setBit k.busy bank }

/-- A reply (R286) to the return address of `word7`: to the half that holds the return word. -/
def replyFlit (word7 : Word) (f : Flit) (op wen : Nat) (payload : List Word) : Flit :=
  ⟨field word7 31 27, field word7 26 22, field word7 21 19, field word7 18 9, decide (8 ≤ field word7 8 5), op, wen,
   f.stream, f.tag, payload⟩

/-- A landed flit counts at the counter its STREAM is bound to (R306). -/
def Tus.count (k : Tus) (stream : Nat) : Tus :=
  match (List.range 16).find? (fun i => bitOf (k.bind_.getD i 0) 12 && field (k.bind_.getD i 0) 11 0 == stream) with
  | none => k
  | some i => { k with cnt := upd k.cnt i (· + 1) }

/-- The enabled words of a flit that nothing stops land (R280, R282); the old words are returned. -/
def Tus.land (k : Tus) (f : Flit) (words : List Nat) : List (Nat × Word) × Tus :=
  words.foldl (fun (acc : List (Nat × Word) × Tus) i =>
    let k := acc.2
    let old := k.sram.readWord (f.word i)
    let v := f.payload.getD i 0
    let (w, e) := if f.op = 1 ∨ f.op = 2 then atomicWord f.op old v else (v, Events.none)
    (acc.1 ++ [(i, old)], { k with sram := k.sram.writeWord (f.word i) w }.events e)) ([], k)

/-- A flit's words that port N does not hold land; the rest retry (R280, R281). The reply of a SWAP is returned. -/
def Tus.portS (k : Tus) (f : Flit) (n : List (Nat × NAcc)) (fails : Nat) (force : Bool) : Option Flit × Tus :=
  let stay := if force then [] else f.enabled.filter (fun i => blocks n (f.word i))
  let go := f.enabled.filter (fun i => !stay.contains i)
  let k := if f.enabled.any (fun i => (n.lookup (f.word i)).isSome) then k.warn f.bank else k
  let (olds, k) := k.land f go
  match stay with
  | [] =>
    let back := if f.op = 3 then
        some (replyFlit (f.payload.getD 7 0) f 5 (2 ^ (field (f.payload.getD 7 0) 8 5 % 8))
          ((List.range 8).map (fun i => if i = field (f.payload.getD 7 0) 8 5 % 8 then ((olds.lookup 0).getD 0) else 0)))
      else none
    (back, k.count f.stream)
  | _ =>
    let wen := sumNat (stay.map (fun i => 2 ^ i))
    (none, { k with retries := k.retries ++ [⟨{ f with wen := wen }, fails⟩] })

/-- Words of a flit that an access of port S reads, and what befalls them (R283). -/
def flitErrors (f : Flit) (ev : List (Nat × WordEv)) (words : List Nat) : Nat × Nat :=
  let hit := ev.filter (fun e => words.any (fun i => f.word i == e.1))
  ((hit.filter (fun e => e.2 == WordEv.single)).length, (hit.filter (fun e => e.2 == WordEv.double)).length)

/-- A flit at its destination (R259, R280 to R283, R286, R305, R306): what it does there. -/
def State.flitLands (s : State) (x : Nat) (f : Flit) (n : List (Nat × NAcc)) (ev : List (Nat × WordEv)) : State :=
  let k := s.tus x
  let row := x / 32
  let cache := decide (row ≤ 15) && f.bank == 7
  let reply := fun (s : State) (g : Flit) => s.inject g row (x % 32) .local_ x
  if k.st = .halted then s
  else if cache ∧ f.stream = 0xFFF then s
  else if !k.admits f.stream then
    let s' := s.updTus x (fun k => { k with rejects := k.rejects + 1, rejectSeen := true })
    if k.rejectSeen then s' else s'.tusReport x 0x46 0
  else if cache then
    let s := (s.updTus x (fun k => k.events ⟨false, false, false, true⟩)).tusReport x 0x45 1
    if f.op = 4 then reply s (replyFlit (f.payload.getD 7 0) f 5 0xFF (List.replicate 8 0)) else s
  else if f.op = 4 then
    let (one, two) := flitErrors f ev (List.range 8)
    let hot := (List.range 8).any (fun i => blocks n (f.word i))
    let s := { s with free := s.free + 1 }.updTus x (fun k =>
      let k := { k with corrected := sat 65535 (k.corrected + one) }
      if hot then k.warn f.bank else if two ≠ 0 then { k with uncorr := setBit k.uncorr f.bank }.halt 1 else k)
    let s := if two ≠ 0 ∧ !hot then s.tusReport x 0x44 f.bank else s
    let w7 := f.payload.getD 7 0
    if hot ∨ two ≠ 0 then
      reply s (replyFlit w7 f 6 0xFF ((List.range 8).map (fun i => Config.freeWord (s.free - 1) i)))
    else reply s (replyFlit w7 f 5 0xFF ((List.range 8).map (fun i => k.sram.readWord (f.word i))))
  else
    let atomic := f.op = 1 ∨ f.op = 2 ∨ f.op = 3
    let (one, two) := if atomic then flitErrors f ev f.enabled else (0, 0)
    let k := { k with corrected := sat 65535 (k.corrected + one) }
    if two ≠ 0 then
      (s.updTus x (fun _ => { k with uncorr := setBit k.uncorr f.bank }.halt 1)).tusReport x 0x44 f.bank
    else
      let (back, k) := k.portS f n 0 false
      let s := s.updTus x (fun _ => k)
      match back with
      | none => s
      | some g => reply s g

/-- FLIT_ARRIVAL (R305): the oldest flit of a queue and class, at its destination, goes to port S: `n` is what port N
does in this cycle, `ev` what befalls the words read. A bank with a retry under way holds other requests (R281). -/
def execFlitArrival (t : Time) (row col : Nat) (via : Via) (reply : Bool) (n : List (Nat × NAcc)) (ev : List (Nat × WordEv))
    (s : State) : Host.Outcome State Fault Refusal :=
  let s := s.at_ t
  let x := 32 * row + col
  let k := s.tus x
  if 20 ≤ row ∨ 32 ≤ col ∨ k.stopped then .next s else
  match s.swd.waiting row col via reply with
  | [] => .next s
  | m :: _ =>
    if m.flit.bad.isSome ∨ m.flit.hop row col ≠ Hop.here ∨ k.retries.any (fun r => r.flit.bank == m.flit.bank) then .next s
    else if k.closed then .next { s with swd := s.swd.remove m }
    else .next ({ s with swd := s.swd.remove m }.flitLands x m.flit n ev)

/-- PORT_S_RETRY (R281): a write or atomic that received the busy warning is tried again; after 64 failures in a row the
bank withholds port N. -/
def execPortSRetry (t : Time) (tus bank : Nat) (n : List (Nat × NAcc)) (s : State) : Host.Outcome State Fault Refusal :=
  let s := s.at_ t
  let k := s.tus tus
  if 640 ≤ tus ∨ k.closed ∨ k.stopped then .next s else
  match k.retries.find? (fun r => r.flit.bank == bank) with
  | none => .next s
  | some r =>
    let k := { k with retries := k.retries.erase r }
    let force := decide (64 ≤ r.fails)
    let (back, k) := k.portS r.flit n (r.fails + 1) force
    let k := if force then { k with starve := setBit k.starve bank } else k
    let s := s.updTus tus (fun _ => k)
    match back with
    | none => .next s
    | some g => .next (s.inject g (tus / 32) (tus % 32) .local_ tus)

end Sys2Proof.Machine
end

