-- ==== Sys2Proof/Machine/SwardOps.lean ====
section
/-! DEFINITION. The sward's clocks, power and periphery (R289 to R298, R307 to R311, R322, R323): granted steps, failures,
services that deliver into the mesh, and the registers. -/
namespace Sys2Proof.Machine

/-! ### Steps and clocks -/

/-- The step granted (R290): the highest code of request, ceiling and governor. -/
def State.grantOf (s : State) (k : Tus) : Nat := max (max k.requested s.swd.ceil) s.swd.gov

/-- Count the cycles so far, and go on from now. -/
def Tus.sync (k : Tus) (now : Time) : Tus := { k with cycles := k.cyclesNow now, cyclesAt := now }

/-- A change of granted step begins (R291). -/
def State.beginStep (s : State) (t : Nat) : State :=
  let k := s.tus t
  let g := s.grantOf k
  let free := k.st == .run || k.st == .idle || k.st == .halted || k.st == .gated
  if k.change.isSome ∨ !free ∨ g = k.granted then s else
  let k' := { k.sync s.now with granted := g }
  let back := if k.st = TState.gated then TState.run else k.st
  let k' :=
    if g = 5 then { k' with st := .gated, clock := 5 }
    else if k.clock < g then { k' with st := .clockStop, change := some ⟨g, false, true, s.now, back⟩ }
    else { k' with change := some ⟨g, true, false, s.now, back⟩ }
  s.updTus t (fun _ => k')

/-- A tussock's clock has failed (R293): it is held in reset as FAILED, marked and reported, and the cache leaves the
lines it cost (R245). -/
def State.tusFail (s : State) (t detail : Nat) : State :=
  let s := s.updTus t (fun _ => { Tus.reset with st := .failed, cause := 2 })
  let d := s.swd
  let s := { s with swd := { d with
    clkFault := if d.clkFault.contains t then d.clkFault else d.clkFault ++ [t]
    lock := if detail = 2 then d.lock.filter (fun x => x != t) else d.lock } }
  (s.tusReport t 0x12 detail).recache

/-! ### Deliveries into the mesh -/

/-- Words of a byte string. -/
def flitWords (n : Nat) (bs : List Byte) : List Word := (List.range n).map (fun i => BitVec.ofNat 32 (leAt bs (4 * i) 4))

/-- A flit from the periphery goes in at the port of its column: above row 0 while no tussock on the way is FAILED,
otherwise below row 19 (R245, R287). -/
def State.fromPort (s : State) (f : Flit) : State :=
  let above := (List.range (min f.drow 20)).all (fun r => !s.swd.failed r f.dcol)
  let row := if above then 0 else 19
  if (s.tus (32 * row + f.dcol)).closed then s
  else s.inject f row f.dcol (if above then .up else .down) 640

/-- One landing ring receives bytes as WRITE flits of a stream, 32 bytes each, from half-line `p` of the ring on. -/
def State.landRing (s : State) (l : Landing) (stream p : Nat) (bs : List Byte) : State :=
  (List.range ((bs.length + 31) / 32)).foldl (fun (s : State) i =>
    let h := 2 * l.line + (p + i) % (2 * l.lines)
    s.fromPort ⟨l.tus / 32, l.tus % 32, l.bank, h / 2 % 1024, h % 2 == 1, 0, 0xFF, stream, 0, flitWords 8 (bs.drop (32 * i))⟩) s

/-- A service delivers to every entry that has it while the programs run (R307): into the next place of the ring, or
into a slot of it. -/
def State.deliver (s : State) (service : Nat) (bs : List Byte) (slot : Option Nat := none) : State :=
  if !s.swd.running then s else
  let n := (bs.length + 31) / 32
  let ls := s.swd.landings.filter (fun l => l.service == service && l.lines != 0)
  let s := ls.foldl (fun (s : State) l =>
    s.landRing l (0xF00 + service) (match slot with | none => l.count | some m => n * m) bs) s
  { s with swd := { s.swd with landings := s.swd.landings.map (fun l =>
      if l.service = service then { l with count := l.count + n } else l) } }

/-- The line BASIS writes for a basis record (R308). -/
def Basis.line (b : Basis) : List Byte :=
  leBytes 4 b.tick ++ [BitVec.ofNat 8 b.mode, BitVec.ofNat 8 b.cause] ++ leBytes 2 b.flags ++ leBytes 2 b.stoS
  ++ leBytes 2 b.stoB ++ leBytes 2 b.iF ++ leBytes 2 b.iRef ++ leBytes 2 b.iUp ++ leBytes 2 b.iCap ++ leBytes 2 b.limitS
  ++ leBytes 2 b.limitB ++ leBytes 2 b.cBank ++ leBytes 2 b.eU ++ leBytes 2 (wrapInt 16 b.offset) ++ leBytes 2 b.seqForce
  ++ [BitVec.ofNat 8 b.verdict] ++ List.replicate 31 0

/-- The oldest flit of a service that waits at a periphery port (R307), and the state without it. -/
def State.takeService (s : State) (above : Bool) (col stream : Nat) : Option (Moving × State) :=
  match (s.swd.waiting (if above then 31 else 30) col .local_ false).find? (fun m => m.flit.stream == stream) with
  | none => none
  | some m => if s.inRst .planning then none else some (m, { s with swd := s.swd.remove m })

/-- Count a discarded EMIT half, descriptor or record (R323). -/
def State.svcReject (s : State) : State := { s with swd := { s.swd with reject := s.swd.reject + 1 } }

/-- Word `i` of a flit's payload. -/
def Flit.w (f : Flit) (i : Nat) : Word := f.payload.getD i 0

/-- Write one word at a return address (R286, R310). -/
def State.completion (s : State) (addr : Word) (stream : Nat) (v : Word) : State :=
  let i := field addr 8 5 % 8
  s.fromPort ⟨field addr 31 27, field addr 26 22, field addr 21 19, field addr 18 9, decide (8 ≤ field addr 8 5), 0, 2 ^ i,
    stream, 0, (List.range 8).map (fun j => if j = i then v else 0)⟩

/-! ### Memory through DMA -/

/-- A program write into the lexicon region (R247): only to the program area of a valid slot. -/
def State.lexWriteOk (s : State) (a : Nat) : Bool :=
  decide (64 * gib ≤ a) || (decide (0x8000 ≤ a % 0x10000) && s.lex.index.any (fun p => p.1 == a / 0x10000))

/-- An area of an entry covers a range with an access (R310, R311). -/
def Swd.granted (d : Swd) (entry a n : Nat) (write : Bool) : Bool :=
  d.areas.any (fun r => r.entry == entry && decide (r.base ≤ a) && decide (a + n ≤ r.base + r.size) && (!write || r.write))

/-- A descriptor's tussock. -/
def Dma.tus (d : Dma) : Nat := 32 * field (d.words.getD 3 0) 31 27 + field (d.words.getD 3 0) 26 22

/-- Its memory address, its lines, whether it writes memory (R310). -/
def Dma.addr (d : Dma) : Nat := (d.words.getD 0 0).toNat + 2 ^ 32 * (d.words.getD 1 0).toNat
/-- Lines it moves. -/
def Dma.lines (d : Dma) : Nat := field (d.words.getD 2 0) 31 16 + 1
/-- DIR. -/
def Dma.out (d : Dma) : Bool := bitOf (d.words.getD 2 0) 15

/-- A descriptor is performed only so (R310). -/
def State.dmaOk (s : State) (d : Dma) : Bool :=
  d.tus < 640 && (s.tus d.tus).entry == d.entry && decide (field (d.words.getD 3 0) 18 9 + d.lines ≤ 1024)
  && d.addr % 64 == 0 && s.swd.granted d.entry d.addr (64 * d.lines) d.out

/-- One line of a descriptor (R310). -/
def State.dmaLine (s : State) (d : Dma) (i : Nat) : State :=
  let w3 := d.words.getD 3 0
  let line := field w3 18 9 + i
  let a := d.addr + 64 * i
  let local_ := field (d.words.getD 4 0) 11 0
  if d.out then
    let bytes := (s.tus d.tus).sram.readBytes (field w3 21 19 * 65536 + line * 64) 64
    if s.lexWriteOk a then { s with swm := s.swm.writeBytes a bytes }
    else s.report 0xE01 0x41 (a / 0x10000)
  else
    let stream := if local_ ≤ 0x1BF then 0x1C0 * d.entry + local_ else local_
    let bytes := s.swm.readBytes a 64
    let flit := fun h : Bool => (⟨field w3 31 27, field w3 26 22, field w3 21 19, line, h, 0, 0xFF, stream,
      field (d.words.getD 6 0) 15 0, flitWords 8 (bytes.drop (if h then 32 else 0))⟩ : Flit)
    (s.fromPort (flit false)).fromPort (flit true)

/-! ### Registers (R297, R298, R322, R323) -/

/-- A tussock's registers answer (R297): not while it is failed, in reset or unpowered. -/
def State.tusAnswers (s : State) (t : Nat) : Bool := !s.inRst .swardPower && !s.inRst .planning && !s.swd.shed && !(s.tus t).closed

/-- The registers of a tussock. -/
def State.readTus (s : State) (t o : Nat) : Option Word :=
  let k := s.tus t
  match o with
  | 0x00 => some (pack [(29, 3, k.st.code), (26, 3, k.granted), (23, 3, k.requested), (4, 4, k.cause)])
  | 0x04 => some (k.seed.setWidth 32)
  | 0x08 => some (lookupD s.latches (0x01000008 + t * 0x4000) 0)
  | 0x0C => some (pack [(16, 8, k.starve.toNat), (0, 8, k.busy.toNat)])
  | 0x10 => some (pack [(16, 16, k.corrected), (0, 8, k.uncorr.toNat)])
  | 0x14 => some (pack [(3, 1, b2n k.arith.bank7), (2, 1, b2n k.arith.reserved), (1, 1, b2n k.arith.invalid),
      (0, 1, b2n k.arith.overflow)])
  | 0x18 => some (pack [(28, 4, k.entry), (25, 3, k.role), (21, 4, k.variant)])
  | 0x1C => some k.grant
  | 0x30 => some k.rejects
  | o =>
    if 0x20 ≤ o ∧ o < 0x30 ∧ o % 4 = 0 then k.share[(o - 0x20) / 4]?
    else if 0x40 ≤ o ∧ o < 0x80 ∧ o % 4 = 0 then k.cnt[(o - 0x40) / 4]?
    else if 0x80 ≤ o ∧ o < 0xC0 ∧ o % 4 = 0 then k.bind_[(o - 0x80) / 4]?
    else none

/-- A tussock is in RUN, a change of step of it apart (R273, R318). -/
def Tus.inRun (k : Tus) : Bool :=
  k.st == .run || k.st == .gated || (k.st == .clockStop && (k.change.map StepChange.back) == some .run)

/-- A register write that R273 and R318 take only outside RUN. -/
def State.tusWrite (s : State) (t o : Nat) (f : Tus → Tus) : State :=
  if (s.tus t).inRun then s.report 0x200 0x01 (0x01000000 + t * 0x4000 + o) 4 else s.updTus t f

/-- Writes to the registers of a tussock. -/
def State.writeTus (s : State) (t o : Nat) (v : Word) : State :=
  let range := s.report 0x200 0x02 (0x01000000 + t * 0x4000 + o)
  match o with
  | 0x04 => s.tusWrite t o (fun k => { k with seed := (k.seed &&& 0xFFFFFFFF00000000#64) ||| v.setWidth 64 })
  | 0x08 =>
    let s := if (s.tus t).inRun then s else { s with latches := insertKey s.latches (0x01000008 + t * 0x4000) v }
    s.tusWrite t o (fun k => { k with seed := (k.seed &&& 0xFFFFFFFF#64) ||| (v.setWidth 64 <<< 32) })
  | 0x0C => s.updTus t (fun k => { k with starve := k.starve &&& ~~~((v >>> 16).setWidth 8), busy := k.busy &&& ~~~(v.setWidth 8) })
  | 0x10 => s.updTus t (fun k => { k with uncorr := k.uncorr &&& ~~~(v.setWidth 8) })
  | 0x14 => s.updTus t (fun k => { k with arith := ⟨k.arith.overflow && !bitOf v 0, k.arith.invalid && !bitOf v 1,
      k.arith.reserved && !bitOf v 2, k.arith.bank7 && !bitOf v 3⟩ })
  | 0x18 =>
    if (8 ≤ field v 31 28 ∧ field v 31 28 ≤ 14) ∨ 4 < field v 27 25 then range
    else s.tusWrite t o (fun k => { k with entry := field v 31 28, role := field v 27 25, variant := field v 24 21 })
  | 0x1C => s.tusWrite t o (fun k => { k with grant := v })
  | o =>
    if 0x20 ≤ o ∧ o < 0x30 then
      if field v 11 0 < 0xE00 ∨ 0xEFF < field v 11 0 then range
      else s.tusWrite t o (fun k => { k with share := k.share.set ((o - 0x20) / 4) (v &&& 0xC0000FFF#32) })
    else if 0x80 ≤ o ∧ o < 0xC0 then
      s.tusWrite t o (fun k => { k with bind_ := k.bind_.set ((o - 0x80) / 4) (v &&& 0x1FFF#32) })
    else s

/-- Bits of a row in a register of the periphery. -/
def rowBits (l : List Nat) (row : Nat) : Word := pack ((List.range 32).map (fun c => (c, 1, b2n (l.contains (32 * row + c)))))

/-- Tussocks that are FAILED. -/
def Swd.failedList (d : Swd) : List Nat := (List.range 640).filter (fun t => d.failed (t / 32) (t % 32))

/-- Mean power of the die over the last 1 ms, 0.1 W (R292). -/
def Swd.meanPower (d : Swd) : Rat := meanRat d.power

/-- The registers of the sward periphery. -/
def State.readSwd (s : State) (o : Nat) : Option Word :=
  let d := s.swd
  let bits := fun (lo : Nat) (p : Entry → Bool) =>
    (List.range 8).map (fun i => ((lo + i, 1, b2n (p (d.entries.getD i ⟨0, 0, 0, 0⟩))) : Nat × Nat × Nat))
  match o with
  | 0x00 => some (pack [(31, 1, b2n d.powered), (30, 1, b2n d.shed), (29, 1, b2n d.meshUp), (10, 3, d.gov),
      (0, 10, d.failedList.length)])
  | 0x04 => some (pack [(0, 3, d.ceil)])
  | 0x08 => some (pack [(16, 16, if s.cfg.prog.isSome then s.fldN .swardPowerLimit else 0), (0, 16, sat 65535 (natFloor d.meanPower))])
  | 0x0C => some d.govEvents
  | 0x200 => some (pack ([(31, 1, b2n (d.loadOwed || d.goOwed)), (30, 1, b2n d.running), (29, 1, b2n d.requiredFail)]
      ++ bits 8 (fun e => decide (2 ≤ e.result)) ++ bits 0 (fun e => e.result == 1)))
  | 0x204 => some d.reject
  | o =>
    if 0x40 ≤ o ∧ o < 0x90 ∧ o % 4 = 0 then some (rowBits d.lock ((o - 0x40) / 4))
    else if 0x240 ≤ o ∧ o < 0x260 ∧ o % 4 = 0 then
      (d.entries[(o - 0x240) / 4]?).map (fun e => pack [(28, 4, e.result), (25, 3, e.role), (21, 4, e.variant), (11, 10, e.tussocks)])
    else none

/-- SWD_LOCK_i is at 0x40 + 4i, SWD_FAILED_i at 0x80 + 4i and SWD_CLK_FAULT_i at 0xC0 + 4i for rows 0 to 19 (R298): the
ranges of the first two overlap from row 16, and an address is read as the register that begins last (log entry 20). -/
def State.readSwdRows (s : State) (o : Nat) : Option Word :=
  if 0xC0 ≤ o ∧ o < 0x110 ∧ o % 4 = 0 then some (rowBits s.swd.clkFault ((o - 0xC0) / 4))
  else if 0x80 ≤ o ∧ o < 0xC0 ∧ o % 4 = 0 then some (rowBits s.swd.failedList ((o - 0x80) / 4))
  else s.readSwd o

/-- A write of SWD_DVFS (R290, R298). -/
def State.writeCeil (s : State) (v : Word) : State :=
  if 4 < field v 2 0 then s.report 0x200 0x02 0x01E00004 else { s with swd := { s.swd with ceil := field v 2 0 } }

/-- Writes to the registers of the sward periphery. -/
def State.writeSwd (s : State) (o : Nat) (v : Word) : State :=
  if o = 0x04 then s.writeCeil v
  else if 0xC0 ≤ o ∧ o < 0x110 then
    { s with swd := { s.swd with clkFault := s.swd.clkFault.filter (fun t =>
        !(t / 32 == (o - 0xC0) / 4 && bitOf v (t % 32))) } }
  else s

end Sys2Proof.Machine
end

