-- ==== Sys2Proof/Machine/FurzeOps.lean ====
section
/-! DEFINITION. The Furze island's shared operations (chapter 11): clauses and their judgement, the partner table, grants and
the slot map, admission, and the downstream queue. -/
namespace Sys2Proof.Machine

/-! ### Superframes and clauses -/

/-- Ring time on the Furze island's copy (R66, R331). -/
def State.furzeRing (s : State) : Nat := s.rings.furze.now s.now

/-- The superframe count on the Furze island's copy (R331). -/
def State.furzeSf (s : State) : Nat := sfOf s.furzeRing

/-- MOOD, TENSE and TREF_KIND of FORM (R337). -/
def formOf (mood tense kind : Nat) : Nat := 64 * mood + 16 * tense + 8 * kind

/-- The mood of a clause. -/
def moodOf (c : Clause) : Nat := c.form / 64 % 4
/-- The tense of a clause. -/
def tenseOf (c : Clause) : Nat := c.form / 16 % 4
/-- TREF_KIND of a clause. -/
def kindOf (c : Clause) : Nat := c.form / 8 % 2

/-- Bytes 0 to 27 of a clause, big-endian (R337). -/
def clauseBody (c : Clause) : List Byte :=
  [BitVec.ofNat 8 c.subject, BitVec.ofNat 8 c.addressee, BitVec.ofNat 8 c.form, BitVec.ofNat 8 c.verb] ++ beBytes 4 c.tref
  ++ [BitVec.ofNat 8 c.lead, BitVec.ofNat 8 c.epoch] ++ beBytes 2 c.seq ++ c.object

/-- The 32 bytes of a clause (R337). -/
def clauseBytes (c : Clause) : List Byte := clauseBody c ++ c.tag

/-- A group of 32 zero bytes is fill (R329). -/
def clauseFill (c : Clause) : Bool := (clauseBytes c).all (fun b => b == 0)

/-- `n` object bytes from byte `o`, as a big-endian number (R4, R340). -/
def objN (c : Clause) (o n : Nat) : Nat := ofBe ((c.object.drop o).take n)

/-- Mood, tenses and TREF_KIND that R339 allows an upstream verb. -/
def verbRule : Nat → Option (Nat × List Nat × Nat)
  | 0x01 => some (0, [0, 1, 2], 0)
  | 0x02 => some (0, [0, 1, 2], 0)
  | 0x03 => some (0, [1], 1)
  | 0x04 => some (0, [1], 0)
  | 0x05 => some (0, [0], 1)
  | 0x06 => some (3, [1], 1)
  | 0x07 => some (3, [1], 1)
  | 0x08 => some (3, [2], 1)
  | 0x09 => some (0, [2], 1)
  | 0x0A => some (0, [1], 1)
  | _ => none

/-- An upstream clause is well formed (R339, R343): JOIN and HELLO carry SUBJECT 255, and every clause is addressed to 0. -/
def formOk (c : Clause) : Bool :=
  match verbRule c.verb with
  | none => false
  | some (m, ts, k) => c.form % 8 == 0 && moodOf c == m && ts.contains (tenseOf c) && kindOf c == k && c.addressee == 0
      && ((c.verb != 0x06 && c.verb != 0x0A) || c.subject == 255)

/-- KEYX with REKEY clear is an enrolment KEYX (R340). -/
def enrolKeyx (c : Clause) : Bool := c.verb == 0x07 && decide (objN c 0 1 < 128)

/-- A clause is stale (R341), its burst having begun in superframe `sf`. -/
def staleAt (c : Clause) (sf : Nat) : Bool :=
  let d := diff32 c.tref sf
  let near := fun (n : Int) => decide (-n ≤ d) && decide (d ≤ n)
  (kindOf c == 1 && tenseOf c == 1 && !near 1) || (kindOf c == 1 && tenseOf c == 0 && decide (0 < d))
  || (tenseOf c == 2 && (if c.verb = 0x01 ∨ c.verb = 0x02 then decide (diff32 (sfOf (objN c 6 8)) sf ≤ 0) else decide (d ≤ 0)))
  || ((c.verb == 0x06 || enrolKeyx c) && !near 8)

/-! ### Events, partners -/

/-- Set bit `i` of FRZ_EVENT (R367). -/
def State.frzEvent (s : State) (i : Nat) : State := { s with frz := { s.frz with event := setBit s.frz.event i } }

/-- The code of a partner's state (R367). -/
def pCode : PState → Nat
  | .free => 0 | .enrolling => 1 | .active => 2 | .silent => 3 | .heldId => 4 | .revoked => 5

/-- A partner, if its id is not FREE. -/
def State.part (s : State) (id : Nat) : Option Partner := s.frz.parts.lookup id

/-- It is ACTIVE or SILENT. -/
def pEnrolled (p : Partner) : Bool := p.state == .active || p.state == .silent

/-- It is ENROLLING, ACTIVE or SILENT. -/
def pLive (p : Partner) : Bool := p.state == .enrolling || pEnrolled p

/-- Ids ACTIVE or SILENT, ascending. -/
def State.enrolled (s : State) : List Nat :=
  (List.range 255).filter (fun id => match s.part id with | some p => pEnrolled p | none => false)

/-- A member's segment, as its newest LINK_STATE record gives it. -/
def State.segmentOf (s : State) (m : Nat) : Option Nat :=
  if m = s.member then some (s.lfldN .topologySegment) else (s.htl.recs.find? (fun r => r.member == m)).map LinkRec.segment

/-- Present members of this segment but this one. -/
def State.listeners (s : State) : List Nat :=
  s.htl.present.filter (fun m => m != s.member && s.segmentOf m == some (s.lfldN .topologySegment))

/-- A SPEAKER_STATE record to the segment (R334, R419). -/
def State.shareBytes (s : State) (b : List Byte) : State := s.htlSend 1 1 0xFE (0x03 :: b)

/-- The record of a partner (R334): state, token, tray group, keys, epoch and grants. -/
def partnerBytes (id : Nat) (p : Partner) : List Byte :=
  [1, BitVec.ofNat 8 id, BitVec.ofNat 8 (pCode p.state)] ++ beBytes 8 p.token ++ beBytes 2 p.group
  ++ [BitVec.ofNat 8 p.epoch, BitVec.ofNat 8 p.mcs] ++ p.up ++ p.down
  ++ p.grants.flatMap (fun g => [BitVec.ofNat 8 g.index, BitVec.ofNat 8 g.slot, BitVec.ofNat 8 g.period, BitVec.ofNat 8 g.phase]
      ++ beBytes 4 (g.start.getD 0))

/-- What of a partner R334 shares has changed. -/
def pChanged (a b : Partner) : Bool :=
  a.state != b.state || a.token != b.token || a.group != b.group || a.epoch != b.epoch || a.up != b.up || a.down != b.down
  || a.grants != b.grants

/-- A partner through `f`; the speaker shares what changes (R334). -/
def State.updPart (s : State) (id : Nat) (f : Partner → Partner) : State :=
  match s.part id with
  | none => s
  | some p =>
    let s := { s with frz := { s.frz with parts := updKey s.frz.parts id f } }
    if s.frz.speaking && pChanged p (f p) then s.shareBytes (partnerBytes id (f p)) else s

/-- A partner's record is set. -/
def State.setPart (s : State) (id : Nat) (p : Partner) : State :=
  let s := { s with frz := { s.frz with parts := insertKey s.frz.parts id p } }
  if s.frz.speaking then s.shareBytes (partnerBytes id p) else s

/-- An id becomes FREE. -/
def State.freePart (s : State) (id : Nat) : State :=
  let s := { s with frz := { s.frz with parts := eraseKey s.frz.parts id } }
  if s.frz.speaking then s.shareBytes [2, BitVec.ofNat 8 id] else s

/-! ### The downstream queue (R353) -/

/-- Queue clauses downstream; only the speaker transmits (R336). -/
def State.push (s : State) (l : List DownItem) : State :=
  if s.frz.speaking then { s with frz := { s.frz with down := s.frz.down ++ l } } else s

/-- 16 bytes of object. -/
def obj16 (b : List Byte) : List Byte := (b ++ List.replicate 16 0).take 16

/-- GRANT (R340). -/
def State.grantItem (s : State) (id : Nat) (g : Grant) (key : DKey) : DownItem :=
  ⟨5, id, formOf 1 2 1, 0x22, g.start, g.start, key,
    obj16 ([BitVec.ofNat 8 g.index, BitVec.ofNat 8 g.slot, BitVec.ofNat 8 g.period, BitVec.ofNat 8 g.phase,
      BitVec.ofNat 8 g.scheme, BitVec.ofNat 8 s.frz.mapVersion] ++ beBytes 2 g.duration)⟩

/-- KEY: the next broadcast key under a partner's K_down (R340, R533). -/
def keyItem (id : Nat) (p : Partner) (key : List Byte) : DownItem :=
  ⟨5, id, formOf 1 1 1, 0x27, none, none, .down, obj16 (Config.aesBlock p.down key)⟩

/-- KEYX parts 0 to 2 of a public key (R340). -/
def keyxItems (id : Nat) (public_ : List Byte) (rekey : Bool) (key : DKey) : List DownItem :=
  (List.range 3).map (fun i => ⟨5, id, formOf 3 1 1, 0x07, none, none, key,
    obj16 (BitVec.ofNat 8 (i + 128 * b2n rekey) :: (public_.drop (15 * i)).take 15)⟩)

/-! ### Grants and the slot map (R350, R351) -/

/-- A grant is in force in superframe `n`. -/
def grantOn (g : Grant) (n : Nat) : Bool :=
  (match g.start with | none => false | some t => decide (0 ≤ diff32 n t)) && g.period != 0
  && (match g.stop with | none => true | some t => decide (diff32 n t < 0))

/-- It gives its slot in superframe `n`. -/
def grantGives (g : Grant) (n : Nat) : Bool := grantOn g n && n % g.period == g.phase

/-- The partner that holds slot Aj in superframe `n`. -/
def State.slotHolder (s : State) (j n : Nat) : Option Nat :=
  (s.frz.parts.find? (fun p => p.2.grants.any (fun g => g.slot == j && grantGives g n))).map Prod.fst

/-- Standing grants (INDEX 0) that are not to stop: slot and phase. -/
def State.pairsTaken (s : State) : List (Nat × Nat) :=
  s.frz.parts.flatMap (fun p => (p.2.grants.filter (fun g => g.index == 0 && g.stop.isNone)).map (fun g => (g.slot, g.phase)))

/-- One more map change, taking effect at `eff` (R351). -/
def State.mapStep (s : State) (eff : Nat) : State :=
  let s := { s with frz := { s.frz with mapVersion := (s.frz.mapVersion + 1) % 256, mapPending := eff :: s.frz.mapPending } }
  if s.frz.speaking then s.shareBytes [3, BitVec.ofNat 8 s.frz.mapVersion, BitVec.ofNat 8 s.frz.period] else s

/-- Ids that hold or are to hold a standing grant. -/
def State.standing (s : State) (extra : List Nat) : List Nat :=
  (List.range 255).filter (fun id => extra.contains id || (match s.part id with
    | some p => pEnrolled p || p.grants.any (fun g => g.index == 0 && g.stop.isNone)
    | none => false))

/-- The period changes: every partner is granted anew, all at one superframe at least 8 after the first is sent (R351). -/
def State.regrant (s : State) (period : Nat) (extra : List Nat) : State :=
  let ids := s.standing extra
  let eff := (s.furzeSf + 10 + ids.length) % 2 ^ 32
  let s := ({ s with frz := { s.frz with period := period } }).mapStep eff
  ((List.range ids.length).zip ids).foldl (fun (s : State) p =>
    match s.part p.2 with
    | none => s
    | some q =>
      let g : Grant := ⟨0, p.1 / period, period, p.1 % period, q.mcs, some eff, 0, none⟩
      let s := s.updPart p.2 (fun q => { q with grants := q.grants.map (fun o =>
        if o.index = 0 ∧ o.stop.isNone then { o with stop := some eff } else o) ++ [g] })
      s.push [s.grantItem p.2 g .down]) s

/-- The map has changed: the period halves where R351 allows it. -/
def State.mapChange (s : State) (eff : Nat) : State :=
  let n := s.enrolled.length
  let p := s.frz.period / 2
  if 1 < s.frz.period ∧ (n + p - 1) / p ≤ s.rfldN .furzeUpSlots then s.regrant p [] else s.mapStep eff

/-- A partner's standing grant (R351): the lowest free pair of slot and phase; with none free the period doubles. -/
def State.addStanding (s : State) (id : Nat) : State :=
  let taken := s.pairsTaken
  let pairs := (List.range (s.rfldN .furzeUpSlots)).flatMap (fun j => (List.range s.frz.period).map (fun h => (j, h)))
  match pairs.find? (fun q => !taken.contains q) with
  | none => if s.frz.period < 8 then s.regrant (2 * s.frz.period) [id] else s
  | some (j, h) =>
    let g : Grant := ⟨0, j, s.frz.period, h, 0, none, 0, none⟩
    let s := s.mapStep ((s.furzeSf + 2) % 2 ^ 32)
    (s.updPart id (fun p => { p with grants := p.grants ++ [g] })).push [s.grantItem id g .down]

/-- Every grant of a partner ends two superframes on, as a map change (R349, R358). -/
def State.revokeGrants (s : State) (id : Nat) : State :=
  let eff := (s.furzeSf + 2) % 2 ^ 32
  (s.updPart id (fun p => { p with grants := (p.grants.filter (fun g => g.start.isSome)).map (fun g =>
    if g.stop.isNone then { g with stop := some eff } else g) })).mapChange eff

/-- A free slot for an enrolment grant (R351): the highest that no grant uses, one slot at least staying downstream. -/
def State.enrolSlot (s : State) : Option Nat :=
  let used := s.frz.parts.flatMap (fun p => (p.2.grants.filter (fun g => g.stop.isNone || g.index == 1)).map Grant.slot)
  ((List.range 35).map (fun i => 35 - i)).find? (fun j => !used.contains j)

/-! ### Ends of an enrolment -/

/-- A partner leaves its concord group (R368). -/
def State.concLeave (s : State) (id : Nat) : State :=
  { s with ccd := { s.ccd with parts := s.ccd.parts.filter (fun p => p.id != id) } }

/-- What ends with an enrolment: keys, clauses waiting for it, its group, its reports to the lexicon. -/
def State.endEnrolment (s : State) (id : Nat) (st : PState) : State :=
  let s := { s with frz := { s.frz with down := s.frz.down.filter (fun i => i.dst != id) } }
  let s := s.revokeGrants id
  let s := s.updPart id (fun p => { p with
    state := st, up := [], down := [], old := none, enrolKey := [], ephemeral := [], parts := [], rekeying := false
    awaiting := [], waitFor := [], leaveAt := none, heldAt := s.now })
  (s.concLeave id).phaseForget id none

/-- The speaker ends an enrolment by EXPEL with a reason (R349, R533). -/
def State.expelPart (s : State) (id reason : Nat) : State :=
  match s.part id with
  | none => s
  | some p =>
    if !s.frz.speaking ∨ !pLive p then s else
    let item : DownItem := ⟨6, id, formOf 1 1 1, 0x28, none, none, .raw p.down p.epoch, obj16 [BitVec.ofNat 8 reason]⟩
    let s := (s.endEnrolment id .revoked).push [item, item, item]
    ({ s with ids := { s.ids with rotationOwed := true } }).frzEvent 5

/-! ### Admission (R362 to R364) -/

/-- ADMIT_OPEN (R363). -/
def State.admitOpen (s : State) : Bool := s.aon.mode == Mode.fallow || s.aon.mode == Mode.conducting

/-- ENROL_OPEN (R345). -/
def State.enrolOpen (s : State) : Bool :=
  s.rfldN .furzeEnrolOpen == 1
  && (List.range 254).any (fun i => match s.part (i + 1) with | none => true | some p => p.state == .heldId)
  && decide ((s.frz.parts.filter (fun p => pLive p.2)).length < 8 * s.rfldN .furzeUpSlots)

/-- A booking holds its PEAK in superframe `n`. -/
def holdsAt (b : Booking) (n : Nat) : Bool :=
  match b.at_ with | none => false | some t => decide (0 ≤ diff32 n t) && decide (diff32 n t < b.duration)

/-- Sum of PEAK of the bookings in progress in superframe `n`, in 10 W. -/
def peakAt (l : List Booking) (n : Nat) : Nat := sumNat ((l.filter (fun b => holdsAt b n)).map Booking.peak)

/-- The strangers' share of `furze.inrush_kw`, in 10 W (R361, R362). -/
def State.strangerShare (s : State) : Nat := s.frz.strangers.length * s.rfldN .furzeStrangerStep * 10

/-- `furze.inrush_kw` in 10 W. -/
def State.inrush (s : State) : Nat := 100 * s.rfldN .furzeInrushKw

/-- A start of `peak` for `duration` may begin in superframe `t` under the allowance (R362). The sum rises only where a
booking begins, so those superframes and `t` decide. -/
def State.allows (s : State) (l : List Booking) (peak duration t : Nat) : Bool :=
  let points := t :: (l.filterMap Booking.at_).filter (fun u => decide (0 < diff32 u t) && decide (diff32 u t < duration))
  points.all (fun n => decide (peakAt l n + peak + s.strangerShare ≤ s.inrush))

/-- The superframe of the first two conditions alone, and that of all three (R362, R364). -/
def State.findStart (s : State) (l : List Booking) (b : Booking) : Nat × Option Nat :=
  let now2 := (b.taken + 2) % 2 ^ 32
  let lo := if 0 ≤ diff32 b.tref now2 then b.tref else now2
  let free := fun (t : Nat) => !l.any (fun x => x.at_ == some t)
  let span := l.foldl (fun m x => match x.at_ with
    | none => m
    | some t => max m ((diff32 t lo).toNat + x.duration)) 0
  let cand := (List.range (span + l.length + 2)).map (fun i => (lo + i) % 2 ^ 32)
  ((cand.find? free).getD lo, cand.find? (fun t => free t && s.allows l b.peak b.duration t))

/-- ADMIT (R340): TREF, SEQ of the request, CANCEL, REFUSED, PEAK, DURATION. -/
def admitItem (id tref seq peak duration : Nat) (cancel refused : Bool) : DownItem :=
  ⟨3, id, formOf 1 2 1, 0x26, some tref, some tref, .down,
    obj16 (beBytes 2 seq ++ [BitVec.ofNat 8 (b2n cancel + 2 * b2n refused)] ++ beBytes 2 peak ++ beBytes 2 duration)⟩

/-- The bookings as a SPEAKER_STATE record (R334). -/
def State.shareBookings (s : State) : State :=
  if !s.frz.speaking then s else
  s.shareBytes (4 :: s.frz.bookings.flatMap (fun b =>
    [BitVec.ofNat 8 b.id] ++ beBytes 2 b.seq ++ beBytes 2 b.peak ++ beBytes 2 b.duration ++ beBytes 4 (b.at_.getD 0)))

/-- A request is booked and answered (R362, R363): with ADMIT_OPEN at 0 it is kept. -/
def State.book (s : State) (b : Booking) : State :=
  let others := s.frz.bookings
  if !s.admitOpen then
    { s with frz := { s.frz with bookings := others ++ [{ b with at_ := none, bridged := true, base := (s.findStart others b).1 }] } }
  else
    match s.findStart others b with
    | (_, none) => s
    | (base, some t) =>
      let base := if b.bridged then b.base else base
      ({ s with frz := { s.frz with bookings := others ++ [{ b with at_ := some t, base := base }] } }).push
        [admitItem b.id t b.seq b.peak b.duration false false]

/-- ADMIT_OPEN changes (R363): CANCEL for every booking not begun, or the requests booked again in order of acceptance. -/
def State.admitUpdate (s : State) : State :=
  let on := s.admitOpen
  if on = s.frz.admitting then s else
  let s := { s with frz := { s.frz with admitting := on } }
  if !s.frz.speaking then s
  else if on then
    let again := s.frz.bookings.filter (fun b => b.at_.isNone)
    let s := { s with frz := { s.frz with bookings := s.frz.bookings.filter (fun b => b.at_.isSome) } }
    let n := s.furzeSf
    (again.foldl (fun (s : State) b => s.book { b with taken := n }) s).shareBookings
  else
    let off := s.frz.bookings.filter (fun b => !b.begun && b.at_.isSome)
    let s := s.push (off.map (fun b => admitItem b.id (b.at_.getD 0) b.seq b.peak b.duration true false))
    ({ s with frz := { s.frz with bookings := s.frz.bookings.map (fun (b : Booking) =>
      if b.begun then b else { b with at_ := none, bridged := true }) } }).shareBookings

/-- A DELAY entry (R401). -/
def delayEntry (id : Nat) (bridged : Bool) : LedgerEntry := ⟨4, if bridged then 10 else 8, 0, false, false, id, 0, 0, 0⟩

/-- The delay of a booking in superframe `n` is entered in the ledger or ends there (R364, R401). -/
def State.delayLedger (s : State) (n : Nat) (b : Booking) : State :=
  let due := !b.begun && decide (0 ≤ diff32 n b.base) && (match b.at_ with | none => true | some t => decide (diff32 n t < 0))
  let mine := fun (e : LedgerEntry) => e.kind == 4 && e.tag == b.id
  let open_ := s.ccd.ledger.any mine
  let e := delayEntry b.id b.bridged
  if due then
    if s.ccd.ledger.any (fun x => mine x && x.reason == e.reason) then s
    else (if open_ then s.closeLedgers mine else s).openLedger e
  else if open_ then s.closeLedgers mine else s

/-! ### Judgement of a clause (R343) -/

/-- Keys and replay state under which a clause of a partner is judged: key, highest SEQ, SEQ and TAG seen, and whether it is
the previous epoch. -/
def State.rxKey (s : State) (p : Partner) (c : Clause) (sf : Nat) : Option (List Byte × Nat × List (Nat × List Byte) × Bool) :=
  if p.state = .enrolling ∧ enrolKeyx c then some (p.enrolKey, p.high, p.seen, false)
  else if p.up ≠ [] ∧ c.epoch = p.epoch then some (p.up, p.high, p.seen, false)
  else match p.old with
    | some o => if c.epoch = o.num ∧ diff32 sf o.since ≤ s.rfldN .furzeEpochGrace then some (o.up, o.high, o.seen, true) else none
    | none => none

/-- The tag of a clause verifies under a key (R337, R342). -/
def tagOk (key : List Byte) (c : Clause) : Bool := c.tag == (Config.cmac key (clauseBody c)).take 4

/-- SEQ is fresh (R343). -/
def seqFresh (high : Nat) (seen : List (Nat × List Byte)) (seq : Nat) : Bool :=
  let d := (seq + 65536 - high % 65536) % 65536
  (decide (1 ≤ d) && decide (d < 32768)) || (decide ((high + 65536 - seq % 65536) % 65536 ≤ 64) && !seen.any (fun x => x.1 == seq))

/-- The verdict of R343 on an upstream clause received in superframe `sf`. -/
def State.clauseVerdict (s : State) (c : Clause) (sf : Nat) : Nat :=
  if !formOk c then 4
  else if c.subject = 255 then
    if c.verb ≠ 0x06 ∧ c.verb ≠ 0x0A then 6
    else if c.verb = 0x06 ∧ !s.nv.trust.enrol.any (fun k => tagOk k c) then 1
    else if staleAt c sf then 3
    else if s.frz.recent.any (fun x => x.2 == c) then 7
    else 0
  else
    match s.part c.subject with
    | none => 5
    | some p =>
      if !pLive p then 5 else
      match s.rxKey p c sf with
      | none => 1
      | some (key, high, seen, _) =>
        if !tagOk key c then 1
        else if staleAt c sf then 3
        else if seen.contains (c.seq, c.tag) then 7
        else if !seqFresh high seen c.seq then 2
        else 0

/-- A stranger is heard (R360): by TOKEN, at most 64. -/
def State.stranger (s : State) (token : Nat) : State :=
  let known := s.frz.strangers.any (fun x => x.1 == token)
  if !known && decide (64 ≤ s.frz.strangers.length) then s
  else
    let s := { s with frz := { s.frz with strangers := insertKey s.frz.strangers token s.now } }
    if known then s else s.frzEvent 7

/-- A partner's TAG verdict is counted, and more than `furze.tag_fail_max` in a second reported (R343). -/
def State.tagFail (s : State) (id : Nat) : State :=
  let second := s.opMs / 1000
  match s.part id with
  | none => s
  | some p =>
    let n := (if p.tagFails.2 = second then p.tagFails.1 else 0) + 1
    let s := s.updPart id (fun p => { p with tagFails := (n, second) })
    if n = s.rfldN .furzeTagFailMax + 1 then (s.frzEvent 6).report 0x700 0x50 id else s

/-- A rejected clause (R343, R360). -/
def State.rejectClause (s : State) (c : Clause) (slot v : Nat) : State :=
  let s := if v = 7 then s else
    { s with frz := { s.frz with reject := s.frz.reject + 1, lastReject := (v, c.subject, c.verb, slot) } }
  if v = 6 ∨ (v = 1 ∧ c.subject = 255) then s.stranger (objN c 0 8)
  else if v = 1 then s.tagFail c.subject
  else s

/-- SEQ of an accepted clause enters the replay state (R343). -/
def rxTake (high : Nat) (seen : List (Nat × List Byte)) (c : Clause) : Nat × List (Nat × List Byte) :=
  let d := (c.seq + 65536 - high % 65536) % 65536
  let high := if 1 ≤ d ∧ d < 32768 then c.seq else high
  (high, ((c.seq, c.tag) :: seen).filter (fun x => decide ((high + 65536 - x.1 % 65536) % 65536 ≤ 64)))

/-- An accepted clause waits for the conductor fabric (R344): at most 512; a further one is discarded, counted and reported
once per second. -/
def State.enqueueAcc (s : State) (a : Acc) : State :=
  if s.frz.accepted.length < 512 then { s with frz := { s.frz with accepted := s.frz.accepted ++ [a] } }
  else
    let second := s.opMs / 1000
    let fresh := s.frz.dropSecond.1 != second
    let n := s.frz.dropSecond.2 + 1
    let s := ({ s with frz := { s.frz with dropped := s.frz.dropped + 1
                                           dropSecond := if fresh then (second, 0) else (second, n) } }).frzEvent 9
    if fresh then s.report 0x700 0x51 n else s

/-- The outcome of a contention slot (R332), kept for the next beacon; an accepted clause governs. -/
def State.outcome (s : State) (sf slot code : Nat) : State :=
  if slot < 1 ∨ 4 < slot then s else
  let old := s.frz.outcomes.find? (fun o => o.1 == sf && o.2.1 == slot)
  match old with
  | some o => if 0x8000 ≤ o.2.2 ∨ (code = 1 ∨ (code = 2 ∧ o.2.2 = 2)) then s else
      { s with frz := { s.frz with outcomes := (sf, slot, code) :: s.frz.outcomes.filter (fun o => !(o.1 == sf && o.2.1 == slot)) } }
  | none => { s with frz := { s.frz with
      outcomes := (sf, slot, code) :: s.frz.outcomes
      collided := if code = 1 then sat 65535 (s.frz.collided + 1) else s.frz.collided
      decoded := if 0x8000 ≤ code then sat 65535 (s.frz.decoded + 1) else s.frz.decoded } }

/-- The newest broadcast key: the one being distributed, or the one in use. -/
def State.newestKbc (s : State) : Option (List Byte) :=
  match s.ids.rotation with
  | some r => some r.key
  | none => s.ids.kbc

/-- A partner is heard: SILENT becomes ACTIVE and gets the newest broadcast key (R358, R533). -/
def State.heardPart (s : State) (id : Nat) : State :=
  match s.part id with
  | none => s
  | some p =>
    let s := s.updPart id (fun p => { p with missRun := 0, state := if p.state = .silent then .active else p.state })
    if p.state = .silent then
      match s.newestKbc with
      | some k => s.push [keyItem id p k]
      | none => s
    else s

/-- A clause is judged, and what is accepted goes on (R334, R336, R343, R344, R354). -/
def State.takeClause (s : State) (sf slot : Nat) (c : Clause) (relayed : Bool) : State :=
  let v := s.clauseVerdict c sf
  if v ≠ 0 then (if v = 7 then s.rejectClause c slot v else (s.rejectClause c slot v).outcome sf slot 2) else
  let s := { s with frz := { s.frz with
    rxOk := s.frz.rxOk + 1, valid := (sf, slot) :: s.frz.valid
    recent := if c.subject = 255 then (sf, c) :: s.frz.recent.filter (fun x => decide (diff32 sf x.1 ≤ 16)) else s.frz.recent } }
  let s := s.outcome sf slot (0x8000 + ofBe (c.tag.drop 2) % 0x8000)
  let s := match s.part c.subject with
    | none => s
    | some p =>
      let old := match s.rxKey p c sf with | some k => k.2.2.2 | none => false
      let s := s.updPart c.subject (fun p =>
        let r := rxTake p.high p.seen c
        if old then { p with old := p.old.map (fun (o : OldEpoch) =>
          { o with high := (rxTake o.high o.seen c).1, seen := (rxTake o.high o.seen c).2 }) }
        else { p with high := r.1, seen := r.2 })
      let s := s.heardPart c.subject
      if s.frz.speaking && (moodOf c == 3 || tenseOf c == 2) then
        { s with frz := { s.frz with ackDue := s.frz.ackDue ++ [(sf, c.subject, c.seq)] } }
      else s
  let s := if c.subject = 255 then s else s.deliver 3 (clauseBytes c)
  let s := if relayed then s else
    s.htlSend 1 1 0xFE (0x04 :: (beBytes 4 sf ++ [BitVec.ofNat 8 slot] ++ clauseBytes c))
  s.enqueueAcc ⟨sf, slot, c⟩

/-- The oldest accepted clause, when it is of a verb and the fabric can take it (R344). -/
def State.takeAcc (s : State) (verb : Nat) : Option (Acc × State) :=
  if s.inRst .fabric ∨ s.closed.contains .clauseUp then none else
  match s.frz.accepted with
  | [] => none
  | a :: l => if a.c.verb = verb then some (a, { s with frz := { s.frz with accepted := l } }) else none

/-! ### Modulation (R327, R352) -/

/-- Threshold of a scheme in dB (R327). -/
def mcsThreshold (m : Nat) : Rat := match m with | 0 => 6 | 1 => 9 | 2 => 13 | _ => 17

/-- The highest scheme of a partner's grant changes (R352). -/
def State.setScheme (s : State) (id m : Nat) : State :=
  match s.part id with
  | none => s
  | some p =>
    let s := if m < p.mcs then s.frzEvent 8 else s
    let s := s.updPart id (fun p => { p with mcs := m, raiseRun := 0, failRun := 0
                                             grants := p.grants.map (fun g => if g.index = 0 then { g with scheme := m } else g) })
    match p.grants.find? (fun g => g.index == 0 && g.stop.isNone) with
    | none => s
    | some g => s.push [s.grantItem id { g with scheme := m, start := none } .down]

/-- A decoded burst in a partner's slot: its SNR, and the change it calls for (R352). -/
def State.snrTake (s : State) (id : Nat) (snr : Rat) : State :=
  match s.part id with
  | none => s
  | some p =>
    let l := (snr :: p.snrs).take 16
    let m := meanRat l
    let top := min (p.caps % 4) (s.rfldN .furzeMcsMax)
    let run := if p.mcs < top ∧ mcsThreshold (p.mcs + 1) + (s.rfldN .furzeMcsMargin : Rat) / 2 ≤ m then p.raiseRun + 1 else 0
    let s := s.updPart id (fun p => { p with snrs := l, raiseRun := run, failRun := 0 })
    if !s.frz.speaking then s
    else if 16 ≤ run then s.setScheme id (p.mcs + 1)
    else if m < mcsThreshold p.mcs ∧ 0 < p.mcs then s.setScheme id (p.mcs - 1)
    else s

/-- A burst in a partner's slot shows energy and does not decode: two in a row lower the scheme (R352). -/
def State.burstFail (s : State) (id : Nat) : State :=
  match s.part id with
  | none => s
  | some p =>
    let s := s.updPart id (fun p => { p with failRun := p.failRun + 1, raiseRun := 0 })
    if s.frz.speaking ∧ 1 ≤ p.failRun ∧ 0 < p.mcs then s.setScheme id (p.mcs - 1) else s

/-! ### Registers (R367) -/

/-- ROLE of FRZ_STATUS. -/
def Frz.role (f : Frz) : Nat := if f.speaking then 2 else if f.speaker.isSome then 1 else 0

/-- SYNC of FRZ_STATUS: beaconing, or a beacon verified within the last 16 superframes. -/
def State.frzSync (s : State) : Bool :=
  s.frz.speaking || (match s.frz.beaconSf with | none => false | some n => decide (diff32 s.furzeSf n ≤ 16))

/-- Slots of standing grants in force. -/
def State.upSlots (s : State) (n : Nat) : Nat :=
  ((List.range 36).filter (fun j => s.frz.parts.any (fun p => p.2.grants.any (fun g => g.index == 0 && g.slot == j && grantOn g n)))).length

/-- The Furze registers (R367). -/
def State.readFrz (s : State) (o : Nat) : Option Word :=
  let f := s.frz
  let n := s.furzeSf
  match o with
  | 0x00 => some (pack [(30, 2, f.role), (24, 6, f.speaker.getD 0), (16, 8, sat 254 s.enrolled.length),
      (15, 1, b2n (f.speaking && s.admitOpen)), (14, 1, b2n (f.speaking && s.enrolOpen)), (13, 1, b2n s.frzSync),
      (7, 6, sat 63 f.strangers.length)])
  | 0x04 => some (BitVec.ofNat 32 n)
  | 0x08 => some (f.event.setWidth 32)
  | 0x0C => some (if f.role = 0 then 0 else
      pack [(24, 8, (f.mapVersion + 256 - (f.mapPending.filter (fun e => decide (0 < diff32 e n))).length) % 256),
        (16, 8, s.upSlots n), (12, 4, f.period), (0, 8, 36 - ((List.range 36).filter (fun j => (s.slotHolder j n).isSome)).length)])
  | 0x10 => some (pack [(24, 8, sat 255 f.bookings.length), (16, 8, f.lastBegan), (0, 16, sat 65535 (peakAt f.bookings n))])
  | 0x20 => some f.rxOk
  | 0x24 => some f.rxFail
  | 0x28 => some f.trunc
  | 0x2C => some f.reject
  | 0x30 => some f.relayIn
  | 0x34 => some f.dropped
  | 0x38 => some (pack [(16, 16, f.collided), (0, 16, f.decoded)])
  | 0x3C => some (pack [(28, 4, f.lastReject.1), (20, 8, f.lastReject.2.1), (12, 8, f.lastReject.2.2.1), (0, 12, f.lastReject.2.2.2)])
  | o =>
    if 0x404 ≤ o ∧ o < 0x7FC then some (match s.part ((o - 0x400) / 4) with
      | none => 0
      | some p => pack [(29, 3, pCode p.state), (27, 2, p.mcs), (24, 3, (p.grants.filter (fun g => grantOn g n)).length),
          (16, 8, sat 255 (natFloor (4 * meanRat p.snrs))), (0, 16, p.group)])
    else if 0x804 ≤ o ∧ o < 0xBFC then some (match s.part ((o - 0x800) / 4) with
      | none => 0
      | some p => pack [(24, 8, p.epoch), (0, 16, p.high)])
    else none

/-- Writes to the Furze registers: events clear where 1 is written. -/
def State.writeFrz (s : State) (o : Nat) (v : Word) : State :=
  if o = 8 then { s with frz := { s.frz with event := s.frz.event &&& ~~~(v.setWidth 10) } } else s

end Sys2Proof.Machine
end

