-- ==== Sys2Proof/Machine/ConcordOps.lean ====
section
/-! DEFINITION. Concord's shared operations (chapter 12): groups and members, requests and the governor, rounds, emergency
actions, rack caps and clipped slews, and the registers of the block. -/
namespace Sys2Proof.Machine

/-- Set bit `i` of CCD_EVENT (R406). -/
def State.ccdEvent (s : State) (i : Nat) : State := { s with ccd := { s.ccd with event := setBit s.ccd.event i } }

/-! ### Partners and groups (R368, R369) -/

/-- No action: cap 0, floor 0. -/
def Action.none_ : Action := ⟨0, 0, 0, 0, false⟩

/-- A partner as concord first sees it. -/
def CPart.new (id : Nat) : CPart := ⟨id, 0, 0, List.replicate 16 0, false, false, false, 0, none, none⟩

/-- What is kept of a partner. -/
def State.cpart (s : State) (id : Nat) : CPart := (s.ccd.parts.find? (fun p => p.id == id)).getD (CPart.new id)

/-- A partner's part through `f`. -/
def State.updCpart (s : State) (id : Nat) (f : CPart → CPart) : State :=
  let p := s.cpart id
  { s with ccd := { s.ccd with parts := f p :: s.ccd.parts.filter (fun q => q.id != id) } }

/-- A group, if it is local. -/
def State.group (s : State) (tag : Nat) : Option CGroup := s.ccd.groups.find? (fun g => g.tag == tag)

/-- A group through `f`. -/
def State.updGroup (s : State) (tag : Nat) (f : CGroup → CGroup) : State :=
  { s with ccd := { s.ccd with groups := s.ccd.groups.map (fun g => if g.tag = tag then f g else g) } }

/-- A group as it forms. -/
def CGroup.new (tag : Nat) : CGroup := ⟨tag, Action.none_, 0, none, [], 0, none, [], [], none, none, 0, 0⟩

/-- Members of a group on this segment (R368): ACTIVE or SILENT partners of its job. -/
def State.members (s : State) (tag : Nat) : List CPart :=
  s.ccd.parts.filter (fun p => p.job == tag && (match s.part p.id with | some q => pEnrolled q | none => false))

/-- A partner is SILENT. -/
def State.isSilent (s : State) (id : Nat) : Bool := match s.part id with | some q => q.state == .silent | none => false

/-- Members counted for acknowledgement (R371). -/
def State.readyMembers (s : State) (tag : Nat) : List CPart :=
  (s.members tag).filter (fun p => !p.joining && !p.heldOut && !s.isSilent p.id)

/-- Tags of the domain: of the local groups and of the records held (R369). -/
def State.domainTags (s : State) : List Nat :=
  (s.ccd.groups.map CGroup.tag ++ s.ccd.reqs.map (fun r => r.1.tag)).eraseDups

/-- A tag forms its group, or is refused at 4096 groups (R369). -/
def State.formGroup (s : State) (tag : Nat) : State :=
  if (s.group tag).isSome then s
  else if s.domainTags.contains tag ∨ s.domainTags.length < 4096 then
    { s with ccd := { s.ccd with groups := s.ccd.groups ++ [CGroup.new tag], refused := s.ccd.refused.filter (fun t => t != tag) } }
  else
    let hour := s.opMs / 3600000
    let fresh := s.ccd.refusedHour != some hour
    let s := ({ s with ccd := { s.ccd with refused := tag :: s.ccd.refused.filter (fun t => t != tag)
                                           refusedHour := some hour } }).ccdEvent 4
    if fresh then s.report 0x800 0x52 tag else s

/-- An accepted PHASE or STEP clause names a job (R368): the partner leaves another group, and joins this one as JOINING when
it stood before. -/
def State.concReport (s : State) (id job : Nat) : State :=
  if (s.cpart id).job = job then s else
  let stood := (s.group job).isSome
  let s := s.updCpart id (fun p => { p with job := job, joining := stood, heldOut := false, acked := false, defers := 0
                                            throttle := none, matched := none })
  if job = 0 then s else s.formGroup job

/-! ### Job steps -/

/-- START of a job step: the median over the members' newest reports of it (R375, R384). -/
def CGroup.startOf (g : CGroup) (b : Nat) : Option Nat :=
  let l := (g.steps.filter (fun n => n.step == b)).map StepNote.start
  if l.isEmpty then none else some (median l)

/-- Job steps reported or announced, ascending. -/
def CGroup.stepNums (g : CGroup) : List Nat :=
  let l := (g.steps.map StepNote.step).eraseDups
  l.foldl (fun acc x => (acc.filter (fun y => decide (y < x))) ++ [x] ++ acc.filter (fun y => decide (x < y))) []

/-- Announced steps whose START has not passed: step and START, ascending. -/
def CGroup.announced (g : CGroup) (ring : Nat) : List (Nat × Nat) :=
  g.stepNums.filterMap (fun b => match g.startOf b with
    | some t => if ring < t then some (b, t) else none
    | none => none)

/-- The job step in progress: the last whose START has passed. -/
def CGroup.stepNow (g : CGroup) (ring : Nat) : Nat :=
  (g.stepNums.filter (fun b => match g.startOf b with | some t => decide (t ≤ ring) | none => false)).getLast?.getD 0

/-- A complete job step: its START and its end. -/
def CGroup.complete (g : CGroup) (ring n : Nat) : Option (Nat × Nat) :=
  match g.startOf n, g.startOf (n + 1) with
  | some a, some b => if b ≤ ring ∧ a < b then some (a, b) else none
  | _, _ => none

/-- The last complete job step. -/
def CGroup.lastComplete (g : CGroup) (ring : Nat) : Option Nat :=
  (g.stepNums.filter (fun n => (g.complete ring n).isSome)).getLast?

/-- Phases of a step as a list of reports gives them: phase, median START, greatest POWER. -/
def phaseList (l : List StepNote) : List (Nat × Nat × Nat) :=
  ((l.filterMap StepNote.phase).eraseDups).map (fun p =>
    let mine := l.filter (fun n => n.phase == some p)
    (p, median (mine.map StepNote.start), (mine.map StepNote.power).foldl max 0))

/-- The phase of greatest POWER (the lowest id on a tie), and its duration: to the next phase's START, or the step's end. -/
def mainPhase (l : List (Nat × Nat × Nat)) (stop : Nat) : Option (Nat × Nat) :=
  let top := (l.map (fun p => p.2.2)).foldl max 0
  let ids := (l.filter (fun p => p.2.2 == top)).map Prod.fst
  match ids with
  | [] => none
  | i :: r =>
    let ph := r.foldl min i
    let start := (l.lookup ph).elim 0 Prod.fst
    let next := ((l.filter (fun p => decide (start < p.2.1))).map (fun p => p.2.1)).foldl min stop
    some (ph, next - start)

/-- d_g of R390. -/
def CGroup.share (g : CGroup) (ring : Nat) : Rat :=
  match g.lastComplete ring with
  | none => 1
  | some n =>
    match g.complete ring n, mainPhase (phaseList (g.phases.filter (fun x => x.step == n))) ((g.complete ring n).elim 0 Prod.snd) with
    | some (a, b), some (_, d) => (d : Rat) / ((b - a : Nat) : Rat)
    | _, _ => 1

/-- A report enters the notes of its group; those of steps long past go. -/
def State.note (s : State) (tag : Nat) (n : StepNote) : State :=
  s.updGroup tag (fun g =>
    let keep := fun (l : List StepNote) => l.filter (fun x => decide (n.step ≤ x.step + 4))
    if n.phase.isSome then
      { g with phases := n :: (keep g.phases).filter (fun x => !(x.step == n.step && x.id == n.id && x.phase == n.phase)) }
    else { g with steps := n :: (keep g.steps).filter (fun x => !(x.step == n.step && x.id == n.id)) })

/-! ### Requests (R386 to R394) -/

/-- Order of the reasons of R388. -/
def reasonRank : Nat → Nat
  | 10 => 0 | 2 => 1 | 1 => 2 | 7 => 3 | 6 => 4 | 5 => 5 | 4 => 6 | 3 => 7 | 9 => 8 | _ => 9

/-- Requests combined (R388): highest cap index, highest floor, the binding reason. -/
def combine (l : List Action) : Action :=
  let cap := (l.map Action.cap).foldl max 0
  let floor := (l.map Action.floor).foldl max 0
  let who := l.filter (fun a => if 0 < cap then a.cap == cap else 0 < floor && a.floor == floor)
  let reason := who.foldl (fun r a => if reasonRank a.reason < reasonRank r then a.reason else r) 0
  ⟨0, cap, floor, reason, l.any (fun a => a.emergency && decide (0 < a.cap))⟩

/-- P_m, W (R389): the mean shelf output over `concord.est_window`. -/
def State.pMean (s : State) : Rat := meanRat s.ccd.outMeans

/-- Energy of group S above a voltage, J. -/
def State.storeAbove (s : State) (f : Fld) : Rat := s.bankJ s.vs - s.bankJ (s.lfld f)

/-- The estimate of R390 at index `k`, W. -/
def State.estimate (s : State) (k : Nat) : Rat :=
  sumRat (s.ccd.groups.map (fun g =>
    g.share s.ringTime * sumRat ((s.members g.tag).map (fun m =>
      10 * max 0 ((m.vf.getD m.index 0 : Rat) - m.vf.getD k 0)))))

/-- The lowest index whose estimate reaches R × `topology.segment_shelves`, or 15 (R390). -/
def State.govIndex (s : State) (r : Rat) : Nat :=
  ((List.range 15).map (· + 1)).find? (fun k => decide (r * s.lfldN .topologySegmentShelves ≤ s.estimate k)) |>.getD 15

/-- Reason of a reserve-exhausted request (R209, R389). -/
def State.reserveReason (s : State) : Nat :=
  match s.iUp.2 with
  | .share => 2
  | .cap => 1
  | .recharge => if s.fes.storageShort then 4 else 3

/-- A governor condition of R389 and R392: whether it holds, R, its reason, whether it is an emergency. -/
def State.govCond (s : State) (c : Nat) : Bool × Rat × Nat × Bool :=
  match c with
  | 0 => (s.aon.mode == Mode.bridging && s.ccd.bridging, s.pMean - s.storeAbove .limitsStoreVMin / s.rfldN .concordBridgeTime, 10, true)
  | 1 => ((s.aon.mode == Mode.fallow || s.aon.mode == Mode.conducting) && s.ccd.reserve, s.pMean - s.iUp.1 * s.nominal,
      s.reserveReason, true)
  | 2 =>
    match s.ccd.share with
    | none => (false, 0, 2, false)
    | some p => (s.aon.mode == Mode.fallow && decide (p < s.pMean), s.pMean - p, 2, s.ccd.capEmergency)
  | 3 => (s.aon.mode == Mode.fallow && s.ccd.short,
      s.pMean - min (s.iCap * s.nominal) ((s.lfld .limitsShelfPeak : Rat) / 100 * s.shelfW), 1, false)
  | _ => (s.aon.mode == Mode.fallow && s.fes.storageShort, 0, 4, false)

/-- The modes in which a condition's request stands (R387). -/
def State.govMode (s : State) (c : Nat) : Bool :=
  match c with
  | 0 => s.aon.mode == Mode.bridging
  | 1 => s.aon.mode == Mode.fallow || s.aon.mode == Mode.conducting
  | _ => s.aon.mode == Mode.fallow

/-- The governor evaluates one condition (R390): an index is raised and never lowered while the condition holds. -/
def State.govStep (s : State) (c : Nat) : State :=
  let (on, r, reason, em) := s.govCond c
  let old := s.ccd.gov.find? (fun q => q.cond == c)
  let rest := s.ccd.gov.filter (fun q => q.cond != c)
  if on then
    if c = 4 then { s with ccd := { s.ccd with gov := ⟨4, 0, 4, false, none⟩ :: rest } }
    else if r ≤ 0 then
      match old with
      | none => s
      | some q => { s with ccd := { s.ccd with gov := { q with absent := none } :: rest } }
    else
      let k := max (s.govIndex r) ((old.map GovReq.index).getD 0)
      { s with ccd := { s.ccd with gov := ⟨c, k, reason, em, none⟩ :: rest } }
  else
    match old with
    | none => s
    | some q => if q.absent.isSome then s else { s with ccd := { s.ccd with gov := { q with absent := some s.now } :: rest } }

/-- The governor evaluates every condition. -/
def State.govern (s : State) : State := (List.range 5).foldl (fun (s : State) c => s.govStep c) s

/-- The floor of R392 for a group, in 10 W. -/
def State.govFloor (s : State) (g : CGroup) : Nat :=
  match g.lastComplete s.ringTime with
  | none => 0
  | some n =>
    let top := (((g.phases ++ g.steps).filter (fun x => x.step == n)).map StepNote.power).foldl max 0
    top * s.rfldN .concordFloorPct / 100

/-- The requests of this conductor's sources for a group (R386, R387, R391, R393). -/
def State.asks (s : State) (g : CGroup) : List Action :=
  let m := s.aon.mode
  let plan : List Action :=
    if m = Mode.conducting ∨ m = Mode.bridging ∨ m = Mode.stopped then
      (s.ccd.planReq.filter (fun r => r.tag == g.tag)).map (fun r => ⟨0, r.step, r.floor, r.reason, false⟩) else []
  let gov : List Action := (s.ccd.gov.filter (fun q => s.govMode q.cond)).map (fun q =>
    if q.cond = 4 then ⟨0, 0, s.govFloor g, 4, false⟩
    else ⟨0, if q.emergency then min 15 (max q.index (g.act.cap + 1)) else q.index, 0, q.reason, q.emergency && q.absent.isNone⟩)
  let warm := m = Mode.fallow ∨ m = Mode.conducting ∨ m = Mode.bridging
  let therm : List Action := if warm then [⟨0, s.mbx.stepModule, 0, 7, false⟩, ⟨0, s.mbx.stepShelf, 0, 6, false⟩] else []
  let mat : List Action := if warm then (s.members g.tag).filterMap (fun p =>
    if p.matched.isSome then p.throttle.map (fun t => ⟨0, t.1, 0, 9, false⟩) else none) else []
  plan ++ gov ++ therm ++ mat

/-- This conductor's request for a group (R386); STORAGE_SHORT replaces STORAGE_LOW while it stands (R388). -/
def State.ownAsk (s : State) (g : CGroup) : Action :=
  let a := combine (s.asks g)
  if a.reason = 3 ∧ s.fes.storageShort then { a with reason := 4 } else a

/-! ### Records (R384, R385) -/

/-- The REQUEST record of a group (R384). -/
def State.reqOf (s : State) (g : CGroup) : ReqRec :=
  let a := s.ownAsk g
  let unacked := match g.round with
    | none => 0
    | some _ => ((s.readyMembers g.tag).filter (fun p => !p.acked)).length
  let next := (g.announced s.ringTime).head?
  { member := s.member, emergency := a.emergency, speaker := s.frz.speaking, allAcked := g.round.isSome && unacked == 0
    announced := next.isSome, reason := a.reason, tag := g.tag, step := a.cap, floor := a.floor
    action := (g.round.map (fun r => r.act.num)).getD 0, members := (s.members g.tag).length, unacked := unacked
    nextStep := (next.map Prod.fst).getD 0, nextStart := (next.map Prod.snd).getD 0 }

/-- Its 32 bytes. -/
def reqBytes (r : ReqRec) : List Byte :=
  [0x11, BitVec.ofNat 8 r.member,
   BitVec.ofNat 8 (b2n r.emergency + 2 * b2n r.speaker + 4 * b2n r.allAcked + 8 * b2n r.announced), BitVec.ofNat 8 r.reason]
  ++ beBytes 3 r.tag ++ [BitVec.ofNat 8 r.step] ++ beBytes 2 r.floor ++ beBytes 4 r.action ++ beBytes 2 r.members
  ++ beBytes 2 r.unacked ++ beBytes 4 r.nextStep ++ beBytes 8 r.nextStart ++ [0, 0]

/-- A REQUEST record is kept: the newest of each member and tag. -/
def State.keepReq (s : State) (r : ReqRec) (sf : Nat) : State :=
  { s with ccd := { s.ccd with reqs := (r, sf) :: s.ccd.reqs.filter (fun x => !(x.1.member == r.member && x.1.tag == r.tag)) } }

/-- A group's REQUEST record is published when it has changed, or is due (R384); in HELD none is (R387). -/
def State.publishReq (s : State) (tag : Nat) : State :=
  match s.group tag with
  | none => s
  | some g =>
    if s.aon.mode = Mode.held then
      { s with ccd := { s.ccd with reqs := s.ccd.reqs.filter (fun x => !(x.1.member == s.member && x.1.tag == tag)) } }
    else
    let r := s.reqOf g
    let n := s.htlSf
    let due := match g.pub with
      | none => true
      | some (p, t) => p != r || decide (s.rfldN .concordRenewSf ≤ diff32 n t)
    if !due then s else
    let s := (s.updGroup tag (fun g => { g with pub := some (r, n) })).htlSend 1 1 0xFF (reqBytes r)
    s.keepReq r n

/-- The 32 bytes of a DECISION record (R385). -/
def decBytes (d : DecRec) : List Byte :=
  [0x12, BitVec.ofNat 8 d.member, BitVec.ofNat 8 d.op, BitVec.ofNat 8 d.reason] ++ beBytes 3 d.tag ++ [BitVec.ofNat 8 d.step]
  ++ beBytes 2 d.floor ++ beBytes 4 d.action ++ beBytes 4 d.tref ++ beBytes 4 d.sf ++ beBytes 8 d.start ++ [0, 0]

/-- Records of a group that still stand: of members not in HELD, no older than `concord.segment_hold`. -/
def State.standingReqs (s : State) (tag : Nat) : List (ReqRec × Nat) :=
  let held := fun (m : Nat) => if m = s.member then s.aon.mode == Mode.held
    else ((s.htl.recs.find? (fun r => r.member == m)).map (fun r => r.mode == 0)).getD false
  s.ccd.reqs.filter (fun x => x.1.tag == tag && !held x.1.member
    && decide (diff32 s.htlSf x.2 ≤ 100 * s.rfldN .concordSegmentHold))

/-- The combined state of a group (R388). -/
def State.combined (s : State) (tag : Nat) : Action :=
  combine ((s.standingReqs tag).map (fun x => ⟨0, x.1.step, x.1.floor, x.1.reason, x.1.emergency⟩))

/-- The steward of a group (R370): the lowest speaker of a segment on which it is local, not in HELD. -/
def State.stewardOf (s : State) (tag : Nat) : Option Nat :=
  match ((s.standingReqs tag).filter (fun x => x.1.speaker && decide (0 < x.1.members))).map (fun x => x.1.member) with
  | [] => none
  | m :: l => some (l.foldl min m)

/-! ### The CONCORD clause (R373, R376, R380 to R382) -/

/-- The object of a CONCORD clause (R340, R373). -/
def concordObj (tag : Nat) (a : Action) (join : Bool) : List Byte :=
  let kind := b2n (decide (0 < a.cap)) + 2 * b2n (decide (0 < a.floor))
  obj16 (beBytes 3 tag ++ beBytes 4 a.num ++ [BitVec.ofNat 8 kind, BitVec.ofNat 8 a.cap] ++ beBytes 2 a.floor
    ++ [BitVec.ofNat 8 (b2n a.emergency + 2 * b2n join)])

/-- A CONCORD clause in the FUTURE tense to a member. -/
def futureItem (tag id : Nat) (a : Action) (b start : Nat) (join : Bool) : DownItem :=
  ⟨4, id, formOf 1 2 0, 0x24, some b, some (sfOf start), .down, concordObj tag { a with emergency := false } join⟩

/-- A CONCORD clause in the PRESENT tense, broadcast. -/
def presentItem (tag : Nat) (a : Action) (tref : Nat) : DownItem :=
  ⟨if a.emergency then 1 else 4, 255, formOf 1 1 0, 0x24, some tref, none, .bc, concordObj tag a false⟩

/-! ### The ledger of groups (R401) -/

/-- CAP and FLOOR entries follow the action in force. -/
def State.groupLedger (s : State) (g : CGroup) : State :=
  let a := g.act
  let mk := fun (kind : Nat) => (⟨kind, a.reason, a.cap, a.emergency, g.steward == some s.member, g.tag, a.floor, a.num, 0⟩ : LedgerEntry)
  let one := fun (s : State) (kind : Nat) (on : Bool) =>
    let mine := fun (e : LedgerEntry) => e.kind == kind && e.tag == g.tag
    if on && s.ccd.ledger.any (fun e => mine e && e.reason == a.reason) then s
    else
      let s := s.closeLedgers mine
      if on then s.openLedger (mk kind) else s
  one (one s 1 (decide (0 < a.cap))) 2 (decide (0 < a.floor))

/-- An action comes into force (R376, R382). -/
def State.enforce (s : State) (tag : Nat) (a : Action) : State :=
  let s := s.updGroup tag (fun g => { g with act := a, defers := 0, renewed := s.htlSf })
  match s.group tag with
  | none => s
  | some g => s.groupLedger g

/-! ### Decisions (R376 to R382) -/

/-- A deferral is counted (R378): unacknowledged members, and those that reach `concord.defer_max` are held out. -/
def State.countDeferral (s : State) (tag : Nat) : State :=
  let s := s.updGroup tag (fun g => { g with defers := g.defers + 1 })
  (s.readyMembers tag).foldl (fun (s : State) p =>
    if p.acked then s.updCpart p.id (fun p => { p with defers := 0 })
    else
      let n := p.defers + 1
      if s.rfldN .concordDeferMax ≤ n then (s.updCpart p.id (fun p => { p with defers := 0, heldOut := true })).ccdEvent 3
      else s.updCpart p.id (fun p => { p with defers := n })) s

/-- The speaker offers an action to the members that have not acknowledged it (R376). -/
def State.sendOffer (s : State) (tag : Nat) (r : CRound) : State :=
  s.push (((s.readyMembers tag).filter (fun p => !p.acked)).map (fun p => futureItem tag p.id r.act r.b r.start false))

/-- The later of two action numbers. -/
def laterNum (a b : Nat) : Nat := if 0 < diff32 b a then b else a

/-- A DECISION record takes effect at a conductor on which the group is local (R370, R376, R382). -/
def State.takeDecision (s : State) (d : DecRec) : State :=
  match s.group d.tag with
  | none => s
  | some g =>
    let a : Action := ⟨d.action, d.step, d.floor, d.reason, d.op == 3⟩
    let n := s.htlSf
    let s := s.updGroup d.tag (fun g => { g with lastNum := laterNum g.lastNum d.action })
    match d.op with
    | 1 =>
      let same := match g.round with
        | some r => r.act.cap == d.step && r.act.floor == d.floor
        | none => false
      let late := match g.round with | some r => decide (0 ≤ diff32 n r.cb) | none => false
      let s := if late && same then s.countDeferral d.tag
        else if same then s else s.updGroup d.tag (fun g => { g with defers := if g.round.isNone then g.defers else 0 })
      let r : CRound := ⟨a, d.tref, d.sf, d.start, n⟩
      let s := s.updGroup d.tag (fun g => { g with round := some r })
      let s := (s.members d.tag).foldl (fun (s : State) p => s.updCpart p.id (fun p => { p with acked := false })) s
      s.sendOffer d.tag r
    | 2 =>
      let s := s.updGroup d.tag (fun g => { g with round := none, commits := g.commits ++ [⟨a, d.tref, d.sf, d.start, n⟩] })
      s.ccdEvent 0
    | 3 => (s.updGroup d.tag (fun g => { g with round := none, commits := [], urgent := some (a, n) })).ccdEvent 1
    | _ => if 0 < diff32 d.action g.act.num ∧ g.round.isNone ∧ g.commits.isEmpty ∧ g.urgent.isNone then s.enforce d.tag a else s

/-- The steward publishes a decision and acts on it itself (R385). -/
def State.decide_ (s : State) (d : DecRec) : State := (s.htlSend 1 1 0xFF (decBytes d)).takeDecision d

/-- Announced steps as the steward knows them (R375): this segment's announcements and the other speakers' records. -/
def State.stepTable (s : State) (g : CGroup) : List (Nat × Nat) :=
  g.announced s.ringTime
  ++ ((s.standingReqs g.tag).filter (fun x => x.1.speaker && x.1.announced && x.1.member != s.member)).map
      (fun x => (x.1.nextStep, x.1.nextStart))

/-- START(b) (R375). -/
def startAt (l : List (Nat × Nat)) (b : Nat) : Option Nat :=
  let m := (l.filter (fun p => p.1 == b)).map Prod.snd
  if m.isEmpty then none else some (median m)

/-- The lowest announced step whose decision superframe meets R375 from boundary `o`: b, START(b), c_b. -/
def State.offerStep (s : State) (g : CGroup) (o : Nat) : Option (Nat × Nat × Nat) :=
  let l := s.stepTable g
  let ok := (l.map Prod.fst).eraseDups.filterMap (fun b => match startAt l b with
    | none => none
    | some t =>
      let cb := (sfOf t + 2 ^ 32 - s.rfldN .concordLeadSf) % 2 ^ 32
      let later : Bool := match g.commits.getLast? with | none => true | some r => decide (r.start < t)
      if later ∧ (s.rfldN .concordAckSf : Int) + 1 ≤ diff32 cb o then some (b, t, cb) else none)
  match ok with
  | [] => none
  | x :: r => some (r.foldl (fun m y => if y.1 < m.1 then y else m) x)

/-- The steward offers a state (R375, R376, R378), if an announced step allows it. -/
def State.offer (s : State) (tag : Nat) (a : Action) : State :=
  match s.group tag with
  | none => s
  | some g =>
    match s.offerStep g s.htlSf with
    | none => s
    | some (b, t, cb) =>
      s.decide_ ⟨s.member, 1, a.reason, tag, a.cap, a.floor, (g.lastNum + 1) % 2 ^ 32, b, cb, t⟩

/-- The round counts as acknowledged (R377). -/
def State.roundAcked (s : State) (tag : Nat) (r : CRound) : Bool :=
  ((s.standingReqs tag).filter (fun x => x.1.speaker)).all (fun x => x.1.action == r.act.num && x.1.allAcked)

/-- Two states differ. -/
def Action.differs (a b : Action) : Bool := a.cap != b.cap || a.floor != b.floor

/-- The steward decides or changes course at a superframe boundary (R375 to R378, R383, R404). -/
def State.steer (s : State) (tag : Nat) : State :=
  match s.group tag with
  | none => s
  | some g =>
    if g.steward ≠ some s.member then s else
    let want := s.combined tag
    let n := s.htlSf
    match g.round with
    | none =>
      let standing := match g.commits.getLast? with | some r => r.act | none => (g.urgent.map Prod.fst).getD g.act
      if want.differs standing then s.offer tag want else s
    | some r =>
      if want.differs r.act then
        let s' := s.offer tag want
        match s'.group tag with
        | some g' => if g'.round == some r then s'.updGroup tag (fun g => { g with round := none }) else s'
        | none => s'
      else
        let start := (startAt (s.stepTable g) r.b).getD r.start
        let cb := (sfOf start + 2 ^ 32 - s.rfldN .concordLeadSf) % 2 ^ 32
        let early := decide (diff32 cb r.cb < 0)
        let r := if early then r else { r with start := start, cb := cb }
        let s := s.updGroup tag (fun g => { g with round := some r })
        if diff32 n r.cb < 0 then s
        else if s.roundAcked tag r && !early then
          s.decide_ ⟨s.member, 2, r.act.reason, tag, r.act.cap, r.act.floor, r.act.num, r.b, r.cb, r.start⟩
        else
          let s := s.ccdEvent 2
          match s.offerStep g n with
          | some _ => s.offer tag r.act
          | none => (s.countDeferral tag).updGroup tag (fun g => { g with round := none })

/-- The steward takes the emergency path (R382): the combined state is tighter than the action in force and every committed
one. -/
def State.emergencyPath (s : State) (tag : Nat) : State :=
  match s.group tag with
  | none => s
  | some g =>
    let want := s.combined tag
    let held := max g.act.cap (max ((g.urgent.map (fun u => u.1.cap)).getD 0)
      ((g.commits.map (fun r => r.act.cap)).foldl max 0))
    if g.steward = some s.member ∧ want.emergency ∧ held < want.cap then
      s.decide_ ⟨s.member, 3, want.reason, tag, want.cap, want.floor, (g.lastNum + 1) % 2 ^ 32, g.stepNow s.ringTime,
        s.htlSf, 0⟩
    else s

/-- The lag of R393 for member `p` in step `n` of its group: its tray group's main phase ran too long for its lemma. -/
def State.lagged (s : State) (g : CGroup) (p : CPart) (n : Nat) : Bool :=
  match g.complete s.ringTime n, s.part p.id with
  | some (_, b), some q =>
    match mainPhase (phaseList (g.phases.filter (fun x => x.step == n && x.group == q.group))) b with
    | none => false
    | some (ph, d) =>
      match s.lex.slotOf (phaseKey g.tag ph q.group) with
      | none => false
      | some slot =>
        let mean := lemN s.swm slot 0x20 4
        let sd := lemN s.swm slot 0x24 4
        decide (1000 * (mean + max (100 * s.rfldN .concordLagMin) (3 * sd)) < d)
  | _, _ => false

/-- Members whose slowness the job waits for are matched (R393), as the speaker judges. -/
def State.matchUp (s : State) (g : CGroup) : State :=
  if !s.frz.speaking then s else
  (s.members g.tag).foldl (fun (s : State) p =>
    match p.throttle, p.matched with
    | some (k, n), none =>
      if g.act.cap < k ∧ (s.lagged g p n ∨ s.lagged g p (n + 1)) then
        (s.updCpart p.id (fun p => { p with matched := some (g.act.cap, none) })).ccdEvent 6
      else s
    | _, _ => s) s

/-- A member reports an index: the match of R394 counts since when it has been no higher than the cap before it. -/
def State.indexReport (s : State) (id k : Nat) : State :=
  s.updCpart id (fun p => { p with
    index := k
    matched := p.matched.map (fun m => if k ≤ m.1 then (m.1, some (m.2.getD s.now)) else (m.1, none)) })

/-- What a speaker sends for a group at a boundary (R376, R380, R381, R382). -/
def State.serve (s : State) (tag : Nat) : State :=
  match s.group tag with
  | none => s
  | some g =>
    let n := s.htlSf
    let s := match g.urgent with
      | none => s
      | some (a, p) => if 1 ≤ diff32 n p ∧ diff32 n p ≤ 3 then s.push [presentItem tag a (g.stepNow s.ringTime)] else s
    let s := g.commits.foldl (fun (s : State) r =>
      if diff32 n (sfOf r.start) < 0 then s.push [presentItem tag r.act r.b] else s) s
    let s := match g.round with
      | none => s
      | some r =>
          let k := diff32 n r.offered
          if 0 < k ∧ k % (max 1 (s.rfldN .concordReofferSf)) = 0 ∧ diff32 n r.cb < 0 then s.sendOffer tag r else s
    let inForce := decide (0 < g.act.cap) || decide (0 < g.act.floor)
    let s := if inForce ∧ (s.rfldN .concordRenewSf : Int) ≤ diff32 n g.renewed then
        (s.updGroup tag (fun g => { g with renewed := n })).push
          [presentItem tag { g.act with emergency := false } (g.stepNow s.ringTime)]
      else s
    if g.round.isSome ∨ !g.commits.isEmpty then s else
    let joining := (s.members tag).filter (fun p => p.joining && !s.isSilent p.id)
    if joining.isEmpty then s
    else if g.act.num = 0 then
      joining.foldl (fun (s : State) p => s.updCpart p.id (fun p => { p with joining := false })) s
    else
      match (g.announced s.ringTime).find? (fun b => decide ((s.rfldN .concordLeadSf : Int) ≤ diff32 (sfOf b.2) n)) with
      | none => s
      | some (b, t) =>
        joining.foldl (fun (s : State) p =>
          ((s.updCpart p.id (fun p => { p with joining := false })).push [futureItem tag p.id g.act b t true]).ccdEvent 7) s

/-- Actions whose time has come are in force (R376, R382). -/
def State.ripen (s : State) (tag : Nat) : State :=
  match s.group tag with
  | none => s
  | some g =>
    let n := s.htlSf
    let s := match g.urgent with
      | none => s
      | some (a, p) =>
        let s := if 2 ≤ diff32 n p ∧ g.act.num ≠ a.num then (s.enforce tag a).ccdEvent 1 else s
        if 4 ≤ diff32 n p then s.updGroup tag (fun g => { g with urgent := none }) else s
    let ripe := g.commits.filter (fun r => decide (r.start ≤ s.ringTime))
    let s := ripe.foldl (fun (s : State) r => s.enforce tag r.act) s
    let s := s.updGroup tag (fun g => { g with commits := g.commits.filter (fun r => decide (s.ringTime < r.start)) })
    match g.round with
    | none => s
    | some r =>
      if s.ringTime < r.start then s
      else (if g.steward = some s.member then s else s.countDeferral tag).updGroup tag (fun g => { g with round := none })

/-- The steward's renewal record (R385). -/
def State.renewRecord (s : State) (tag : Nat) : State :=
  match s.group tag with
  | none => s
  | some g =>
    let n := s.htlSf
    if g.steward = some s.member ∧ (0 < g.act.cap ∨ 0 < g.act.floor) ∧ (s.rfldN .concordRenewSf : Int) ≤ diff32 n g.renewRec then
      (s.updGroup tag (fun g => { g with renewRec := n })).decide_
        ⟨s.member, 4, g.act.reason, tag, g.act.cap, g.act.floor, g.act.num, g.stepNow s.ringTime, n, 0⟩
    else s

/-! ### Rack caps (R395 to R399) -/

/-- Weights of the members that carry a share (R396): the summaries of the superframe before. -/
def State.capShare (s : State) (c : RackCap) : Option Rat :=
  if s.aon.mode = Mode.held ∨ s.aon.mode = Mode.stopped then none else
  let n := (s.htlSf + 2 ^ 32 - 1) % 2 ^ 32
  let l := s.ccd.sums.filter (fun x => x.sf == n && c.mask.getLsbD x.member && x.mode != 0 && x.mode != 4)
  match l.find? (fun x => x.member == s.member) with
  | none => none
  | some me =>
    let placed := l.all (fun x => x.flags % 2 == 1 && decide (0 < x.placed))
    let w := fun (x : SumRec) => if placed then (x.placed : Rat) else x.rating
    let total := sumRat (l.map w)
    if total = 0 then none else some (1000 * c.kw * w me / total)

/-- The time from the next boundary's allowed offers to the earliest START, in s (R398); none while none is allowed. -/
def State.capTime (s : State) : Option Rat :=
  let o := (s.htlSf + 1) % 2 ^ 32
  let l := s.ccd.groups.filterMap (fun g => (s.offerStep g o).map (fun x => x.2.1))
  match l with
  | [] => none
  | t :: r => some (((r.foldl min t - s.ringTime : Nat) : Rat) / 1000000000)

/-- T_a of R398: 2.25 ms. -/
def capTa : Rat := 9 / 4000

/-- The path of a share below the grid power (R398). -/
def State.capPath (s : State) (share : Rat) : State :=
  let dp := s.pMean - share
  let er := s.storeAbove .limitsStoreVLow
  let plain := match s.capTime with | none => decide (dp ≤ 0) | some tb => decide (dp * tb ≤ er)
  if plain then { s with ccd := { s.ccd with pLim := some share, ramp := none, capEmergency := false } }
  else if dp * capTa ≤ er then { s with ccd := { s.ccd with pLim := some share, ramp := none, capEmergency := true } }
  else ({ s with ccd := { s.ccd with pLim := some share, ramp := some (s.now, s.fes.pg, 2 * er / (capTa * capTa))
                                     capEmergency := true } }).ccdEvent 5

/-- Mean grid power over W, W (R399): the superframes of the window. -/
def State.wMean (s : State) : Rat :=
  match s.ccd.cap with
  | none => 0
  | some c => meanRat (s.fes.flat.take c.window)

/-- A clipped slew runs or ends (R399). -/
def State.clipStep (s : State) : State :=
  let exceeds := match s.ccd.cap, s.ccd.share with
    | some _, some p => decide (p < s.wMean)
    | _, _ => false
  match s.ccd.clip with
  | none =>
    if !exceeds then s
    else ({ s with ccd := { s.ccd with clip := some (s.opMs, max 0 (s.fes.pg - s.ccd.share.getD 0) / 1000) } }).ccdEvent 5
  | some (t0, j) =>
    if exceeds then
      { s with ccd := { s.ccd with clip := some (t0, j + max 0 (s.fes.pg - s.ccd.share.getD 0) / 1000) } }
    else
      let id := (s.ccd.cap.map RackCap.id).getD 0
      let body := fun (be : Bool) => let f := fun (n v : Nat) => if be then beBytes n v else leBytes n v
        f 4 id ++ f 6 t0 ++ f 6 s.opMs ++ [0, 0] ++ f 4 (sat (2 ^ 32 - 1) (natFloor j))
      let s := { s with ccd := { s.ccd with clip := none, clipCount := sat 65535 (s.ccd.clipCount + 1)
                                            clipLast := sat 65535 (natFloor (j / 100)) } }
      (s.stage 0x18 0 (body false)).notify 3 (body true)

/-- The rack cap at a superframe boundary (R395 to R398). -/
def State.capStep (s : State) : State :=
  let s := match s.ccd.capPend with
    | none => s
    | some c => { s with ccd := { s.ccd with capPend := none, cap := if c.kw = 0 then none else some c } }
  match s.ccd.cap with
  | none => { s with ccd := { s.ccd with share := none, pLim := none, ramp := none, capEmergency := false } }
  | some c =>
    match s.capShare c with
    | none => { s with ccd := { s.ccd with share := none, pLim := none, ramp := none, capEmergency := false } }
    | some p =>
      let old := s.ccd.share
      let s := { s with ccd := { s.ccd with share := some p } }
      let lower := match old with | none => true | some q => decide (p < q)
      if p < s.fes.pg ∧ lower then s.capPath p
      else
        let fell := match s.ccd.ramp with | none => true | some _ => s.pLimNow == some p || decide (s.fes.pg ≤ p)
        { s with ccd := { s.ccd with pLim := some p, ramp := if fell then none else s.ccd.ramp
                                     capEmergency := s.ccd.capEmergency && decide (p < s.fes.pg) } }

/-! ### Registers (R406) -/

/-- In units of 0.1 kW. -/
def hectoW (p : Rat) : Nat := sat 65535 (natFloor (p / 100))

/-- The concord registers (R406). -/
def State.readCcd (s : State) (o : Nat) : Option Word :=
  let c := s.ccd
  let g := s.group c.gsel
  let steward := (c.groups.filter (fun g => g.steward == some s.member)).length
  match o with
  | 0x00 => some (pack [(28, 1, b2n (c.groups.any (fun g => g.act.emergency))), (27, 1, b2n c.cap.isSome),
      (26, 1, b2n (decide (4096 ≤ s.domainTags.length))), (13, 13, sat 4096 steward), (0, 13, sat 4096 c.groups.length)])
  | 0x04 => some (c.event.setWidth 32)
  | 0x08 => some (match c.cap with | none => 0 | some k => pack [(16, 16, k.kw), (0, 10, k.window)])
  | 0x0C => some (pack [(16, 16, hectoW (c.share.getD 0)), (0, 16, hectoW s.wMean)])
  | 0x10 => some (pack [(16, 16, c.clipCount), (0, 16, c.clipLast)])
  | 0x40 => some (BitVec.ofNat 32 c.gsel)
  | 0x44 => some (match g with
      | none => 0
      | some g =>
        let pend := s.combined g.tag
        pack [(31, 1, 1), (30, 1, b2n (g.steward == some s.member)), (29, 1, b2n g.act.emergency), (24, 4, g.act.cap),
          (20, 4, g.act.reason), (16, 4, if pend.differs g.act then pend.cap else 0),
          (14, 2, if g.round.isSome then 1 else if g.commits.isEmpty then 0 else 2), (0, 14, g.act.floor)])
  | 0x48 => some (match g with
      | none => 0
      | some g =>
        let un := match g.round with | none => 0 | some _ => ((s.readyMembers g.tag).filter (fun p => !p.acked)).length
        pack [(16, 16, (s.members g.tag).length), (8, 8, sat 255 un), (4, 4, sat 15 g.defers),
          (0, 4, sat 15 ((s.members g.tag).filter (fun p => p.heldOut)).length)])
  | 0x4C => some (match g with | none => 0 | some g => BitVec.ofNat 32 g.act.num)
  | 0x50 => some (match g with | none => 0 | some g => BitVec.ofNat 32 (match g.round with | some r => r.b | none => (g.commits.head?.map CRound.b).getD 0))
  | o =>
    let r := o % 0x40 / 4
    if 0x104 ≤ o ∧ o ≤ 0x128 then
      let open_ := match c.ldgSince.getD r none with | none => 0 | some t => s.now - t
      some (BitVec.ofNat 32 (sat (2 ^ 32 - 1) ((c.ldgTime.getD r 0 + open_) / 10000000)))
    else if 0x144 ≤ o ∧ o ≤ 0x168 then some (BitVec.ofNat 32 (c.ldgCount.getD r 0))
    else none

/-- Writes to the concord registers: events clear where 1 is written; CCD_GSEL takes a tag. -/
def State.writeCcd (s : State) (o : Nat) (v : Word) : State :=
  match o with
  | 0x04 => { s with ccd := { s.ccd with event := s.ccd.event &&& ~~~(v.setWidth 10) } }
  | 0x40 => { s with ccd := { s.ccd with gsel := field v 23 0 } }
  | _ => s

end Sys2Proof.Machine
end

