-- ==== Sys2Proof/Machine/Furze.lean ====
section
/-! DEFINITION. The Furze channel's commands (chapter 11), the concord clauses among them (chapter 12), and the rotation of
the broadcast key (R533). -/
namespace Sys2Proof.Machine

/-! ### Reception -/

/-- A BEACON of another conductor (R335), or of this segment's speaker, which gives a listener its timing (R367). -/
def State.takeBeacon (s : State) (sf : Nat) (c : Clause) : State :=
  if c.verb ≠ 0x20 ∨ c.subject ≠ 0 then s else
  let speaker := objN c 1 1
  if s.frz.speaking then
    if sf % 64 = s.member ∧ speaker < s.member then { s with frz := { s.frz with yielding := true } } else s
  else
    let key := if c.epoch = s.ids.kbcNum then s.ids.kbc else s.ids.kbcPrev
    match key with
    | some k => if tagOk k c then { s with frz := { s.frz with beaconSf := some sf } } else s
    | none => s

/-- BURST_RECEIVED (R328, R329, R335, R336, R343, R352, R357): a burst ends in a slot. -/
def execBurstReceived (t : Time) (x : BurstIn) (s : State) : Host.Outcome State Fault Refusal :=
  let s := s.at_ t
  if s.inRst .htlFrz ∨ 40 < x.slot then .next s else
  let holder := if 5 ≤ x.slot then s.slotHolder (x.slot - 5) x.sf else none
  match x.res with
  | .truncated => .next ({ s with frz := { s.frz with trunc := s.frz.trunc + 1 } }.outcome x.sf x.slot 1)
  | .undecoded =>
    let s := { s with frz := { s.frz with rxFail := s.frz.rxFail + 1 } }.outcome x.sf x.slot 1
    .next (match holder with | some id => s.burstFail id | none => s)
  | .clauses l =>
    if x.slot = 0 then .next (l.foldl (fun (s : State) c => s.takeBeacon x.sf c) s) else
    let s := match holder with | some id => s.snrTake id x.snr | none => s
    let l := if 5 ≤ x.slot then l.filter (fun c => !clauseFill c) else l.take 1
    .next (l.foldl (fun (s : State) c => s.takeClause x.sf x.slot c false) s)

/-- CLAUSE_RELAY (R336, R341): a clause that another conductor of the segment accepted, judged against the superframe of its
reception. -/
def execClauseRelay (t : Time) (sf slot : Nat) (c : Clause) (s : State) : Host.Outcome State Fault Refusal :=
  let s := s.at_ t
  if s.inRst .htlFrz then .next s else
  let s := { s with frz := { s.frz with relayIn := s.frz.relayIn + 1 } }.takeInbox 4
  .next (s.takeClause sf slot c true)

/-! ### Accepted clauses -/

/-- A past-tense report waits for the tray entries of the history block (R250): at most eight. -/
def State.trayReport (s : State) (c : Clause) : State :=
  if tenseOf c ≠ 0 ∨ 8 ≤ s.lex.tray.length then s else
  let group := ((s.part c.subject).map Partner.group).getD 0
  let off := s.swardRing % 8000
  { s with lex := { s.lex with tray := s.lex.tray ++
      [[BitVec.ofNat 8 c.subject, 0] ++ leBytes 2 group ++ leBytes 4 off ++ c.object] } }

/-- PHASE (R223, R243, R344, R368): PRESENT and PAST reports update the running key, FUTURE ones prefetch. -/
def execPhase (t : Time) (s : State) : Host.Outcome State Fault Refusal :=
  let s := s.at_ t
  match s.takeAcc 0x01 with
  | none => .next s
  | some (a, s) =>
    let c := a.c
    let job := objN c 0 3
    let phase := objN c 3 3
    let start := objN c 6 8
    let group := ((s.part c.subject).map Partner.group).getD 0
    let s := (s.concReport c.subject job).note job ⟨c.tref, c.subject, some phase, group, start, objN c 14 2⟩
    let s := s.trayReport c
    let s := s.phaseForget c.subject (some job)
    .next (if tenseOf c = 2 then (if s.lexUp then s.prefetch (s.fldN .lexiconPrefetchDepth + 1) (phaseKey job phase group) else s)
      else s.phaseReport job group ⟨c.subject, phase, start⟩)

/-- STEP (R223, R368, R369, R372, R380): membership, the STARTs of job steps, and the index a member runs at; one below the cap in
force is served as JOINING. -/
def execStepClause (t : Time) (s : State) : Host.Outcome State Fault Refusal :=
  let s := s.at_ t
  match s.takeAcc 0x02 with
  | none => .next s
  | some (a, s) =>
    let c := a.c
    let job := objN c 0 3
    let k := objN c 3 1 % 16
    let group := ((s.part c.subject).map Partner.group).getD 0
    let s := (s.concReport c.subject job).note job ⟨c.tref, c.subject, none, group, objN c 6 8, objN c 14 2⟩
    let s := (s.trayReport c).phaseForget c.subject (some job)
    if tenseOf c = 2 then .next s else
    let s := s.indexReport c.subject k
    match s.group job with
    | some g =>
      if k < g.act.cap ∧ !(s.cpart c.subject).joining then
        .next ((s.updCpart c.subject (fun p => { p with joining := true })).ccdEvent 8)
      else .next s
    | none => .next s

/-- VFTABLE (R340, R372): power at seven indices from FIRST. -/
def execVftable (t : Time) (s : State) : Host.Outcome State Fault Refusal :=
  let s := s.at_ t
  match s.takeAcc 0x03 with
  | none => .next s
  | some (a, s) =>
    let first := objN a.c 0 1
    let fill (l0 : List Nat) : List Nat := (List.range 7).foldl
      (fun l i => if first + i < 16 then l.set (first + i) (objN a.c (1 + 2 * i) 2) else l) l0
    .next (s.updCpart a.c.subject (fun p => { p with vf := fill p.vf }))

/-- THROTTLE (R340, R393): the index now in force, and the job step it names. -/
def execThrottle (t : Time) (s : State) : Host.Outcome State Fault Refusal :=
  let s := s.at_ t
  match s.takeAcc 0x04 with
  | none => .next s
  | some (a, s) =>
    let k := objN a.c 3 1 % 16
    let s := s.updCpart a.c.subject (fun p => { p with throttle := some (k, a.c.tref) })
    .next (s.indexReport a.c.subject k)

/-- The standing GRANT and the KEY that complete an enrolment are acknowledged (R346): the partner is ACTIVE. -/
def State.enrolled_ (s : State) (id : Nat) : State :=
  match s.part id with
  | none => s
  | some p =>
    let waits := fun (v : Nat) => p.awaiting.any (fun a => a.2.1 == v)
      || s.frz.down.any (fun i => i.dst == id && i.verb == v && i.key == .down)
    if p.state ≠ .enrolling ∨ p.up = [] ∨ !p.waitFor.isEmpty ∨ waits 0x22 ∨ waits 0x27
        ∨ !p.grants.any (fun g => g.index == 0) ∨ !s.frz.speaking then s
    else
      let eff := (s.furzeSf + 2) % 2 ^ 32
      let s := s.updPart id (fun p => { p with state := .active, missRun := 0
                                               grants := p.grants.map (fun g => if g.index = 1 then { g with stop := some eff } else g) })
      (s.mapChange eff).frzEvent 2

/-- ACK (R346, R372, R376, R378, R533): of a GRANT or a KEY, or of an offer, which counts by its ACTION and CODE. -/
def execAck (t : Time) (s : State) : Host.Outcome State Fault Refusal :=
  let s := s.at_ t
  match s.takeAcc 0x05 with
  | none => .next s
  | some (a, s) =>
    let c := a.c
    let id := c.subject
    let seq := objN c 0 2
    let verb := objN c 2 1
    let s := s.updPart id (fun p => { p with awaiting := p.awaiting.filter (fun w => !(w.1 == seq && w.2.1 == verb)) })
    if verb = 0x24 then
      let num := objN c 4 4
      let code := objN c 8 1
      let job := (s.cpart id).job
      if code = 1 then .next (s.concReport id 0)
      else
        match s.group job with
        | none => .next s
        | some g =>
          match g.round with
          | none => .next s
          | some r =>
            if code = 0 ∧ r.act.num = num then .next (s.updCpart id (fun p => { p with acked := true, heldOut := false }))
            else .next s
    else
      let s := if verb = 0x27 then
          { s with ids := { s.ids with rotation := s.ids.rotation.map (fun r => { r with waiting := r.waiting.filter (fun x => x != id) }) } }
        else s
      .next (s.enrolled_ id)

/-- An id for a JOIN (R345): the one held for its TOKEN, the lowest FREE one, the one held longest. -/
def State.assignId (s : State) (token : Nat) : Option Nat :=
  let held := s.frz.parts.filter (fun p => p.2.state == .heldId)
  match held.find? (fun p => p.2.token == token) with
  | some p => some p.1
  | none =>
    match ((List.range 254).map (· + 1)).find? (fun id => (s.part id).isNone) with
    | some id => some id
    | none =>
      match held with
      | [] => none
      | p :: l => some (l.foldl (fun m q => if q.2.heldAt < m.2.heldAt then q else m) p).1

/-- A token is barred, or held in REVOKED (R345, R532). -/
def State.tokenRefused (s : State) (token : Nat) : Bool :=
  s.nv.trust.barred.any (fun b => b.toNat == token)
  || s.frz.parts.any (fun p => p.2.state == .revoked && p.2.token == token)

/-- JOIN (R345, R346): the speaker assigns an id, draws an ephemeral key, and sends ENROL, the enrolment GRANT and its KEYX
parts under the key the JOIN used; otherwise the JOIN is not answered. -/
def execJoin (t : Time) (s : State) : Host.Outcome State Fault Refusal :=
  let s := s.at_ t
  match s.takeAcc 0x06 with
  | none => .next s
  | some (a, s) =>
    let c := a.c
    let token := objN c 0 8
    let group := objN c 12 2
    if s.frz.parts.any (fun p => p.2.state == .revoked && p.2.token == token) then .next (s.stranger token)
    else if !s.frz.speaking ∨ !s.enrolOpen ∨ group = 0 ∨ group = 0xFFFF ∨ s.tokenRefused token then .next s
    else
      match s.assignId token, s.enrolSlot, s.nv.trust.enrol.find? (fun k => tagOk k c) with
      | some id, some slot, some key =>
        let eph := Config.randomKey s.ids.draws
        let s := { s with ids := { s.ids with draws := s.ids.draws + 1 } }
        let back := match s.part id with | some p => p.state | none => .free
        let g : Grant := ⟨1, slot, 1, 0, 0, none, 32, none⟩
        let p : Partner :=
          { state := .enrolling, back := back, token := token, nonce := objN c 8 4, group := group, caps := objN c 14 1 % 4
            mcs := 0, epoch := 0, up := [], down := [], old := none, enrolKey := key, ephemeral := eph, high := 0, seen := []
            txSeq := 0, grants := [g], snrs := [], raiseRun := 0, failRun := 0, missRun := 0, silentAt := 0, epochAt := 0
            heldAt := ((s.part id).map Partner.heldAt).getD 0, joinSf := a.sf, parts := [], rekeying := false, awaiting := []
            waitFor := [], leaveAt := none, tagFails := (0, 0) }
        let s := s.setPart id p
        let raw : DKey := .raw key 0
        let enrol : DownItem := ⟨5, 255, formOf 1 1 1, 0x21, none, none, raw,
          obj16 (beBytes 8 token ++ beBytes 4 p.nonce ++ [BitVec.ofNat 8 id, 1] ++ beBytes 2 group)⟩
        .next (s.push ([enrol, s.grantItem id g raw] ++ keyxItems id (Config.p256Pub eph) false raw))
      | _, _, _ => .next s

/-- HKDF info of R347. -/
def State.hkdfInfo (s : State) (id epoch : Nat) : List Byte :=
  [BitVec.ofNat 8 (s.lfldN .topologySegment), BitVec.ofNat 8 id, BitVec.ofNat 8 epoch]

/-- The standing GRANT and the KEY that complete an enrolment (R346), once every listener has acknowledged the record. -/
def State.completeEnrol (s : State) (id : Nat) : State :=
  match s.part id with
  | none => s
  | some p =>
    if p.state ≠ .enrolling ∨ p.up = [] ∨ !p.waitFor.isEmpty ∨ p.grants.any (fun g => g.index == 0) ∨ !s.frz.speaking then s
    else
      let s := s.addStanding id
      match s.newestKbc with
      | some k => s.push [keyItem id p k]
      | none => s

/-- KEYX (R346 to R348): a part of a partner's public key; with the third the keys are derived. -/
def execKeyx (t : Time) (s : State) : Host.Outcome State Fault Refusal :=
  let s := s.at_ t
  match s.takeAcc 0x07 with
  | none => .next s
  | some (a, s) =>
    let c := a.c
    let id := c.subject
    match s.part id with
    | none => .next s
    | some p =>
      let first := p.state == .enrolling && p.up.isEmpty && enrolKeyx c
      let again := p.rekeying && !enrolKeyx c
      if !s.frz.speaking ∨ !(first || again) then .next s else
      let parts := insertKey p.parts (objN c 0 1 % 4) (c.object.drop 1)
      match parts.lookup 0, parts.lookup 1, parts.lookup 2 with
      | some x, some y, some z =>
        let far := (x ++ y ++ z).take 33
        let secret := Config.ecdh p.ephemeral far
        let salt := beBytes 8 p.token ++ beBytes 4 p.nonce
        let epoch := if first then 1 else if p.epoch = 255 then 1 else p.epoch + 1
        let info := s.hkdfInfo id epoch
        let old : Option OldEpoch := if first then none else some ⟨p.epoch, p.up, p.down, p.high, p.seen, s.furzeSf⟩
        let s := s.updPart id (fun p => { p with
          parts := [], rekeying := false, ephemeral := [], epoch := epoch, up := Config.sessionKey salt info secret true
          down := Config.sessionKey salt info secret false, old := old, high := 0, seen := [], txSeq := 0, epochAt := s.now
          waitFor := if first then s.listeners else p.waitFor })
        .next (s.completeEnrol id)
      | _, _, _ => .next (s.updPart id (fun p => { p with parts := parts }))

/-- START_REQ (R362, R363): booked and answered by ADMIT, or refused when its PEAK alone exceeds the allowance. -/
def execStartReq (t : Time) (s : State) : Host.Outcome State Fault Refusal :=
  let s := s.at_ t
  match s.takeAcc 0x08 with
  | none => .next s
  | some (a, s) =>
    if !s.frz.speaking then .next s else
    let c := a.c
    let peak := objN c 3 2
    let dur := objN c 5 2
    if s.inrush < peak then
      .next (s.push [admitItem c.subject c.tref c.seq peak dur false true])
    else
      let b : Booking := ⟨c.subject, c.seq, peak, dur, c.tref, a.sf, 0, none, false, false⟩
      .next (s.book b).shareBookings

/-- LEAVE (R349): the id is held from the announced superframe. -/
def execLeave (t : Time) (s : State) : Host.Outcome State Fault Refusal :=
  let s := s.at_ t
  match s.takeAcc 0x09 with
  | none => .next s
  | some (a, s) => .next (s.updPart a.c.subject (fun p => { p with leaveAt := some a.c.tref }))

/-- HELLO (R360). -/
def execHello (t : Time) (s : State) : Host.Outcome State Fault Refusal :=
  let s := s.at_ t
  match s.takeAcc 0x0A with
  | none => .next s
  | some (a, s) => .next (s.stranger (objN a.c 0 8))

/-! ### Timers -/

/-- ENROL_TIMEOUT (R346): an enrolment not ACTIVE within `furze.enrol_timeout` lapses; the id returns to its previous state. -/
def execEnrolTimeout (t : Time) (id : Nat) (s : State) : Host.Outcome State Fault Refusal :=
  let s := s.at_ t
  match s.part id with
  | none => .next s
  | some p =>
    if s.inRst .htlFrz ∨ p.state ≠ .enrolling ∨ diff32 s.furzeSf p.joinSf < s.rfldN .furzeEnrolTimeout then .next s
    else
      let s := { s with frz := { s.frz with down := s.frz.down.filter (fun i => i.dst != id) } }
      if p.back = .free then .next (s.freePart id)
      else .next (s.updPart id (fun p => { p with state := p.back, up := [], down := [], old := none, enrolKey := [], ephemeral := []
                                                  parts := [], grants := [], awaiting := [], waitFor := [] }))

/-- SILENT_LAPSE (R358): the enrolment of a partner SILENT for `furze.lapse` lapses. -/
def execSilentLapse (t : Time) (id : Nat) (s : State) : Host.Outcome State Fault Refusal :=
  let s := s.at_ t
  match s.part id with
  | none => .next s
  | some p =>
    if s.inRst .htlFrz ∨ !s.frz.speaking ∨ p.state ≠ .silent ∨ !s.elapsed p.silentAt (s.rfldN .furzeLapse * sec) then .next s
    else
      let s := (s.endEnrolment id .heldId).frzEvent 4
      .next { s with ids := { s.ids with rotationOwed := true } }

/-- ID_HOLD_EXPIRY (R349, R358): a held or revoked id becomes FREE after `furze.id_hold`. -/
def execIdHoldExpiry (t : Time) (id : Nat) (s : State) : Host.Outcome State Fault Refusal :=
  let s := s.at_ t
  match s.part id with
  | none => .next s
  | some p =>
    if s.inRst .htlFrz ∨ (p.state ≠ .heldId ∧ p.state ≠ .revoked) ∨ !s.elapsed p.heldAt (s.rfldN .furzeIdHold * sec) then .next s
    else .next (s.freePart id)

/-- REKEY_TIMEOUT (R348): `furze.rekey_time` has passed, or a sequence number has reached 0xF000: the speaker sends KEYX parts
under the present key. -/
def execRekeyTimeout (t : Time) (id : Nat) (s : State) : Host.Outcome State Fault Refusal :=
  let s := s.at_ t
  match s.part id with
  | none => .next s
  | some p =>
    let due := s.elapsed p.epochAt (s.rfldN .furzeRekeyTime * 60 * sec) || decide (0xF000 ≤ p.high) || decide (0xF000 ≤ p.txSeq)
    if s.inRst .htlFrz ∨ !s.frz.speaking ∨ !pEnrolled p ∨ p.rekeying ∨ !due then .next s
    else
      let eph := Config.randomKey s.ids.draws
      let s := { s with ids := { s.ids with draws := s.ids.draws + 1 } }
      let s := s.updPart id (fun p => { p with rekeying := true, ephemeral := eph, parts := [] })
      .next (s.push (keyxItems id (Config.p256Pub eph) true .down))

/-- EPOCH_GRACE_EXPIRY (R343, R348): the previous epoch is no longer accepted. -/
def execEpochGraceExpiry (t : Time) (id : Nat) (s : State) : Host.Outcome State Fault Refusal :=
  let s := s.at_ t
  .next (s.updPart id (fun p => match p.old with
    | none => p
    | some o => if (s.rfldN .furzeEpochGrace : Int) < diff32 s.furzeSf o.since then { p with old := none } else p))

/-- STRANGER_EXPIRY (R360): strangers not heard for 10 s are removed. -/
def execStrangerExpiry (t : Time) (s : State) : Host.Outcome State Fault Refusal :=
  let s := s.at_ t
  .next { s with frz := { s.frz with strangers := s.frz.strangers.filter (fun x => !s.elapsed x.2 (10 * sec)) } }

/-! ### Speaker and listeners -/

/-- ELECTION (R333): an election record of another conductor of the segment. -/
def execElection (t : Time) (x : ElectIn) (s : State) : Host.Outcome State Fault Refusal :=
  let s := s.at_ t
  if s.inRst .htlFrz ∨ x.segment ≠ s.lfldN .topologySegment ∨ x.member = s.member then .next s else
  let s := s.takeInbox 2
  .next { s with frz := { s.frz with elect := x :: s.frz.elect.filter (fun e =>
    (e.member != x.member || e.sf != x.sf) && decide (diff32 x.sf e.sf ≤ 3)) } }

/-- SPEAKER_STATE (R334, R533, R535): a listener takes up the speaker's state and acknowledges an enrolment record; the speaker
takes the acknowledgement. -/
def execSpeakerState (t : Time) (x : SpeakerIn) (s : State) : Host.Outcome State Fault Refusal :=
  let s := s.at_ t
  if s.inRst .htlFrz then .next s else
  let s := s.takeInbox 3
  match x with
  | .acked id member =>
    if !s.frz.speaking then .next s
    else .next ((s.updPart id (fun p => { p with waitFor := p.waitFor.filter (fun m => m != member) })).completeEnrol id)
  | .partner id p ack =>
    if s.frz.speaking then .next s else
    let s := { s with frz := { s.frz with parts := insertKey s.frz.parts id p } }
    .next (if ack then s.htlSend 1 1 (s.frz.speaker.getD 0xFE) [0x03, 6, BitVec.ofNat 8 id, BitVec.ofNat 8 s.member] else s)
  | .gone id => .next (if s.frz.speaking then s else { s with frz := { s.frz with parts := eraseKey s.frz.parts id } })
  | .map version period =>
    .next (if s.frz.speaking then s else { s with frz := { s.frz with mapVersion := version, period := period, mapPending := [] } })
  | .bookings l => .next (if s.frz.speaking then s else { s with frz := { s.frz with bookings := l } })
  | .key num key =>
    .next (if s.frz.speaking then s else { s with ids := { s.ids with kbcPrev := s.ids.kbc, kbc := some key, kbcNum := num } })

/-- The conductor is eligible to speak (R333). -/
def State.eligible (s : State) : Bool :=
  !s.core.bringup && s.inForce && s.aon.locks.getLsbD 8 && !s.inRst .htlFrz

/-- Present members of the segment as the election of boundary `n` sees them (R333): member, eligible, holdover. -/
def State.candidates (s : State) (n : Nat) : List (Nat × Bool × Bool) :=
  let has := fun (m k : Nat) => s.frz.elect.find? (fun e => e.member == m && e.sf == (n + 2 ^ 32 - k) % 2 ^ 32)
  let others := ((s.frz.elect.map ElectIn.member).eraseDups).filterMap (fun m =>
    match has m 1, has m 2 with
    | some e, some _ => some (m, e.eligible, e.holdover)
    | _, _ => none)
  (s.member, s.eligible, s.rings.furze.holdover) :: others

/-- The rule of R333. -/
def State.elected (s : State) (n : Nat) : Option Nat :=
  let l := s.candidates n
  let good := l.filter (fun x => x.2.1)
  let stays : Bool := match s.frz.speaker with
    | none => false
    | some m => match good.find? (fun x => x.1 == m) with
      | none => false
      | some x => !x.2.2 || good.all (fun y => y.2.2)
  if stays then s.frz.speaker
  else
    let key := fun (x : Nat × Bool × Bool) => 64 * b2n x.2.2 + x.1
    match good with
    | [] => none
    | x :: r => some (r.foldl (fun m y => if key y < key m then y else m) x).1

/-- The speaker rids the segment of barred tokens, and of partners enrolled under a former key (R530, R532). -/
def State.purge (s : State) : State :=
  if !s.frz.speaking then s else
  let live := s.frz.parts.filter (fun p => pLive p.2)
  let s := (live.filter (fun p => s.nv.trust.barred.any (fun b => b.toNat == p.2.token))).foldl
    (fun (s : State) p => s.expelPart p.1 2) s
  if !s.ids.expelOld then s else
  let now := s.nv.trust.enrol.headD []
  let s := (live.filter (fun p => p.2.enrolKey != now)).foldl (fun (s : State) p => s.expelPart p.1 1) s
  { s with ids := { s.ids with expelOld := false } }

/-- A Furze superframe boundary (R333, R335, R532): the conductor yields where it must, chooses the speaker and publishes its
election record. -/
def State.furzeBoundary (s : State) : State :=
  let n := s.furzeSf
  if s.inRst .htlFrz ∨ s.frz.electSf = some n then s else
  let s := { s with frz := { s.frz with electSf := some n } }
  let s := if s.frz.yielding then
      ({ s with frz := { s.frz with yielding := false, speaking := false, speaker := none } }).frzEvent 1
    else s
  let who := s.elected n
  let me := who == some s.member
  let s := if who = s.frz.speaker then s else { s with frz := { s.frz with speaker := who } }.frzEvent 0
  let s := if me && !s.frz.speaking then
      { s with frz := { s.frz with speaking := true, speakFrom := (n + 1) % 2 ^ 32, admitting := s.admitOpen }
               ids := { s.ids with rotationOwed := true } }
    else if !me && s.frz.speaking then { s with frz := { s.frz with speaking := false, down := [], ackDue := [] } }
    else s
  let s := s.purge
  s.htlSend 1 1 0xFE ([0x02, BitVec.ofNat 8 (s.lfldN .topologySegment), BitVec.ofNat 8 s.member,
    BitVec.ofNat 8 (b2n s.eligible + 2 * b2n s.rings.furze.holdover), BitVec.ofNat 8 (s.frz.speaker.getD 0xFF)] ++ beBytes 4 n)

/-! ### The superframe (R330, R332, R353) -/

/-- One clause of the queue is sent in superframe `n`, slot `slot` (R337, R346, R350): SEQ, LEAD, EPOCH and TAG are formed, and a
GRANT takes its effective superframe. -/
def State.sendItem (s : State) (n slot : Nat) (i : DownItem) : State :=
  let keyed : Option (List Byte × Nat × Nat) :=
    if i.dst = 255 then
      match i.key with
      | .raw k _ => some (k, s.ids.kbcNum, s.frz.bcSeq)
      | _ => s.ids.kbc.map (fun k => (k, s.ids.kbcNum, s.frz.bcSeq))
    else match s.part i.dst with
      | none => none
      | some p => match i.key with
        | .raw k e => some (k, e, p.txSeq)
        | _ => if p.down.isEmpty then none else some (p.down, p.epoch, p.txSeq)
  match keyed with
  | none => s
  | some (key, epoch, last) =>
    let seq := (last + 1) % 65536
    let grant := i.verb == 0x22
    let tref := i.tref.getD (if grant then (n + 2) % 2 ^ 32 else n)
    let ann := if grant then tref else i.announced.getD tref
    let lead := if i.form / 16 % 4 = 2 then (min 255 (max 0 (diff32 ann n))).toNat else 0
    let c : Clause := ⟨0, i.dst, i.form, i.verb, tref, lead, epoch, seq, i.object, []⟩
    let c := { c with tag := (Config.cmac key (clauseBody c)).take 4 }
    let s := { s with frz := { s.frz with sent := s.frz.sent ++ [(n, slot, c)]
                                          bcSeq := if i.dst = 255 then seq else s.frz.bcSeq } }
    if i.dst = 255 then s else
    let index := objN c 0 1
    let await := decide (i.form / 64 = 1) && i.key == .down
    s.updPart i.dst (fun p => { p with
      txSeq := seq
      awaiting := if await then p.awaiting ++ [(seq, i.verb, 0)] else p.awaiting
      grants := if !grant then p.grants else p.grants.map (fun g =>
        if g.index = index ∧ g.start.isNone then
          { g with start := some tref, stop := if g.duration = 0 then g.stop else some ((tref + g.duration) % 2 ^ 32) }
        else g) })

/-- Highest scheme at which an item may go: M0 when broadcast (R353). -/
def State.itemScheme (s : State) (i : DownItem) : Nat :=
  if i.dst = 255 then 0 else ((s.part i.dst).map Partner.mcs).getD 0

/-- The clauses of one burst from the front of the queue (R329, R353): as many as the lowest scheme among them carries; an EXPEL
goes alone (R349). -/
def State.burst (s : State) : Nat → List DownItem → List DownItem → List DownItem × List DownItem
  | _, acc, [] => (acc, [])
  | m, acc, i :: l =>
    let m' := min m (s.itemScheme i)
    if acc.isEmpty then s.burst m' [i] l
    else if m' < acc.length ∨ i.verb = 0x28 ∨ acc.any (fun a => a.verb == 0x28) then (acc, i :: l)
    else s.burst m' (acc ++ [i]) l

/-- The downstream slots of a superframe are filled (R353). -/
def State.fillSlots (s : State) (n : Nat) : List Nat → State
  | [] => s
  | j :: l =>
    let order := (List.range 7).flatMap (fun k => s.frz.down.filter (fun i => i.cls == k))
    let (b, rest) := s.burst 3 [] order
    let s := { s with frz := { s.frz with down := rest } }
    (b.foldl (fun (s : State) i => s.sendItem n (5 + j) i) s).fillSlots n l

/-- The BEACON of superframe `n` (R332, R361). -/
def State.beacon (s : State) (n : Nat) : DownItem :=
  let before := (n + 2 ^ 32 - 1) % 2 ^ 32
  let out := fun (k : Nat) => ((s.frz.outcomes.find? (fun o => o.1 == before && o.2.1 == k)).map (fun o => o.2.2)).getD 0
  let floor := ((List.range 4).filter (fun k => out (k + 1) == 1)).length
  let step := if s.admitOpen ∧ peakAt s.frz.bookings n + s.strangerShare ≤ s.inrush then s.rfldN .furzeStrangerStep else 0
  let st := s.aon.mode.code + 8 * b2n s.fes.gridPresent + 16 * b2n s.enrolOpen + 32 * b2n s.admitOpen
  ⟨0, 255, formOf 0 1 1, 0x20, none, none, .bc,
    obj16 ([BitVec.ofNat 8 (s.lfldN .topologySegment), BitVec.ofNat 8 s.member, BitVec.ofNat 8 st,
      BitVec.ofNat 8 ((s.frz.mapVersion + 256 - (s.frz.mapPending.filter (fun e => decide (0 < diff32 e n))).length) % 256)]
      ++ (List.range 4).flatMap (fun k => beBytes 2 (out (k + 1)))
      ++ [BitVec.ofNat 8 step, BitVec.ofNat 8 floor, BitVec.ofNat 8 s.enrolled.length, 0])⟩

/-- ACKS clauses for what has been accepted, five entries each (R354). -/
def acksItems : Nat → List (Nat × Nat × Nat) → List DownItem
  | 0, _ => []
  | k + 1, l =>
    if l.isEmpty then [] else
    ⟨2, 255, formOf 0 0 1, 0x23, none, none, .bc,
      obj16 ((l.take 5).flatMap (fun a => BitVec.ofNat 8 a.2.1 :: beBytes 2 a.2.2))⟩ :: acksItems k (l.drop 5)

/-- Each slot instance of superframe `n` is judged (R357, R358). -/
def State.judgeSlots (s : State) (n : Nat) : State :=
  s.frz.parts.foldl (fun (s : State) p =>
    let slots := (p.2.grants.filter (fun g => grantGives g n)).map Grant.slot
    if p.2.state ≠ .active ∨ slots.isEmpty then s
    else if slots.any (fun j => s.frz.valid.contains (n, 5 + j)) then s.updPart p.1 (fun q => { q with missRun := 0 })
    else if s.rfldN .furzeSilentN ≤ p.2.missRun + 1 then
      (s.updPart p.1 (fun q => { q with missRun := 0, state := .silent, silentAt := s.now })).frzEvent 3
    else s.updPart p.1 (fun q => { q with missRun := q.missRun + 1 })) s

/-- Grants that no longer stand, and departures announced by LEAVE, go (R349, R350). -/
def State.dropGrants (s : State) (n : Nat) : State :=
  let leaving := s.frz.parts.filter (fun p => pEnrolled p.2 && (match p.2.leaveAt with | none => false | some t => decide (0 ≤ diff32 n t)))
  let s := leaving.foldl (fun (s : State) p => s.endEnrolment p.1 .heldId) s
  s.frz.parts.foldl (fun (s : State) p =>
    if p.2.grants.any (fun g => match g.stop with | none => false | some t => decide (0 ≤ diff32 n t)) then
      s.updPart p.1 (fun q => { q with grants := q.grants.filter (fun g => match g.stop with
        | none => true
        | some t => decide (diff32 n t < 0)) })
    else s) s

/-- Bookings begin and end (R362, R364). -/
def State.bookingStep (s : State) (n : Nat) : State :=
  let s := s.frz.bookings.foldl (fun (s : State) b => s.delayLedger n b) s
  let begin_ := s.frz.bookings.filter (fun b => !b.begun && b.at_ == some n)
  let last := (begin_.getLast?.map Booking.id).getD s.frz.lastBegan
  { s with frz := { s.frz with
      lastBegan := last
      bookings := (s.frz.bookings.map (fun b => if b.at_ = some n then { b with begun := true } else b)).filter (fun b =>
        match b.at_ with | none => true | some t => decide (diff32 n t < max 1 b.duration)) } }

/-- FURZE_SUPERFRAME (R330, R332, R335, R350, R353, R354, R357, R358, R361, R364): the speaker's work at a boundary. -/
def execFurzeSuperframe (t : Time) (s : State) : Host.Outcome State Fault Refusal :=
  let s := s.at_ t
  let n := s.furzeSf
  if s.inRst .htlFrz ∨ s.frz.sf = some n then .next s else
  let near := fun (m : Nat) => decide (diff32 n m ≤ 4)
  let s := { s with frz := { s.frz with
    sf := some n, valid := s.frz.valid.filter (fun v => near v.1), outcomes := s.frz.outcomes.filter (fun o => near o.1)
    mapPending := s.frz.mapPending.filter (fun e => decide (0 < diff32 e n)) } }
  if !s.frz.speaking ∨ diff32 n s.frz.speakFrom < 0 then .next s else
  let s := (s.admitUpdate.judgeSlots ((n + 2 ^ 32 - 2) % 2 ^ 32)).dropGrants n
  let s := s.bookingStep n
  let acks := acksItems (s.frz.ackDue.length) s.frz.ackDue
  let s := { s with frz := { s.frz with ackDue := [], down := s.frz.down ++ acks } }
  let s := if n % 64 = s.member then s else s.sendItem n 0 (s.beacon n)
  let free := (List.range 36).filter (fun j => (s.slotHolder j n).isNone)
  .next (s.fillSlots n free)

/-! ### The broadcast key (R533) -/

/-- KBC_ROTATION: a new key is drawn on becoming speaker, at the end of an enrolment, and every 24 h of operating time; each
ACTIVE partner is sent it. With no key in use it is used at once. -/
def execKbcRotation (t : Time) (s : State) : Host.Outcome State Fault Refusal :=
  let s := s.at_ t
  let second := s.opMs / 1000
  let due := s.ids.rotationOwed || decide (s.ids.kbcBorn + 86400 ≤ second)
  if !s.frz.speaking ∨ !s.idsOk ∨ !due then .next s else
  let num := (s.ids.rotation.map KbcRotation.num).getD s.ids.kbcNum
  let num := if 255 ≤ num then 1 else num + 1
  let key := (Config.randomKey s.ids.draws).take 16
  let s := { s with ids := { s.ids with draws := s.ids.draws + 1, rotationOwed := false, kbcBorn := second } }
  if s.ids.kbcNum = 0 then
    .next ({ s with ids := { s.ids with kbc := some key, kbcNum := num, event := setBit s.ids.event 5 } }.shareBytes
      ([5, BitVec.ofNat 8 num] ++ key))
  else
    let active := s.frz.parts.filter (fun p => p.2.state == .active)
    let s := { s with ids := { s.ids with rotation := some ⟨num, key, s.furzeSf, active.map Prod.fst⟩ } }
    .next (s.push (active.map (fun p => keyItem p.1 p.2 key)))

/-- KBC_SWITCH: every ACTIVE partner has acknowledged, or `furze.epoch_grace` superframes have passed. -/
def execKbcSwitch (t : Time) (s : State) : Host.Outcome State Fault Refusal :=
  let s := s.at_ t
  match s.ids.rotation with
  | none => .next s
  | some r =>
    let active := r.waiting.filter (fun id => match s.part id with | some p => p.state == .active | none => false)
    if !s.frz.speaking ∨ (!active.isEmpty ∧ diff32 s.furzeSf r.start < s.rfldN .furzeEpochGrace) then .next s
    else
      let s := { s with ids := { s.ids with kbcPrev := s.ids.kbc, kbc := some r.key, kbcNum := r.num, rotation := none
                                            event := setBit s.ids.event 5 } }
      .next (s.shareBytes ([5, BitVec.ofNat 8 r.num] ++ r.key))

end Sys2Proof.Machine
end

