-- ==== Sys2Proof/Machine/Concord.lean ====
section
/-! DEFINITION. Concord's commands and its work at a superframe boundary (chapter 12). -/
namespace Sys2Proof.Machine

/-- REQUEST (R382, R384): a record is kept, and a steward that receives an emergency in it acts at once. -/
def execRequest (t : Time) (x : ReqRec) (s : State) : Host.Outcome State Fault Refusal :=
  let s := s.at_ t
  if s.inRst .htlFrz then .next s else
  let s := (s.takeInbox 0x11).keepReq x s.htlSf
  .next (if x.emergency then s.emergencyPath x.tag else s)

/-- DECISION (R370, R376, R382, R385): a record of a steward takes effect. -/
def execDecision (t : Time) (x : DecRec) (s : State) : Host.Outcome State Fault Refusal :=
  let s := s.at_ t
  if s.inRst .htlFrz then .next s else .next ((s.takeInbox 0x12).takeDecision x)

/-- GOVERNOR_RELEASE (R390, R392): requests whose condition has been absent for `concord.release_time` are withdrawn. -/
def execGovernorRelease (t : Time) (s : State) : Host.Outcome State Fault Refusal :=
  let s := s.at_ t
  if s.inRst .fabric then .next s else
  let gone := fun (q : GovReq) => match q.absent with
    | none => false
    | some t0 => s.elapsed t0 (s.rfldN .concordReleaseTime * 100 * ms)
  .next { s with ccd := { s.ccd with gov := s.ccd.gov.filter (fun q => !gone q) } }

/-- MATCH_RELEASE (R394): the match request for a member is withdrawn. -/
def execMatchRelease (t : Time) (id : Nat) (s : State) : Host.Outcome State Fault Refusal :=
  let s := s.at_ t
  if s.inRst .fabric then .next s else
  match (s.cpart id).matched with
  | some (_, some since) =>
    if s.elapsed since (s.rfldN .concordMatchHold * sec) then .next (s.updCpart id (fun p => { p with matched := none }))
    else .next s
  | _ => .next s

/-- Members that have left the segment leave their group, and groups without members close (R368, R401). -/
def State.dropGroups (s : State) : State :=
  let gone := s.ccd.groups.filter (fun g => (s.members g.tag).isEmpty)
  let s := gone.foldl (fun (s : State) g => s.closeLedgers (fun e => decide (e.kind < 3) && e.tag == g.tag)) s
  { s with ccd := { s.ccd with groups := s.ccd.groups.filter (fun g => !(gone.any (fun x => x.tag == g.tag))) } }

/-- Refused tags form their groups once the domain holds fewer than 4096 (R369). -/
def State.reformGroups (s : State) : State :=
  (s.ccd.refused.filter (fun t => s.ccd.parts.any (fun p => p.job == t))).foldl (fun (s : State) t =>
    if s.domainTags.length < 4096 then s.formGroup t else s)
    { s with ccd := { s.ccd with refused := s.ccd.refused.filter (fun t => s.ccd.parts.any (fun p => p.job == t)) } }

/-- Records older than `concord.segment_hold` no longer stand: a segment whose speaker is silent no longer holds back a
tightening (R377). -/
def State.ageReqs (s : State) : State :=
  let stale := fun (x : ReqRec × Nat) => decide ((100 * s.rfldN .concordSegmentHold : Nat) < diff32 s.htlSf x.2)
  let lost := s.ccd.reqs.any (fun x => stale x && x.1.speaker && decide (0 < x.1.members) && (s.group x.1.tag).isSome)
  let s := { s with ccd := { s.ccd with reqs := s.ccd.reqs.filter (fun x => !stale x) } }
  if lost then s.ccdEvent 9 else s

/-- The mean shelf output of the superframe enters the estimate of P_m (R389). -/
def State.outMean (s : State) : State :=
  let c := s.ccd
  if c.outCount = 0 then s else
  { s with ccd := { c with outMeans := (c.outSum / c.outCount :: c.outMeans).take (100 * s.rfldN .concordEstWindow)
                           outSum := 0, outCount := 0 } }

/-- The work of one group at a boundary, in the order of the rules: steward, what comes into force, the request, the round,
what the speaker sends. -/
def State.groupBoundary (s : State) (tag : Nat) : State :=
  let s := s.updGroup tag (fun g => { g with steward := s.stewardOf tag })
  let s := s.ripen tag
  let s := match s.group tag with
    | none => s
    | some g => s.matchUp g
  let s := (s.publishReq tag).steer tag
  let s := s.renewRecord tag
  if s.frz.speaking then s.serve tag else s

/-- Concord at a superframe boundary (R369 to R385, R393, R396 to R399). -/
def State.concordBoundary (s : State) : State :=
  let s := s.outMean.dropGroups.reformGroups.ageReqs
  let s := s.capStep.clipStep
  let s := s.govern
  (s.ccd.groups.map CGroup.tag).foldl (fun (s : State) t => s.groupBoundary t) s

/-- The governor at a planning tick (R382, R390): the conditions reported are evaluated, and an emergency goes out at once. -/
def State.governTick (s : State) : State :=
  let s := s.govern
  if !s.ccd.gov.any (fun q => q.emergency && q.absent.isNone && s.govMode q.cond) then s else
  (s.ccd.groups.map CGroup.tag).foldl (fun (s : State) t => (s.publishReq t).emergencyPath t) s

end Sys2Proof.Machine
end

