-- ==== Sys2Proof/Machine/HtlOps.lean ====
section
/-! DEFINITION. Heathline's shared operations (chapter 13): LINK_STATE and presence, the master, the parent and
synchronisation, ports entering and leaving their states, local delivery, mirror rings, planner summaries, bit-error tests. -/
namespace Sys2Proof.Machine

/-- Set bit `i` of HTL_EVENT (R439). -/
def State.htlEvent (s : State) (i : Nat) : State := { s with htl := { s.htl with event := setBit s.htl.event i } }

/-- A counter of HTL_DROP through `f`. -/
def State.drop (s : State) (f : Drops → Drops) : State := { s with htl := { s.htl with drops := f s.htl.drops } }

/-- Fault source of a port (R483). -/
def portSource (p : Port) : Nat := 0x900 + p.num

/-! ### LINK_STATE (R422) -/

/-- This conductor's LINK_STATE record (R422, R571). -/
def State.ownRec (s : State) : LinkRec :=
  let me := s.member
  { member := me, sync := s.htl.sync, master := s.htl.master == some me, head := s.htl.head == some me && s.mbx.fwRunning
    holding := s.htl.holding, bringupEnded := !s.core.bringup, segment := s.lfldN .topologySegment
    ports := s.htl.ports.map (fun q => q.state.code)
    neighbours := s.htl.ports.map (fun q => if q.state = .up ∨ q.state = .stalled then q.neighbour.getD 0xFF else 0xFF)
    sf := s.htlSf, mode := s.aon.mode.code }

/-- Its 32 bytes. -/
def linkBytes (r : LinkRec) : List Byte :=
  let st := (r.ports.getD 0 0) * 4096 + (r.ports.getD 1 0) * 256 + (r.ports.getD 2 0) * 16 + r.ports.getD 3 0
  [0x01, BitVec.ofNat 8 r.member,
   BitVec.ofNat 8 (b2n r.sync + 2 * b2n r.master + 4 * b2n r.head + 8 * b2n r.holding + 16 * b2n r.bringupEnded),
   BitVec.ofNat 8 r.segment] ++ beBytes 2 st ++ (List.range 4).map (fun i => BitVec.ofNat 8 (r.neighbours.getD i 0xFF))
  ++ beBytes 4 r.sf ++ [BitVec.ofNat 8 r.mode] ++ List.replicate 17 0

/-- A record is kept: those of the two newest superframes of each member, the newest first. -/
def State.keepRec (s : State) (x : LinkRec) : State :=
  let mine := s.htl.recs.filter (fun r => r.member == x.member && r.sf != x.sf)
  let rest := s.htl.recs.filter (fun r => r.member != x.member)
  let mine := match mine with
    | r :: l => if 0 < diff32 r.sf x.sf then r :: x :: l else x :: r :: l
    | [] => [x]
  { s with htl := { s.htl with recs := mine.take 3 ++ rest } }

/-- Send this conductor's LINK_STATE record (R422). -/
def State.publishLink (s : State) : State :=
  if !s.htlUp then s else
  let r := s.ownRec
  (s.keepRec r).htlSend 1 1 0xFF (linkBytes r)

/-! ### Synchronisation (R430 to R432) -/

/-- Ring time is unsynchronised: the islands' copies enter holdover (R67, R431). -/
def State.desync (s : State) : State :=
  let was := s.htl.sync
  let s := { s with htl := { s.htl with sync := false, good := 0 } }
  if was then s.enterHoldover else s

/-- The member is master (R431, R432): synchronised at once. Unless it holds ring time it adopts the latest that a HOLDING
member's TIME cells have reported, at the next boundary, or starts at 0. -/
def State.becomeMaster (s : State) : State :=
  let h := s.htl
  let h := { h with
    parent := none, hops := 0, good := 0, sync := true, holding := true
    stepTo := if h.holding then h.stepTo else h.heard
    counter := if h.holding ∨ h.heard.isSome then h.counter else ⟨0, s.now, false⟩ }
  { s with htl := h }

/-- Ports on a route to the master over links that are UP, with the hops (R430), in the order E, W, N, S. -/
def State.parentPorts (s : State) (master : Nat) : List (Port × Nat) :=
  let d := s.reach true master
  Port.all.filterMap (fun p =>
    if !s.linkOk true s.member p then none
    else match s.shape.wire s.member p with
      | none => none
      | some (a, _) => (d.lookup a).map (fun k => (p, k + 1)))

/-- The port of fewest hops, the first on a tie. -/
def bestPort : List (Port × Nat) → Option (Port × Nat)
  | [] => none
  | x :: l => some (l.foldl (fun m y => if y.2 < m.2 then y else m) x)

/-- The member takes a parent (R430): a change of parent starts synchronisation again (R431). -/
def State.takeParent (s : State) (x : Option (Port × Nat)) : State :=
  let was := s.htl.parent
  let s := { s with htl := { s.htl with parent := x.map Prod.fst, hops := (x.map Prod.snd).getD 0 } }
  if was = x.map Prod.fst ∧ was.isSome then s
  else { s with htl := { s.htl with timeAt := s.now } }.desync

/-- Master and parent are chosen (R430). `force`: the parent no longer lies on a shortest route. -/
def State.chooseMaster (s : State) (force : Bool) : State :=
  let m := s.htl.present.head?.getD s.member
  let was := s.htl.master
  let s := { s with htl := { s.htl with master := some m } }
  if m = s.member then (if was = some m then s else s.becomeMaster)
  else
    let l := s.parentPorts m
    let best := bestPort l
    let present : Option (Port × Nat) := match s.htl.parent with
      | none => none
      | some p => l.find? (fun x => x.1 == p)
    match present, best with
    | some c, some b => s.takeParent (if b.2 < c.2 ∨ force then some b else some c)
    | none, b => s.takeParent b
    | some c, none => s.takeParent (some c)

/-! ### Mirror rings (R421, R512) -/

/-- The CAPTURE record (R503, R512): SUB 0 made, 1 skipped. -/
def State.captureRecord (s : State) (p : Port) (sub frozen : Nat) : State :=
  s.stage 0x09 sub ([BitVec.ofNat 8 p.num, BitVec.ofNat 8 ((s.port p).neighbour.getD 0xFF)] ++ leBytes 8 frozen)

/-- Ring time at which the ring of a neighbour froze; none while it runs, and for ports that have no ring. -/
def Htl.frozen (h : Htl) : Port → Option Nat | .e => h.frozenE | .w => h.frozenW | _ => none

/-- Freeze the ring of a port, or let it resume. -/
def State.setFrozen (s : State) (p : Port) (x : Option Nat) : State :=
  match p with
  | .e => { s with htl := { s.htl with frozenE := x } }
  | .w => { s with htl := { s.htl with frozenW := x } }
  | _ => s

/-- The ring of the neighbour at a port freezes (R421); the recorder copies it unless the capture area is held (R512). -/
def State.freezeRing (s : State) (p : Port) : State :=
  if (p ≠ .e ∧ p ≠ .w) ∨ (s.htl.frozen p).isSome then s else
  let at_ := s.rings.fabric.now s.now
  let held := if p = .e then s.nv.lu3.captureE.isSome || s.brw.capturingE else s.nv.lu3.captureW.isSome || s.brw.capturingW
  if held ∨ s.inRst .fabric then s.captureRecord p 1 at_
  else
    let s := s.setFrozen p (some at_)
    if p = .e then { s with brw := { s.brw with capturingE := true } } else { s with brw := { s.brw with capturingW := true } }

/-! ### Presence (R422, R425) -/

/-- The LINK_STATE records of the present and the previous superframe have come, or those of the two before while the present
one's are on their way. -/
def State.freshRec (s : State) (m : Nat) : Bool :=
  let n := s.htlSf
  let has := fun (k : Nat) => s.htl.recs.any (fun r => r.member == m && r.sf == (n + 2 ^ 32 - k) % 2 ^ 32)
  has 1 && (has 0 || has 2)

/-- The members present: this one, and those that are fresh and that a route reaches. -/
def State.presentNow (s : State) : List Nat :=
  let r := s.reach false s.member
  (List.range s.shape.n).filter (fun m => m == s.member || (s.freshRec m && r.any (fun x => x.1 == m)))

/-- Presence, rings, subscribers and the master follow the records and the port states (R421 to R423, R425, R430). -/
def State.rejudge (s : State) : State :=
  let now := s.presentNow
  let gone := s.htl.present.filter (fun m => !now.contains m)
  let s := { s with htl := { s.htl with
    present := now
    zeroSince := if now.contains 0 then some (s.htl.zeroSince.getD s.now) else none
    subs := s.htl.subs.filter (fun x => now.contains x.1) } }
  let s := [Port.e, Port.w].foldl (fun (s : State) p =>
    match (s.port p).neighbour with
    | some m => if gone.contains m then s.freezeRing p else s
    | none => s) s
  s.chooseMaster false

/-- The head (R429): member 0 while present, member 1 while it is not; member 0 takes it back after `heathline.head_return`. -/
def State.headNow (s : State) : Option Nat :=
  let has := fun (m : Nat) => s.htl.present.contains m
  let back : Bool := match s.htl.zeroSince with | none => false | some t => s.elapsed t (s.rfldN .heathlineHeadReturn * sec)
  if has 0 ∧ (s.htl.head ≠ some 1 ∨ !has 1 ∨ back) then some 0
  else if has 1 then some 1 else none

/-- HTL_PRESENT as 64 bits. -/
def Htl.presentMask (h : Htl) : Nat := (h.present.map (fun m => 2 ^ m)).foldl (· + ·) 0

/-- The head changes (R429, R569): the event, and a new head notifies the managers. -/
def State.headStep (s : State) : State :=
  let new := s.headNow
  let old := s.htl.head
  if new = old then s else
  let s := { s with htl := { s.htl with head := new } }.htlEvent 4
  if new = some s.member then
    s.notify 2 ([BitVec.ofNat 8 s.member, BitVec.ofNat 8 (old.getD 0xFF)] ++ beBytes 8 s.htl.presentMask)
  else s

/-! ### Ports (R411 to R413, R424, R426) -/

/-- A port's state has changed (R422, R425). -/
def State.portChanged (s : State) : State := s.rejudge.publishLink

/-- The member at the E or S end of the link of a port. -/
def State.linkEnd (s : State) (p : Port) : Nat :=
  match p with
  | .e | .s => s.member
  | _ => ((s.shape.wire s.member p).map Prod.fst).getD 0

/-- A test skipped or abandoned is recorded (R434, R584). -/
def State.testRecord (s : State) (port member : Nat) (abandoned : Bool) : State :=
  (s.htlEvent 7).stage 0x22 2 [BitVec.ofNat 8 port, BitVec.ofNat 8 member, BitVec.ofNat 8 (b2n abandoned), 0]

/-- A test on a port is abandoned (R434): the tested link trains again. -/
def State.abandonTest (s : State) (p : Port) : State :=
  if (s.port p).state ≠ .test then s else
  let s := s.updPort p (fun q => { q with state := .training, since := s.now })
  { s with htl := { s.htl with bert := none } }.testRecord p.num (s.linkEnd p) true

/-- Another link leaves UP: tests on every other port are abandoned (R434). -/
def State.abandonTests (s : State) (p : Port) : State :=
  (Port.all.filter (fun q => q != p)).foldl (fun (s : State) q => s.abandonTest q) s

/-- A port enters STALLED (R426, R427): its exchange is abandoned, and its cells wait or wrap. -/
def State.stallPort (s : State) (p : Port) : State :=
  let s := s.updPort p (fun q => { q with state := .stalled, since := s.now, rekeying := false })
  ((s.htlEvent 0).abandonTests p).portChanged

/-- A port enters DOWN (R426): held cells discarded, its key epoch ended, the event, the report, its mirror ring frozen.
`detail`: 0 a stall beyond 10 ms, 1 presence lost, 2 errors. -/
def State.enterDown (s : State) (p : Port) (detail : Nat) : State :=
  let q := s.port p
  let s := s.drop (fun d => { d with link := d.link + q.held.length })
  let s := s.updPort p (fun q => { q with
    state := .down, inUse := false, wasDown := true, since := s.now, checked := false, downs := sat 65535 (q.downs + 1), held := []
    rekeying := false, tagErrs := [], uncErrs := [] })
  let s := { s with ids := { s.ids with hop := upd s.ids.hop p.num (fun h => (false, h.2)) } }
  let s := (s.htlEvent 1).report (portSource p) 0x61 (s.port p).downs detail
  ((s.freezeRing p).abandonTests p).portChanged

/-- Errors of a port within 1 ms: more than 16 tag failures or uncorrectable codewords put it DOWN at once (R424). -/
def State.errorCheck (s : State) (p : Port) : State :=
  let s := s.updPort p (fun q => { q with tagErrs := q.tagErrs.filter (fun t => decide (s.now < t + ms))
                                          uncErrs := q.uncErrs.filter (fun e => decide (s.now < e.1 + ms)) })
  let q := s.port p
  if q.state = .up ∧ (16 < q.tagErrs.length ∨ 16 < sumNat (q.uncErrs.map Prod.snd)) then s.enterDown p 2 else s

/-- A port is REFUSED (R412, R536). -/
def State.refusePort (s : State) (p : Port) : State :=
  let s := s.updPort p (fun q => { q with state := .refused, since := s.now, inUse := false, checked := false, rekeying := false })
  let s := { s with ids := { s.ids with hop := upd s.ids.hop p.num (fun h => (false, h.2)) } }
  (s.abandonTests p).portChanged

/-- Age limits of the classes, in superframes (R417). -/
def ageLimit : Nat → Int
  | 1 => 2 | 2 => 1 | 3 => 8 | _ => 1000

/-- A cell's age: the superframe count less SF by serial arithmetic on 16 bits (R417). -/
def State.ageOf (s : State) (sf : Nat) : Int := signed 16 (s.htlSf + 65536 - sf % 65536)

/-- A cell is older than its class allows. -/
def State.staleCell (s : State) (c : Cell) : Bool := decide (ageLimit c.cls < s.ageOf c.sf)

/-- A cell that waited for a port is sent after the age check (R417). -/
def State.heldCell (p : Port) (s : State) (c : Cell) : State :=
  if s.staleCell c then s.drop (fun d => { d with stale := d.stale + 1 }) else s.emitCell p c

/-- Cells that waited for a port are sent after the age check (R417, R426). -/
def State.sendHeld (s : State) (p : Port) : State :=
  (s.port p).held.foldl (State.heldCell p) (s.updPort p (fun q => { q with held := [] }))

/-- A port comes into use (R413). -/
def State.usePort (s : State) (p : Port) : State :=
  let s := s.updPort p (fun q => { q with inUse := true, wasDown := false })
  ((s.htlEvent 2).sendHeld p).portChanged

/-- A port enters UP (R412, R413, R426): one that has been DOWN waits for the rejoin hold. -/
def State.enterUp (s : State) (p : Port) : State :=
  let s := s.updPort p (fun q => { q with state := .up, since := s.now, checked := true, rekeying := false, keyAt := s.now })
  let q := s.port p
  if q.wasDown then s.portChanged
  else if q.inUse then (s.sendHeld p).portChanged
  else s.usePort p

/-! ### Delivery (R416, R418 to R420, R423, R435, R571) -/

/-- Sizes of the fields of a planner summary (R211). -/
def sumSizes : List Nat :=
  [1, 1, 2, 4, 4, 1, 1, 2, 2, 2, 2, 2, 2, 2, 4, 2, 2, 2] ++ List.replicate 26 1 ++ List.replicate 512 2

/-- The fields of a summary on the wire that the conductor reads. -/
def sumRec (b : List Byte) : SumRec :=
  let f := fun (o n : Nat) => ofBe ((b.drop o).take n)
  ⟨f 0 1, f 1 1, f 2 2, f 4 4, f 14 2, signed 16 (f 576 2)⟩

/-- A summary is kept: the two newest of each member. -/
def State.keepSum (s : State) (x : SumRec) : State :=
  let mine := (s.ccd.sums.filter (fun y => y.member == x.member)).take 1
  { s with ccd := { s.ccd with sums := x :: mine ++ s.ccd.sums.filter (fun y => y.member != x.member) } }

/-- A summary on the wire reaches its slot of SUMMARY_IN (R307, R420). -/
def State.takeSummary (s : State) (src : Nat) (b : List Byte) : State :=
  (s.keepSum (sumRec b)).deliver 7 (swapFields sumSizes b) (some src)

/-- The subscription area of an entry: its area in programs and spare (R423). -/
def State.subArea (s : State) (k : Nat) : Option Area := s.swd.areas.find? (fun a => a.entry == k && a.region == 4)

/-- A member's stream is written into the areas of the entries that subscribe to it (R252, R423). -/
def State.takeStream (s : State) (src : Nat) (b : List Byte) : State :=
  if s.inRst .planning ∨ !s.swd.powered then s else
  (s.swd.sources.filter (fun x => x.2 == src)).foldl (fun (s : State) x =>
    match s.subArea x.1 with
    | none => s
    | some a =>
      let mine := (s.swd.sources.filter (fun y => y.1 == x.1)).map Prod.snd
      let blocks := a.size / max 1 mine.length / 8192
      if blocks = 0 then s else
      let base := a.base + ((mine.idxOf src) * blocks + leAt b 8 8 % blocks) * 8192
      let mem := (s.swm.writeBytes base (b.take 64))
      { s with swm := (List.range 8).foldl (fun (m : Mem) i =>
          m.writeBytes (base + 64 + 480 * i) ((b.drop (64 + 450 * i)).take 450)) mem }) s

/-- A message of this class and service is known (R418, R419). -/
def serviceOk (m : Delivered) : Bool :=
  match m.cls, m.service with
  | 1, 1 => [0x01, 0x02, 0x03, 0x04, 0x05, 0x11, 0x12].contains (ofBe (m.payload.take 1))
  | 2, 2 => true
  | 3, 3 => true
  | 3, 4 => true
  | 4, 5 => true
  | 5, 6 => true
  | 5, 7 => true
  | 5, n => decide (0x100 ≤ n) && decide (n < 0x200)
  | _, _ => false

/-- Ring time since the boundary of the superframe whose low 16 bits are `sf`, in ns. -/
def State.sinceBoundary (s : State) (sf : Nat) : Int := s.ageOf sf * 1000000 + s.ringTime % 1000000

/-- A complete message reaches its consumer (R418). -/
def State.deliverMsg (s : State) (m : Delivered) : State :=
  let lost := s.drop (fun d => { d with service := d.service + 1 })
  if !serviceOk m then lost
  else match m.cls, m.service with
    | 2, _ => if 900000 < s.sinceBoundary m.sf then s else s.takeSummary m.src m.payload
    | 4, _ =>
      if s.htl.head = some s.member then (s.sendMsg .telemetry .a 0 0 0 m.payload).sendMsg .telemetry .b 0 0 0 m.payload else s
    | 5, 6 => s.takeStream m.src m.payload
    | 5, 7 => { s with htl := { s.htl with inbox := s.htl.inbox ++ [m] } }
    | 5, _ => if s.swd.landings.any (fun l => l.service == 8 && l.lines != 0) then s.deliver 8 m.payload else lost
    | _, _ => { s with htl := { s.htl with inbox := s.htl.inbox ++ [m] } }

/-- A local cell joins its message; a complete message is delivered once (R416). -/
def State.takeCell (s : State) (c : Cell) : State :=
  if s.htl.seen.any (fun k => k.1 == c.src && k.2.1 == c.cls && k.2.2.1 == c.seq) then s else
  let is := fun (a : Assembly) => a.src == c.src && a.cls == c.cls && a.seq == c.seq
  let old := (s.htl.parts.find? is).getD ⟨c.src, c.cls, c.seq, []⟩
  if old.cells.any (fun x => x.cell == c.cell) then s else
  let cells := old.cells ++ [c]
  let rest := s.htl.parts.filter (fun a => !is a)
  let whole := match cells.find? (fun x => hasFlag x flagLast) with
    | none => false
    | some x => cells.length == x.cell + 1
  if whole then
    let payload := (List.range cells.length).flatMap (fun i => ((cells.find? (fun x => x.cell == i)).map Cell.payload).getD [])
    let s := { s with htl := { s.htl with parts := rest, seen := (c.src, c.cls, c.seq, c.sf) :: s.htl.seen } }
    s.deliverMsg ⟨c.src, c.cls, c.service, c.sf, c.segment, payload⟩
  else { s with htl := { s.htl with parts := ⟨c.src, c.cls, c.seq, cells⟩ :: rest } }

/-- A cell for local delivery (R435): it waits in the queue until bring-up ends. -/
def State.localCell (s : State) (c : Cell) : State :=
  if !s.core.bringup then s.takeCell c
  else if s.htl.queue.length < 256 then { s with htl := { s.htl with queue := s.htl.queue ++ [c] } }
  else s.drop (fun d => { d with local_ := d.local_ + 1 })

/-- Bring-up has ended: the cells that waited are delivered (R435). -/
def State.drainQueue (s : State) : State :=
  let l := s.htl.queue
  l.foldl (fun (s : State) c => s.takeCell c) { s with htl := { s.htl with queue := [] } }

/-- Messages incomplete beyond their class's age limit are discarded (R416), and old entries of the messages seen forgotten. -/
def State.ageParts (s : State) : State :=
  let old := fun (a : Assembly) => match a.cells with | [] => false | c :: _ => s.staleCell c
  let n := (s.htl.parts.filter old).length
  let s := s.drop (fun d => { d with incomplete := d.incomplete + n })
  { s with htl := { s.htl with parts := s.htl.parts.filter (fun a => !old a)
                               seen := s.htl.seen.filter (fun k => decide (s.ageOf k.2.2.2 ≤ ageLimit k.2.1)) } }

/-! ### The planner summary (R211, R420) -/

/-- The header of R211 from the fabric's values; FLAGS bit 7: no planner. -/
def State.sumHeader (s : State) : List Byte :=
  let b := (s.plan.basis.head?).getD (s.basisRec s.plan.tick)
  [BitVec.ofNat 8 s.member, BitVec.ofNat 8 s.aon.mode.code] ++ beBytes 2 (b2n s.plan.conf + 2 * (b.flags % 64) + 128)
  ++ beBytes 4 s.htlSf ++ beBytes 4 b.tick
  ++ [BitVec.ofNat 8 (s.lfldN .topologySegment), BitVec.ofNat 8 (s.lfldN .topologySegmentShelves)]
  ++ beBytes 2 (s.lfldN .topologyShelfRating) ++ beBytes 2 b.iCap ++ beBytes 2 b.limitS
  ++ beBytes 2 (sat 65535 (natFloor (s.storeAbove .limitsStoreVMin / 100))) ++ beBytes 2 b.eU ++ beBytes 2 0 ++ beBytes 2 b.stoS
  ++ beBytes 4 (vw (s.plan.force.getD []) 4).toNat ++ beBytes 2 (wrapInt 16 b.offset) ++ beBytes 2 b.iRef
  ++ beBytes 2 (sat 65535 s.flatSd) ++ List.replicate 26 0

/-- The 1600 bytes that this conductor publishes: the periphery's, with the fields it writes itself (R307), or the header. -/
def State.ownSummary (s : State) : List Byte :=
  match (if s.inRst .planning || !s.swd.powered then none else s.swd.summaryOut) with
  | none => s.sumHeader ++ List.replicate 1536 0
  | some l =>
    let w := swapFields sumSizes l
    let fl := ofBe ((w.drop 2).take 2)
    let fl := fl - fl / 128 % 2 * 128 + 128 * b2n (!s.plannerRuns)
    [BitVec.ofNat 8 s.member, BitVec.ofNat 8 s.aon.mode.code] ++ beBytes 2 fl ++ beBytes 4 s.htlSf ++ w.drop 8

/-- The summary is published (R420), and kept for this conductor itself. -/
def State.publishSummary (s : State) : State :=
  let b := s.ownSummary
  (s.takeSummary s.member b).htlSend 2 2 0xFF b

/-! ### Bit-error tests (R433, R434) -/

/-- A test begins on a port (R433): routing treats it as DOWN, without the rejoin hold afterwards. -/
def State.startTest (s : State) (p : Port) : State :=
  let s := s.updPort p (fun q => { q with state := .test, since := s.now, inUse := false, wasDown := false })
  (s.abandonTests p).portChanged

/-- The links of the domain by the member at their E or S end, ascending (R434). -/
def Shape.links (h : Shape) : List LinkTest :=
  (List.range h.n).flatMap (fun m => if h.code = 0 then [⟨m, .e⟩] else [⟨m, .e⟩, ⟨m, .s⟩])

/-- A link is UP and in use, as far as this conductor knows. -/
def State.linkUsed (s : State) (x : LinkTest) : Bool :=
  s.linkOk true x.member x.port && s.linkOk false x.member x.port

/-- The head starts the next test of its list whose link, with every other, is UP and in use; others are skipped (R434). -/
def State.nextTest (s : State) : List LinkTest → State
  | [] => { s with htl := { s.htl with bertQueue := [] } }
  | x :: l =>
    if (s.shape.links).all (fun y => s.linkUsed y) then
      let s := { s with htl := { s.htl with bert := some (x, s.now), bertQueue := l } }
      if x.member = s.member then s.startTest x.port
      else s.htlSend 1 1 x.member [0x05, 0xFD, BitVec.ofNat 8 x.port.num]
    else (s.testRecord x.port.num x.member false).nextTest l

/-- One digit of an error ratio and its negative exponent (R439): the least exponent that leaves a
mantissa of at least 1; 0 and 15 below 10^-15. -/
def ratioCode (r : Rat) : Nat × Nat :=
  match ((List.range 16).find? (fun e => decide (1 ≤ r * (10 : Rat) ^ e))) with
  | none => (0, 15)
  | some e => (sat 9 (natFloor (r * (10 : Rat) ^ e)), e)

/-- The port whose code is `n`. -/
def portOf : Nat → Port | 0 => .e | 1 => .w | 2 => .n | _ => .s

/-- HTL_BERT_RES_p (R439). -/
def State.bertRes (s : State) (p : Port) : Word :=
  match (s.port p).bert with
  | none => 0
  | some b => pack [(31, 1, 1), (30, 1, b2n b.pass), (20, 4, b.mant1), (16, 4, b.exp1), (12, 4, b.mant0), (8, 4, b.exp0),
      (0, 8, sat 255 ((s.opMs - b.at_) / 3600000))]

/-! ### Registers (R439) -/

/-- Some link of the domain is STALLED or DOWN. -/
def State.wrapped (s : State) : Bool :=
  let bad := fun (c : Nat) => c == 4 || c == 5
  s.htl.ports.any (fun q => bad q.state.code)
  || s.htl.present.any (fun m => m != s.member && (match s.recOf m with | none => false | some r => r.ports.any bad))

/-- The Heathline registers. -/
def State.readHtl (s : State) (o : Nat) : Option Word :=
  let h := s.htl
  let me := s.member
  let hi := some (lookupD s.latches (0x00800000 + o) 0)
  let p := portOf (o / 4 % 4)
  match o with
  | 0x00 => some (pack [(26, 6, me), (19, 7, h.present.length), (13, 6, h.head.getD 0), (12, 1, b2n h.head.isSome),
      (6, 6, h.master.getD 0), (4, 2, s.shape.code), (3, 1, b2n (h.head == some me)), (2, 1, b2n (h.master == some me)),
      (1, 1, b2n s.wrapped), (0, 1, b2n s.core.bringup)])
  | 0x04 => some (h.event.setWidth 32)
  | 0x08 => some (BitVec.ofNat 32 h.presentMask)
  | 0x0C => hi
  | 0x10 => some (BitVec.ofNat 32 s.ringTime)
  | 0x14 => hi
  | 0x18 => some (pack [(31, 1, b2n h.sync), (30, 1, b2n h.holding), (28, 2, (h.parent.map Port.num).getD 0), (22, 6, h.hops),
      (0, 16, twosSat 16 (roundEven (100 * h.offset)))])
  | 0x1C => some (pack [(26, 6, sat 63 h.drops.stale), (20, 6, sat 63 h.drops.tag), (14, 6, sat 63 (h.drops.link / 64)),
      (8, 6, sat 63 h.drops.incomplete), (4, 4, sat 15 h.drops.service), (0, 4, sat 15 (h.drops.local_ / 64))])
  | 0x20 => some (pack [(30, 1, b2n (h.ports.any (fun q => q.state == .test))), (28, 2, h.bertPort)])
  | o =>
    if o % 4 ≠ 0 then none
    else if 0x40 ≤ o ∧ o < 0x50 then
      let q := s.port p
      some (pack [(29, 3, q.state.code), (28, 1, b2n q.inUse), (22, 6, q.neighbour.getD 0), (20, 2, q.farPort), (0, 16, q.downs)])
    else if 0x50 ≤ o ∧ o < 0x60 then some (pack [(16, 16, sat 65535 (s.port p).uncorr), (0, 16, sat 65535 (s.port p).corrMs)])
    else if 0x60 ≤ o ∧ o < 0x70 then some (s.bertRes p)
    else none

/-- Writes to the Heathline registers that have no command of their own: events clear where 1 is written. -/
def State.writeHtl (s : State) (o : Nat) (v : Word) : State :=
  match o with
  | 0x04 => { s with htl := { s.htl with event := s.htl.event &&& ~~~(v.setWidth 8) } }
  | _ => s

end Sys2Proof.Machine
end

