-- ==== Sys2Proof/Machine/Lexicon.lean ====
section
/-! DEFINITION. The commands of the lexicon engine (chapter 8) that no clause carries. -/
namespace Sys2Proof.Machine

/-- PAIR_IDLE_END (R223, R224): no partner of the group has reported the job for `lexicon.idle_time`. -/
def execPairIdleEnd (t : Time) (job group : Nat) (s : State) : Host.Outcome State Fault Refusal :=
  let s := s.at_ t
  match s.lex.pairs.find? (fun p => p.job == job && p.group == group) with
  | none => .next s
  | some p => .next (if s.lexUp && s.elapsed p.lastAt (s.fldN .lexiconIdleTime * 10 * ms) then s.pairEnd p else s)

/-- An operation of LEX_CMD (R246, R256), where its registers answer. -/
def State.lexOp (s : State) (op off : Nat) : State :=
  if s.inRst .planning ∨ s.swd.shed then s.report 0x200 0x01 0x02000048 3 else s.lexCmd op off

/-- LOOKUP (R246) of LEX_KEY. -/
def execLookup (t : Time) (s : State) : Host.Outcome State Fault Refusal := .next ((s.at_ t).lexOp 1 0)
/-- BEST (R237, R246). -/
def execBest (t : Time) (s : State) : Host.Outcome State Fault Refusal := .next ((s.at_ t).lexOp 2 0)
/-- PIN (R245, R246). -/
def execPin (t : Time) (s : State) : Host.Outcome State Fault Refusal := .next ((s.at_ t).lexOp 3 0)
/-- UNPIN (R246). -/
def execUnpin (t : Time) (s : State) : Host.Outcome State Fault Refusal := .next ((s.at_ t).lexOp 4 0)
/-- READ (R246): `off` in units of 64 bytes. -/
def execRead (t : Time) (off : Nat) (s : State) : Host.Outcome State Fault Refusal := .next ((s.at_ t).lexOp 5 (off % 1024))

/-- LEX_OPERATION_COMPLETE (R246, R256): BUSY clears, and the result, the slot and the words are shown. -/
def execLexOperationComplete (t : Time) (s : State) : Host.Outcome State Fault Refusal :=
  let s := s.at_ t
  match s.lex.op with
  | none => .next s
  | some (op, off) =>
    if !s.lexUp then .next s else
    let (a, s) := s.query op s.lex.key.toNat off
    .next { s with lex := { s.lex with
      op := none, result := a.1, slot := a.2.1
      words := (List.range 16).map (fun i => BitVec.ofNat 32 (leAt a.2.2 (4 * i) 4)) } }

/-- A prior's core in its slot (R235): VALID, PRIOR and PINNED are set. -/
def placePrior (m : Mem) (slot : Nat) (core : List Byte) : Mem :=
  let m := (lemZero m slot).writeBytes (slotAt slot 0) (core.take 4096)
  lemSeal (lemSet m slot 8 2 (lemN m slot 8 2 ||| 0x0B)) slot

/-- PRIORS_LOAD (R235, R236): the priors of the image in force replace those in slots 0 to 255 and are brought into the
cache. -/
def execPriorsLoad (t : Time) (s : State) : Host.Outcome State Fault Refusal :=
  let s := s.at_ t
  match s.cfg.prog with
  | none => .next s
  | some im =>
    if !s.lexUp ∨ s.lex.priorsLoaded then .next s else
    let old := (s.lex.index.filter (fun p => decide (p.1 < 256))).map Prod.fst
    let m := old.foldl lemZero s.swm
    let cores := (List.range 256).zip im.priors
    let m := cores.foldl (fun m c => placePrior m c.1 c.2) m
    let index := cores.map (fun c => (c.1, leAt c.2 0 8)) ++ s.lex.index.filter (fun p => decide (256 ≤ p.1))
    let s := { s with swm := m, lex := { s.lex with
      index := index, lines := s.lex.lines.filter (fun p => decide (256 ≤ p.2)), priorsLoaded := true, ready := true } }
    .next (cores.foldl (fun (s : State) c => s.bring c.1) s)

/-- LEXICON_SCAN_END (R248): every valid lemma has been checked. -/
def execLexiconScanEnd (t : Time) (s : State) : Host.Outcome State Fault Refusal :=
  let s := s.at_ t
  if !s.lexUp ∨ !s.lex.checking then .next s else
  let s := (s.lex.index.map Prod.fst).foldl (fun (s : State) slot => s.lemCheck slot) s
  .next { s with lex := { s.lex with checking := false } }

/-- MODE and flags of a block (R250). -/
def State.blockMode (s : State) (holdover lost : Bool) : Nat := s.aon.mode.code + 8 * b2n holdover + 16 * b2n lost

/-- HISTORY_BLOCK_WRITE (R249, R250): the eight frames of the last interval of 8 µs; `lost`: a frame lacks samples. -/
def execHistoryBlockWrite (t : Time) (frames : List Byte) (lost : Bool) (s : State) : Host.Outcome State Fault Refusal :=
  let s := s.at_ t
  let n := s.swardRing / 8000
  if !s.lexUp ∨ !s.vot.formed ∨ n = 0 ∨ (s.lex.bseq ≠ 0 ∧ (n - 1) * 8000 ≤ s.lex.histNew) then .next s else
  let start := (n - 1) * 8000
  let l := s.lex
  let block := leBytes 8 start ++ leBytes 8 (l.bseq + 1) ++ leBytes 2 (s.blockMode s.rings.sward.holdover lost)
    ++ leBytes 4 s.plan.tick ++ List.replicate 42 0 ++ (frames ++ List.replicate (3840 - frames.length) 0).take 3840
    ++ (l.tray.flatMap id ++ List.replicate 192 0).take 192
  .next { s with
    swm := s.swm.writeBytes ((regionOf 1).1 + (n - 1) % 2 ^ 26 * 4096) block
    lex := { l with bseq := l.bseq + 1, histNew := start, histOld := if l.bseq = 0 then start else l.histOld, tray := [] } }

/-- Blocks of LU4's ring (R253). -/
def decBlocks : Nat := 209715200

/-- DECIMATED_BLOCK_WRITE (R253): the last interval of 16 ms, by the management complex: 64 bytes of running keys and 16
sub-records, and the count of frames lost. -/
def execDecimatedBlockWrite (t : Time) (body : List Byte) (lost : Nat) (s : State) : Host.Outcome State Fault Refusal :=
  let s := s.at_ t
  let n := s.rings.mgmt.now s.now / 16000000
  if s.inRst .mgmt ∨ s.core.bringup ∨ n = 0 ∨ decide (n ≤ ((s.lex.decNew.map (· / 16000000 + 1)).getD 0)) = true
  then .next s else
  let start := (n - 1) * 16000000
  let block := leBytes 8 start ++ leBytes 8 (s.lex.decSeq + 1) ++ leBytes 2 (s.blockMode s.rings.mgmt.holdover (lost != 0))
    ++ leBytes 4 s.plan.tick ++ leBytes 4 lost ++ List.replicate 38 0
    ++ (body ++ List.replicate (1984 - body.length) 0).take 1984
  .next { s with nv := { s.nv with lu4 := insertKey s.nv.lu4 ((n - 1) % decBlocks) block }
                 lex := { s.lex with decSeq := s.lex.decSeq + 1, decNew := some start } }

end Sys2Proof.Machine
end

