-- ==== Sys2Proof/Machine/Heathline.lean ====
section
/-! DEFINITION. Heathline's commands (chapter 13), the capture of a frozen ring (R512), and superframe boundaries (R587). -/
namespace Sys2Proof.Machine

/-! ### Cells -/

/-- The port by which a cell goes on in its direction. -/
def onward (p : Port) : Port := oppositePort p

/-- Where a member forwards a cell that came in by port `p` (R425, R427): port, and whether it goes on in COLUMN phase. -/
def State.forwards (s : State) (p : Port) (c : Cell) : List (Port × Bool) :=
  let h := s.shape
  let col := hasFlag c flagColumn
  if c.cls = 3 then []
  else if hasFlag c flagWrapped then [(onward p, col)]
  else if c.dst ≠ 0xFE ∧ c.dst ≠ 0xFF then
    if c.dst = s.member then []
    else if h.code = 1 ∧ c.cls ≤ 2 then
      ((if p = .e ∨ p = .w then s.ringRoute .e .w c.dst else s.ringRoute .n .s c.dst).toList).map (fun r => (r.1, false))
    else (s.routes c.cls c.seq c.dst).map (fun r => (r.1, false))
  else if h.code ≠ 2 ∨ col then [(onward p, col)]
  else [(onward p, false)]

/-- Column copies that a torus member makes of a broadcast cell on its row (R425). -/
def State.columns (s : State) (p : Port) (c : Cell) : List (Port × Nat) :=
  if s.shape.code = 2 ∧ hasFlag c flagBcast ∧ !hasFlag c flagColumn ∧ !hasFlag c flagWrapped ∧ (p = .e ∨ p = .w) then
    s.ringCopies .s .n s.shape.y
  else []

/-- The channel on which a cell goes on (R410): 1 once it has crossed a dateline in its direction; 0 on a change of it. -/
def State.vcAfter (s : State) (p o : Port) (c : Cell) : Bool :=
  o == onward p && (hasFlag c flagVc || s.shape.dateline s.member p)

/-- A cell is forwarded (R424, R425): HOPS less 1, and not at all at HOPS 0. -/
def State.forward (s : State) (p : Port) (c : Cell) : State :=
  let s := if c.hops = 0 then s else
    (s.forwards p c).foldl (fun (s : State) o =>
      s.emitCell o.1 (putFlag { c with hops := c.hops - 1 } flagVc (s.vcAfter p o.1 c))) s
  (s.columns p c).foldl (fun (s : State) o =>
    s.emitCell o.1 (putFlag (putFlag { c with hops := o.2 } flagColumn true) flagVc false)) s

/-- A cell is addressed to this member (R414, R419). -/
def State.addressed (s : State) (c : Cell) : Bool :=
  c.src != s.member && (c.dst == s.member || c.dst == 0xFF || (c.dst == 0xFE && c.segment == s.lfldN .topologySegment))

/-- CELL_ARRIVAL (R410, R414 to R419, R424, R425, R427, R435): a DATA cell on a port in UP. A failed tag is counted, an inverted
one is not, and either cell is discarded. -/
def execCellArrival (t : Time) (p : Port) (c : Cell) (tag : TagRes) (s : State) : Host.Outcome State Fault Refusal :=
  let s := s.at_ t
  if !s.htlUp ∨ (s.port p).state ≠ .up ∨ c.cls = 0 ∨ 5 < c.cls then .next s else
  match tag with
  | .inverted => .next s
  | .bad =>
    let s := s.drop (fun d => { d with tag := d.tag + 1 })
    .next ((s.updPort p (fun q => { q with tagErrs := s.now :: q.tagErrs })).errorCheck p)
  | .ok =>
    if s.staleCell c then .next (s.drop (fun d => { d with stale := d.stale + 1 })) else
    let s := if s.addressed c then s.localCell c else s
    .next (s.forward p c)

/-! ### Ports -/

/-- A presence pin, low when something is fitted (R408). -/
def State.portFitted (s : State) : Port → Bool
  | .e => s.pin.hlPresE | .w => s.pin.hlPresW | .n => s.pin.hlPresN | .s => s.pin.hlPresS

/-- The level of a presence pin changes. -/
def State.setFitted (s : State) (p : Port) (v : Bool) : State :=
  match p with
  | .e => { s with pin := { s.pin with hlPresE := v } }
  | .w => { s with pin := { s.pin with hlPresW := v } }
  | .n => { s with pin := { s.pin with hlPresN := v } }
  | .s => { s with pin := { s.pin with hlPresS := v } }

/-- A port the shape uses and something is fitted to begins training (R408, R411). -/
def State.startPort (s : State) (p : Port) : State :=
  if s.portFitted p ∧ (s.shape.wire s.member p).isSome then
    s.updPort p (fun q => if q.state = .absent ∨ q.state = .down then { q with state := .training, since := s.now } else q)
  else s

/-- The ports come alive once the domain is released and a topology is known (R35, R435, R452). -/
def State.startPorts (s : State) : State :=
  if !s.htlUp then s else (Port.all.foldl (fun (s : State) p => s.startPort p) s).portChanged

/-- PORT_PRESENCE_LOST (R408, R426): HL_p_PRES_N goes high: DOWN at once. -/
def execPortPresenceLost (t : Time) (p : Port) (s : State) : Host.Outcome State Fault Refusal :=
  let s := s.at_ t
  let s := s.setFitted p false
  if s.inRst .htlFrz ∨ (s.port p).state = .absent ∨ (s.port p).state = .down then .next s else .next (s.enterDown p 1)

/-- PORT_PRESENCE_FITTED (R411): HL_p_PRES_N goes low: the port trains. -/
def execPortPresenceFitted (t : Time) (p : Port) (s : State) : Host.Outcome State Fault Refusal :=
  let s := s.at_ t
  let s := s.setFitted p true
  if !s.htlUp then .next s else .next (s.startPort p).portChanged

/-- TRAINING_LOCK (R411): FEC and alignment are locked on both lanes. -/
def execTrainingLock (t : Time) (p : Port) (s : State) : Host.Outcome State Fault Refusal :=
  let s := s.at_ t
  if !s.htlUp ∨ (s.port p).state ≠ .training then .next s
  else .next (s.updPort p (fun q => { q with state := .checking, since := s.now, checked := false })).portChanged

/-- LINK_CELL (R412, R536 to R538): the identity check, the key agreement, or the far end's mark SWITCH. -/
def execLinkCell (t : Time) (p : Port) (x : LinkCellIn) (s : State) : Host.Outcome State Fault Refusal :=
  let s := s.at_ t
  if !s.htlUp then .next s else
  let q := s.port p
  match x with
  | .identity domain member port shape _ crcOk =>
    if q.state ≠ .checking ∨ !crcOk then .next s else
    let s := s.updPort p (fun q => { q with neighbour := some member, farPort := port % 4 })
    let right : Bool := match s.shape.wire s.member p with
      | none => false
      | some (m, o) => m == member && o.num == port
    if domain = s.lfldN .topologyDomainId ∧ shape = s.shape.code ∧ right then
      .next (s.updPort p (fun q => { q with checked := true }))
    else .next (((s.htlEvent 3).report (portSource p) 0x60 (member % 256 * 256 + port % 4)).refusePort p)
  | .key certOk ownerOk signatureOk =>
    let fresh := q.state = .checking ∧ q.checked
    let again := q.state = .up ∧ q.rekeying
    if !(fresh ∨ again) ∨ !s.idsOk then .next s
    else if certOk ∧ ownerOk ∧ signatureOk then
      let s := { s with ids := { s.ids with hop := upd s.ids.hop p.num (fun h => (true, h.2 + 1)) } }
      if fresh then .next (s.enterUp p)
      else
        let s := s.updPort p (fun q => { q with rekeying := false, keyAt := s.now })
        .next { s with ids := { s.ids with event := setBit s.ids.event 6 } }
    else
      let detail := if !certOk ∨ !ownerOk then 7 else 0
      .next ((s.verifyFail 6 detail).refusePort p)
  | .switch => if q.state = .up then .next { s with ids := { s.ids with event := setBit s.ids.event 6 } } else .next s

/-- HOP_REKEY (R538): a port in UP reaches 2^40 cells or a key age of 1 h: it begins a new exchange. -/
def execHopRekey (t : Time) (p : Port) (s : State) : Host.Outcome State Fault Refusal :=
  let s := s.at_ t
  if !s.htlUp ∨ (s.port p).state ≠ .up then .next s else .next (s.updPort p (fun q => { q with rekeying := true }))

/-- LINK_STALL (R426, R434): no symbols for 2 µs. A test on the link is abandoned, and a link in CHECKING trains again. -/
def execLinkStall (t : Time) (p : Port) (s : State) : Host.Outcome State Fault Refusal :=
  let s := s.at_ t
  if !s.htlUp then .next s else
  match (s.port p).state with
  | .up => .next (s.stallPort p)
  | .checking => .next (s.stallPort p)
  | .test => .next (s.abandonTest p).portChanged
  | _ => .next s

/-- FAULT_CELL (R426): the far end sees no symbols. -/
def execFaultCell (t : Time) (p : Port) (s : State) : Host.Outcome State Fault Refusal :=
  let s := s.at_ t
  if !s.htlUp ∨ (s.port p).state ≠ .up then .next s else .next (s.stallPort p)

/-- LINK_DOWN (R426): 10 ms have passed since the last symbol, 2 µs of them before the stall. -/
def execLinkDown (t : Time) (p : Port) (s : State) : Host.Outcome State Fault Refusal :=
  let s := s.at_ t
  if !s.htlUp ∨ (s.port p).state ≠ .stalled ∨ !s.elapsed (s.port p).since (10 * ms - 2 * us) then .next s
  else .next (s.enterDown p 0)

/-- LINK_SYMBOLS_RETURN (R413, R426): a stalled or DOWN port retrains. -/
def execLinkSymbolsReturn (t : Time) (p : Port) (s : State) : Host.Outcome State Fault Refusal :=
  let s := s.at_ t
  let st := (s.port p).state
  if !s.htlUp ∨ (st ≠ .stalled ∧ (st ≠ .down ∨ !s.portFitted p)) then .next s
  else .next (s.updPort p (fun q => { q with state := .training, since := s.now })).portChanged

/-- REJOIN_HOLD_EXPIRY (R413): a port has stayed UP for `heathline.rejoin_hold`. -/
def execRejoinHoldExpiry (t : Time) (p : Port) (s : State) : Host.Outcome State Fault Refusal :=
  let s := s.at_ t
  let q := s.port p
  if !s.htlUp ∨ q.state ≠ .up ∨ q.inUse ∨ !s.elapsed q.since (s.rfldN .heathlineRejoinHold * 10 * ms) then .next s
  else .next (s.usePort p)

/-- REFUSED_RETRY (R411): a REFUSED port checks again after 10 s. -/
def execRefusedRetry (t : Time) (p : Port) (s : State) : Host.Outcome State Fault Refusal :=
  let s := s.at_ t
  let q := s.port p
  if !s.htlUp ∨ q.state ≠ .refused ∨ !s.elapsed q.since (10 * sec) then .next s
  else .next (s.updPort p (fun q => { q with state := .checking, since := s.now, checked := false })).portChanged

/-! ### Ring time -/

/-- TIME_CELL (R430 to R432): a HOLDING member's time is noted; the parent's steers the counter, forward to it or held still for
at most 8 ns, and is counted for synchronisation. -/
def execTimeCell (t : Time) (p : Port) (x : TimeIn) (s : State) : Host.Outcome State Fault Refusal :=
  let s := s.at_ t
  if !s.htlUp ∨ (s.port p).state ≠ .up then .next s else
  let own := s.ringTime
  let t2 : Rat := own + x.sub
  let d : Rat := ((t2 - x.t1) + (x.t4 - x.t3)) / 2 + (s.rfld .heathlineAsymPs p.num : Rat) / 1000
  let theirs := natFloor (x.t1 + d)
  let s := if !x.holding then s else
    let keep := match s.htl.heard with
      | none => true
      | some (v, t0) => decide (v + (s.now - t0) ≤ theirs)
    let s := if keep then { s with htl := { s.htl with heard := some (theirs, s.now) } } else s
    if s.htl.master = some s.member ∧ x.sync ∧ own + 5 < theirs then { s with htl := { s.htl with stepTo := some (theirs, s.now) } }
    else s
  if s.htl.parent ≠ some p then .next s else
  let offset : Rat := t2 - (x.t1 + d)
  let n := roundEven offset
  let c := s.htl.counter
  let counter : RingCopy := if n < 0 then ⟨own + n.natAbs, s.now, c.holdover⟩ else ⟨own, s.now + min 8 n.natAbs, c.holdover⟩
  let near := decide (-2 ≤ offset) && decide (offset ≤ 2)
  let good := if near && x.sync then s.htl.good + 1 else 0
  let s := { s with htl := { s.htl with counter := counter, offset := offset, good := good, timeAt := s.now } }
  let far := !(decide (-4 ≤ offset) && decide (offset ≤ 4))
  let s := if !x.sync ∨ far then s.desync
    else if 64 ≤ good then { s with htl := { s.htl with sync := true, holding := true } } else s
  let short := ((s.parentPorts (s.htl.master.getD s.member)).map Prod.snd).foldl min 64
  .next (if short < x.hops + 1 then s.chooseMaster true else s)

/-- TIME_CELL_SEND (R414, R424, R430, R439): every port in UP sends a TIME cell; the codeword counts of the last 1 ms are taken,
and too many uncorrectable ones put a port DOWN. -/
def execTimeCellSend (t : Time) (fec : List (Nat × Nat)) (s : State) : Host.Outcome State Fault Refusal :=
  let s := s.at_ t
  if !s.htlUp then .next s else
  .next (Port.all.foldl (fun (s : State) p =>
    let (corr, unc) := fec.getD p.num (0, 0)
    if (s.port p).state ≠ .up then s else
    (s.updPort p (fun q => { q with timeSent := s.now, corrMs := corr, uncorr := q.uncorr + unc
                                    uncErrs := if unc = 0 then q.uncErrs else (s.now, unc) :: q.uncErrs })).errorCheck p) s)

/-- PARENT_TIMEOUT (R431): no TIME cell from the parent for 5 µs. -/
def execParentTimeout (t : Time) (s : State) : Host.Outcome State Fault Refusal :=
  let s := s.at_ t
  if !s.htlUp ∨ s.htl.parent.isNone ∨ !s.elapsed s.htl.timeAt (5 * us) then .next s else .next s.desync

/-- LINK_STATE (R422, R425, R430): a record of another member. -/
def execLinkState (t : Time) (x : LinkRec) (s : State) : Host.Outcome State Fault Refusal :=
  let s := s.at_ t
  if !s.htlUp ∨ x.member = s.member then .next s else .next ((s.takeInbox 0x01).keepRec x).rejudge

/-- HEAD_CHANGE (R429). -/
def execHeadChange (t : Time) (s : State) : Host.Outcome State Fault Refusal :=
  let s := s.at_ t
  if !s.htlUp then .next s else .next s.headStep

/-! ### Mirrors and subscriptions -/

/-- Blocks of a mirror ring: 4 GiB of 3664 bytes (R421). -/
def mirrorBlocks : Nat := 1172199

/-- MIRROR_SEND (R421, R423): once for each 8 µs of ring time, from the fabric's sample sets: to the E and W neighbours, and to
each subscriber. -/
def execMirrorSend (t : Time) (frames : List Byte) (s : State) : Host.Outcome State Fault Refusal :=
  let s := s.at_ t
  let n := s.rings.fabric.now s.now / 8000
  if !s.htlUp ∨ n = 0 ∨ (s.htl.mirrors ≠ 0 ∧ n ≤ s.htl.mirrorAt) then .next s else
  let block := leBytes 8 ((n - 1) * 8000) ++ leBytes 8 (s.htl.mirrors + 1) ++ leBytes 2 (s.blockMode s.rings.fabric.holdover false)
    ++ leBytes 4 s.plan.tick ++ List.replicate 42 0 ++ (frames ++ List.replicate (3600 - frames.length) 0).take 3600
  let s := { s with htl := { s.htl with mirrors := s.htl.mirrors + 1, mirrorAt := n } }
  let s := (s.htlNext 3 .e block).htlNext 3 .w block
  .next (s.htl.subs.foldl (fun (s : State) x => s.htlSend 5 6 x.1 block) s)

/-- MIRROR (R421): a block of a neighbour enters its ring, unless the ring is frozen. -/
def execMirror (t : Time) (p : Port) (block : List Byte) (s : State) : Host.Outcome State Fault Refusal :=
  let s := s.at_ t
  if s.inRst .htlFrz then .next s else
  let s := s.takeMsg 3
  if (s.htl.frozen p).isSome then .next s else
  match p with
  | .e => .next { s with htl := { s.htl with ringE := (block :: s.htl.ringE).take mirrorBlocks } }
  | .w => .next { s with htl := { s.htl with ringW := (block :: s.htl.ringW).take mirrorBlocks } }
  | _ => .next s

/-- Blocks of a capture: the last 2.000 s (R512). -/
def captureBlocks : Nat := 250000

/-- CAPTURE_COMPLETE (R512): the copy of a frozen ring ends; the record is written and the ring resumes. -/
def execCaptureComplete (t : Time) (p : Port) (s : State) : Host.Outcome State Fault Refusal :=
  let s := s.at_ t
  if s.inRst .fabric then .next s else
  match s.htl.frozen p with
  | none => .next s
  | some at_ =>
    let s := match p with
      | .e => { s with nv := { s.nv with lu3 := { s.nv.lu3 with captureE := some (s.htl.ringE.take captureBlocks) } }
                       brw := { s.brw with capturingE := false } }
      | _ => { s with nv := { s.nv with lu3 := { s.nv.lu3 with captureW := some (s.htl.ringW.take captureBlocks) } }
                      brw := { s.brw with capturingW := false } }
    .next ((s.captureRecord p 0 at_).setFrozen p none)

/-- SUBSCRIPTION_REQUEST (R423): a source serves at most `heathline.sub_max` subscribers and refuses further ones; a refusal
sets the subscriber's event. -/
def execSubscriptionRequest (t : Time) (x : SubIn) (s : State) : Host.Outcome State Fault Refusal :=
  let s := s.at_ t
  if !s.htlUp then .next s else
  let s := s.takeInbox 0x05
  match x with
  | .refused _ => .next (s.htlEvent 6)
  | .request member entry =>
    let rest := s.htl.subs.filter (fun y => y != (member, entry))
    if rest.length < s.rfldN .heathlineSubMax then .next { s with htl := { s.htl with subs := rest ++ [(member, entry)] } }
    else .next (s.htlSend 1 1 member [0x05, 0xFE, BitVec.ofNat 8 entry])

/-! ### Bit-error tests -/

/-- BERT_START (R11, R433, R439): a write to HTL_BERT, or a test the far end has begun. A START for a port that is not UP, or from
the higher-numbered end, is out of range. -/
def execBertStart (t : Time) (x : BertStart) (s : State) : Host.Outcome State Fault Refusal :=
  let s := s.at_ t
  if s.inRst .htlFrz then .next (match x with | .hand _ => s.report 0x200 0x01 0x00800020 3 | .joined _ => s) else
  match x with
  | .joined p => if (s.port p).state = .up then .next ((s.takeInbox 0x05).startTest p) else .next s
  | .hand v =>
    let k := field v 29 28
    let p := portOf k
    let s := { s with htl := { s.htl with bertPort := k } }
    if !v.getLsbD 31 then .next s
    else
      let lower : Bool := match s.shape.wire s.member p with | none => false | some (m, _) => decide (s.member ≤ m)
      if (s.port p).state = .up ∧ lower then .next (s.startTest p) else .next (s.report 0x200 0x02 0x00800020)

/-- BERT_PERIODIC (R434): the head tests every link, one at a time: when an installation test is owed, and every 24 h while
N ≤ 16. -/
def execBertPeriodic (t : Time) (s : State) : Host.Outcome State Fault Refusal :=
  let s := s.at_ t
  if !s.htlUp ∨ s.htl.head ≠ some s.member then .next s else
  let over_ := match s.htl.bert with
    | none => true
    | some (_, t0) => s.elapsed t0 (s.rfldN .heathlineBertTime * sec)
  if !over_ then .next s else
  let s := { s with htl := { s.htl with bert := none } }
  if !s.htl.bertQueue.isEmpty then .next (s.nextTest s.htl.bertQueue)
  else if s.htl.bertOwed ∨ (s.shape.n ≤ 16 ∧ s.htl.bertLast + 86400000 ≤ s.opMs) then
    let s := { s with htl := { s.htl with bertOwed := false, bertLast := s.opMs } }
    .next (s.nextTest s.shape.links)
  else .next s

/-- BERT_END (R433, R434, R439): after `heathline.bert_time` the errors counted on each lane are judged; the link trains again, and
the head goes on to the next. -/
def execBertEnd (t : Time) (p : Port) (err0 err1 : Nat) (s : State) : Host.Outcome State Fault Refusal :=
  let s := s.at_ t
  let n := s.rfldN .heathlineBertTime
  if !s.htlUp ∨ (s.port p).state ≠ .test ∨ !s.elapsed (s.port p).since (n * sec) then .next s else
  let bits : Rat := n * 212500000000
  let lim := s.rfldN .heathlineBertLimit
  let limit : Rat := (lim % 256 : Nat) / (10 : Rat) ^ (lim / 256)
  let r0 : Rat := err0 / bits
  let r1 : Rat := err1 / bits
  let pass := decide (r0 ≤ limit) && decide (r1 ≤ limit)
  let c0 := ratioCode r0
  let c1 := ratioCode r1
  let s := s.updPort p (fun q => { q with
    state := .training, since := s.now, wasDown := false, bert := some ⟨pass, c0.1, c0.2, c1.1, c1.2, s.opMs⟩ })
  let s := s.stage 0x22 1 ([BitVec.ofNat 8 p.num, BitVec.ofNat 8 (b2n pass), BitVec.ofNat 8 ((s.port p).neighbour.getD 0xFF), 0]
    ++ leBytes 4 (s.bertRes p).toNat)
  .next { s with htl := { s.htl with bert := none } }.portChanged

/-! ### Superframe boundaries (R587) -/

/-- The step owed is taken (R432): recorded with the ring time before it and its size. -/
def State.stepRing (s : State) : State :=
  match s.htl.stepTo with
  | none => s
  | some (v, t0) =>
    let s := { s with htl := { s.htl with stepTo := none } }
    let old := s.ringTime
    let new := v + (s.now - t0)
    if new ≤ old then s
    else ({ s with htl := { s.htl with counter := ⟨new, s.now, false⟩ } }.htlEvent 5).stage 0x22 0 (leBytes 8 old ++ leBytes 8 (new - old))

/-- The row fields of a warm apply come into force (R457). -/
def State.applyRow (s : State) : State :=
  if s.cfg.rowPending then { s with cfg := { s.cfg with row := s.cfg.force, rowPending := false } } else s

/-- A domain that has formed under an identifier not held before owes an installation test (R434). -/
def State.domainFormed (s : State) : State :=
  let id := s.lfldN .topologyDomainId
  if s.htl.present.length = s.shape.n ∧ !s.nv.domains.contains id then
    { s with nv := { s.nv with domains := s.nv.domains ++ [id] }, htl := { s.htl with bertOwed := true } }
  else s

/-- Heathline's and concord's boundary (R369 to R385, R396 to R399, R416, R420, R422, R432, R434). -/
def State.htlBoundary (s : State) : State :=
  if !s.htlUp ∨ s.htl.sf = some s.htlSf then s else
  let s := s.stepRing
  let s := { s with htl := { s.htl with sf := some s.htlSf } }
  let s := s.applyRow.rejudge.ageParts
  (s.publishLink.publishSummary).domainFormed.concordBoundary

/-- The lanes' boundary (R165): the mean grid power of the superframe. -/
def State.lanesBoundary (s : State) : State :=
  let n := sfOf (s.rings.lanes.now s.now)
  if s.htl.sfLanes = some n then s else
  let f := s.fes
  let s := { s with htl := { s.htl with sfLanes := some n } }
  if f.count = 0 then s
  else
    let m := f.sum / f.count
    { s with fes := { f with pg := m, flat := (m :: f.flat).take 1000, sum := 0, count := 0 } }

/-- SUPERFRAME_BOUNDARY (R587): an island takes a boundary on its own copy of ring time. -/
def execSuperframeBoundary (t : Time) (isl : SfIsland) (s : State) : Host.Outcome State Fault Refusal :=
  let s := s.at_ t
  match isl with
  | .furze => .next s.furzeBoundary
  | .heathline => .next s.htlBoundary
  | .lanes => .next s.lanesBoundary

end Sys2Proof.Machine
end

