-- ==== Sys2Proof/Machine/Reset.lean ====
section
/-! DEFINITION. The reset controller's commands (chapter 15) and the registers of the block, the end of bring-up
apart (Modes.lean). -/
namespace Sys2Proof.Machine

/-- RESET_PIN (R467): RESET_N has been low, or high, for 1 µs without a break. -/
def execResetPin (t : Time) (low : Bool) (s : State) : Host.Outcome State Fault Refusal :=
  let s := s.at_ t
  let s := { s with pin := { s.pin with resetN := low } }
  if low then .next (s.assertReset .resetPin (s.fused .resetPin))
  else
    let s := { s with pin := { s.pin with deferred := s.pin.deferred.filter (fun d => d.1 != Src.resetPin) } }
    .next (s.releaseSrc .resetPin)

/-- RESET_PULSE_END (R466): a pulse source releases 256 always-on cycles after its event. -/
def execResetPulseEnd (t : Time) (src : Src) (s : State) : Host.Outcome State Fault Refusal :=
  let s := s.at_ t
  match (s.core.srcs.getD src.code ⟨false, 0, none, 0, []⟩).pulseEnd with
  | none => .next s
  | some e => .next (if e ≤ s.now then s.releaseSrc src else s)

/-- FLUSH_WINDOW_END (R470, R508): the recorder signals its commit complete, or 2 ms have passed; every domain
the level reaches then enters reset. The seal of the window is in its segment (R539). -/
def execFlushWindowEnd (t : Time) (committed : Bool) (s : State) : Host.Outcome State Fault Refusal :=
  let s := s.at_ t
  match s.core.flush with
  | none => .next s
  | some t0 =>
    if !committed && !s.elapsed t0 (2 * ms) then .next s
    else
      let s := if committed && s.brw.anchored && !s.brw.ioFail then
          let s := s.seal true
          s.commit s.brw.staging.length
        else s
      .next ({ s with core := { s.core with flush := none } }).enterFull

/-- PLL lock bits of AON_CLK_STATUS that a domain's release shows (R72, R76, R475). -/
def lockBits : Dom → List Nat
  | .idsol => [5] | .fabric => [4] | .lane x => [x.num] | .mgmt => [6] | .htlFrz => [8, 9] | .planning => [7]
  | _ => []

/-- What a domain does as it leaves reset. -/
def State.onRelease (s : State) (d : Dom) : State :=
  let s := { s with aon := { s.aon with locks := (lockBits d).foldl setBit s.aon.locks } }
  let fresh : RingCopy := ⟨0, s.now, true⟩
  match d with
  | .aon =>
    { s with aon := { s.aon with auxAOk := s.pin.auxA, auxBOk := s.pin.auxB, holdupReady := s.pin.holdup }
             rings := { s.rings with aon := fresh } }
  | .idsol =>
    { s with ids := { s.ids with tamperOpen := s.pin.tripped, disarmed := s.pin.tripped }
             rings := { s.rings with idsol := fresh } }
  | .fabric =>
    let held := s.flt.held.map (fun (p : FaultMsg × Nat) => ({ p.1 with lost := decide (1 < p.2) } : FaultMsg))
    let s := { s with
      flt := { s.flt with path := s.flt.path ++ held, held := []
                          srcs := s.flt.srcs.map (fun (x : FltSource) => { x with binStart := s.now }) }
      vot := { s.vot with killLine := s.aon.dieKill
                          killHighSince := if s.aon.dieKill || s.pin.stageKill then none else some s.now }
      brw := { s.brw with replaying := true }
      rings := { s.rings with fabric := fresh } }
    let s := match s.core.owedMode with
      | none => s
      | some m => { s with core := { s.core with owedMode := none } }.stage 0x10 0
          [BitVec.ofNat 8 m.code, BitVec.ofNat 8 Mode.held.code, BitVec.ofNat 8 Cause.bringup.code]
    ((List.range 5).filter (fun i => s.ids.disarmed.getLsbD i)).foldl
      (fun s i => s.idsRecord 0 (faultBytes 0x80 i 0)) s
  | .lane _ => s
  | .mgmt =>
    { s with core := { s.core with mwdog := some (s.now, 10 * sec) }
             flt := { s.flt with trapOwed := false
                                 trapsDelivered := s.flt.trapsDelivered + b2n s.flt.trapOwed }
             rings := { s.rings with mgmt := fresh } }
  | .htlFrz => { s with rings := { s.rings with furze := fresh }, htl := { s.htl with counter := ⟨0, s.now, false⟩ } }.startPorts
  | .swardPower => { s with swd := { s.swd with powered := true } }
  | .planning => { s with rings := { s.rings with sward := fresh } }.lexStart.planStart

/-- The L1, L2 or L3 record that a domain's release lets be written (R471): the lane of the L1's source, or the
planning domain. -/
def recordDue (d : Dom) (r : Nat × Nat) : Bool :=
  match d, r.1 with
  | .lane x, 1 => r.2.testBit (3 + x.num) || r.2.testBit (8 + x.num) || r.2.testBit 14
  | .planning, 2 => true
  | .planning, 3 => true
  | _, _ => false

/-- Write the records owed for a domain that has been released (R471). -/
def State.writeOwed (s : State) (d : Dom) : State :=
  let due := s.core.owedRecords.filter (recordDue d)
  let s := { s with core := { s.core with owedRecords := s.core.owedRecords.filter (fun r => !recordDue d r) } }
  due.foldl (fun s r => s.stage 0x03 r.1 (leBytes 4 r.2)) s

/-- DOMAIN_RELEASE (R472 to R475): a domain leaves reset once everything R473 asks for holds. -/
def execDomainRelease (t : Time) (d : Dom) (s : State) : Host.Outcome State Fault Refusal :=
  let s := s.at_ t
  if !s.mayRelease d then .next s else
  let s := { s with core := { s.core with
    doms := upd s.core.doms d.bit (fun x => { x with inReset := false, release := s.now }) } }
  .next ((s.onRelease d).writeOwed d)

/-- IDSOL_READY (R475, R527): Idsol signals ready, M0 being extended first, or failed, within 1 ms of its
release; later signals are ignored. -/
def execIdsolReady (t : Time) (ok : Bool) (s : State) : Host.Outcome State Fault Refusal :=
  let s := s.at_ t
  if s.inRst .idsol ∨ s.core.idsolSignal.isSome ∨ s.elapsed ((s.dom .idsol).release + 1) (1 * ms) then .next s
  else if ok then
    let m0 := Config.sha384 (Config.sha384 (List.replicate 48 0 ++ Config.bootRomDigest) ++ Config.fuseDigest)
    .next { s with ids := { s.ids with ready := true, meas := upd s.ids.meas 0 (fun _ => m0) }
                   core := { s.core with idsolSignal := some true, idsolFail := false } }
  else
    .next ({ s with ids := { s.ids with failed := true }
                    core := { s.core with idsolSignal := some false, idsolFail := true } }.report 0x100 0x75 0 0)

/-- IDSOL_TIMEOUT (R475): no signal within 1 ms of Idsol's release. -/
def execIdsolTimeout (t : Time) (s : State) : Host.Outcome State Fault Refusal :=
  let s := s.at_ t
  if s.inRst .idsol ∨ s.core.idsolSignal.isSome ∨ !s.elapsed (s.dom .idsol).release (1 * ms) then .next s
  else .next ({ s with core := { s.core with idsolSignal := some false, idsolFail := true } }.report 0x100 0x75 0 1)

/-- MGMT_WDOG (R469): an interval ends without a valid write. -/
def execMgmtWdog (t : Time) (s : State) : Host.Outcome State Fault Refusal :=
  let s := s.at_ t
  match s.core.mwdog with
  | none => .next s
  | some (t0, n) =>
    if s.elapsed t0 n then
      .next ({ s with core := { s.core with mwdog := none } }.assertReset .mgmtWdog (s.fused .mgmtWdog))
    else .next s

/-- MWDOG_KICK (R469): a write to RST_MWDOG; KEY 0xA5C3 starts a new interval, any other value is reported. -/
def execMwdogKick (t : Time) (value : Word) (s : State) : Host.Outcome State Fault Refusal :=
  let s := s.at_ t
  if field value 15 0 = 0xA5C3 then
    .next (if s.inRst .mgmt then s else
      { s with core := { s.core with mwdog := some (s.now, s.core.mwdogTimeout * 10 * ms) } })
  else .next (s.report 0x200 0x02 0x00100034)

/-- LANE_WATCHDOG (R468): an armed lane that votes or runs in shadow has raised no strobe for 80 µs. -/
def execLaneWatchdog (t : Time) (x : Lane) (s : State) : Host.Outcome State Fault Refusal :=
  let s := s.at_ t
  let l := s.lane x
  match l.strobeAt with
  | none => .next s
  | some t0 =>
    if (l.vote = .voting ∨ l.vote = .shadow) ∧ s.elapsed t0 (80 * us) then
      .next (s.assertReset (.laneWdog x) (s.fused (.laneWdog x)) [x])
    else .next s

/-- Eight 4-bit codes in a word. -/
def nibbles (l : List Nat) : Word :=
  pack ((List.range 8).map (fun i => (4 * i, 4, l.getD i 0)))

/-- The reset controller's registers (R481). -/
def State.readRst (s : State) (o : Nat) : Option Word :=
  let c := s.core
  match o with
  | 0x00 => some (pack [(31, 1, b2n c.bringup), (30, 1, b2n c.mgmtLate), (29, 1, b2n c.idsolFail),
      (28, 1, b2n c.flush.isSome), (25, 3, c.lastLevel), (21, 4, c.lastSource)])
  | 0x04 => some (BitVec.ofNat 32 c.sources)
  | 0x08 => some (c.last.setWidth 32)
  | 0x0C => some (pack ((List.range 10).map (fun i => (i, 1, b2n (c.doms.getD i ⟨true, 0, 0⟩).inReset))))
  | 0x10 => some c.countL1
  | 0x14 => some c.countL2
  | 0x18 => some c.countL3
  | 0x1C => some c.countL4
  | 0x20 => some (nibbles (s.nv.fuse.levels.take 8))
  | 0x24 => some (nibbles ((s.nv.fuse.levels.drop 8).take 6))
  | 0x28 => some (nibbles (s.nv.fuse.pins.take 8))
  | 0x2C => some (nibbles (s.nv.fuse.pins.drop 8))
  | 0x30 => some (pack [(0, 10, c.mwdogTimeout)])
  | 0x34 => some 0
  | 0x38 => some (pack [(0, 16, sat 65535 c.bringupMs)])
  | _ => none

/-- Write to RST_MWDOG_CFG (R481). -/
def State.writeRst (s : State) (o : Nat) (v : Word) : State :=
  let n := field v 9 0
  if o ≠ 0x30 then s
  else if !s.core.bringup then s.report 0x200 0x01 0x00100030 2
  else if n < 10 ∨ 1000 < n then s.report 0x200 0x02 0x00100030
  else { s with core := { s.core with mwdogTimeout := n } }

end Sys2Proof.Machine
end

