-- ==== Sys2Proof/Machine/ModeOps.lean ====
section
/-! DEFINITION. Operating modes (R19 to R29, R589), the forming of the vote (R143, R144), and what a voted mark and a
planning tick do. -/
namespace Sys2Proof.Machine

/-! ### Transitions -/

/-- Length of the recovery watch of R27: one hour, in ms. -/
def watchMs : Nat := 3600000

/-- A watch whose hour has passed ends; without an entry into STOPPED during it the count returns to 0 (R27). -/
def State.watchEnd (s : State) : State :=
  match s.aon.stopWatch with
  | none => s
  | some w =>
    if s.opMs < w.start + watchMs then s
    else { s with aon := { s.aon with stopWatch := none, restarts := if w.entered then s.aon.restarts else 0 } }

/-- An entry into STOPPED counts while a watch runs, and latches when the count exceeds `limits.stop_restarts` (R27). -/
def State.countStop (s : State) : State :=
  let s := s.watchEnd
  let lim := s.lfldN .limitsStopRestarts
  let a := s.aon
  let n := if a.stopWatch.isSome then a.restarts + 1 else a.restarts
  { s with aon := { a with
      restarts := n, stopLatched := a.stopLatched || lim == 0 || decide (lim < n)
      stopWatch := a.stopWatch.map (fun w => ({ w with entered := true } : StopWatch)) } }

/-- After a stop with cause LANE_DISAGREE every lane that is not latched is reset through its fence source (R143). -/
def State.fenceAll (s : State) : State :=
  Lane.all.foldl (fun (s : State) x =>
    if (s.lane x).vote = Vote.latched then s else s.assertSource (.fence x) (s.fused (.fence x)) [x] false) s

/-- A stage start: the pre-start test, the strings settled and VOUT_COMMAND written first (R100, R156, R170). -/
def State.stageStart (s : State) : State :=
  let s := s.testStart.writeVout
  { s with fes := { s.fes with settleOwed := true } }

/-- What the entry into a mode does (R26, R27, R100, R101, R143, R178, R181, R184, R201, R202, R204). -/
def State.modeEntry (s : State) (old m : Mode) (c : Cause) : State :=
  let s := if old = .held ∧ m ≠ .held then { s with emit := { s.emit with wroteAt := s.now } } else s
  match m with
  | .held =>
    let s := s.withdraw.toUntested
    { s with fes := { s.fes with reengage := false, reengageOwed := false } }
  | .fallow =>
    let s := s.withdraw
    let s := { s with plan := { s.plan with confRun := 0 }, fes := { s.fes with reengage := false, reengageOwed := false } }
    match c with
    | .imageStarted => s.stageStart
    | .holdReleased => s.stageStart
    | .stopCleared =>
      let s := s.stageStart
      { s with fes := { s.fes with recharge := true }, aon := { s.aon with stopWatch := some ⟨s.opMs, false⟩ } }
    | .gridRestored => ({ s with fes := { s.fes with recharge := true } }).fesEvent 2
    | _ => s
  | .conducting => { s with fes := { s.fes with target := s.fes.ref } }
  | .bridging =>
    { s with fes := { s.fes with ref := 0, reengage := false, reengageOwed := false, covered := 0
                                 battZ := s.iF * s.nominal } }
  | .stopped =>
    let s := s.countStop.toUntested
    let s := { s with fes := { s.fes with reengage := false, reengageOwed := false } }
    if c = .laneDisagree then s.fenceAll else s

/-- A transition (R20, R24): AON_MODE and AON_MODE_TIME in one step, the Barrow record, the notification, and what the
entry does; ADMIT_OPEN follows the mode (R363). -/
def State.transition (s : State) (m : Mode) (c : Cause) : State :=
  let old := s.aon.mode
  let s := { s with aon := { s.aon with mode := m, prevMode := old, cause := c, count := s.aon.count + 1, modeTime := s.opMs } }
  let s := s.stage 0x10 0 [BitVec.ofNat 8 m.code, BitVec.ofNat 8 old.code, BitVec.ofNat 8 c.code]
  let s := s.notify 1 (beBytes 4 s.aonMode.toNat ++ beBytes 6 s.aon.modeTime)
  let s := (s.modeEntry old m c).busCharge
  if s.inRst .htlFrz then s else s.admitUpdate

/-! ### Conditions -/

/-- The stage can be stopped from this mode (R20). -/
def Mode.live : Mode → Bool
  | .fallow => true | .conducting => true | .bridging => true | _ => false

/-- The condition for STOPPED that holds (R20, R141, R145): a disagreement, or fewer than two lanes voting, before the
kill. -/
def State.stopCause (s : State) : Option Cause :=
  if s.vot.stopLatch ∨ s.voting.length < 2 then some .laneDisagree
  else if s.killFree then none else some .stageKill

/-- STOPPED is taken at once when its condition holds (R23, R140, R141, R145). -/
def State.stopNow (s : State) : State :=
  if !s.aon.mode.live then s else
  match s.stopCause with
  | none => s
  | some .laneDisagree => (s.disagreeStop 1).transition .stopped .laneDisagree
  | some c => s.gatesLow.transition .stopped c

/-- The conditions of R26 hold at this moment. -/
def State.clearCond (s : State) : Bool :=
  s.voting.length == 3 && s.killFree && s.fes.gridPresent && decide ((s.lfld .limitsStoreVMin : Rat) < s.fes.period.stoS)

/-- The automatic recovery of R26 is due; with `limits.stop_restarts` = 0 there is none (R27). -/
def State.stopClearedDue (s : State) : Bool :=
  s.aon.mode == .stopped && !s.aon.stopLatched && s.vot.formed && s.lfldN .limitsStopRestarts != 0 && s.clearCond
    && (match s.vot.clearSince with | none => false | some t => s.elapsed t (s.lfldN .limitsStopHold * sec))

/-- Grid input is lost (R180): in FALLOW and CONDUCTING the mode becomes BRIDGING. -/
def State.gridLossStep (s : State) : State :=
  let s := s.gridLost
  if s.aon.mode = .fallow ∨ s.aon.mode = .conducting then s.transition .bridging .gridLost else s

/-- Length of the covered interval of R183: 400 periods. -/
def coveredPeriods : Nat := 400

/-- The run conditions of CONDUCTING (R198, R199), in the order of R22. -/
def State.runModes (s : State) : State :=
  if s.aon.mode ≠ .conducting then s
  else if 3 ≤ s.plan.missedRun then s.transition .fallow .planMissed
  else if 16 ≤ s.plan.unconfRun then s.transition .fallow .planUnconfident
  else s

/-- The transitions of R20 in the order of R22, the accepted vector of the mark apart. -/
def State.evalModes (s : State) : State :=
  let m := s.aon.mode
  let hold := s.vot.holdCond && m != .held
  let release := s.vot.releaseCond && m == .held && s.inForce
  let shed := s.vot.shedCond
  let restart := s.vot.restartCond
  let s := { s with vot := { s.vot with holdCond := false, releaseCond := false, shedCond := false, restartCond := false }
                    plan := if shed || restart then { s.plan with confRun := 0 } else s.plan }
  if hold then s.transition .held .holdCommand
  else if release then s.transition .fallow .holdReleased
  else if m.live && s.stopCause.isSome then s.stopNow
  else match m with
    | .bridging =>
      if s.fes.period.stoS ≤ (s.lfld .limitsStoreVMin : Rat) then s.gatesLow.transition .stopped .storageEmpty
      else if s.gridLossDue then s.gridLossStep
      else if s.fes.reengage ∧ coveredPeriods ≤ s.fes.covered then s.transition .fallow .gridRestored
      else s
    | .conducting =>
      if s.gridLossDue then s.gridLossStep
      else if shed then s.transition .fallow .swardShed
      else if restart then s.transition .fallow .planningRestart
      else s.runModes
    | .fallow => if s.gridLossDue then s.gridLossStep else s
    | .stopped =>
      let s := if s.gridLossDue then s.gridLost else s
      if s.stopClearedDue then s.transition .fallow .stopCleared else s
    | .held => if s.gridLossDue then s.gridLost else s

/-- With no vote formed the fabric evaluates (R589): a conductor that leaves HELD takes FALLOW and then STOPPED in one
evaluation. -/
def State.fabricModes (s : State) : State := s.evalModes.stopNow

/-! ### Forming the vote -/

/-- Lanes whose ready signal the voter awaits (R144). -/
def State.awaited (s : State) : List Lane :=
  Lane.all.filter (fun x => (s.lane x).vote != .latched && !(s.lane x).clockFailed)

/-- The legs take the retained record at formation, and every other leg UNTESTED, an absent one apart (R143). -/
def State.takeRetained (s : State) : State :=
  if !s.vot.useRetained then s else
  let s := (List.range 32).foldl (fun (s : State) k =>
    match s.vot.retained.getD k none with
    | some st => s.legState k st
    | none => if (s.leg k).state = .absent then s else s.legState k .untested) s
  { s with vot := { s.vot with useRetained := false } }

/-- The voter ends its wait (R144): with at least two lanes ready it issues the first voted mark; otherwise the vote stays
unformed and R141 applies. -/
def State.formVote (s : State) : State :=
  let s := { s with vot := { s.vot with waitSince := none } }
  let ready := s.awaited.filter (fun x => (s.lane x).ready)
  if ready.length < 2 then s.disagreeStop 1
  else
    let s := ready.foldl (fun (s : State) x => s.updLane x (fun l =>
      { l with vote := .voting, awaitingMark := false, reloadIn := 0, clean := 0, dirty := false, window := [], counted := []
               reloads := 0, own := false, strobeAt := some s.now })) s
    let f := s.rings.fabric
    let s := { s with
      vot := { s.vot with formed := true, stopLatch := false, mark := 0, period := 10000, markAt := s.now, offSince := some 0
                          fresh := true, clearSince := none }
      plan := { s.plan with ticking := false, rounded := 0, tickDue := false, basis := [], tickOk := false }
      rings := { s.rings with lanes := ⟨f.now s.now, s.now, f.holdover⟩ } }
    s.takeRetained

/-! ### A voted mark -/

/-- Strobes that missed the mark or were not raised count (R63, R128, R468). -/
def State.strobes (s : State) (x : MarkIn) : State :=
  let s := (x.late ++ x.silent).foldl (fun (s : State) y => s.disagree y 1 0 0) s
  Lane.all.foldl (fun (s : State) y =>
    if (s.lane y).vote.compared ∧ !x.silent.contains y then s.updLane y (fun l => { l with strobeAt := some s.now }) else s) s

/-- A warm apply restarts the planning domain at a voted mark (R456, R457). -/
def State.warmRestart (s : State) : State :=
  if !s.cfg.warmPending then s else
  let s := { s with cfg := { s.cfg with warmPending := false, prog := s.cfg.force, rowPending := true }
                    vot := { s.vot with restartCond := true } }
  if s.inRst .planning then s else ((s.loseDomain .planning).closeChans .planning).lexStart.planStart

/-- The lanes judge the vector that has arrived; one that completes a run changes the mode at the same mark (R199,
R201). -/
def State.planMark (s : State) : State :=
  let w := s.plan.chan.head?
  let n := s.plan.accepted
  let s := s.judgeVec
  if s.plan.accepted = n then s else
  match s.aon.mode, w with
  | .fallow, some w =>
    if 16 ≤ s.plan.confRun then (s.transition .conducting .planConfident).putInForce w else s
  | .conducting, _ => s.runModes
  | _, _ => s

/-- Since when the conditions of R26 hold together. -/
def State.clearTimer (s : State) : State :=
  { s with vot := { s.vot with clearSince :=
      if s.clearCond then (match s.vot.clearSince with | none => some s.now | some t => some t) else none } }

/-- The voted mark opens the next period: the count, and the voter's counting afresh (R128, R149). -/
def State.openPeriod (s : State) : State :=
  let s := s.updLanes (fun (l : LaneSt) => { l with counted := [] })
  { s with vot := { s.vot with mark := s.vot.mark + 1, markAt := s.now } }

/-- The converter at a shaping-period boundary: what the period measured, what enters and starts, and the front end (R81,
R82, R88, R92, R99, R103, R115, R160, R163, R180). -/
def State.converterMark (s : State) (x : MarkIn) : State :=
  let start := s.vot.markAt
  let s := (s.busMeans x).measure x
  let s := s.endpoints.entries.startStage.idleTarget
  let s := s.balance.groupLimits.centring
  let s := s.baseOnTimes x
  ((s.fallowUpdate.edgeUpdate x).gridUpdate start).reengageStart

/-- VOTED_MARK (R63 to R67, R81 to R99, R126 to R146, R193 to R203): a shaping period ends and the next begins. -/
def execVotedMark (t : Time) (x : MarkIn) (s : State) : Host.Outcome State Fault Refusal :=
  let s := s.at_ t
  if s.inRst .fabric ∨ !s.vot.formed then .next s else
  let s := (s.strobes x).holdLatched
  if !s.vot.formed then .next s.stopNow else
  let s := s.converterMark x
  let s := s.openPeriod.killClear.markRing.retain
  let s := Lane.all.foldl (fun (s : State) y => (s.shadowMark y).firstMark y) s
  let s := s.warmRestart.clearTimer.evalModes
  let s := if s.vot.formed then s.planMark else s
  let s := s.endpoints.groupB.startRecheck.snapshots.emitMark
  .next { s with vot := { s.vot with fresh := false } }

/-- PLANNING_TICK (R191, R192, R198, R381): the mark was a tick boundary: the tick before ends, the next begins, its basis
record goes to the sward and the conditions to concord. -/
def execPlanningTick (t : Time) (s : State) : Host.Outcome State Fault Refusal :=
  let s := s.at_ t
  if s.inRst .fabric ∨ !s.vot.formed ∨ !s.plan.tickDue then .next s else
  let s := s.endTick.beginTick
  let s := match s.plan.basis with
    | [] => s
    | b :: _ => s.deliver 1 b.line
  let s := { s with ccd := { s.ccd with low := s.storageLow, reserve := s.reserveOut, short := s.capacityShort
                                        bridging := s.aon.mode == Mode.bridging } }
  let s := if s.inRst .htlFrz then s else s.governTick
  .next s.runModes

/-- FABRIC_MODE_EVALUATION (R589): every 10 µs while no vote is formed. -/
def execFabricModeEvaluation (t : Time) (s : State) : Host.Outcome State Fault Refusal :=
  let s := s.at_ t
  if s.inRst .fabric ∨ s.vot.formed ∨ s.core.bringup then .next s else .next s.fabricModes

/-- STOP_CLEARED (R26): the conditions have held together for `limits.stop_hold`. -/
def execStopCleared (t : Time) (s : State) : Host.Outcome State Fault Refusal :=
  let s := s.at_ t
  if s.inRst .fabric ∨ !s.stopClearedDue then .next s else .next (s.transition .fallow .stopCleared)

/-- STOP_WATCH_END (R27): the hour of a recovery watch has passed. -/
def execStopWatchEnd (t : Time) (s : State) : Host.Outcome State Fault Refusal :=
  let s := s.at_ t
  .next (if s.inRst .aon then s else s.watchEnd)

end Sys2Proof.Machine
end

