-- ==== Sys2Proof/Machine/Modes.lean ====
section
/-! DEFINITION. The voter's commands and the front end's events (R127 to R146, R180 to R186). -/
namespace Sys2Proof.Machine

/-- GATE_DISAGREEMENT (R127, R128, R140): a lane's gate has differed from the voted output for 3 ns. -/
def execGateDisagreement (t : Time) (x : Lane) (gate : Nat) (s : State) : Host.Outcome State Fault Refusal :=
  let s := s.at_ t
  if s.inRst .fabric ∨ !s.vot.formed ∨ 64 ≤ gate then .next s else .next ((s.disagree x 0 gate 0).holdLatched.stopNow)

/-- The two lanes of a pair agree. -/
def pairOk (p : Pair) : Bool := p == Pair.agree

/-- The first section in which a lane differs from another, of the pairs it is in, and whether one is missing (R131,
R149): kind and section. -/
def pairKind (l : List Pair) : Nat × Nat :=
  if l.contains .missing then (3, 0)
  else
    let sects := l.filterMap (fun p => match p with | .differ n => some n | _ => none)
    (2, sects.foldl min (sects.headD 0))

/-- The pairs of a lane among those compared. -/
def lanePairs (l : List (Lane × Lane × Pair)) (x : Lane) : List Pair :=
  (l.filter (fun p => p.1 == x || p.2.1 == x)).map (fun p => p.2.2)

/-- Lanes that R131 gives a snapshot disagreement, three being compared. -/
def outvoted (l : List (Lane × Lane × Pair)) : List Lane :=
  let good := l.filter (fun p => pairOk p.2.2)
  if good.length = 3 ∨ l.length ≠ 3 then []
  else Lane.all.filter (fun x =>
    let bad := (lanePairs l x).filter (fun p => !pairOk p)
    if good.length = 2 then bad.length == 1 else bad.length == 2 && good.length == 1)

/-- SNAPSHOT_JUDGEMENT (R131, R140): the verdicts of the three pairs on the snapshots of a mark; a pair with a lane that is
not compared has none. -/
def execSnapshotJudgement (t : Time) (ab ac bc : Pair) (s : State) : Host.Outcome State Fault Refusal :=
  let s := s.at_ t
  if s.inRst .fabric ∨ !s.vot.formed then .next s else
  let all : List (Lane × Lane × Pair) := [(.a, .b, ab), (.a, .c, ac), (.b, .c, bc)]
  let pairs := all.filter (fun p => (s.lane p.1).vote.compared && (s.lane p.2.1).vote.compared)
  let voting := pairs.filter (fun p => (s.lane p.1).vote == .voting && (s.lane p.2.1).vote == .voting)
  let s := Lane.all.foldl (fun (s : State) x =>
    let mine := lanePairs pairs x
    s.updLane x (fun l => if l.vote.compared then { l with snapOk := mine != [] && mine.all pairOk } else l)) s
  let n := s.voting.length
  if n ≤ 2 ∧ voting.any (fun p => !pairOk p.2.2) = true then .next (s.disagreeStop 0).stopNow
  else if n = 3 ∧ pairs.all (fun p => !pairOk p.2.2) = true then .next (s.disagreeStop 2).stopNow
  else
    let out := if pairs.length = 3 then outvoted pairs
      else (Lane.all.filter (fun x => (s.lane x).vote == .shadow && (lanePairs pairs x).any (fun p => !pairOk p)))
    let s := out.foldl (fun (s : State) x =>
      let k := pairKind ((lanePairs pairs x).filter (fun p => !pairOk p))
      s.disagree x k.1 0 k.2) s
    .next s.holdLatched.stopNow

/-- LANE_READY (R65, R144, R453): a released lane has its PLL locked and loads its parameters from the retained copy. -/
def execLaneReady (t : Time) (x : Lane) (crcOk : Bool) (s : State) : Host.Outcome State Fault Refusal :=
  let s := s.at_ t
  let l := s.lane x
  if s.inRst .fabric ∨ s.inRst (.lane x) ∨ l.clockFailed ∨ l.ready ∨ s.cfg.lane.isNone ∨ l.vote = .latched then .next s
  else if !crcOk then
    let s := { s with cfg := { s.cfg with retainedOk := false } }
    .next ((s.report 0xB03 0x71 0).assertSource (.fence x) (s.fused (.fence x)) [x] true)
  else
    let s := s.updLane x (fun l => { l with ready := true, awaitingMark := s.vot.formed })
    if s.vot.formed then .next s else
    let s := { s with vot := { s.vot with waitSince := some (s.vot.waitSince.getD s.now) } }
    .next (if s.awaited.all (fun y => (s.lane y).ready) then s.formVote.stopNow else s)

/-- FORMATION_WAIT_EXPIRY (R144): `lanes.formation_wait` has passed since the first ready signal. -/
def execFormationWaitExpiry (t : Time) (s : State) : Host.Outcome State Fault Refusal :=
  let s := s.at_ t
  match s.vot.waitSince with
  | none => .next s
  | some t0 =>
    if s.inRst .fabric ∨ s.vot.formed ∨ !s.elapsed t0 (s.lfldN .lanesFormationWait * 100 * us) then .next s
    else .next s.formVote.stopNow

/-- The kill latch is set and every gate goes low (R145). -/
def State.killSet (s : State) : State :=
  let s := s.gatesLow
  ({ s with vot := { s.vot with killLatch := true, killHighSince := none, offSince := none, clearSince := none } }).votEvent 9

/-- STAGE_KILL (R23, R145, R146): STAGE_KILL_N falls, or rises. -/
def execStageKill (t : Time) (low : Bool) (s : State) : Host.Outcome State Fault Refusal :=
  let s := s.at_ t
  let s := { s with pin := { s.pin with stageKill := low } }
  if s.inRst .fabric then .next s
  else if low then .next s.killSet.stopNow
  else .next { s with vot := { s.vot with killHighSince := if s.vot.killLine then none else some s.now } }

/-! ### Grid input and the segment -/

/-- GRID_LOSS (R180): a loss condition has held for `frontend.sag_time`. -/
def execGridLoss (t : Time) (s : State) : Host.Outcome State Fault Refusal :=
  let s := s.at_ t
  if s.inRst .fabric ∨ !s.vot.formed ∨ !s.gridLossDue then .next s else .next s.gridLossStep

/-- GRID_RETURN (R182): the grid voltage has been back for `frontend.return_time`. -/
def execGridReturn (t : Time) (s : State) : Host.Outcome State Fault Refusal :=
  let s := s.at_ t
  match s.fes.returnSince with
  | none => .next s
  | some t0 =>
    if s.inRst .fabric ∨ !s.vot.formed ∨ s.fes.gridPresent ∨ s.fes.inService = [] ∨ s.fes.sagSince.isSome
        ∨ s.fes.shortSince.isSome ∨ !s.elapsed t0 (s.lfldN .frontendReturnTime * 10 * ms) then .next s
    else
      let s := s.fesEvent 1
      .next ({ s with fes := { s.fes with gridPresent := true, reengageOwed := s.aon.mode == Mode.bridging } }).busCharge

/-- GRID_RESTORED (R183): 400 covered periods in a row. -/
def execGridRestored (t : Time) (s : State) : Host.Outcome State Fault Refusal :=
  let s := s.at_ t
  if s.inRst .fabric ∨ !s.vot.formed ∨ s.aon.mode ≠ .bridging ∨ !s.fes.reengage ∨ s.fes.covered < coveredPeriods then .next s
  else .next (s.transition .fallow .gridRestored)

/-- A member of the own segment is lost (R185): its row-exchange entry is missing for two consecutive superframes, or shows
HELD or STOPPED. -/
def State.memberLost (s : State) (m : Nat) : Bool :=
  let own := match s.recOf m with
    | none => true
    | some r => r.segment == s.lfldN .topologySegment
  m != s.member && own && (match s.ccd.sums.find? (fun x => x.member == m) with
    | none => true
    | some x => decide (2 ≤ diff32 s.htlSf x.sf) || x.mode == 0 || x.mode == 4)

/-- SEGMENT_LOSS (R185): the switch reports a member of the own segment as lost. -/
def execSegmentLoss (t : Time) (member : Nat) (s : State) : Host.Outcome State Fault Refusal :=
  let s := s.at_ t
  if s.inRst .fabric ∨ s.inRst .htlFrz ∨ !s.memberLost member then .next s else
  let lost := if s.fes.lost.contains member then s.fes.lost else s.fes.lost ++ [member]
  .next (({ s with fes := { s.fes with segmentLoss := true, lost := lost } }).fesEvent 11)

/-- SEGMENT_LOSS_CLEAR (R185): members that are back leave the report; with none reported for `frontend.loss_hold`,
SEGMENT_LOSS clears. -/
def execSegmentLossClear (t : Time) (s : State) : Host.Outcome State Fault Refusal :=
  let s := s.at_ t
  if s.inRst .fabric then .next s else
  let still := s.fes.lost.filter (fun m => s.memberLost m)
  let since := if s.fes.lost != [] && still == [] then s.now else s.fes.lossClear
  let s := { s with fes := { s.fes with lost := still, lossClear := since } }
  if s.fes.segmentLoss && still == [] && s.elapsed since (s.lfldN .frontendLossHold * sec) then
    .next { s with fes := { s.fes with segmentLoss := false } }
  else .next s

end Sys2Proof.Machine
end

