-- ==== Sys2Proof/Machine/Supply.lean ====
section
/-! DEFINITION. Auxiliary supply, the power-fail sequence and hold-up (R42 to R52, R509), and the full start: image
selection and the end of bring-up (R451 to R453, R477, R478). -/
namespace Sys2Proof.Machine

/-- AUX_INPUT_FAULT (R42): an input below 10.2 V or above 14.0 V is disconnected. -/
def execAuxInputFault (t : Time) (inputB high : Bool) (s : State) : Host.Outcome State Fault Refusal :=
  let s := s.at_ t
  let p := s.pin
  let s := { s with pin := if inputB then { p with auxB := false } else { p with auxA := false } }
  let a := s.aon
  let s := if s.inRst .aon then s
    else { s with aon := { a with auxFault := true, auxAOk := a.auxAOk && inputB, auxBOk := a.auxBOk && !inputB } }
  .next (s.report 0x000 0x10 (b2n inputB) (b2n high))

/-- AUX_INPUT_RECONNECT (R42): an input that has stayed between 10.8 V and 13.2 V for 100 ms is connected. -/
def execAuxInputReconnect (t : Time) (inputB : Bool) (s : State) : Host.Outcome State Fault Refusal :=
  let s := s.at_ t
  let p := s.pin
  let s := { s with pin := if inputB then { p with auxB := true } else { p with auxA := true } }
  let a := s.aon
  .next (if s.inRst .aon then s
    else { s with aon := { a with auxAOk := a.auxAOk || !inputB, auxBOk := a.auxBOk || inputB } })

/-- A reset source is asserted. -/
def State.srcOn (s : State) (x : Src) : Bool := (s.core.srcs.getD x.code ⟨false, 0, none, 0, []⟩).asserted

/-- POWER_ON_RELEASE (R43): the rail has been above 10.8 V for 10 ms and the hold-up bank stores 20 J. -/
def execPowerOnRelease (t : Time) (s : State) : Host.Outcome State Fault Refusal :=
  let s := s.at_ t
  if !s.srcOn .powerOn then .next s else
  .next ({ s with pin := { s.pin with railUp := true, holdup := true } }.releaseSrc .powerOn)

/-- The sward is shed (R47, R294, R553): planning and sward power enter reset and power is removed; it is the SWARD_SHED
condition of R20. -/
def State.shedSward (s : State) : State :=
  let s := { s with swd := { s.swd with shed := true }, vot := { s.vot with shedCond := true } }
  let s := (s.enterDomain .planning).enterDomain .swardPower
  { s with swd := { s.swd with powered := false } }

/-- POWER_FAIL (R44, R480, R509): power fail is confirmed: gates low, STOPPED unless HELD, the sward and its memories
unpowered, the links at high impedance, and the POWER_FAIL record staged. -/
def execPowerFail (t : Time) (railMv : Nat) (s : State) : Host.Outcome State Fault Refusal :=
  let s := s.at_ t
  if s.srcOn .powerOn ∨ s.srcOn .brownOut ∨ s.pin.powerFail.isSome then .next s else
  let s := { s with pin := { s.pin with powerFail := some s.now, stagingClosed := false, railUp := false }
                    core := { s.core with flush := none }
                    aon := if s.inRst .aon then s.aon else { s.aon with railMv := railMv } }
  let s := s.driveKill
  let s := if s.inRst .fabric then s else s.killSet
  let s := if s.aon.mode.live then s.transition .stopped .stageKill else s
  let s := s.shedSward
  let s := { s with swm := [], lex := Lex.reset, fes := { s.fes with link := 0 } }
  if s.inRst .fabric then .next s else
  let s := { s with brw := { s.brw with flush := true } }
  .next (s.stage 0x02 0 (leBytes 4 s.aonSupply.toNat ++ leBytes 4 s.aonMode.toNat) true)

/-- FINAL_FLUSH_STAGING_CLOSE (R509): 1 ms after the crossing staging closes and the last segment is committed. -/
def execFinalFlushStagingClose (t : Time) (s : State) : Host.Outcome State Fault Refusal :=
  let s := s.at_ t
  match s.pin.powerFail with
  | none => .next s
  | some t0 =>
    if s.pin.stagingClosed ∨ !s.elapsed t0 ms then .next s else
    let s := if s.inRst .fabric ∨ !s.brw.anchored ∨ s.brw.ioFail then s
      else let s := s.seal true; s.commit s.brw.staging.length
    .next { s with pin := { s.pin with stagingClosed := true } }

/-- FINAL_FLUSH_END (R44, R45, R509): the checkpoint is written and the end signalled, or hold-up has reached 12 V;
brown-out is asserted, or power-on with the rail back, and the sources that waited take effect. -/
def execFinalFlushEnd (t : Time) (railUp : Bool) (s : State) : Host.Outcome State Fault Refusal :=
  let s := s.at_ t
  match s.pin.powerFail with
  | none => .next s
  | some _ =>
    let s := if s.pin.stagingClosed && !s.inRst .fabric && s.brw.anchored && !s.brw.ioFail then s.writeCkpt else s
    let owed := s.pin.deferred
    let s := { s with pin := { s.pin with powerFail := none, stagingClosed := false, railUp := railUp, holdup := false
                                          deferred := [] } }
    let x := if railUp then Src.powerOn else Src.brownOut
    let s := s.assertReset x (s.fused x)
    .next (owed.foldl (fun (s : State) d => s.assertReset d.1 d.2) s)

/-- RAIL_RECOVERY (R45): the rail rises above 10.8 V: power-on in place of brown-out. -/
def execRailRecovery (t : Time) (s : State) : Host.Outcome State Fault Refusal :=
  let s := s.at_ t
  if !s.srcOn .brownOut then .next s else
  let s := { s with pin := { s.pin with railUp := true } }
  .next ((s.assertReset .powerOn (s.fused .powerOn)).releaseSrc .brownOut)

/-- 20 J in units of 0.1 J (R43, R52). -/
def holdupFull : Nat := 200

/-- HOLDUP_FAULT (R52): after bring-up the bank has fallen below 20 J with the rail above 10.8 V. -/
def execHoldupFault (t : Time) (dj : Nat) (s : State) : Host.Outcome State Fault Refusal :=
  let s := s.at_ t
  if s.core.bringup ∨ !s.pin.railUp ∨ s.inRst .aon ∨ holdupFull ≤ dj ∨ !s.aon.holdupReady then .next s else
  let s := { s with pin := { s.pin with holdup := false }, aon := { s.aon with holdupReady := false, holdupDj := dj } }
  .next (s.report 0x000 0x11 dj 0)

/-- HOLDUP_RECHARGED (R52): the bank has reached 20 J again. -/
def execHoldupRecharged (t : Time) (dj : Nat) (s : State) : Host.Outcome State Fault Refusal :=
  let s := s.at_ t
  if !s.pin.railUp ∨ s.inRst .aon ∨ dj < holdupFull then .next s else
  .next { s with pin := { s.pin with holdup := true }, aon := { s.aon with holdupReady := true, holdupDj := dj } }

/-! ### Full start -/

/-- Report a slot that is not VALID, other than EMPTY (R451). -/
def State.slotReport (s : State) (k code : Nat) : State :=
  if code = 0 ∨ code = 1 then s else s.report (0xB00 + k) 0x70 k code

/-- The slot selected (R451): the later SEQ of two VALID slots, slot 0 where neither is later; the flag is the conflict. -/
def choose (a b : Option Image) : Option Bool × Bool :=
  match a, b with
  | none, none => (none, false)
  | some _, none => (some false, false)
  | none, some _ => (some true, false)
  | some x, some y => if later y.seq x.seq then (some true, false) else (some false, !later x.seq y.seq)

/-- The strings as an image has them (R169). -/
def State.placeStrings (s : State) : State :=
  let m := s.lfldN .stringsActive ||| s.lfldN .stringsSpare
  { s with fes := { s.fes with strs := (List.range 16).map (fun j =>
    if m.testBit j then { Str.reset with state := 1 } else Str.reset) } }

/-- An image takes effect at a full start (R452, R453, R527). -/
def State.startImage (s : State) (k : Bool) (im : Image) : State :=
  let s := { s with
    cfg := { s.cfg with force := some im, lane := some im, prog := some im, row := some im, active := k, retainedOk := true }
    ids := (s.ids.extend 2 im.digest).extend 3 (Config.sha384 im.laneBytes) }
  s.placeLegs.placeRects.placeStrings.startPorts

/-- IMAGE_SELECTION (R451, R453, R459): the loader judges both slots and selects. -/
def execImageSelection (t : Time) (s : State) : Host.Outcome State Fault Refusal :=
  let s := s.at_ t
  if s.inRst .fabric ∨ s.cfg.selected then .next s else
  let s := { s with ids := s.ids.extend 6 (Config.sha384 s.nv.fuse.otp) }
  let bad := s.nv.fuse.otpFault
  let s := match bad with
    | none => s
    | some d => { s with cfg := { s.cfg with otpBad := true } }.report 0xB02 0x72 0 d
  let (j0, s) := s.judgeImage s.nv.slot0
  let (j1, s) := s.judgeImage s.nv.slot1
  let s := { s with cfg := { (s.cfg.judged false s.nv.slot0 j0).judged true s.nv.slot1 j1 with selected := true } }
  let s := (s.slotReport 0 j0.code).slotReport 1 j1.code
  let (pick, same) := if bad.isSome then (none, false) else choose j0.image j1.image
  let s := if same then s.report 0xB00 0x70 0 0 else s
  let s := match pick with
    | none => s
    | some k => match (if k then j1.image else j0.image) with
      | none => s
      | some im => s.startImage k im
  let slot := match pick with | none => 0xFF | some k => b2n k
  .next (s.stage 0x20 0 (leBytes 4 s.cfg.seq0 ++ leBytes 4 s.cfg.seq1 ++ [j0.code, j1.code, slot, 0].map (BitVec.ofNat 8)))

/-- Bring-up may end (R477); `late` when it ends on the 4 s bound. -/
def State.bringupDue (s : State) : Bool :=
  s.core.bringup && !s.inRst .fabric && !s.episode && s.cfg.selected
    && (s.cfg.force.isNone || s.vot.formed || s.vot.stopLatch)
    && (s.mbx.fwRunning || s.elapsed (s.dom .fabric).release (4 * sec))

/-- BRINGUP_END (R25, R477, R478, R589): RWL fields lock, the mode is taken, the BRINGUP record written, and the cells that
waited are delivered. -/
def execBringupEnd (t : Time) (s : State) : Host.Outcome State Fault Refusal :=
  let s := s.at_ t
  if !s.bringupDue then .next s else
  let late := !s.mbx.fwRunning
  let span := sat 65535 ((s.now - s.core.bringupStart) / ms)
  let s := { s with core := { s.core with bringup := false, mgmtLate := late, bringupMs := span }
                    flt := { s.flt with bringupEndMs := some s.opMs } }
  let s := if late then s.report 0x100 0x74 0 0 else s
  let s := if s.inForce then (s.transition .fallow .imageStarted).stopNow else s.transition .held .noImage
  let f := s.nv.fuse.levels
  let s := s.stage 0x04 0 (leBytes 4 s.core.last.toNat ++ leBytes 4 (nibbles (f.take 8)).toNat
    ++ leBytes 4 (nibbles ((f.drop 8).take 6)).toNat ++ leBytes 2 span ++ [BitVec.ofNat 8 s.aon.mode.code, 0])
  .next (if s.inRst .htlFrz then s else s.drainQueue)

end Sys2Proof.Machine
end

