-- ==== Sys2Proof/Machine/Thermal.lean ====
section
/-! DEFINITION. Sensors, thermal backstops, coolant, derating, and the firmware's thermal actions (R549 to R558). -/
namespace Sys2Proof.Machine

/-- Sensor `i` of R549. -/
def Aon.sensor (a : Aon) (i : Nat) : Sensor := a.sensors.getD i ⟨false, false, []⟩

/-- A sensor is valid (R549). -/
def State.sensorValid (s : State) (i : Nat) : Bool :=
  if i < 64 then s.swd.powered
  else if 78 ≤ i ∧ i ≤ 85 then !s.pin.boardAbsent.getLsbD (i - 78)
  else true

/-- A sensor is a thermistor. -/
def isThermistor (i : Nat) : Bool := decide (78 ≤ i)

/-- A thermistor's temperature in 0.01 °C (R460). -/
def State.thermistor (s : State) (r : Rat) : Int :=
  let r25 : Rat := s.lfld .calNtcR25
  let beta : Rat := s.lfld .calNtcBeta
  if r25 = 0 ∨ beta = 0 then 0 else
  let x := 1 / (29815 / 100) + Config.ln (r / r25) / beta
  if x = 0 then 0 else floorRat ((1 / x - 27315 / 100) * 100)

/-- A reading in 0.01 °C, none for a fault (R550): a thermistor outside 100 Ω to 1 MΩ, or a conversion error. -/
def State.reading (s : State) (i : Nat) (r : Reading) : Option Int :=
  match r with
  | .centi x => some x
  | .ohms x => if isThermistor i && (decide (x < 100) || decide (1000000 < x)) then none else some (s.thermistor x)
  | .error => none

/-- One sample of one sensor (R549, R550): a fault is reported as it appears. -/
def State.sample (s : State) (i : Nat) (r : Reading) : State :=
  let old := s.aon.sensor i
  let put := fun (s : State) (x : Sensor) => { s with aon := { s.aon with sensors := upd s.aon.sensors i (fun _ => x) } }
  if !s.sensorValid i then put s ⟨false, false, []⟩ else
  match s.reading i r with
  | some v => put s ⟨true, false, (v :: old.samples).take 10⟩
  | none =>
    let s := put s { old with valid := true, fault := true }
    if old.fault then s
    else if 86 ≤ i then s.report 0x002 0x13 3 2
    else s.report 0xD40 0x14 i 2

/-- The last samples of sensors `lo` to `hi` that are valid and not in fault: number and 0.01 °C. -/
def Aon.temps (a : Aon) (lo hi : Nat) : List (Nat × Int) :=
  ((List.range (hi + 1 - lo)).map (lo + ·)).filterMap (fun i =>
    let x := a.sensor i
    if x.valid && !x.fault then x.samples.head?.map (fun v => (i, v)) else none)

/-- The hottest of a list, in °C from 0 to 255. -/
def hottest (l : List (Nat × Int)) : Nat :=
  match l with
  | [] => 0
  | x :: r => sat 255 (max 0 ((r.foldl (fun m y => max m y.2) x.2) / 100)).toNat

/-- AON_THERM's maxima, the coolant temperatures and AON_COOL.SENSOR_FAULT follow the sensors (R578). -/
def State.thermShow (s : State) : State :=
  let a := s.aon
  let c := fun (i : Nat) => (a.sensor i).mean / 10
  { s with aon := { a with
      swardMax := if s.swd.powered then hottest (a.temps 0 63) else 0
      condMax := hottest (a.temps 64 75), senseMax := hottest (a.temps 76 77)
      tin := c 86, tout := c 87, sensorFault := (a.sensor 86).fault || (a.sensor 87).fault } }

/-- Degrees in 0.01 °C. -/
def deg (x : Int) : Int := 100 * x

/-- A timer that runs while a condition holds. -/
def State.since (s : State) (on : Bool) (t : Option Time) : Option Time :=
  if on then some (t.getD s.now) else none

/-- A timer has run for `n`. -/
def State.ran (s : State) (t : Option Time) (n : Nat) : Bool := match t with | none => false | some t0 => s.elapsed t0 n

/-- `mgmt.cool_return` in ns. -/
def State.coolReturn (s : State) : Nat := s.lfldN .mgmtCoolReturn * sec

/-- The sward backstop of R551. -/
def State.swardBackstop (s : State) : State :=
  let sw := s.aon.temps 0 63
  let hot := sw.find? (fun x => decide (deg 105 ≤ x.2))
  if !s.aon.thermShed then
    match hot with
    | none => s
    | some x =>
      let s := { s with aon := { s.aon with thermShed := true, thermReading := false, thermSince := none } }
      (if s.swd.shed then s else s.shedSward).report 0xD40 0x14 x.1 1
  else if s.aon.thermReading then
    if s.core.coolLost ∨ sw.any (fun x => decide (deg 85 < x.2)) = true then
      { s with aon := { s.aon with thermReading := false, thermSince := none }, swd := { s.swd with powered := false } }
    else
      let since := s.since (sw != []) s.aon.thermSince
      let s := { s with aon := { s.aon with thermSince := since } }
      if s.ran since s.coolReturn then
        { s with aon := { s.aon with thermShed := false, thermReading := false, thermSince := none }
                 swd := { s.swd with shed := false } }
      else s
  else
    let cond := s.aon.temps 64 75
    let since := s.since (cond.all (fun x => decide (x.2 < deg 80))) s.aon.thermSince
    let s := { s with aon := { s.aon with thermSince := since } }
    if s.ran since s.coolReturn ∧ !s.core.coolLost then
      { s with aon := { s.aon with thermReading := true, thermSince := none }, swd := { s.swd with powered := true } }
    else s

/-- The die backstop of R551: the internal stage-kill line is held. -/
def State.dieBackstop (s : State) : State :=
  let cond := s.aon.temps 64 75
  let sense := s.aon.temps 76 77
  let hot := (cond.find? (fun x => decide (deg 112 ≤ x.2))).orElse (fun _ => sense.find? (fun x => decide (deg 120 ≤ x.2)))
  if !s.aon.dieKill then
    match hot with
    | none => s
    | some x =>
      let s := { s with aon := { s.aon with dieKill := true }, vot := { s.vot with killLine := true } }
      let s := (if s.inRst .fabric then s else s.killSet).report 0xD40 0x14 x.1 1
      if s.inRst .fabric then s else s.stopNow
  else if cond.all (fun x => decide (x.2 ≤ deg 100)) && sense.all (fun x => decide (x.2 ≤ deg 105)) then
    let s := { s with aon := { s.aon with dieKill := false } }
    if s.inRst .fabric then s else
    { s with vot := { s.vot with killLine := false, killHighSince := if s.pin.stageKill then none else some s.now } }
  else s

/-- The rail and the hold-up bank as the always-on island measures them (R51): in mV and 0.1 J, after the 88 sensors. -/
def State.supplySample (s : State) (l : List Reading) : State :=
  let mv := match l[88]? with | some (.centi x) => some x.toNat | _ => none
  let dj := match l[89]? with | some (.centi x) => some x.toNat | _ => none
  { s with aon := { s.aon with railMv := mv.getD s.aon.railMv, holdupDj := dj.getD s.aon.holdupDj } }

/-- SENSOR_SAMPLE (R51, R549 to R551): every 1 ms. -/
def execSensorSample (t : Time) (samples : List Reading) (s : State) : Host.Outcome State Fault Refusal :=
  let s := s.at_ t
  if s.inRst .aon then .next s else
  let s := (List.range 88).foldl (fun (s : State) i => s.sample i (samples.getD i .error)) s
  .next ((s.supplySample samples).thermShow.swardBackstop.dieBackstop)

/-! ### Coolant -/

/-- d of R555 in 1/256, rounded down. -/
def State.derateNow (s : State) : Nat :=
  let t : Rat := (s.aon.tout : Rat) / 10
  let t0 : Rat := s.lfld .mgmtDerateT0
  let t1 : Rat := s.lfld .mgmtDerateT1
  let lo : Rat := (s.lfld .mgmtDerateMin : Rat) / 100
  let d := if t ≤ t0 then 1 else if t1 < t then lo else if t1 ≤ t0 then lo else 1 - (1 - lo) * (t - t0) / (t1 - t0)
  let d := if s.core.coolLost then min d ((s.lfld .mgmtDerateNoflow : Rat) / 100) else d
  natFloor (256 * d)

/-- The derating factor and its ledger entry (R555, R401). -/
def State.derateUpdate (s : State) : State :=
  let d := s.derateNow
  let s := { s with aon := { s.aon with derate := d, derateEntry := decide (d < 256) } }
  if s.inRst .fabric then s else s.limitWhile 7 (decide (d < 256))

/-- The notification COOLANT (R569). -/
def State.coolNotify (s : State) : State := s.notify 4 (beBytes 4 s.aonCool.toNat)

/-- FLOW_UPDATE (R552 to R555): every 100 ms. -/
def execFlowUpdate (t : Time) (x : FlowIn) (s : State) : Host.Outcome State Fault Refusal :=
  let s := s.at_ t
  if s.inRst .aon then .next s else
  let pulses := (x.pulses :: s.aon.flowPulses).take 10
  let ppl := s.lfldN .calFlowPpl
  let flow := if ppl = 0 then 0 else sumNat pulses * 6000 / ppl
  let conds := [x.windowFull && decide (flow < 10 * s.lfldN .mgmtFlowMin), x.leakHeld,
    decide (10 * s.lfld .mgmtToutMax < s.aon.tout), s.aon.sensorFault]
  let since := (List.range 4).map (fun i => s.since (conds.getD i false) (s.aon.condSince.getD i none))
  let hold := [s.lfldN .mgmtFlowTime * 100 * ms, 0, sec, 0]
  let first := (List.range 4).find? (fun i => s.ran (since.getD i none) (hold.getD i 0))
  let none_ := conds.all (fun c => !c)
  let s := { s with
    aon := { s.aon with flowPulses := pulses, flow := flow, leak := x.leakNow, condSince := since
                        returning := s.since (s.core.coolLost && none_) s.aon.returning }
    core := { s.core with coolJudged := s.core.coolJudged || (x.windowFull && none_) } }
  let s := match first with
    | some i =>
      if s.core.coolLost then s
      else
        let s := { s with core := { s.core with coolLost := true }, aon := { s.aon with returning := none } }
        (s.report 0x002 0x13 i 0).coolNotify
    | none => s
  .next s.derateUpdate

/-- SWARD_SHED (R553): within 50 ms of the declaration; a sward that a backstop has already shed is not shed again
(R577). -/
def execSwardShed (t : Time) (s : State) : Host.Outcome State Fault Refusal :=
  let s := s.at_ t
  if s.inRst .aon ∨ !s.core.coolLost ∨ s.swd.shed then .next s else .next s.shedSward

/-- COOLANT_RESTORE (R554): the conditions have been absent for `mgmt.cool_return`. -/
def execCoolantRestore (t : Time) (s : State) : Host.Outcome State Fault Refusal :=
  let s := s.at_ t
  if s.inRst .aon ∨ !s.core.coolLost ∨ !s.ran s.aon.returning s.coolReturn then .next s else
  let s := { s with core := { s.core with coolLost := false }, aon := { s.aon with returning := none }
                    swd := if s.aon.thermShed then s.swd else { s.swd with shed := false } }
  .next ((s.report 0x002 0x13 0 1).coolNotify.derateUpdate)

/-! ### Thermal actions of the firmware -/

/-- The hottest valid sensor of a range by its 10 ms mean, in 0.01 °C. -/
def Aon.maxMean (a : Aon) (lo hi : Nat) : Option Int :=
  ((List.range (hi + 1 - lo)).map (fun i => a.sensor (lo + i))).foldl (fun m x =>
    if x.valid && !x.fault then some (match m with | none => x.mean | some y => max y x.mean) else m) none

/-- SWARD_THERMAL_EVALUATION (R556): every 100 ms while the firmware runs. -/
def execSwardThermalEvaluation (t : Time) (s : State) : Host.Outcome State Fault Refusal :=
  let s := s.at_ t
  if !s.mbx.fwRunning ∨ s.inRst .planning then .next s else
  let ceil := deg (s.fld .mgmtSwardTCeil)
  match s.aon.maxMean 0 63 with
  | none => .next s
  | some v =>
    if ceil ≤ v then .next { s with swd := { s.swd with ceil := min 4 (s.swd.ceil + 1) } }
    else if v ≤ ceil - deg 5 ∧ s.fldN .swardCeiling < s.swd.ceil
        ∧ (match s.mbx.dvfsLowered with | none => true | some t0 => s.elapsed t0 sec) = true then
      .next { s with swd := { s.swd with ceil := s.swd.ceil - 1 }, mbx := { s.mbx with dvfsLowered := some s.now } }
    else .next s

/-- `concord.release_time` in ns. -/
def State.releaseNs (s : State) : Nat := s.rfldN .concordReleaseTime * 100 * ms

/-- STEP_MODULE (R558). -/
def State.moduleStep (s : State) (ppk pg : Rat) : State :=
  let r := ppk - pg - (s.pool.limitS : Rat) / 10 * s.lfld .limitsStoreVLow
  if 256 ≤ s.aon.derate then { s with mbx := { s.mbx with stepModule := 0, moduleLow := none } }
  else if 0 < r then
    { s with mbx := { s.mbx with stepModule := max s.mbx.stepModule (s.govIndex r), moduleLow := none } }
  else
    let since := s.since true s.mbx.moduleLow
    { s with mbx := { s.mbx with moduleLow := since
                                 stepModule := if s.ran since s.releaseNs then 0 else s.mbx.stepModule } }

/-- The mean of each leg sensor whose board is fitted, in 0.01 °C; in fault it counts as `mgmt.tleg_max` (R550). -/
def State.tlegs (s : State) : List Int :=
  ((List.range 8).map (fun j => s.aon.sensor (78 + j))).filterMap (fun x =>
    if !x.valid then none else if x.fault then some (deg (s.fld .mgmtTlegMax)) else some x.mean)

/-- The greatest cap in force of the local groups. -/
def State.capInForce (s : State) : Nat := s.ccd.groups.foldl (fun m g => max m g.act.cap) 0

/-- STEP_SHELF (R558). -/
def State.shelfStep (s : State) : State :=
  let l := s.tlegs
  let top := deg (s.fld .mgmtTlegMax)
  if l.any (fun x => decide (top ≤ x)) then
    let m := { s.mbx with shelfCool := none }
    match s.mbx.shelfRaised with
    | none => { s with mbx := { m with stepShelf := min 15 (s.capInForce + 1), shelfRaised := some s.now } }
    | some t0 =>
      if s.elapsed t0 (s.fldN .mgmtThermalStep * sec) then
        { s with mbx := { m with stepShelf := min 15 (s.mbx.stepShelf + 1), shelfRaised := some s.now } }
      else { s with mbx := m }
  else
    let since := s.since (l.all (fun x => decide (x ≤ top - deg 10))) s.mbx.shelfCool
    if s.ran since s.releaseNs then { s with mbx := { s.mbx with stepShelf := 0, shelfRaised := none, shelfCool := none } }
    else { s with mbx := { s.mbx with shelfCool := since } }

/-- SHELF_THERMAL_EVALUATION (R558): every 1 s while the firmware runs; the highest 10 ms mean of shelf output and the mean
grid draw over `concord.est_window`, W. -/
def execShelfThermalEvaluation (t : Time) (ppk pg : Rat) (s : State) : Host.Outcome State Fault Refusal :=
  let s := s.at_ t
  if !s.mbx.fwRunning ∨ s.inRst .fabric then .next s else .next ((s.moduleStep ppk pg).shelfStep)

end Sys2Proof.Machine
end

