-- ==== Sys2Proof/Machine/Regs.lean ====
section
/-! DEFINITION. The register space (chapter 0): which block an address falls in, reads with their latches, writes under
the access codes, and what a refused access does. -/
namespace Sys2Proof.Machine

/-- The domain that holds the registers of an address (R6, R464); none for the reset controller, whose core no level
but L5 reaches. -/
def regDomain (a : Nat) : Option Dom :=
  if a < 0x00100000 then some .aon
  else if a < 0x00200000 then none
  else if a < 0x00300000 then some .fabric
  else if a < 0x00340000 then some (.lane .a)
  else if a < 0x00380000 then some (.lane .b)
  else if a < 0x003C0000 then some (.lane .c)
  else if a < 0x00600000 then some .fabric
  else if a < 0x00700000 then some .htlFrz
  else if a < 0x00800000 then some .fabric
  else if a < 0x00900000 then some .htlFrz
  else if a < 0x00B00000 then some .fabric
  else if a < 0x00C00000 then some .idsol
  else if a < 0x01000000 then some .fabric
  else some .planning

/-- The window of a tussock, and the offset in it (R297). -/
def tusWindow (a : Nat) : Option (Nat × Nat) :=
  if 0x01000000 ≤ a ∧ a < 0x01A00000 then some ((a - 0x01000000) / 0x4000, a % 0x4000) else none

/-- The register at an address answers: its domain is out of reset, its tussock lives, the sward is not shed (R70, R297,
R298, R323). -/
def State.regUp (s : State) (a : Nat) : Bool :=
  match tusWindow a with
  | some (t, _) => s.tusAnswers t
  | none => (match regDomain a with | none => true | some d => !s.inRst d) && (decide (a < 0x01000000) || !s.swd.shed)

/-- The register assigned to an address as a read returns it; none where no register is assigned (R6). A _HI register
shows its latch (R12). -/
def State.readReg (s : State) (a : Nat) : Option Word :=
  match tusWindow a with
  | some (t, o) => s.readTus t o
  | none =>
    if a < 0x00100000 then s.readAon a
    else if a < 0x00200000 then s.readRst (a - 0x00100000)
    else if a < 0x00300000 then s.readFlt (a - 0x00200000)
    else if a < 0x00340000 then s.readLane .a (a - 0x00300000)
    else if a < 0x00380000 then s.readLane .b (a - 0x00340000)
    else if a < 0x003C0000 then s.readLane .c (a - 0x00380000)
    else if a < 0x00400000 then s.readVot (a - 0x003C0000)
    else if a < 0x00500000 then s.readLeg (a - 0x00400000)
    else if a < 0x00600000 then s.readFes (a - 0x00500000)
    else if a < 0x00700000 then s.readFrz (a - 0x00600000)
    else if a < 0x00800000 then s.readCcd (a - 0x00700000)
    else if a < 0x00900000 then s.readHtl (a - 0x00800000)
    else if a < 0x00A00000 then s.readBrw (a - 0x00900000)
    else if a < 0x00B00000 then s.readCfg (a - 0x00A00000)
    else if a < 0x00C00000 then s.readIds (a - 0x00B00000)
    else if a < 0x01000000 then s.readMbx (a - 0x00C00000)
    else if a < 0x01E00000 then none
    else if a < 0x01F00000 then s.readSwdRows (a - 0x01E00000)
    else if a < 0x02000000 then s.readEmit (a - 0x01F00000)
    else s.readLex (a - 0x02000000)

/-- The high half of the sample that a _LO register shows, none for any other register (R12). -/
def State.hiHalf (s : State) (a : Nat) : Option Word :=
  let n := fun (x : Nat) => some (BitVec.ofNat 32 (x / 2 ^ 32))
  match tusWindow a with
  | some (t, o) => if o = 4 then n (s.tus t).seed.toNat else none
  | none =>
    match a with
    | 0x00000004 => n s.nv.fuse.serial.toNat
    | 0x00000044 => n s.aon.modeTime
    | 0x00200008 => n (match s.flt.queue with | [] => 0 | q :: _ => q.word.toNat)
    | 0x00200020 => n s.flt.trapMsg.toNat
    | 0x003C0030 => n s.vot.mark.toNat
    | 0x00800008 => n s.htl.presentMask
    | 0x00800010 => n s.ringTime
    | 0x00900004 => n s.opMs
    | 0x00900010 => n (s.brw.nextRnum - 1)
    | 0x00900018 => n ((s.oldestIn .ring).getD 0)
    | 0x00900020 => n s.brw.committed
    | 0x00900040 => n s.brw.cursor.toNat
    | 0x00A00024 => n s.cfg.src.toNat
    | 0x00C00024 => n (s.wallNow.getD 0)
    | 0x00C00030 => n s.mbx.rec_.toNat
    | 0x02000040 => n s.lex.key.toNat
    | 0x02000100 => n s.lex.histOld
    | 0x02000108 => n s.lex.histNew
    | _ => none

/-- What a read does beside returning the value: a _LO register latches the high half of the same sample (R12), and
FLT_MSG_LO removes the oldest message (R493). -/
def State.readEffect (s : State) (a : Nat) : State :=
  match s.hiHalf a with
  | none => s
  | some w =>
    let s := { s with latches := insertKey s.latches (a + 4) w }
    if a = 0x00200008 then { s with flt := { s.flt with queue := s.flt.queue.drop 1 } } else s

/-- Why an access of `width` bits is refused (R9, R70), as DETAIL of REG_ACCESS (R484): 0 width or alignment, 3 island in
reset, 1 unassigned address; none where it is accepted. -/
def State.accessBad (s : State) (a width : Nat) : Option Nat :=
  if width ≠ 32 ∨ a % 4 ≠ 0 then some 0
  else if !s.regUp a then some 3
  else if (s.readReg a).isNone then some 1
  else none

/-- A read of a register (R9, R12, R582): what it returns, and the state after it. -/
def State.regRead (s : State) (a width : Nat) : Word × State :=
  match s.accessBad a width with
  | some d => (0, s.report 0x200 0x01 a d)
  | none => ((s.readReg a).getD 0, s.readEffect a)

/-- A write to a register that starts nothing. -/
def State.writePlain (s : State) (a : Nat) (v : Word) : State :=
  match tusWindow a with
  | some (t, o) => s.writeTus t o v
  | none =>
    if a < 0x00100000 then s.writeAon a v
    else if a < 0x00200000 then s.writeRst (a - 0x00100000) v
    else if a < 0x00300000 then s.writeFlt (a - 0x00200000) v
    else if a < 0x003C0000 then s
    else if a < 0x00400000 then s.writeVot (a - 0x003C0000) v
    else if a < 0x00500000 then s.writeLeg (a - 0x00400000) v
    else if a < 0x00600000 then s.writeFes (a - 0x00500000) v
    else if a < 0x00700000 then s.writeFrz (a - 0x00600000) v
    else if a < 0x00800000 then s.writeCcd (a - 0x00700000) v
    else if a < 0x00900000 then s.writeHtl (a - 0x00800000) v
    else if a < 0x00A00000 then s.writeBrw (a - 0x00900000) v
    else if a < 0x00B00000 then s.writeCfg (a - 0x00A00000) v
    else if a < 0x00C00000 then s.writeIds (a - 0x00B00000) v
    else if a < 0x01000000 then s.writeMbx (a - 0x00C00000) v
    else if a < 0x01E00000 then s
    else if a < 0x01F00000 then s.writeSwd (a - 0x01E00000) v
    else if a < 0x02000000 then s.writeEmit (a - 0x01F00000) v
    else s.writeLex (a - 0x02000000) v

/-- The operation that a value written to BRW_CMD starts, none where a field is out of range (R516). -/
def brwOpOf (v : Word) : Option (BrwOp × BrwArea) :=
  let area : Option BrwArea := match field v 2 0 with | 3 => some .ring | 4 => some .storeE | 5 => some .storeW | _ => none
  let op : Option BrwOp := match field v 31 28 with | 1 => some .load | 2 => some .next | 3 => some .oldest | 4 => some .newest | _ => none
  match op, area with
  | some o, some a => some (o, a)
  | _, _ => none

/-- An accepted write to a register (R7, R582). A register whose write has a row of its own acts as that row does. -/
def State.regWrite (s : State) (a : Nat) (v : Word) : Host.Outcome State Fault Refusal :=
  match a with
  | 0x00100034 => execMwdogKick s.now v s
  | 0x00200028 => execTrapAck s.now v s
  | 0x00200030 => execFaultClear s.now v s
  | 0x00800020 => execBertStart s.now (.hand v) s
  | 0x00900048 => match brwOpOf v with
    | some (op, area) => .next (s.brwCommand op area)
    | none => .next (s.report 0x200 0x02 0x00900048)
  | 0x00A00020 => match cfgOpOf (field v 31 28) with
    | some op => s.cfgStart op
    | none => .next (s.report 0x200 0x02 0x00A00020)
  | 0x00C00038 => execRecordStageGo s.now v s
  | 0x00C00048 => execFirmwareRunning s.now v s
  | a => .next (s.writePlain a v)

/-- REGISTER_WRITE (R7, R9, R11, R70, R582): a write of `width` bits; an access that R9 does not accept has no effect and is
reported. -/
def execRegisterWrite (t : Time) (addr width : Nat) (value : Word) (s : State) : Host.Outcome State Fault Refusal :=
  let s := s.at_ t
  match s.accessBad addr width with
  | some d => .next (s.report 0x200 0x01 addr d)
  | none => s.regWrite addr value

/-- LO_READ_LATCH (R12): a 32-bit read of a _LO register, as of any register. -/
def execLoReadLatch (t : Time) (addr : Nat) (s : State) : Host.Outcome State Fault Refusal :=
  let r := (s.at_ t).regRead addr 32
  .next { r.2 with busRead := r.1 }

/-- BAD_REGISTER_READ (R9, R70): a read of any width and alignment; one that is not accepted returns 0 and is reported. -/
def execBadRegisterRead (t : Time) (addr width : Nat) (s : State) : Host.Outcome State Fault Refusal :=
  let r := (s.at_ t).regRead addr width
  .next { r.2 with busRead := r.1 }

end Sys2Proof.Machine
end

