-- ==== Sys2Proof/Machine/Transfers.lean ====
section
/-! DEFINITION. Transfers and the firmware path (chapter 19): what lands where, what completes and what fails. -/
namespace Sys2Proof.Machine

/-- Bytes of the largest object a transfer of each kind may carry (R32, R301, R463, R574). -/
def xferMax : Nat → Nat
  | 1 => 0x04000000
  | 2 => 8 * 2 ^ 30
  | _ => 4 * 2 ^ 30 - 4096

/-- Where the staging buffer lies: aligned, and with room for the largest image (R463, R573, log entry 3). -/
def stagingAddr : Nat := Config.stagingBuffer % ((ddrBytes - 0x04000000) / 64) * 64

/-- The firmware slot that does not run (R573). -/
def State.idleSlot (s : State) : Bool := !s.mbx.fwSlot

/-- Bytes written over others at an offset; what lies between reads 0. -/
def overlay (old : List Byte) (off : Nat) (data : List Byte) : List Byte :=
  let old := old ++ List.replicate (off - old.length) 0
  old.take off ++ data ++ old.drop (off + data.length)

/-- A chunk lands (R573). -/
def State.landChunk (s : State) (x : Xfer) (off : Nat) (data : List Byte) : State :=
  let y : Xfer := { x with data := x.data.writeBytes off data, extent := max x.extent (off + data.length) }
  let s := { s with mbx := { s.mbx with xfers := s.mbx.xfers.map (fun z => if z.num == x.num then y else z) } }
  match x.kind with
  | 1 => { s with ddr := s.ddr.writeBytes (stagingAddr + off) data }
  | 3 => s.updFw s.idleSlot (fun f => { f with image := overlay f.image off data })
  | _ => s

/-- The destination of a failed transfer is left EMPTY, or the bundle absent (R573). -/
def State.emptyDest (s : State) (x : Xfer) : State :=
  match x.kind with
  | 1 => { s with ddr := s.ddr.writeBytes stagingAddr (List.replicate x.length 0) }
  | 2 => { s with nv := { s.nv with bundles := s.nv.bundles.filter (fun b => b.1 != x.digest) } }
  | _ => s.updFw s.idleSlot (fun _ => FwSlot.none_)

/-- A transfer that has passed takes effect (R573): CFG_SRC and CFG_LEN, the bundle under its digest, the STAGED slot. -/
def State.keepDest (s : State) (x : Xfer) (bytes : List Byte) : State :=
  match x.kind with
  | 1 => { s with cfg := { s.cfg with src := BitVec.ofNat 64 stagingAddr, len := x.length } }
  | 2 => { s with nv := { s.nv with bundles := (x.digest, bytes) :: s.nv.bundles.filter (fun b => b.1 != x.digest) } }
  | _ =>
    let svn := ((trailer bytes).map (fun y => y.2.1)).getD 0
    s.updFw s.idleSlot (fun f =>
      { f with state := .staged, tries := 0, svn := svn, length := x.length, image := bytes })

/-- XFER_BEGIN (R573): at most one transfer of each kind runs at a time; the reply carries its number. -/
def State.xferBegin (s : State) (h : CmdHdr) (kind length : Nat) (digest : List Byte) : (Nat × List Byte) × State :=
  if kind < 1 ∨ 3 < kind ∨ digest.length ≠ 48 ∨ length < (if kind = 1 then 0x208 else 1) ∨ xferMax kind < length then
    ((rBadOperand, []), s)
  else if s.mbx.xfers.any (fun x => x.kind == kind) then ((rRefused, []), s)
  else
    let num := s.mbx.nextXfer % 2 ^ 32
    let x : Xfer := ⟨num, kind, length, digest, h.mgr, h.epoch, [], 0⟩
    ((rDone, beBytes 4 num), { s with mbx := { s.mbx with xfers := s.mbx.xfers ++ [x], nextXfer := num + 1 } })

/-- XFER_CHUNK (R573): chunks come in any order, and a repeated one overwrites itself. -/
def State.xferChunk (s : State) (num off : Nat) (data : List Byte) : (Nat × List Byte) × State :=
  match s.mbx.xfers.find? (fun x => x.num == num) with
  | none => ((rBadOperand, []), s)
  | some x =>
    if data.isEmpty ∨ 1012 < data.length ∨ x.length < off + data.length then ((rBadOperand, []), s)
    else ((rDone, []), s.landChunk x off data)

/-- XFER_END (R573): the length, the digest, and the trailer of a bundle or of firmware are checked. -/
def State.xferEnd (s : State) (num : Nat) : (Nat × List Byte) × State :=
  match s.mbx.xfers.find? (fun x => x.num == num) with
  | none => ((rBadOperand, []), s)
  | some x =>
    let s := { s with mbx := { s.mbx with xfers := s.mbx.xfers.filter (fun y => y.num != num) } }
    let bytes := x.data.readBytes 0 x.length
    if x.extent ≠ x.length ∨ Config.sha384 bytes ≠ x.digest then ((rFailed, []), s.emptyDest x)
    else if x.kind = 1 then ((rDone, []), s.keepDest x bytes)
    else
      let (ok, s) := s.verifyFile x.kind bytes
      if ok then ((rDone, []), s.keepDest x bytes) else ((rFailed, []), s.emptyDest x)

/-- FW_ACTIVATE (R575): the STAGED slot becomes TRYING with TRIES 0. -/
def State.fwActivate (s : State) : (Nat × List Byte) × State :=
  let staged := fun (k : Bool) => (s.nv.fw k).state == FwState.staged
  if s.nv.tryingSlot.isSome then ((rRefused, []), s)
  else if staged s.idleSlot then
    ((rDone, []), s.updFw s.idleSlot (fun f => { f with state := .trying, tries := 0 }))
  else if staged (!s.idleSlot) then
    ((rDone, []), s.updFw (!s.idleSlot) (fun f => { f with state := .trying, tries := 0 }))
  else ((rRefused, []), s)

/-- An image names a bundle in a program digests entry. -/
def Image.names (im : Image) (digest : List Byte) : Bool :=
  (List.range 8).any (fun k => im.bytes .programsDigest k 48 == digest)

/-- BUNDLE_DELETE (R568): refused while the image in force or a staged image names the bundle. -/
def State.bundleDelete (s : State) (digest : List Byte) : (Nat × List Byte) × State :=
  let named := fun (im : Option Image) => match im with | none => false | some i => Image.names i digest
  if digest.length ≠ 48 then ((rBadOperand, []), s)
  else if named s.cfg.force || named s.cfg.staged then ((rRefused, []), s)
  else ((rDone, []), { s with nv := { s.nv with bundles := s.nv.bundles.filter (fun b => b.1 != digest) } })

end Sys2Proof.Machine
end

