-- ==== Sys2Proof/Machine/Commands.lean ====
section
/-! DEFINITION. The managers' commands (chapter 19): what each does once the fabric executes it. -/
namespace Sys2Proof.Machine

/-- An effect that answers DONE with no payload. -/
def done (f : State → State) (s : State) : (Nat × List Byte) × State := ((rDone, []), f s)

/-- An answer that changes nothing. -/
def only (r : Nat) (s : State) : (Nat × List Byte) × State := ((r, []), s)

/-- A state's epoch bars an earlier one from changing it (R564). -/
def barred (kept : Option Nat) (epoch : Nat) : Bool :=
  match kept with
  | none => false
  | some e => later e epoch

/-! ### Reading -/

/-- `n` registers from an address (R9, R12), big-endian. -/
def State.readRegs (s : State) (a : Nat) : Nat → List Byte × State
  | 0 => ([], s)
  | n + 1 =>
    let (w, s) := s.regRead a 32
    let (bs, s) := s.readRegs (a + 4) n
    (beBytes 4 w.toNat ++ bs, s)

/-- READ_REGISTERS, the command READ (R568). -/
def execReadRegisters (t : Time) (h : CmdHdr) (addr count : Nat) (s : State) : Host.Outcome State Fault Refusal :=
  .next ((s.at_ t).runCommand h 0x01 false (fun s =>
    if count < 1 ∨ 64 < count then only rBadOperand s
    else
      let r := s.readRegs addr count
      ((rDone, r.1), r.2)))

/-- Records of an area from an RNUM, up to `n`, as far as they can be read one after another (R513); with none, the code
of the first. -/
def State.readRecords (s : State) (a : BrwArea) (c : Nat) : Nat → Nat × List Byte
  | 0 => (0, [])
  | n + 1 =>
    let (code, bs) := s.brwLoad a c .ok
    if code ≠ 0 then (code, []) else (0, bs ++ (s.readRecords a (c + 1) n).2)

/-- The bytes of a capture, oldest block first (R512). -/
def State.captureBytes (s : State) (p : Port) : Option (List Byte) :=
  let blocks := match p with | .e => s.nv.lu3.captureE | .w => s.nv.lu3.captureW | _ => none
  blocks.map (fun l => l.reverse.flatten)

/-- A quote (R529): the bytes signed and the signature. -/
def State.quote (s : State) (nonce : List Byte) : List Byte :=
  let msg := ascii "UB3Q" ++ s.serialBytes ++ nonce ++ s.ids.meas.flatten ++ leBytes 4 s.core.pcc ++ leBytes 6 s.opMs
  msg ++ Config.dikSign msg

/-- READ_OBJECT by kind (R568). -/
def State.readObject (s : State) (x : List Byte) : (Nat × List Byte) × State :=
  let arg := x.drop 1
  match ofBe (x.take 1) with
  | 1 =>
    let area : Option BrwArea := match ofBe (arg.take 1) with
      | 2 => some .ring | 3 => some .ring | 4 => some .storeE | 5 => some .storeW | _ => none
    match area with
    | none => only rBadOperand s
    | some a =>
      if arg.length ≠ 11 then only rBadOperand s
      else if !s.brw.anchored then ((rFailed, [5]), s)
      else
        let r := s.readRecords a (ofBe ((arg.drop 1).take 8)) (ofBe (arg.drop 9))
        if r.1 = 0 then ((rDone, r.2), s) else ((rFailed, [BitVec.ofNat 8 r.1]), s)
  | 2 =>
    if arg.length ≠ 13 ∨ 3 < ofBe (arg.take 1) then only rBadOperand s
    else match s.captureBytes (portOf (ofBe (arg.take 1))) with
      | none => only rRefused s
      | some bs =>
        let off := ofBe ((arg.drop 1).take 8)
        let n := ofBe (arg.drop 9)
        if bs.length < off + n then only rBadOperand s else ((rDone, (bs.drop off).take n), s)
  | 3 => if arg.isEmpty then ((rDone, Config.certificates), s) else only rBadOperand s
  | 4 =>
    if arg.length ≠ 32 then only rBadOperand s
    else if !s.idsOk then only rFailed s
    else ((rDone, s.quote arg), s)
  | _ => only rBadOperand s

/-- READ_OBJECT (R568). -/
def execReadObject (t : Time) (h : CmdHdr) (operand : List Byte) (s : State) : Host.Outcome State Fault Refusal :=
  .next ((s.at_ t).runCommand h 0x02 false (fun s => s.readObject operand))

/-! ### Modes, lanes and resets -/

/-- The hold state is set or cleared (R21, R564): a command that would change it is barred by its epoch. -/
def State.setHold (s : State) (want : Bool) (epoch : Nat) : (Nat × List Byte) × State :=
  if s.mbx.held != want && barred s.mbx.holdEpoch epoch then only rStaleEpoch s
  else
    let mbx := if s.mbx.held == want then s.mbx else { s.mbx with held := want, holdEpoch := some epoch }
    let vot := { s.vot with holdCond := want, releaseCond := !want }
    ((rDone, []), { s with mbx := mbx, vot := vot })

/-- HOLD (R20, R21): the hold state is set; the mode follows at the next evaluation. -/
def execHold (t : Time) (h : CmdHdr) (s : State) : Host.Outcome State Fault Refusal :=
  .next ((s.at_ t).runCommand h 0x10 true (fun s => s.setHold true h.epoch))

/-- RELEASE_HOLD (R20, R21). -/
def execReleaseHold (t : Time) (h : CmdHdr) (s : State) : Host.Outcome State Fault Refusal :=
  .next ((s.at_ t).runCommand h 0x11 true (fun s => s.setHold false h.epoch))

/-- STOP_RELEASE (R27): the restart count returns to 0 and the latch clears. -/
def execStopRelease (t : Time) (h : CmdHdr) (s : State) : Host.Outcome State Fault Refusal :=
  .next ((s.at_ t).runCommand h 0x12 true (done (fun s =>
    { s with aon := { s.aon with stopLatched := false, restarts := 0 } })))

/-- A latched lane leaves the latch (R139): the voter's fence source is released. Its fences within the
hour stay counted. Any other lane is left as it is (R147). -/
def State.releaseLane (s : State) (x : Lane) : State :=
  if (s.lane x).vote ≠ .latched then s
  else (s.updLane x (fun l => { l with vote := .reset })).releaseSrc (.fence x)

/-- The lane an operand names. -/
def laneOf : Nat → Option Lane
  | 0 => some .a | 1 => some .b | 2 => some .c | _ => none

/-- LANE_RELEASE (R139, R147). -/
def execLaneRelease (t : Time) (h : CmdHdr) (lane : Nat) (s : State) : Host.Outcome State Fault Refusal :=
  .next ((s.at_ t).runCommand h 0x13 true (fun s => match laneOf lane with
    | none => only rBadOperand s
    | some x => done (fun s => s.releaseLane x) s))

/-- RESET (R466): REMOTE at the level named, or at its fused level for a full reset, once the reply is sent. -/
def execReset (t : Time) (h : CmdHdr) (level : Nat) (s : State) : Host.Outcome State Fault Refusal :=
  .next ((s.at_ t).runCommand h 0x14 true
    (fun s => if level = 0 ∨ level = 2 ∨ level = 3 then only rDone s else only rBadOperand s)
    (fun s => s.assertReset .remote (if level = 0 then s.fused .remote else level)))

/-! ### The row, faults and time -/

/-- A rack cap (R395, R564): W of 0 means 20 ms; a conductor that the mask does not name ignores the command. -/
def State.rackCapCmd (s : State) (epoch kw window mask capId : Nat) : (Nat × List Byte) × State :=
  let w := if window = 0 then 20 else window
  if barred s.mbx.capEpoch epoch then only rStaleEpoch s
  else if 1000 < w then only rBadOperand s
  else if !mask.testBit s.member then only rDone s
  else done (fun s => { s with mbx := { s.mbx with capEpoch := some epoch }
                               ccd := { s.ccd with capPend := some ⟨kw, w, BitVec.ofNat 64 mask, capId⟩ } }) s

/-- RACK_CAP (R395). -/
def execRackCap (t : Time) (h : CmdHdr) (kw window mask capId : Nat) (s : State) : Host.Outcome State Fault Refusal :=
  .next ((s.at_ t).runCommand h 0x20 true (fun s => s.rackCapCmd h.epoch kw window mask capId))

/-- CLEAR_FAULT (R491). -/
def execClearFault (t : Time) (h : CmdHdr) (all : Bool) (source : Nat) (s : State) : Host.Outcome State Fault Refusal :=
  .next ((s.at_ t).runCommand h 0x21 true (fun s =>
    if !all && (s.flt.src source).isNone then only rBadOperand s
    else done (fun s => { s with flt := s.flt.clearPend all source }) s))

/-- Wall time is set (R501, R502): a jump of more than 100 ms, or a first setting, is recorded. -/
def State.setWall (s : State) (wall : Nat) : State :=
  let old := s.wallNow
  let s := { s with brw := { s.brw with wall := some (wall, s.now) } }
  let jump := match old with
    | none => true
    | some o => decide (o + 100 * ms < wall) || decide (wall + 100 * ms < o)
  if jump then s.stage 0x05 0 (leBytes 8 (old.getD 0) ++ leBytes 8 wall) else s

/-- SET_TIME (R502). -/
def execSetTime (t : Time) (h : CmdHdr) (wall : Nat) (s : State) : Host.Outcome State Fault Refusal :=
  .next ((s.at_ t).runCommand h 0x22 true (done (fun s => s.setWall (wall % 2 ^ 64))))

/-- EXPEL (R349): the speaker ends a partner's enrolment with REASON 0. -/
def execExpel (t : Time) (h : CmdHdr) (partner : Nat) (s : State) : Host.Outcome State Fault Refusal :=
  .next ((s.at_ t).runCommand h 0x23 true (fun s =>
    if partner < 1 ∨ 254 < partner then only rBadOperand s
    else if !s.frz.speaking then only rRefused s
    else done (fun s => s.expelPart partner 0) s))

/-- BERT_INSTALL (R434): the head owes an installation test. -/
def execBertInstall (t : Time) (h : CmdHdr) (s : State) : Host.Outcome State Fault Refusal :=
  .next ((s.at_ t).runCommand h 0x24 true (fun s =>
    if !s.htlUp ∨ s.htl.head ≠ some s.member then only rRefused s
    else done (fun s => { s with htl := { s.htl with bertOwed := true } }) s))

/-- A Barrow clear passes to Idsol as object 7, then to the recorder, which accepts none before restoration (R514, R525). -/
def State.clearCmd (s : State) (h : CmdHdr) (targets : Nat) (digest : List Byte) : (Nat × List Byte) × State :=
  if targets = 0 ∨ 16 ≤ targets then only rBadOperand s
  else if !s.idsOk ∨ !s.ids.storeOk then ((rFailed, [6]), s.verifyFail 7 6)
  else if !s.brw.anchored then only rRefused s.verifyOk
  else done (fun s => s.barrowClear targets h.epoch digest) s.verifyOk

/-- BARROW_CLEAR (R514). -/
def execBarrowClear (t : Time) (h : CmdHdr) (targets : Nat) (digest : List Byte) (s : State) :
    Host.Outcome State Fault Refusal :=
  .next ((s.at_ t).runCommand h 0x25 true (fun s => s.clearCmd h targets digest))

/-- TRUST (R522): judged by its own signature. -/
def execTrust (t : Time) (h : CmdHdr) (bytes voucher : List Byte) (s : State) : Host.Outcome State Fault Refusal :=
  .next ((s.at_ t).runCommand h 0x26 false (fun s => match s.trustCommand bytes voucher with
    | (none, s) => only rDone s
    | (some d, s) => ((rFailed, [BitVec.ofNat 8 d]), s)))

/-! ### Configuration, firmware and transfers -/

/-- CFG_OP (R454 to R458, R568): the loader answers when the operation ends; a WRITE whose staging buffer lies beyond the
memory stops the model. -/
def execCfgOp (t : Time) (h : CmdHdr) (op : Nat) (s : State) : Host.Outcome State Fault Refusal :=
  let (go, s) := (s.at_ t).takeCommand h 0x30 true
  if !go then .next s else
  match cfgOpOf op with
  | none => .next (s.complete h 0x30 rBadOperand [])
  | some op =>
    if op = .write ∧ s.cfg.op.isNone ∧ s.stagingBeyond then .fault (.noMemory s.cfg.src.toNat)
    else .next (s.cfgCommand op (some h))

/-- FW_ACTIVATE (R575). -/
def execFwActivate (t : Time) (h : CmdHdr) (s : State) : Host.Outcome State Fault Refusal :=
  .next ((s.at_ t).runCommand h 0x31 true (fun s => s.fwActivate))

/-- BUNDLE_DELETE (R568). -/
def execBundleDelete (t : Time) (h : CmdHdr) (digest : List Byte) (s : State) : Host.Outcome State Fault Refusal :=
  .next ((s.at_ t).runCommand h 0x32 true (fun s => s.bundleDelete digest))

/-- XFER_BEGIN (R573). -/
def execXferBegin (t : Time) (h : CmdHdr) (kind length : Nat) (digest : List Byte) (s : State) :
    Host.Outcome State Fault Refusal :=
  .next ((s.at_ t).runCommand h 0x40 true (fun s => s.xferBegin h kind length digest))

/-- XFER_CHUNK (R573). -/
def execXferChunk (t : Time) (h : CmdHdr) (num offset : Nat) (data : List Byte) (s : State) :
    Host.Outcome State Fault Refusal :=
  .next ((s.at_ t).runCommand h 0x41 false (fun s => s.xferChunk num offset data))

/-- XFER_END (R573). -/
def execXferEnd (t : Time) (h : CmdHdr) (num : Nat) (s : State) : Host.Outcome State Fault Refusal :=
  .next ((s.at_ t).runCommand h 0x42 true (fun s => s.xferEnd num))

/-! ### Mailboxes -/

/-- The codes of R568, and whether each must be signed. -/
def signedCode : Nat → Option Bool
  | 0x01 | 0x02 | 0x26 | 0x41 => some false
  | 0x10 | 0x11 | 0x12 | 0x13 | 0x14 | 0x20 | 0x21 | 0x22 | 0x23 | 0x24 | 0x25 | 0x30 | 0x31 | 0x32 | 0x40 | 0x42 => some true
  | _ => none

/-- A posted command's operand that spells no operand of its code. -/
def State.badOperand (s : State) (h : CmdHdr) (code : Nat) : Host.Outcome State Fault Refusal :=
  .next (s.runCommand h code ((signedCode code).getD false) (only rBadOperand))

/-- A posted command is executed (R565, R568): its operand read big-endian, its effect that of its row. -/
def State.runPosted (s : State) (h : CmdHdr) (code : Nat) (x : List Byte) : Host.Outcome State Fault Refusal :=
  let n := x.length
  let be := fun (i k : Nat) => ofBe ((x.drop i).take k)
  let bad := s.badOperand h code
  match code with
  | 0x01 => if n = 5 then execReadRegisters s.now h (be 0 4) (be 4 1) s else bad
  | 0x02 => execReadObject s.now h x s
  | 0x10 => if n = 0 then execHold s.now h s else bad
  | 0x11 => if n = 0 then execReleaseHold s.now h s else bad
  | 0x12 => if n = 0 then execStopRelease s.now h s else bad
  | 0x13 => if n = 1 then execLaneRelease s.now h (be 0 1) s else bad
  | 0x14 => if n = 1 then execReset s.now h (be 0 1) s else bad
  | 0x20 => if n = 16 then execRackCap s.now h (be 0 2) (be 2 2) (be 4 8) (be 12 4) s else bad
  | 0x21 => if n = 3 then execClearFault s.now h (be 0 1 != 0) (be 1 2) s else bad
  | 0x22 => if n = 8 then execSetTime s.now h (be 0 8) s else bad
  | 0x23 => if n = 1 then execExpel s.now h (be 0 1) s else bad
  | 0x24 => if n = 0 then execBertInstall s.now h s else bad
  | 0x25 => if n = 1 then execBarrowClear s.now h (be 0 1) (Config.sha384 x) s else bad
  | 0x26 =>
    let len := 164 + leAt x 18 2
    execTrust s.now h (x.take len) (x.drop len) s
  | 0x30 => if n = 1 then execCfgOp s.now h (be 0 1) s else bad
  | 0x31 => if n = 0 then execFwActivate s.now h s else bad
  | 0x32 => execBundleDelete s.now h x s
  | 0x40 => if n = 57 then execXferBegin s.now h (be 0 1) (be 1 8) (x.drop 9) s else bad
  | 0x41 => if 12 ≤ n then execXferChunk s.now h (be 0 4) (be 4 8) (x.drop 12) s else bad
  | 0x42 => if n = 4 then execXferEnd s.now h (be 0 4) s else bad
  | _ => .next (s.runCommand h code false (only rUnknown))

/-- A command that is refused as it arrives (R562, R563, R565, R568). -/
def State.turnAway (s : State) (h : CmdHdr) (code result : Nat) : State :=
  (s.countCmd h code result).sendReply h code result []

/-- A command message is judged and posted (R560 to R567). `relay` is the member that relayed it. A conductor that has
received a command for another member, or for all, over its own session relays it at once. -/
def State.postCommand (s : State) (m : CmdMsg) (relay : Option Nat) : State :=
  let g := m.hdr.mgr
  let h : CmdHdr := ⟨g, m.hdr.epoch, m.hdr.seq, relay.isSome, relay.getD 0, m.signed⟩
  if !s.mbx.ready then s.turnAway h m.code rNotReady
  else
    let (ok, s) := s.takeEpoch g m.hdr.epoch
    if !ok then s.turnAway h m.code rStaleEpoch
    else
      let named := m.target == s.member || (m.target == 0xFF && m.mask.testBit s.member)
      let wire := upd m.message 2 (fun b => b ||| 2) ++ (if m.signed then m.signer ++ m.signature else [])
      let s := if relay.isNone && m.target != s.member then s.htlSend 1 1 m.target (0x05 :: wire) else s
      if !named then s.heard
      else if m.hdr.receiver = 0 ∨ m.hdr.receiver ≠ s.mbx.epoch then (s.turnAway h m.code rWrongEpoch).sendEpoch g m.hdr.seq
      else
        let s := s.heard
        let need := (signedCode m.code).getD false
        let (good, s) :=
          if m.signed then s.verify 5 m.signer m.message m.signature none else (!need, s)
        if !good then s.turnAway h m.code rBadSignature
        else if 64 ≤ s.mbx.pendingOf g then s.turnAway h m.code rBusy
        else
          let p : Posted := ⟨g, m.hdr.epoch, m.hdr.seq, m.code, relay.isSome, relay.getD 0, m.signed, m.operand⟩
          { s with mbx := { s.mbx with box := s.mbx.box ++ [p] } }

/-- A message of this header and length is taken (R560): VERSION 1, in one datagram. -/
def msgFits (m : CmdMsg) : Bool :=
  m.hdr.version == 1 && decide (m.hdr.length ≤ 1024) && decide (32 + m.hdr.length + (if m.signed then 144 else 0) ≤ 1232)

/-- COMMAND_EXECUTION (R563 to R568): a command arrives over a session of the running firmware, or the fabric executes
the command posted first. -/
def execCommandExecution (t : Time) (x : CmdStep) (s : State) : Host.Outcome State Fault Refusal :=
  let s := s.at_ t
  match x with
  | .arrive m =>
    if s.inRst .mgmt ∨ s.inRst .fabric ∨ !s.mbx.fwRunning ∨ !m.hdr.session ∨ !msgFits m then .next s
    else .next (s.postCommand m none)
  | .execute =>
    if s.inRst .fabric then .next s else
    match s.mbx.box with
    | [] => .next s
    | p :: rest =>
      let s := { s with mbx := { s.mbx with box := rest } }
      s.runPosted ⟨p.mgr, p.epoch, p.seq, p.relayed, p.relay, p.signed⟩ p.code p.payload

/-- COMMAND_RECORD (R419, R567): a relayed command is posted by the fabric itself; a reply on its way back is sent on over
the session. Until bring-up ends it waits in the delivery queue (R435). -/
def execCommandRecord (t : Time) (x : RelayRec) (s : State) : Host.Outcome State Fault Refusal :=
  let s := s.at_ t
  if s.inRst .fabric ∨ s.inRst .htlFrz ∨ s.core.bringup then .next s else
  let s := s.takeInbox 0x05
  match x with
  | .command m relay =>
    if !msgFits m ∨ !(m.target = s.member ∨ (m.target = 0xFF ∧ m.mask.testBit s.member)) then .next s
    else .next (s.postCommand m (some relay))
  | .reply mgr code ref result payload => .next (s.sendMsg .reply mgr code ref result payload)

/-! ### Telemetry -/

/-- The words of a STATUS item (R570). -/
def State.statusWords (s : State) : List Word :=
  let r := fun (a : Nat) => (s.readReg a).getD 0
  let plan := match s.voting with | x :: _ => (s.readLane x 0x200).getD 0 | [] => r 0x00300200
  [BitVec.ofNat 32 (s.opMs / 1000), s.aonMode, s.fesStatus, s.fesRef, r 0x00500008, r 0x0050000C, r 0x00500014,
   s.legLimit, r 0x00400000, plan, s.votStatus, r 0x00700000, r 0x0070000C, s.aonCool, s.aonTherm, r 0x00200000, s.mbxStatus]

/-- TELEMETRY_STATUS (R570): every 100 ms a STATUS item goes to the head. -/
def execTelemetryStatus (t : Time) (s : State) : Host.Outcome State Fault Refusal :=
  let s := s.at_ t
  if s.inRst .fabric ∨ s.core.bringup then .next s
  else .next (s.item tStatus (s.statusWords.flatMap (fun (w : Word) => beBytes 4 w.toNat)))

end Sys2Proof.Machine
end

