-- ==== Sys2Proof/Machine/Legs.lean ====
section
/-! DEFINITION. The commands of the legs (chapter 4): trips, on-times, hiccups, boards, and the pre-start test. -/
namespace Sys2Proof.Machine

/-- Both outputs of a leg would be voted high: both are held low (R125). -/
def State.pairBlock (s : State) (k : Nat) : State :=
  let s := s.updLeg k (fun l => { s.legNow l with drive := .off, lowSince := s.now })
  ({ s with vot := { s.vot with event := setBit s.vot.event 10 } }).report 0x400 0x23 k

/-- BUS_TRIP (R89): bus comparators are captured asserted. `pair` is a leg both of whose outputs the lanes' inputs
would then vote high (R125). -/
def execBusTrip (t : Time) (lower upper : Bool) (pair : Option Nat) (s : State) : Host.Outcome State Fault Refusal :=
  let s := (s.at_ t).trips lower upper
  match pair with
  | none => .next s
  | some k => .next (if k < 32 then s.pairBlock k else s)

/-- TRIP_WAIT (R97): a leg is ready for the trip that waits. -/
def execTripWait (t : Time) (s : State) : Host.Outcome State Fault Refusal :=
  let s := s.at_ t
  match s.pool.waiting with
  | none => .next s
  | some d => .next (if (s.readyLeg .s).isSome then s.trip d else s)

/-- BLANK_EXPIRY (R89): a blanking ends; a comparator still asserted fires the next pulse. -/
def execBlankExpiry (t : Time) (lower upper : Bool) (s : State) : Host.Outcome State Fault Refusal :=
  let s := s.at_ t
  let due : Option Time → Bool := fun b => match b with | none => false | some e => decide (e ≤ s.now)
  if !due s.pool.blankLower && !due s.pool.blankUpper then .next s
  else
    let clear := fun (b : Option Time) => if due b = true then (none : Option Time) else b
    .next ({ s with pool := { s.pool with blankLower := clear s.pool.blankLower
                                          blankUpper := clear s.pool.blankUpper } }.trips lower upper)

/-- ON_TIME_EXPIRY (R91, R113): the counted on-time ends; a BLIND leg's ends early, as a limited cycle, when its
estimate reaches 0.7 of `legs.i_peak`. -/
def execOnTimeExpiry (t : Time) (k : Nat) (x : PulseIn) (s : State) : Host.Outcome State Fault Refusal :=
  let s := s.at_ t
  let l := s.leg k
  match l.drive with
  | .on d start len =>
    if s.elapsed start len then .next (s.endOnTime k d false x)
    else if l.state = LegState.blind ∧ (7 / 20 : Rat) * s.lfld .legsIPeak ≤ |(s.legNow l).est| then
      .next (s.endOnTime k d true x)
    else .next s
  | _ => .next s

/-- PEAK_LIMIT_TRIP (R94): the peak-limit comparator is captured asserted in an on-time, which ends; it is a limited
cycle when captured before the cycle of the counted end. A BLIND leg's comparator is ignored (R113). -/
def execPeakLimitTrip (t : Time) (k : Nat) (x : PulseIn) (s : State) : Host.Outcome State Fault Refusal :=
  let s := s.at_ t
  let l := s.leg k
  match l.drive with
  | .on d start len =>
    if l.state = LegState.blind then .next s
    else .next (s.endOnTime k d (!s.elapsed start len) x)
  | _ => .next s

/-- HICCUP_TIME_EXPIRY (R108): the hiccup time ends; the leg returns at the next boundary. -/
def execHiccupTimeExpiry (t : Time) (k : Nat) (s : State) : Host.Outcome State Fault Refusal :=
  let s := s.at_ t
  let l := s.leg k
  if l.state = LegState.hiccup ∧ l.hiccupEnd ≤ s.now then .next (s.updLeg k (fun l => { l with hiccupOver := true }))
  else .next s

/-- ZERO_CROSS (R91, R113): the current of a freewheeling leg has reached zero; of a BLIND leg, its estimate. -/
def execZeroCross (t : Time) (k : Nat) (s : State) : Host.Outcome State Fault Refusal :=
  let s := s.at_ t
  let l := s.legNow (s.leg k)
  match l.drive with
  | .freewheel d _ =>
    let zero := match d with | .supply => decide (l.est ≤ 0) | .absorb => decide (0 ≤ l.est)
    if l.state = LegState.blind ∧ !zero then .next s
    else .next (s.updLeg k (fun _ =>
      { l.endFreewheel s.now with est := if l.state = LegState.blind then 0 else l.est }))
  | _ => .next s

/-- IDLE_CHECK (R110): a leg has had both switches off and its estimate at 0 for 2 µs. -/
def execIdleCheck (t : Time) (k : Nat) (mean : Rat) (s : State) : Host.Outcome State Fault Refusal :=
  let s := s.at_ t
  let l := s.leg k
  if l.drive = Drive.off ∧ (s.legNow l).est = 0 ∧ s.elapsed l.lowSince 2000 then
    .next (s.updLeg k (fun l => { l with idleOk := decide (|mean| ≤ (s.lfld .legsSenseTolAbs : Rat) / 10) }))
  else .next s

/-- Legs of a board (R79). -/
def boardLegs (j : Nat) : List Nat := (List.range 4).map (4 * j + ·)

/-- The next READY spare is rechecked in place of one that failed, or the departure is lost (R107, R116, R118). -/
def State.nextRecheck (s : State) (d : Departure) : State :=
  match s.spares.head? with
  | some k => { s with pool := { s.pool with recheck := some (k, d, 0), recheckStart := s.now } }
  | none => ({ s with pool := { s.pool with recheck := none } }).legLoss d.leg d.group

/-- BOARD_REMOVED (R79): a board's presence input goes high: its legs are ABSENT, and those in service have left for
good. -/
def execBoardRemoved (t : Time) (j : Nat) (s : State) : Host.Outcome State Fault Refusal :=
  let s := s.at_ t
  if 8 ≤ j then .next s else
  let s := { s with pin := { s.pin with boardAbsent := setBit s.pin.boardAbsent j } }
  .next ((boardLegs j).foldl (fun (s : State) k =>
    let was := s.pool.recheck
    let s := (s.departs k .absent).updLeg k (fun l => { l with fills := none, group := l.home })
    match was with
    | some (x, d, _) => if x = k then s.nextRecheck d else s
    | none => s) s)

/-- BOARD_REFITTED (R79, R101): each configured leg of the board becomes UNTESTED, its trim, counts and record
cleared, in its home group, or in X while a spare holds its place. -/
def execBoardRefitted (t : Time) (j : Nat) (s : State) : Host.Outcome State Fault Refusal :=
  let s := s.at_ t
  if 8 ≤ j then .next s else
  let s := { s with pin := { s.pin with boardAbsent := clrBit s.pin.boardAbsent j } }
  .next ((boardLegs j).foldl (fun (s : State) k =>
    if !(s.lfldN .legsActive).testBit k ∨ (s.leg k).state ≠ LegState.absent then s else
    let held := s.holder k ≠ k
    s.legState k .untested (fun l =>
      { Leg.reset with state := .untested, home := l.home, group := if held then .x else l.home
                       lowSince := s.now, estAt := s.now, lastOnEnd := l.lastOnEnd })) s)

/-- TEST_ATTEMPT_START (R102, R103, R106, R170): no string is in PRECHARGE; whether V_bus has stood far enough above VSTO_S, and above VSTO_B, for 1 ms.
The legs whose condition holds enter the attempt; with none, the test waits, and legs left undecided by the end of
the condition are untested again. -/
def execTestAttemptStart (t : Time) (windowS windowB : Bool) (s : State) : Host.Outcome State Fault Refusal :=
  let s := s.at_ t
  let precharge := s.fes.strs.any (fun (y : Str) => y.state == 2)
  if !s.pool.testing ∨ s.pool.running ∨ s.fes.settleOwed ∨ precharge then .next s else
  let under := fun (l : Leg) => (l.state == .untested || (l.state == .testing && !l.row5))
    && (match l.group with | .b => windowB | _ => windowS)
  let undecided := s.pool.legs.any (fun (l : Leg) => l.state == .testing && !l.row5)
  if s.pool.legs.any under then
    let attempt := if undecided then s.pool.attempt else 0
    let s := (List.range 32).foldl (fun (s : State) k =>
      if under (s.leg k) then s.legState k .testing else s) s
    .next { s with pool := { s.pool with running := true, windowWait := false, attempt := attempt, attemptStart := s.now } }
  else if undecided then .next { s.completeGroups with pool := { s.completeGroups.pool with windowWait := true } }
  else .next { s with pool := { s.pool with windowWait := true } }

/-- Length of a test attempt: 2.248 ms (R103). -/
def attemptNs : Nat := 2248000

/-- TEST_JUDGEMENT (R103 to R106): the end of an attempt. -/
def execTestJudgement (t : Time) (x : TestIn) (s : State) : Host.Outcome State Fault Refusal :=
  let s := s.at_ t
  if !s.pool.running ∨ !s.elapsed s.pool.attemptStart attemptNs then .next s else
  let s := (List.range 32).foldl (fun (s : State) k => s.judgeLeg x (decide (2 ≤ s.pool.attempt)) k) s
  let s := { s with pool := { s.pool with running := false } }
  if s.pool.legs.any (fun (l : Leg) => l.state == .testing && !l.row5) then
    .next { s with pool := { s.pool with attempt := s.pool.attempt + 1 } }
  else .next s.completeGroups

/-- SPARE_RECHECK_JUDGEMENT (R107): after 64 µs of samples the spare joins, fails, or is repeated. -/
def execSpareRecheckJudgement (t : Time) (x : TestIn) (s : State) : Host.Outcome State Fault Refusal :=
  let s := s.at_ t
  match s.pool.recheck with
  | none => .next s
  | some (k, d, n) =>
    if !s.elapsed s.pool.recheckStart (64 * us) then .next s else
    let none_ := { s with pool := { s.pool with recheck := none } }
    match s.judgeRow x k (s.leg k) with
    | 4 => .next { none_ with pool := { none_.pool with joinOwed := some (k, d) } }
    | 5 => .next (((none_.legState k .failedSense).legEvent 4).nextRecheck d)
    | 6 =>
      if n < 2 then .next { s with pool := { s.pool with recheck := some (k, d, n + 1), recheckStart := s.now } }
      else .next ((none_.condemn k .condemnedNode x).nextRecheck d)
    | 3 => .next ((none_.condemn k .condemnedLs x).nextRecheck d)
    | _ => .next ((none_.condemn k .condemnedHs x).nextRecheck d)

end Sys2Proof.Machine
end

