-- ==== Sys2Proof/Machine/Sward.lean ====
section
/-! DEFINITION. The commands of the sward die (chapters 9 and 10): granted steps, the governor, clock failures, register
writes, the program loader, GO, and the periphery services. -/
namespace Sys2Proof.Machine

/-! ### Clocks and power -/

/-- DVFS_GRANT (R290, R291): a change of granted step begins. -/
def execDvfsGrant (t : Time) (tus : Nat) (s : State) : Host.Outcome State Fault Refusal :=
  let s := s.at_ t
  .next (if 640 ≤ tus then s else s.beginStep tus)

/-- DVFS_SUPPLY_ARRIVAL (R291): the supply of a faster step has arrived, and the clock stops for it. -/
def execDvfsSupplyArrival (t : Time) (tus : Nat) (s : State) : Host.Outcome State Fault Refusal :=
  let s := s.at_ t
  match (s.tus tus).change with
  | none => .next s
  | some c =>
    if !c.faster ∨ c.stopped then .next s
    else .next (s.updTus tus (fun k => { k.sync s.now with st := .clockStop, change := some { c with stopped := true, since := s.now } }))

/-- DVFS_CLOCK_RESTART (R291): the clock restarts at the new divider; a grant that came during the change follows. -/
def execDvfsClockRestart (t : Time) (tus : Nat) (s : State) : Host.Outcome State Fault Refusal :=
  let s := s.at_ t
  match (s.tus tus).change with
  | none => .next s
  | some c =>
    if !c.stopped then .next s
    else .next ((s.updTus tus (fun k => { k.sync s.now with st := c.back, clock := c.step, change := none })).beginStep tus)

/-- GOVERNOR_MEASURE (R292): every 10 µs, with the power of the die in 0.1 W. -/
def execGovernorMeasure (t : Time) (power : Rat) (s : State) : Host.Outcome State Fault Refusal :=
  let s := s.at_ t
  if s.inRst .planning ∨ !s.swd.powered then .next s else
  let d := { s.swd with power := (power :: s.swd.power).take 100 }
  let limit : Rat := 10 * s.fld .swardPowerLimit
  let mean : Rat := d.meanPower
  let d : Swd := { d with govLow := if mean < 9 * limit / 10 then (match d.govLow with | none => some s.now | some x => some x) else none }
  if decide (limit < mean) && decide (d.gov < 4) && decide (d.govRaised + ms ≤ s.now) then
    .next { s with swd := { d with gov := d.gov + 1, govEvents := d.govEvents + 1, govRaised := s.now } }
  else
    match d.govLow with
    | none => .next { s with swd := d }
    | some x =>
      if 0 < d.gov ∧ x + 10 * ms ≤ s.now then .next { s with swd := { d with gov := d.gov - 1, govLow := some s.now } }
      else .next { s with swd := d }

/-- TUSSOCK_CLOCK_FAIL (R293): DETAIL 0 frequency, 1 no edge, 2 lock lost. -/
def execTussockClockFail (t : Time) (tus detail : Nat) (s : State) : Host.Outcome State Fault Refusal :=
  let s := s.at_ t
  let k := s.tus tus
  if 640 ≤ tus ∨ !s.swd.powered ∨ k.st = TState.failed ∨ (k.st = TState.gated ∧ detail = 1) then .next s
  else .next (s.tusFail tus detail)

/-- TUSSOCK_PLL_LOCK (R293, R294): the tussock is IDLE, or FAILED when its clock fails its test. -/
def execTussockPllLock (t : Time) (tus : Nat) (clockOk : Bool) (s : State) : Host.Outcome State Fault Refusal :=
  let s := s.at_ t
  if 640 ≤ tus ∨ !s.swd.powered ∨ (s.tus tus).st ≠ TState.reset then .next s else
  let s := { s with swd := { s.swd with lock := if s.swd.lock.contains tus then s.swd.lock else s.swd.lock ++ [tus] } }
  let s := if clockOk then s.updTus tus (fun k => { k with st := .idle, cyclesAt := s.now }) else s.tusFail tus 0
  .next { s with swd := { s.swd with
    meshUp := s.swd.meshUp || s.swd.tus.all (fun k => k.st != TState.reset && k.st != TState.off) } }

/-! ### Register writes with a row of their own -/

/-- SEED_WRITE (R273, R297): a write of SWD_T_SEED_LO, or of SWD_T_SEED_HI. -/
def execSeedWrite (t : Time) (tus : Nat) (hi : Bool) (value : Word) (s : State) : Host.Outcome State Fault Refusal :=
  let s := s.at_ t
  let o := if hi then 8 else 4
  if 640 ≤ tus ∨ !s.tusAnswers tus then .next (s.report 0x200 0x01 (0x01000000 + tus * 0x4000 + o) 3)
  else .next (s.writeTus tus o value)

/-- The periphery's registers answer (R298, R323). -/
def State.swdAnswers (s : State) : Bool := !s.inRst .planning && !s.swd.shed

/-- CEIL_WRITE (R290, R298): a write of SWD_DVFS. -/
def execCeilWrite (t : Time) (value : Word) (s : State) : Host.Outcome State Fault Refusal :=
  let s := s.at_ t
  .next (if s.swdAnswers then s.writeCeil value else s.report 0x200 0x01 0x01E00004 3)

/-! ### The loader (R300 to R302, R311, R314 to R316) -/

/-- The access a region admits for a role (R311): none, read, read and write. -/
def regionAccess (role region : Nat) : Option Bool :=
  match region with
  | 0 => some true
  | 1 => some false
  | 2 => some true
  | 3 => if role = 1 then some true else none
  | 4 => some true
  | _ => none

/-- The services an entry `k` of a role may be granted (R307). -/
def grantsOf (role k : Nat) : BitVec 32 :=
  let own := setBit (0 : BitVec 32) (16 + k)
  own ||| (match role with
    | 1 => 0xFF#32
    | 2 => 0x12C#32
    | 3 => 0x22C#32
    | _ => 0x32C#32)

/-- An image of a tussock is allowed (R301, R305, R306, R316). -/
def tusImageOk (b : BundleTus) (role k : Nat) : Bool :=
  decide (b.tus < 640) && b.grants &&& ~~~grantsOf role k == 0 && decide (b.shares.length ≤ 4)
  && b.shares.all (fun x => decide (0xE00 ≤ x.1) && decide (x.1 ≤ 0xEFF))
  && b.binds.all (fun x => decide (x.1 < 16) && decide (x.2 < 0x1000))
  && b.image.all (fun x => decide (x.1 < sramBytes) && !cacheBank (b.tus / 32) x.1)

/-- Check 5 of R316. -/
def manifestOk (b : Bundle) (role k : Nat) : Bool :=
  b.role == role && decide (1 ≤ b.variants.length) && decide (b.variants.length ≤ 16)
  && b.variants.all (fun v => v.placed.all (fun x => tusImageOk x role k) && v.routes.all (fun x => decide (x < 640))
      && v.landings.all (fun l => grantsOf role k |>.getLsbD l.service))
  && b.areas.all (fun a => a.imported || (match regionAccess role a.region with
      | none => false
      | some w => w || !a.write))

/-- An entry that has been loaded so far. -/
structure Loaded where
  k : Nat
  bundle : Bundle
  variant : Nat
  v : BundleVariant

/-- The lowest eligible variant (R302). -/
def State.pickVariant (s : State) (done : List Loaded) (b : Bundle) : Option (Nat × BundleVariant) :=
  let taken := done.flatMap (fun l => l.v.placed.map BundleTus.tus)
  ((List.range b.variants.length).zip b.variants).find? (fun p =>
    (p.2.placed.map BundleTus.tus ++ p.2.routes).all (fun t => !s.swd.failed (t / 32) (t % 32))
    && p.2.placed.all (fun x => !taken.contains x.tus))

/-- The lowest place for `n` bytes in a region beside the areas allocated, 64-byte aligned: the start of the region or the end of
one of them. -/
def placeArea (as : List Area) (region n : Nat) : Option Nat :=
  let (base, size) := regionOf region
  let here := as.filter (fun a => a.region == region)
  let cand := base :: here.map (fun a => (a.base + a.size + 63) / 64 * 64)
  let ok := cand.filter (fun c => decide (c + n ≤ base + size)
    && here.all (fun a => decide (c + n ≤ a.base) || decide (a.base + a.size ≤ c)))
  match ok with
  | [] => none
  | c :: l => some (l.foldl min c)

/-- The areas of a bundle beside those allocated (R311, R316): the lexicon and the history are whole regions that every
entry reads. -/
def allocAreas (k role : Nat) : List BundleArea → List Area → Option (List Area)
  | [], as => some as
  | a :: l, as =>
    if a.imported then allocAreas k role l as else
    let base := if a.region ≤ 1 then (if a.size ≤ (regionOf a.region).2 then some (regionOf a.region).1 else none)
      else placeArea as a.region a.size
    match base with
    | none => none
    | some p => allocAreas k role l (as ++ [⟨k, role, a.name, a.region, p, a.size, a.write, a.keep, a.format, a.exported⟩])

/-- Fields of an entry of the image. -/
def State.entryDigest (s : State) (k : Nat) : List Byte := (s.cfg.prog.getD Image.blank).bytes .programsDigest k 48

/-- One entry through the checks of R316: its result, and what it loads. -/
def State.checkEntry (s : State) (k : Nat) (done : List Loaded) (as : List Area) :
    Nat × Option (Loaded × List Area) × State :=
  let role := s.fldN .programsRole k
  let digest := s.entryDigest k
  if role = 0 then (0, none, s)
  else if role ≠ 4 ∧ done.any (fun l => l.bundle.role == role) then (8, none, s)
  else match s.nv.bundles.lookup digest with
  | none => (2, none, s)
  | some file =>
    if Config.sha384 file ≠ digest then (3, none, s) else
    let (sig, s) := s.verifyFile 2 file
    if !sig then (4, none, s) else
    match Config.readBundle file with
    | none => (5, none, s)
    | some b =>
      if !manifestOk b role k then (5, none, s) else
      match s.pickVariant done b with
      | none => (6, none, s)
      | some (n, v) =>
        match allocAreas k role b.areas as with
        | none => (7, none, s)
        | some as => (1, some (⟨k, b, n, v⟩, as), s)

/-- A refused entry is recorded and reported (R316). -/
def State.refuseEntry (s : State) (k result : Nat) : State :=
  let s := (s.stage 0x21 0 ([BitVec.ofNat 8 k, BitVec.ofNat 8 result, BitVec.ofNat 8 (s.fldN .programsRole k), 0]
    ++ s.entryDigest k)).report 0xE02 0x42 k result
  if s.fldN .programsRequired k = 1 then { s with swd := { s.swd with requiredFail := true } } else s

/-- Every entry, in ascending order (R300, R316). -/
def State.checkEntries (s : State) : List Nat → List Loaded → List Area → List Loaded × List Area × State
  | [], done, as => (done, as, s)
  | k :: l, done, as =>
    let (r, got, s) := s.checkEntry k done as
    let role := s.fldN .programsRole k
    let entry : Entry := match got with
      | some (x, _) => ⟨r, role, x.variant, x.v.placed.length⟩
      | none => ⟨r, role, 0, 0⟩
    let s := { s with swd := { s.swd with entries := s.swd.entries.set k entry } }
    match got with
    | some (x, as) => s.checkEntries l (done ++ [x]) as
    | none => (if r = 0 then s else s.refuseEntry k r).checkEntries l done as

/-- Memory without the bytes of a range. -/
def Mem.clear (m : Mem) (base n : Nat) : Mem := m.filter (fun c => decide (c.1 < base) || decide (base + n ≤ c.1))

/-- The bytes of a range, as offsets from its base. -/
def Mem.slice (m : Mem) (base n : Nat) : List (Nat × Byte) :=
  (m.filter (fun c => decide (base ≤ c.1) && decide (c.1 < base + n))).map (fun c => (c.1 - base, c.2))

/-- Bytes at offsets from a base. -/
def Mem.place (m : Mem) (base : Nat) (l : List (Nat × Byte)) : Mem := l.foldl (fun m c => m.write (base + c.1) c.2) m

/-- An area is filled (R311): kept when it was declared so and stood so before, else from the bundle. -/
def fillArea (m0 : Mem) (old : List Area) (init : List (Nat × Byte)) (a : Area) (m : Mem) : Mem :=
  if a.region ≤ 1 then m else
  let was := old.find? (fun o => o.role == a.role && o.name == a.name && o.size == a.size && o.format == a.format
    && o.region == a.region)
  let l := match (if a.keep then was else none) with
    | some o => m0.slice o.base o.size
    | none => init.filter (fun c => decide (c.1 < a.size))
  (m.clear a.base a.size).place a.base l

/-- Initial contents that a bundle declares for an area. -/
def Loaded.init (l : Loaded) (name : List Byte) : List (Nat × Byte) :=
  ((l.bundle.areas.find? (fun a => a.name == name && !a.imported)).map BundleArea.init).getD []

/-- A stream as a tussock of entry `k` numbers it (R303). -/
def translated (k n : Nat) : Nat := if n ≤ 0x1BF then 0x1C0 * k + n else n

/-- The seed of a tussock of an entry (R314). -/
def State.seedOf (s : State) (l : Loaded) (t : Nat) : BitVec 64 :=
  let base := s.fldN .programsSeed l.k
  (if base = 0 then l.bundle.seed else BitVec.ofNat 64 base) + BitVec.ofNat 64 t

/-- The image of a placed tussock is written (R301, R314, R315, R322). -/
def State.loadTus (s : State) (l : Loaded) (b : BundleTus) : State :=
  s.updTus b.tus (fun k => { k with
    sram := Mem.place [] 0 b.image, program := b.program, entry := l.k, role := l.bundle.role, variant := l.variant
    grant := b.grants, seed := s.seedOf l b.tus, rejects := 0, rejectSeen := false
    share := (List.range 4).map (fun i => match b.shares[i]? with
      | none => 0
      | some (n, x) => pack [(31, 1, 1), (30, 1, b2n x), (0, 12, n)])
    bind_ := (List.range 16).map (fun i => match b.binds.lookup i with
      | none => 0
      | some n => pack [(12, 1, 1), (0, 12, translated l.k n)]) })

/-- The tussocks at the start of a load (R315): halted with CAUSE 4; grants, shares and bindings cleared. -/
def Tus.loadStart (k : Tus) : Tus :=
  let k := if k.inRun then { k with st := .halted, cause := 4, change := none, retries := [] } else k
  if k.st = TState.failed then k else
  { k with entry := 15, role := 0, variant := 0, grant := 0, share := List.replicate 4 0, bind_ := List.replicate 16 0 }

/-- PROGRAM_LOAD (R300, R311, R314 to R316): the load that a start of the planning domain owes. -/
def execProgramLoad (t : Time) (s : State) : Host.Outcome State Fault Refusal :=
  let s := s.at_ t
  if !s.swd.loadOwed ∨ !s.lexUp ∨ s.cfg.prog.isNone ∨ s.core.bringup then .next s else
  let old := s.swd.areas
  let s := { s with swd := { s.swd with
    tus := s.swd.tus.map (fun (k : Tus) => { k.loadStart with cycles := k.cyclesNow s.now, cyclesAt := s.now })
    landings := [], sources := [], dma := [], emitHalf := none, running := false, requiredFail := false
    ceil := s.fldN .swardCeiling } }
  let (done, as, s) := s.checkEntries (List.range 8) [] []
  let imports := done.flatMap (fun l => (l.bundle.areas.filter BundleArea.imported).filterMap (fun a =>
    (as.find? (fun x => x.exported && x.name == a.name && x.entry != l.k)).map (fun x =>
      ({ x with entry := l.k, role := l.bundle.role, write := false, keep := false, exported := false } : Area))))
  let mem := as.foldl (fun m a =>
    fillArea s.swm old ((((done.find? (fun l => l.k == a.entry)).map (fun l => l.init a.name))).getD []) a m) s.swm
  let s := done.foldl (fun (s : State) l => l.v.placed.foldl (fun (s : State) b => s.loadTus l b) s) s
  let ids := done.foldl (fun (d : Ids) l => d.extend 4 (s.entryDigest l.k)) s.ids
  .next { s with
    swm := mem, ids := ids
    swd := { s.swd with
      areas := as ++ imports
      landings := done.flatMap (fun l => l.v.landings.map (fun x => ⟨l.k, x.service, x.tus, x.bank, x.line, x.lines, 0⟩))
      sources := done.flatMap (fun l => l.bundle.sources.map (fun m => (l.k, m)))
      loadOwed := false, goOwed := true, loadAt := s.now } }

/-- A tussock of a loaded entry enters RUN (R273, R312, R315). -/
def Tus.go (k : Tus) : Tus :=
  if k.entry = 15 then k else
  let k' := { k with pc := 0, cause := 0, gens := (List.range 64).map (seedGen k.seed) }
  match k.st with
  | .idle => { k' with st := .run }
  | .halted => { k' with st := .run }
  | .clockStop => { k' with change := k'.change.map (fun c => { c with back := .run }) }
  | _ => k

/-- A subscription request, as the COMMAND record carries it (R419, R423): TYPE 0x05 and the subscribing entry. -/
def subRequest (entry : Nat) : List Byte := [0x05, 0xFF, BitVec.ofNat 8 entry]

/-- GO (R314, R315, R317, R423): at the first voted mark after the load every loaded entry runs, the watchdog's interval
begins, and the sources subscribed to are asked. -/
def execGo (t : Time) (s : State) : Host.Outcome State Fault Refusal :=
  let s := s.at_ t
  match s.emit.markAt with
  | none => .next s
  | some m =>
    if !s.swd.goOwed ∨ !s.lexUp ∨ !s.vot.formed ∨ m < s.swd.loadAt then .next s else
    let s := { s with swd := { s.swd with
                         tus := s.swd.tus.map (fun (k : Tus) => { k.go with cycles := k.cyclesNow s.now, cyclesAt := s.now })
                         running := true, goOwed := false }
                      emit := { s.emit with wroteAt := s.now } }
    .next (s.swd.sources.foldl (fun (s : State) p => s.htlSend 1 1 p.2 (subRequest p.1)) s)

/-! ### Services (R307 to R310) -/

/-- EMIT (R309): a half of a plan vector. -/
def execEmit (t : Time) (above : Bool) (col : Nat) (s : State) : Host.Outcome State Fault Refusal :=
  let s := s.at_ t
  match s.takeService above col 0xF00 with
  | none => .next s
  | some (m, s) =>
    let f := m.flit
    if !f.half then
      let s := if s.swd.emitHalf.isSome then s.svcReject else s
      .next { s with swd := { s.swd with emitHalf := some f } }
    else
      match s.swd.emitHalf with
      | none => .next s.svcReject
      | some g =>
        if g.tag = f.tag then .next ({ s with swd := { s.swd with emitHalf := none } }.emitVec (g.payload ++ f.payload))
        else .next s.svcReject

/-- Samples of a flit of OBSERVE (R226, R307): instants in µs of ring time and currents, newest first. -/
def observeSamples (f : Flit) : List (Nat × Nat) :=
  let n := field (f.w 1) 19 16
  let at_ := ((f.w 2).toNat + 2 ^ 32 * (f.w 3).toNat) / 1000
  ((List.range (min 8 n)).map (fun i =>
    (at_ + i, if i % 2 = 0 then field (f.w (4 + i / 2)) 15 0 else field (f.w (4 + i / 2)) 31 16))).reverse

/-- OBSERVE (R226, R307): a current series for a pair that runs. -/
def execObserve (t : Time) (above : Bool) (col : Nat) (s : State) : Host.Outcome State Fault Refusal :=
  let s := s.at_ t
  match s.takeService above col 0xF04 with
  | none => .next s
  | some (m, s) =>
    let f := m.flit
    .next { s with lex := { s.lex with pairs := s.lex.pairs.map (fun p =>
      if p.job = field (f.w 0) 23 0 ∧ p.group = field (f.w 1) 15 0 then { p with series := observeSamples f ++ p.series }
      else p) } }

/-- LEMMA_REQUEST (R246, R307): a query, answered by two flits to the return address; an OP that LEX_CMD does not take
is discarded. -/
def execLemmaRequest (t : Time) (above : Bool) (col : Nat) (s : State) : Host.Outcome State Fault Refusal :=
  let s := s.at_ t
  match s.takeService above col 0xF05 with
  | none => .next s
  | some (m, s) =>
    let f := m.flit
    let op := field (f.w 0) 3 0
    if op = 0 ∨ 5 < op then .next s else
    let (a, s) := s.query op ((f.w 1).toNat + 2 ^ 32 * (f.w 2).toNat) (field (f.w 0) 13 4)
    let words := BitVec.ofNat 32 a.1 :: BitVec.ofNat 32 a.2.1 :: flitWords 14 a.2.2
    let w7 := f.w 7
    let h := 2 * field w7 18 9 + b2n (decide (8 ≤ field w7 8 5))
    let flit := fun i => (⟨field w7 31 27, field w7 26 22, field w7 21 19, (h + i) / 2 % 1024, (h + i) % 2 == 1, 0, 0xFF,
      0xF05, f.tag, (words.drop (8 * i)).take 8⟩ : Flit)
    .next ((s.fromPort (flit 0)).fromPort (flit 1))

/-- SUMMARY_OUT (R307): 32 bytes of the summary; the last complete one is published. -/
def execSummaryOut (t : Time) (above : Bool) (col : Nat) (s : State) : Host.Outcome State Fault Refusal :=
  let s := s.at_ t
  match s.takeService above col 0xF06 with
  | none => .next s
  | some (m, s) =>
    let l := s.swd.summary ++ m.flit.payload.flatMap (fun w => leBytes 4 w.toNat)
    if 1600 ≤ l.length then .next { s with swd := { s.swd with summary := [], summaryOut := some (l.take 1600) } }
    else .next { s with swd := { s.swd with summary := l } }

/-- A finding to Barrow, at most ten per second of an entry, and to telemetry (R307, R507). -/
def State.finding (s : State) (k : Nat) (bytes : List Byte) : State :=
  let second := s.opMs / 1000
  let counts := if s.brw.rateSecond = second then s.brw.rateCount else []
  let n := lookupD counts (0x10000 + k) 0
  let s := { s with brw := { s.brw with rateSecond := second, rateCount := insertKey counts (0x10000 + k) (n + 1) } }
  (if n < 10 then s.stage 0x23 k bytes else s).item tFinding bytes

/-- REPORT (R307): a finding record, at most 1000 per second of an entry. -/
def execReport (t : Time) (above : Bool) (col : Nat) (s : State) : Host.Outcome State Fault Refusal :=
  let s := s.at_ t
  match s.takeService above col 0xF09 with
  | none => .next s
  | some (m, s) =>
    let k := (s.tus m.src).entry
    let second := s.opMs / 1000
    let d := s.swd
    let counts := if d.reportSecond = second then d.reports else []
    let n := lookupD counts k 0
    let s := { s with swd := { d with reportSecond := second, reports := insertKey counts k (n + 1) } }
    .next (if n < 1000 then s.finding k (m.flit.payload.flatMap (fun w => leBytes 4 w.toNat)) else s.svcReject)

/-- ROW (R307, R418): an entry's Heathline traffic to a member, or to the segment or the domain, on a channel. -/
def execRow (t : Time) (above : Bool) (col dst channel : Nat) (s : State) : Host.Outcome State Fault Refusal :=
  let s := s.at_ t
  match s.takeService above col 0xF08 with
  | none => .next s
  | some (m, s) => .next (s.htlSend 5 (0x100 + channel % 256) dst (m.flit.payload.flatMap (fun w => leBytes 4 w.toNat)))

/-- DMA_DESCRIPTOR (R310): at most 64 outstanding of an entry; one that may not be performed moves nothing. -/
def execDmaDescriptor (t : Time) (above : Bool) (col entry : Nat) (s : State) : Host.Outcome State Fault Refusal :=
  let s := s.at_ t
  if 8 ≤ entry ∨ 64 ≤ (s.swd.dma.filter (fun d => d.entry == entry)).length then .next s else
  match s.takeService above col (0xF10 + entry) with
  | none => .next s
  | some (m, s) =>
    let d : Dma := ⟨entry, m.flit.payload⟩
    if s.dmaOk d then .next { s with swd := { s.swd with dma := s.swd.dma ++ [d] } }
    else .next (s.svcReject.completion (m.flit.w 5) (0xF10 + entry) 0xFFFFFFFF)

/-- DMA_COMPLETE (R247, R310): the oldest descriptor of an entry has moved its lines. -/
def execDmaComplete (t : Time) (entry : Nat) (s : State) : Host.Outcome State Fault Refusal :=
  let s := s.at_ t
  if s.inRst .planning then .next s else
  match s.swd.dma.find? (fun d => d.entry == entry) with
  | none => .next s
  | some d =>
    let moved := ((List.range d.lines).filter (fun i => !d.out || s.lexWriteOk (d.addr + 64 * i))).length
    let s := (List.range d.lines).foldl (fun (s : State) i => s.dmaLine d i) s
    let s := { s with swd := { s.swd with dma := s.swd.dma.erase d } }
    .next (s.completion (d.words.getD 5 0) (0xF10 + entry) (BitVec.ofNat 32 moved))

/-- SAMPLES_DELIVERY (R251, R307): the frame of a µs, in a slot of 512 bytes. -/
def execSamplesDelivery (t : Time) (frame : List Byte) (s : State) : Host.Outcome State Fault Refusal :=
  let s := s.at_ t
  .next (if s.inRst .planning then s else s.deliver 2 ((frame.take 480) ++ List.replicate (512 - (frame.take 480).length) 0))

end Sys2Proof.Machine
end

