-- ==== Sys2Proof/Machine/Dispatch.lean ====
section
/-! DEFINITION. One arm per command: a direct call of its meaning. -/
namespace Sys2Proof.Machine

/-- What a command does to the state, its queue apart. -/
def exec (i : Instr) (s : State) : Host.Outcome State Fault Refusal :=
  match i with
  | .registerWrite t addr width value => Sys2Proof.Machine.execRegisterWrite t addr width value s
  | .loReadLatch t addr => Sys2Proof.Machine.execLoReadLatch t addr s
  | .votedMark t x => Sys2Proof.Machine.execVotedMark t x s
  | .fabricModeEvaluation t => Sys2Proof.Machine.execFabricModeEvaluation t s
  | .stopCleared t => Sys2Proof.Machine.execStopCleared t s
  | .stopWatchEnd t => Sys2Proof.Machine.execStopWatchEnd t s
  | .dacUpdate t x => Sys2Proof.Machine.execDacUpdate t x s
  | .busTrip t lower upper pair => Sys2Proof.Machine.execBusTrip t lower upper pair s
  | .tripWait t => Sys2Proof.Machine.execTripWait t s
  | .blankExpiry t lower upper => Sys2Proof.Machine.execBlankExpiry t lower upper s
  | .onTimeExpiry t k x => Sys2Proof.Machine.execOnTimeExpiry t k x s
  | .peakLimitTrip t k x => Sys2Proof.Machine.execPeakLimitTrip t k x s
  | .hiccupTimeExpiry t k => Sys2Proof.Machine.execHiccupTimeExpiry t k s
  | .zeroCross t k => Sys2Proof.Machine.execZeroCross t k s
  | .idleCheck t k mean => Sys2Proof.Machine.execIdleCheck t k mean s
  | .boardRemoved t j => Sys2Proof.Machine.execBoardRemoved t j s
  | .boardRefitted t j => Sys2Proof.Machine.execBoardRefitted t j s
  | .testAttemptStart t windowS windowB => Sys2Proof.Machine.execTestAttemptStart t windowS windowB s
  | .testJudgement t x => Sys2Proof.Machine.execTestJudgement t x s
  | .spareRecheckJudgement t x => Sys2Proof.Machine.execSpareRecheckJudgement t x s
  | .gateDisagreement t x gate => Sys2Proof.Machine.execGateDisagreement t x gate s
  | .snapshotJudgement t ab ac bc => Sys2Proof.Machine.execSnapshotJudgement t ab ac bc s
  | .laneReady t x crcOk => Sys2Proof.Machine.execLaneReady t x crcOk s
  | .formationWaitExpiry t => Sys2Proof.Machine.execFormationWaitExpiry t s
  | .stageKill t low => Sys2Proof.Machine.execStageKill t low s
  | .laneWatchdog t x => Sys2Proof.Machine.execLaneWatchdog t x s
  | .clockWindowEnd t clk ppm => Sys2Proof.Machine.execClockWindowEnd t clk ppm s
  | .clockEdgeTimeout t clk => Sys2Proof.Machine.execClockEdgeTimeout t clk s
  | .pllLockLoss t clk => Sys2Proof.Machine.execPllLockLoss t clk s
  | .aonXtalFail t noEdge => Sys2Proof.Machine.execAonXtalFail t noEdge s
  | .ringTimeUpdate t isl => Sys2Proof.Machine.execRingTimeUpdate t isl s
  | .ringHoldoverEntry t => Sys2Proof.Machine.execRingHoldoverEntry t s
  | .ringHoldoverEnd t => Sys2Proof.Machine.execRingHoldoverEnd t s
  | .channelReopen t ch => Sys2Proof.Machine.execChannelReopen t ch s
  | .auxInputFault t inputB high => Sys2Proof.Machine.execAuxInputFault t inputB high s
  | .auxInputReconnect t inputB => Sys2Proof.Machine.execAuxInputReconnect t inputB s
  | .powerOnRelease t => Sys2Proof.Machine.execPowerOnRelease t s
  | .powerFail t railMv => Sys2Proof.Machine.execPowerFail t railMv s
  | .finalFlushStagingClose t => Sys2Proof.Machine.execFinalFlushStagingClose t s
  | .finalFlushEnd t railUp => Sys2Proof.Machine.execFinalFlushEnd t railUp s
  | .railRecovery t => Sys2Proof.Machine.execRailRecovery t s
  | .holdupFault t dj => Sys2Proof.Machine.execHoldupFault t dj s
  | .setpointStep t agreed => Sys2Proof.Machine.execSetpointStep t agreed s
  | .pmbusPoll t => Sys2Proof.Machine.execPmbusPoll t s
  | .pmbAlert t => Sys2Proof.Machine.execPmbAlert t s
  | .busTransactionEnd t pmbus r => Sys2Proof.Machine.execBusTransactionEnd t pmbus r s
  | .stringPoll t x batt => Sys2Proof.Machine.execStringPoll t x batt s
  | .prechargeTimeout t j => Sys2Proof.Machine.execPrechargeTimeout t j s
  | .gridLoss t => Sys2Proof.Machine.execGridLoss t s
  | .gridReturn t => Sys2Proof.Machine.execGridReturn t s
  | .gridRestored t => Sys2Proof.Machine.execGridRestored t s
  | .segmentLoss t member => Sys2Proof.Machine.execSegmentLoss t member s
  | .segmentLossClear t => Sys2Proof.Machine.execSegmentLossClear t s
  | .superframeBoundary t isl => Sys2Proof.Machine.execSuperframeBoundary t isl s
  | .planningTick t => Sys2Proof.Machine.execPlanningTick t s
  | .planRelease t => Sys2Proof.Machine.execPlanRelease t s
  | .swardWatchdog t => Sys2Proof.Machine.execSwardWatchdog t s
  | .phase t => Sys2Proof.Machine.execPhase t s
  | .pairIdleEnd t job group => Sys2Proof.Machine.execPairIdleEnd t job group s
  | .observe t above col => Sys2Proof.Machine.execObserve t above col s
  | .lookup t => Sys2Proof.Machine.execLookup t s
  | .best t => Sys2Proof.Machine.execBest t s
  | .pin t => Sys2Proof.Machine.execPin t s
  | .unpin t => Sys2Proof.Machine.execUnpin t s
  | .read t off => Sys2Proof.Machine.execRead t off s
  | .lemmaRequest t above col => Sys2Proof.Machine.execLemmaRequest t above col s
  | .priorsLoad t => Sys2Proof.Machine.execPriorsLoad t s
  | .lexiconScanEnd t => Sys2Proof.Machine.execLexiconScanEnd t s
  | .historyBlockWrite t frames lost => Sys2Proof.Machine.execHistoryBlockWrite t frames lost s
  | .decimatedBlockWrite t body lost => Sys2Proof.Machine.execDecimatedBlockWrite t body lost s
  | .scalarAdd t x => Sys2Proof.Machine.execScalarAdd t x s
  | .scalarSub t x => Sys2Proof.Machine.execScalarSub t x s
  | .scalarMul t x => Sys2Proof.Machine.execScalarMul t x s
  | .scalarAnd t x => Sys2Proof.Machine.execScalarAnd t x s
  | .scalarOr t x => Sys2Proof.Machine.execScalarOr t x s
  | .scalarXor t x => Sys2Proof.Machine.execScalarXor t x s
  | .scalarShl t x => Sys2Proof.Machine.execScalarShl t x s
  | .scalarShr t x => Sys2Proof.Machine.execScalarShr t x s
  | .scalarSar t x => Sys2Proof.Machine.execScalarSar t x s
  | .scalarSlt t x => Sys2Proof.Machine.execScalarSlt t x s
  | .scalarLoad t x => Sys2Proof.Machine.execScalarLoad t x s
  | .scalarStore t x => Sys2Proof.Machine.execScalarStore t x s
  | .cycleLo t x => Sys2Proof.Machine.execCycleLo t x s
  | .cycleHi t x => Sys2Proof.Machine.execCycleHi t x s
  | .nop t x => Sys2Proof.Machine.execNop t x s
  | .jump t x => Sys2Proof.Machine.execJump t x s
  | .bnz t x => Sys2Proof.Machine.execBnz t x s
  | .bz t x => Sys2Proof.Machine.execBz t x s
  | .wait t x => Sys2Proof.Machine.execWait t x s
  | .take t x => Sys2Proof.Machine.execTake t x s
  | .fence t x => Sys2Proof.Machine.execFence t x s
  | .step t x => Sys2Proof.Machine.execStep t x s
  | .halt t x => Sys2Proof.Machine.execHalt t x s
  | .mma t x => Sys2Proof.Machine.execMma t x s
  | .drain t x => Sys2Proof.Machine.execDrain t x s
  | .vectorAdd t x => Sys2Proof.Machine.execVectorAdd t x s
  | .vectorSub t x => Sys2Proof.Machine.execVectorSub t x s
  | .vectorMul t x => Sys2Proof.Machine.execVectorMul t x s
  | .vectorFma t x => Sys2Proof.Machine.execVectorFma t x s
  | .vectorDiv t x => Sys2Proof.Machine.execVectorDiv t x s
  | .vectorSqrt t x => Sys2Proof.Machine.execVectorSqrt t x s
  | .vectorMax t x => Sys2Proof.Machine.execVectorMax t x s
  | .vectorMin t x => Sys2Proof.Machine.execVectorMin t x s
  | .cvt t x => Sys2Proof.Machine.execCvt t x s
  | .recip t x => Sys2Proof.Machine.execRecip t x s
  | .rsqrt t x => Sys2Proof.Machine.execRsqrt t x s
  | .exp2 t x => Sys2Proof.Machine.execExp2 t x s
  | .exp t x => Sys2Proof.Machine.execExp t x s
  | .log2 t x => Sys2Proof.Machine.execLog2 t x s
  | .tanh t x => Sys2Proof.Machine.execTanh t x s
  | .sigmoid t x => Sys2Proof.Machine.execSigmoid t x s
  | .sin t x => Sys2Proof.Machine.execSin t x s
  | .cos t x => Sys2Proof.Machine.execCos t x s
  | .vectorShl t x => Sys2Proof.Machine.execVectorShl t x s
  | .vectorShr t x => Sys2Proof.Machine.execVectorShr t x s
  | .vectorSar t x => Sys2Proof.Machine.execVectorSar t x s
  | .send t x => Sys2Proof.Machine.execSend t x s
  | .sendAddI32 t x => Sys2Proof.Machine.execSendAddI32 t x s
  | .sendAddF32 t x => Sys2Proof.Machine.execSendAddF32 t x s
  | .streamRead t x => Sys2Proof.Machine.execStreamRead t x s
  | .streamSwap t x => Sys2Proof.Machine.execStreamSwap t x s
  | .addI32 t x => Sys2Proof.Machine.execAddI32 t x s
  | .addF32 t x => Sys2Proof.Machine.execAddF32 t x s
  | .swap t x => Sys2Proof.Machine.execSwap t x s
  | .flitRoute t row col via reply => Sys2Proof.Machine.execFlitRoute t row col via reply s
  | .flitArrival t row col via reply n ev => Sys2Proof.Machine.execFlitArrival t row col via reply n ev s
  | .portSRetry t tus bank n => Sys2Proof.Machine.execPortSRetry t tus bank n s
  | .dvfsGrant t tus => Sys2Proof.Machine.execDvfsGrant t tus s
  | .dvfsSupplyArrival t tus => Sys2Proof.Machine.execDvfsSupplyArrival t tus s
  | .dvfsClockRestart t tus => Sys2Proof.Machine.execDvfsClockRestart t tus s
  | .governorMeasure t power => Sys2Proof.Machine.execGovernorMeasure t power s
  | .tussockClockFail t tus detail => Sys2Proof.Machine.execTussockClockFail t tus detail s
  | .seedWrite t tus hi value => Sys2Proof.Machine.execSeedWrite t tus hi value s
  | .ceilWrite t value => Sys2Proof.Machine.execCeilWrite t value s
  | .programLoad t => Sys2Proof.Machine.execProgramLoad t s
  | .go t => Sys2Proof.Machine.execGo t s
  | .emit t above col => Sys2Proof.Machine.execEmit t above col s
  | .summaryOut t above col => Sys2Proof.Machine.execSummaryOut t above col s
  | .report t above col => Sys2Proof.Machine.execReport t above col s
  | .row t above col dst channel => Sys2Proof.Machine.execRow t above col dst channel s
  | .dmaDescriptor t above col entry => Sys2Proof.Machine.execDmaDescriptor t above col entry s
  | .dmaComplete t entry => Sys2Proof.Machine.execDmaComplete t entry s
  | .furzeSuperframe t => Sys2Proof.Machine.execFurzeSuperframe t s
  | .election t x => Sys2Proof.Machine.execElection t x s
  | .speakerState t x => Sys2Proof.Machine.execSpeakerState t x s
  | .burstReceived t x => Sys2Proof.Machine.execBurstReceived t x s
  | .clauseRelay t sf slot c => Sys2Proof.Machine.execClauseRelay t sf slot c s
  | .stepClause t => Sys2Proof.Machine.execStepClause t s
  | .vftable t => Sys2Proof.Machine.execVftable t s
  | .throttle t => Sys2Proof.Machine.execThrottle t s
  | .ack t => Sys2Proof.Machine.execAck t s
  | .join t => Sys2Proof.Machine.execJoin t s
  | .keyx t => Sys2Proof.Machine.execKeyx t s
  | .startReq t => Sys2Proof.Machine.execStartReq t s
  | .leave t => Sys2Proof.Machine.execLeave t s
  | .hello t => Sys2Proof.Machine.execHello t s
  | .enrolTimeout t id => Sys2Proof.Machine.execEnrolTimeout t id s
  | .silentLapse t id => Sys2Proof.Machine.execSilentLapse t id s
  | .idHoldExpiry t id => Sys2Proof.Machine.execIdHoldExpiry t id s
  | .rekeyTimeout t id => Sys2Proof.Machine.execRekeyTimeout t id s
  | .epochGraceExpiry t id => Sys2Proof.Machine.execEpochGraceExpiry t id s
  | .strangerExpiry t => Sys2Proof.Machine.execStrangerExpiry t s
  | .request t x => Sys2Proof.Machine.execRequest t x s
  | .decision t x => Sys2Proof.Machine.execDecision t x s
  | .governorRelease t => Sys2Proof.Machine.execGovernorRelease t s
  | .matchRelease t id => Sys2Proof.Machine.execMatchRelease t id s
  | .cellArrival t p c tag => Sys2Proof.Machine.execCellArrival t p c tag s
  | .linkCell t p x => Sys2Proof.Machine.execLinkCell t p x s
  | .timeCell t p x => Sys2Proof.Machine.execTimeCell t p x s
  | .timeCellSend t fec => Sys2Proof.Machine.execTimeCellSend t fec s
  | .parentTimeout t => Sys2Proof.Machine.execParentTimeout t s
  | .faultCell t p => Sys2Proof.Machine.execFaultCell t p s
  | .portPresenceLost t p => Sys2Proof.Machine.execPortPresenceLost t p s
  | .portPresenceFitted t p => Sys2Proof.Machine.execPortPresenceFitted t p s
  | .trainingLock t p => Sys2Proof.Machine.execTrainingLock t p s
  | .linkStall t p => Sys2Proof.Machine.execLinkStall t p s
  | .linkDown t p => Sys2Proof.Machine.execLinkDown t p s
  | .linkSymbolsReturn t p => Sys2Proof.Machine.execLinkSymbolsReturn t p s
  | .rejoinHoldExpiry t p => Sys2Proof.Machine.execRejoinHoldExpiry t p s
  | .refusedRetry t p => Sys2Proof.Machine.execRefusedRetry t p s
  | .linkState t x => Sys2Proof.Machine.execLinkState t x s
  | .headChange t => Sys2Proof.Machine.execHeadChange t s
  | .mirrorSend t frames => Sys2Proof.Machine.execMirrorSend t frames s
  | .mirror t p block => Sys2Proof.Machine.execMirror t p block s
  | .subscriptionRequest t x => Sys2Proof.Machine.execSubscriptionRequest t x s
  | .bertStart t x => Sys2Proof.Machine.execBertStart t x s
  | .bertPeriodic t => Sys2Proof.Machine.execBertPeriodic t s
  | .bertEnd t p err0 err1 => Sys2Proof.Machine.execBertEnd t p err0 err1 s
  | .hopRekey t p => Sys2Proof.Machine.execHopRekey t p s
  | .imageSelection t => Sys2Proof.Machine.execImageSelection t s
  | .write t => Sys2Proof.Machine.execWrite t s
  | .applyWarm t => Sys2Proof.Machine.execApplyWarm t s
  | .applyFull t => Sys2Proof.Machine.execApplyFull t s
  | .erase t => Sys2Proof.Machine.execErase t s
  | .resetPin t low => Sys2Proof.Machine.execResetPin t low s
  | .flushWindowEnd t committed => Sys2Proof.Machine.execFlushWindowEnd t committed s
  | .domainRelease t d => Sys2Proof.Machine.execDomainRelease t d s
  | .idsolReady t ok => Sys2Proof.Machine.execIdsolReady t ok s
  | .idsolTimeout t => Sys2Proof.Machine.execIdsolTimeout t s
  | .bringupEnd t => Sys2Proof.Machine.execBringupEnd t s
  | .mgmtWdog t => Sys2Proof.Machine.execMgmtWdog t s
  | .mwdogKick t value => Sys2Proof.Machine.execMwdogKick t value s
  | .faultMessage t x => Sys2Proof.Machine.execFaultMessage t x s
  | .faultBinBoundary t source => Sys2Proof.Machine.execFaultBinBoundary t source s
  | .faultQueueRead t => Sys2Proof.Machine.execFaultQueueRead t s
  | .trapAck t value => Sys2Proof.Machine.execTrapAck t value s
  | .faultClear t value => Sys2Proof.Machine.execFaultClear t value s
  | .barrowRestoration t readable => Sys2Proof.Machine.execBarrowRestoration t readable s
  | .l4Replay t readable => Sys2Proof.Machine.execL4Replay t readable s
  | .anchorQueryTimeout t => Sys2Proof.Machine.execAnchorQueryTimeout t s
  | .anchorReply t p optime pcc => Sys2Proof.Machine.execAnchorReply t p optime pcc s
  | .anchorQuery t p member => Sys2Proof.Machine.execAnchorQuery t p member s
  | .record t p member r => Sys2Proof.Machine.execRecord t p member r s
  | .journalCommit t => Sys2Proof.Machine.execJournalCommit t s
  | .commitComplete t ok => Sys2Proof.Machine.execCommitComplete t ok s
  | .commitRetry t => Sys2Proof.Machine.execCommitRetry t s
  | .checkpoint t => Sys2Proof.Machine.execCheckpoint t s
  | .captureComplete t p => Sys2Proof.Machine.execCaptureComplete t p s
  | .load t area => Sys2Proof.Machine.execLoad t area s
  | .next t area => Sys2Proof.Machine.execNext t area s
  | .oldest t area => Sys2Proof.Machine.execOldest t area s
  | .newest t area => Sys2Proof.Machine.execNewest t area s
  | .recordStageGo t value => Sys2Proof.Machine.execRecordStageGo t value s
  | .trustStoreLoad t ok => Sys2Proof.Machine.execTrustStoreLoad t ok s
  | .trustCommand t bytes voucher => Sys2Proof.Machine.execTrustCommand t bytes voucher s
  | .firmwareVerify t => Sys2Proof.Machine.execFirmwareVerify t s
  | .measurementExtend t bytes => Sys2Proof.Machine.execMeasurementExtend t bytes s
  | .barrowSeal t => Sys2Proof.Machine.execBarrowSeal t s
  | .telemetrySeal t => Sys2Proof.Machine.execTelemetrySeal t s
  | .tamperDetect t d => Sys2Proof.Machine.execTamperDetect t d s
  | .kbcRotation t => Sys2Proof.Machine.execKbcRotation t s
  | .kbcSwitch t => Sys2Proof.Machine.execKbcSwitch t s
  | .sensorSample t samples => Sys2Proof.Machine.execSensorSample t samples s
  | .flowUpdate t x => Sys2Proof.Machine.execFlowUpdate t x s
  | .swardShed t => Sys2Proof.Machine.execSwardShed t s
  | .coolantRestore t => Sys2Proof.Machine.execCoolantRestore t s
  | .swardThermalEvaluation t => Sys2Proof.Machine.execSwardThermalEvaluation t s
  | .shelfThermalEvaluation t ppk pg => Sys2Proof.Machine.execShelfThermalEvaluation t ppk pg s
  | .firmwareSlotSelect t => Sys2Proof.Machine.execFirmwareSlotSelect t s
  | .firmwareRunning t value => Sys2Proof.Machine.execFirmwareRunning t value s
  | .firmwareConfirm t => Sys2Proof.Machine.execFirmwareConfirm t s
  | .firmwarePolicyLoad t => Sys2Proof.Machine.execFirmwarePolicyLoad t s
  | .epochSet t => Sys2Proof.Machine.execEpochSet t s
  | .heartbeat t m => Sys2Proof.Machine.execHeartbeat t m s
  | .commandRecord t x => Sys2Proof.Machine.execCommandRecord t x s
  | .commandExecution t x => Sys2Proof.Machine.execCommandExecution t x s
  | .readRegisters t h addr count => Sys2Proof.Machine.execReadRegisters t h addr count s
  | .readObject t h operand => Sys2Proof.Machine.execReadObject t h operand s
  | .hold t h => Sys2Proof.Machine.execHold t h s
  | .releaseHold t h => Sys2Proof.Machine.execReleaseHold t h s
  | .stopRelease t h => Sys2Proof.Machine.execStopRelease t h s
  | .laneRelease t h lane => Sys2Proof.Machine.execLaneRelease t h lane s
  | .reset t h level => Sys2Proof.Machine.execReset t h level s
  | .rackCap t h kw window mask capId => Sys2Proof.Machine.execRackCap t h kw window mask capId s
  | .clearFault t h all source => Sys2Proof.Machine.execClearFault t h all source s
  | .setTime t h wall => Sys2Proof.Machine.execSetTime t h wall s
  | .expel t h partner => Sys2Proof.Machine.execExpel t h partner s
  | .bertInstall t h => Sys2Proof.Machine.execBertInstall t h s
  | .barrowClear t h targets digest => Sys2Proof.Machine.execBarrowClear t h targets digest s
  | .trust t h bytes voucher => Sys2Proof.Machine.execTrust t h bytes voucher s
  | .cfgOp t h op => Sys2Proof.Machine.execCfgOp t h op s
  | .fwActivate t h => Sys2Proof.Machine.execFwActivate t h s
  | .bundleDelete t h digest => Sys2Proof.Machine.execBundleDelete t h digest s
  | .xferBegin t h kind length digest => Sys2Proof.Machine.execXferBegin t h kind length digest s
  | .xferChunk t h num offset data => Sys2Proof.Machine.execXferChunk t h num offset data s
  | .xferEnd t h num => Sys2Proof.Machine.execXferEnd t h num s
  | .alone t => Sys2Proof.Machine.execAlone t s
  | .telemetryStatus t => Sys2Proof.Machine.execTelemetryStatus t s
  | .badRegisterRead t addr width => Sys2Proof.Machine.execBadRegisterRead t addr width s
  | .holdupRecharged t dj => Sys2Proof.Machine.execHoldupRecharged t dj s
  | .cfgOperationComplete t ok => Sys2Proof.Machine.execCfgOperationComplete t ok s
  | .tamperLoopRestored t d => Sys2Proof.Machine.execTamperLoopRestored t d s
  | .resetPulseEnd t src => Sys2Proof.Machine.execResetPulseEnd t src s
  | .tussockPllLock t tus clockOk => Sys2Proof.Machine.execTussockPllLock t tus clockOk s
  | .samplesDelivery t frame => Sys2Proof.Machine.execSamplesDelivery t frame s
  | .undecodableInstruction t tus => Sys2Proof.Machine.execUndecodableInstruction t tus s
  | .dtlsHandshake t mgr portB key => Sys2Proof.Machine.execDtlsHandshake t mgr portB key s
  | .lexOperationComplete t => Sys2Proof.Machine.execLexOperationComplete t s
  | .barrowCommandComplete t io => Sys2Proof.Machine.execBarrowCommandComplete t io s

end Sys2Proof.Machine
end

