-- ==== Sys2Proof/Safety.lean ====
section
/-! DEFINITION. The terms in which statements speak: groups of state that a command leaves unchanged, the canonical form
of every memory, when a manager's command is taken up. -/
namespace Sys2Proof.Machine

/-! ### Groups of state -/

/-- The converter, the lanes, the voter, the front end and the plan in force. -/
def sameStage (s s' : State) : Prop :=
  s'.pool = s.pool ∧ s'.laneA = s.laneA ∧ s'.laneB = s.laneB ∧ s'.laneC = s.laneC ∧ s'.vot = s.vot ∧ s'.fes = s.fes
    ∧ s'.plan = s.plan

/-- The sward, its memory, the lexicon engine and the plan release. -/
def sameSward (s s' : State) : Prop := s'.emit = s.emit ∧ s'.lex = s.lex ∧ s'.swd = s.swd ∧ s'.swm = s.swm

/-- The row: Furze, concord, Heathline. -/
def sameRow (s s' : State) : Prop := s'.frz = s.frz ∧ s'.ccd = s.ccd ∧ s'.htl = s.htl

/-- The always-on island: its core, pins, registers and the copies of ring time. -/
def sameAon (s s' : State) : Prop := s'.core = s.core ∧ s'.pin = s.pin ∧ s'.aon = s.aon ∧ s'.rings = s.rings

/-- The fault collector and the Barrow recorder. -/
def sameLog (s s' : State) : Prop := s'.flt = s.flt ∧ s'.brw = s.brw

/-- The configuration loader, Idsol and the mailboxes. -/
def sameMgmt (s s' : State) : Prop := s'.cfg = s.cfg ∧ s'.ids = s.ids ∧ s'.mbx = s.mbx

/-- What the devices hold: non-volatile contents and conductor LPDDR5X. -/
def sameStore (s s' : State) : Prop := s'.nv = s.nv ∧ s'.ddr = s.ddr

/-- The latches, what the last read returned, the handshake channels, the queue and the free values taken. -/
def sameBus (s s' : State) : Prop :=
  s'.latches = s.latches ∧ s'.busRead = s.busRead ∧ s'.closed = s.closed ∧ s'.closureReported = s.closureReported
    ∧ s'.pending = s.pending ∧ s'.free = s.free

/-- Everything but the fault collector and the clock: what a report leaves as it was. -/
def sameButFlt (s s' : State) : Prop :=
  sameStage s s' ∧ sameSward s s' ∧ sameRow s s' ∧ sameAon s s' ∧ s'.brw = s.brw ∧ sameMgmt s s' ∧ sameStore s s'
    ∧ sameBus s s'

/-! ### Registers -/

/-- The _LO registers of the fixed blocks (R12, R28, R149, R439, R463, R496, R516, R579, R256). -/
def loRegisters : List Nat :=
  [0x00000004, 0x00000044, 0x00200008, 0x00200020, 0x003C0030, 0x00800008, 0x00800010, 0x00900004, 0x00900010,
   0x00900018, 0x00900020, 0x00900040, 0x00A00024, 0x00C00024, 0x00C00030, 0x02000040, 0x02000100, 0x02000108]

/-! ### Memories -/

/-- Every memory is in canonical form: conductor LPDDR5X, sward LPDDR5X, the SRAM of every tussock, the bytes of every
open transfer. -/
def State.memOk (s : State) : Prop :=
  s.ddr.wf = true ∧ s.swm.wf = true ∧ (∀ k ∈ s.swd.tus, k.sram.wf = true) ∧ (∀ x ∈ s.mbx.xfers, x.data.wf = true)

/-! ### Managers' commands -/

/-- The fabric takes up this command (R562 to R566, R568): the epoch is set, the sender's epoch is the one kept, its number is
above the last executed one, and it is signed where it must be. -/
def State.mayCommand (s : State) (h : CmdHdr) (needSigned : Bool) : Prop :=
  s.inRst .fabric = false ∧ s.mbx.ready = true ∧ (s.mbx.mgr h.mgr).known = true ∧ (s.mbx.mgr h.mgr).epoch = h.epoch
    ∧ (∀ n, (s.mbx.mgr h.mgr).lastSeq = some n → n < h.seq) ∧ (needSigned = true → h.signed = true)

/-- The state in which a command that has been taken up has its effect. -/
def State.begun (s : State) (t : Time) (h : CmdHdr) : State :=
  { s.at_ t with mbx := s.mbx.updMgr h.mgr (fun m => { m with lastSeq := some h.seq }) }

/-! ### Tussocks and services -/

/-- Tussock `i` is there, powered and in RUN. -/
def State.runs (s : State) (i : Nat) : Prop := i < 640 ∧ s.swd.powered = true ∧ (s.tus i).st = .run

/-- The state after an instruction that has left tussock `i` as `k` and done nothing else (R312). -/
def State.became (s : State) (t : Time) (i : Nat) (k : Tus) : State :=
  { s.at_ t with free := s.free + 1, swd := { s.swd with tus := upd s.swd.tus i (fun _ => k) } }

/-- What an instruction at instant `t` sees beside its tussock. -/
def State.ctx (s : State) (t : Time) (x : TIns) : Ctx := ⟨x, x.tus / 32, s.free, max s.now t⟩

/-- The instruction meets no error and no clash of ports, none of the ranges it touches reaches bank 7 of a row that lends it to
the lemma cache, and its tussock's count of corrected errors is in range: it runs as its operation says (R259, R280, R283). -/
def plain (x : TIns) (k : Tus) (ranges : List (Nat × Nat)) : Prop :=
  x.ev = [] ∧ k.corrected ≤ 65535 ∧ ∀ r ∈ ranges, 512 ≤ x.tus ∨ r.1 + r.2 ≤ 7 * 65536

/-- The descriptor of an instruction stands where it may (R266, R312). -/
def Ctx.descOk (x : Ctx) (k : Tus) : Prop := x.addr k % 64 = 0 ∧ x.addr k < 2 ^ 19

/-- Word `i` of the descriptor. -/
def Ctx.desc (x : Ctx) (k : Tus) (i : Nat) : Word := x.word k (x.addr k + 4 * i)

/-- A flit of a service waits at a periphery port, and it is the oldest of its stream there (R307). -/
def State.offers (s : State) (above : Bool) (col stream : Nat) (m : Moving) : Prop :=
  s.inRst .planning = false ∧
    (s.swd.waiting (if above then 31 else 30) col .local_ false).find? (fun x => x.flit.stream == stream) = some m

/-- The state at instant `t` without a flit that a service has taken. -/
def State.took (s : State) (t : Time) (m : Moving) : State := { s.at_ t with swd := s.swd.remove m }

/-! ### Accepted clauses -/

/-- The fabric can take the oldest accepted clause, and it is `a` (R344). -/
def State.hears (s : State) (a : Acc) (rest : List Acc) : Prop :=
  s.inRst .fabric = false ∧ Chan.clauseUp ∉ s.closed ∧ s.frz.accepted = a :: rest

/-- The state at instant `t` without the clause it has taken. -/
def State.heardOne (s : State) (t : Time) (rest : List Acc) : State := { s.at_ t with frz := { s.frz with accepted := rest } }

/-! ### Heathline -/

/-- What the links of the row leave as it was: the stage, the sward, Furze and concord, configuration, mailboxes, devices. -/
def offLinks (s s' : State) : Prop :=
  sameStage s s' ∧ sameSward s s' ∧ s'.frz = s.frz ∧ s'.ccd = s.ccd ∧ s'.core = s.core ∧ s'.cfg = s.cfg ∧ s'.mbx = s.mbx
    ∧ sameStore s s' ∧ sameBus s s'

/-- The ports other than `p` are as they were. -/
def otherPorts (s s' : State) (p : Port) : Prop := ∀ q : Port, q ≠ p → s'.port q = s.port q

/-- The ports other than `p` are in the states in which they were, but for one under test, which may train again (R434). -/
def otherStates (s s' : State) (p : Port) : Prop :=
  ∀ q : Port, q ≠ p → (s'.port q).state = (s.port q).state ∨ ((s.port q).state = .test ∧ (s'.port q).state = .training)

end Sys2Proof.Machine
end

