-- ==== Sys2Proof/Certificates/Slice0/Obligations.lean ====
section
/-! DEFINITION. The statements for the provers. -/

open Sys2Proof Sys2Proof.Machine

/-- A step with command `c` in front is exec of `c` on the state with the queue's rest. -/
def Obligations.StepRunsFront : Prop :=
  ∀ (c : Instr) (rest : List Instr) (s : State),
    Machine.step { s with pending := c :: rest } = exec c { s with pending := rest }

/-- On an empty queue the conductor idles (the model's choice, log entry 2).
No command touches the queue: after a step the rest is left, in order. -/
def Obligations.QueueInOrder : Prop :=
  (∀ s : State, s.pending = [] → Machine.step s = .next s) ∧
  (∀ (c : Instr) (rest : List Instr) (s s' : State), s.pending = c :: rest → Machine.step s = .next s' → s'.pending = rest)

/-- HOLD sets the hold state with its epoch and raises HOLD_COMMAND; RELEASE_HOLD clears it and raises HOLD_RELEASED; either is
answered DONE. One whose epoch is earlier than the hold state's is refused with STALE_EPOCH and changes nothing of it.
RACK_CAP: a conductor that the mask names takes P, W (0 means 20 ms), the mask and the identifier, to apply from the next
superframe boundary, and keeps the command's epoch; one that it does not name ignores the command (R395, R564). -/
def Obligations.HoldAndCap : Prop :=
  ((∀ (s : State) (t : Time) (h : CmdHdr), s.mayCommand h true → s.mbx.held = false → barred s.mbx.holdEpoch h.epoch = false →
    exec (.hold t h) s = .next (
      ({ s.begun t h with mbx := { (s.begun t h).mbx with held := true, holdEpoch := some h.epoch }
                          vot := { s.vot with holdCond := true, releaseCond := false } }).complete h 0x10 rDone [])) ∧
  (∀ (s : State) (t : Time) (h : CmdHdr), s.mayCommand h true → s.mbx.held = true → barred s.mbx.holdEpoch h.epoch = false →
    exec (.releaseHold t h) s = .next (
      ({ s.begun t h with mbx := { (s.begun t h).mbx with held := false, holdEpoch := some h.epoch }
                          vot := { s.vot with holdCond := false, releaseCond := true } }).complete h 0x11 rDone [])) ∧
  (∀ (s : State) (t : Time) (h : CmdHdr), s.mayCommand h true → s.mbx.held = false → barred s.mbx.holdEpoch h.epoch = true →
    exec (.hold t h) s = .next ((s.begun t h).complete h 0x10 rStaleEpoch [])) ∧
  (∀ (s : State) (t : Time) (h : CmdHdr), s.mayCommand h true → s.mbx.held = true → barred s.mbx.holdEpoch h.epoch = true →
    exec (.releaseHold t h) s = .next ((s.begun t h).complete h 0x11 rStaleEpoch []))) ∧
  ((∀ (s : State) (t : Time) (h : CmdHdr) (kw w mask i : Nat), s.mayCommand h true → barred s.mbx.capEpoch h.epoch = false →
    w ≤ 1000 → mask.testBit s.member = true →
    exec (.rackCap t h kw w mask i) s = .next (
      ({ s.begun t h with mbx := { (s.begun t h).mbx with capEpoch := some h.epoch }
                          ccd := { s.ccd with capPend := some ⟨kw, if w = 0 then 20 else w, BitVec.ofNat 64 mask, i⟩ } }).complete
        h 0x20 rDone [])) ∧
  (∀ (s : State) (t : Time) (h : CmdHdr) (kw w mask i : Nat), s.mayCommand h true → barred s.mbx.capEpoch h.epoch = false →
    w ≤ 1000 → mask.testBit s.member = false →
    exec (.rackCap t h kw w mask i) s = .next ((s.begun t h).complete h 0x20 rDone [])) ∧
  (∀ (s : State) (t : Time) (h : CmdHdr) (kw w mask i : Nat), s.mayCommand h true → barred s.mbx.capEpoch h.epoch = true →
    exec (.rackCap t h kw w mask i) s = .next ((s.begun t h).complete h 0x20 rStaleEpoch [])))

/-- STOP_RELEASE returns the restart count to 0 and clears the latch, and nothing else (R27).
LANE_RELEASE frees a latched lane: its voter record returns to RESET and its fence source is released; for a lane that is not
latched the command has no effect and is answered DONE (R139, R147).
RESET answers first, then asserts the remote source: at its fused level for level 0, else at level 2 or 3 as named; any other
level is BAD_OPERAND and asserts nothing (R466).
CLEAR_FAULT clears the pending bit of one source or of every source, and no other bit of any source (R491). -/
def Obligations.ReleasesAndClears : Prop :=
  (∀ (s : State) (t : Time) (h : CmdHdr), s.mayCommand h true →
    exec (.stopRelease t h) s = .next (
      ({ s.begun t h with aon := { s.aon with stopLatched := false, restarts := 0 } }).complete h 0x12 rDone [])) ∧
  ((∀ (s : State) (t : Time) (h : CmdHdr) (k : Nat) (x : Lane), s.mayCommand h true → laneOf k = some x →
    (s.lane x).vote = .latched →
    exec (.laneRelease t h k) s = .next (
      ((((s.begun t h).updLane x (fun l => { l with vote := .reset })).releaseSrc (.fence x)).complete h 0x13 rDone []))) ∧
  (∀ (s : State) (t : Time) (h : CmdHdr) (k : Nat) (x : Lane), s.mayCommand h true → laneOf k = some x →
    (s.lane x).vote ≠ .latched →
    exec (.laneRelease t h k) s = .next ((s.begun t h).complete h 0x13 rDone []))) ∧
  ((∀ (s : State) (t : Time) (h : CmdHdr), s.mayCommand h true →
    exec (.reset t h 0) s = .next (((s.begun t h).complete h 0x14 rDone []).assertReset .remote
      (((s.begun t h).complete h 0x14 rDone []).fused .remote))) ∧
  (∀ (s : State) (t : Time) (h : CmdHdr) (n : Nat), s.mayCommand h true → n = 2 ∨ n = 3 →
    exec (.reset t h n) s = .next (((s.begun t h).complete h 0x14 rDone []).assertReset .remote n)) ∧
  (∀ (s : State) (t : Time) (h : CmdHdr) (n : Nat), s.mayCommand h true → n ≠ 0 → n ≠ 2 → n ≠ 3 →
    exec (.reset t h n) s = .next ((s.begun t h).complete h 0x14 rBadOperand []))) ∧
  (∀ (s : State) (t : Time) (h : CmdHdr) (all : Bool) (n : Nat), s.mayCommand h true → all = true ∨ (s.flt.src n).isSome = true →
    exec (.clearFault t h all n) s = .next (({ s.begun t h with flt :=
      { s.flt with srcs := s.flt.srcs.map (fun (x : FltSource) => if all || x.code == n then { x with pend := false } else x) } }).complete
        h 0x21 rDone []))

/-- SET_TIME sets wall time; a first setting, and one that differs from the running wall time by more than 100 ms, writes a
WALL_JUMP record of the old and the new time, and no other does (R501, R502).
EXPEL at the speaker ends the partner's enrolment with REASON 0 (R349); BERT_INSTALL at the head owes the test (R434); a
conductor that is not speaker, or not head, refuses it (the model's choice, log entry 45).
BARROW_CLEAR passes Idsol and then clears the targets (R514); it is refused before restoration completes. TRUST is judged by
its own signature: DONE when Idsol accepts it, FAILED with the VERIFY detail when it does not (R522). -/
def Obligations.TimeMembersAndTrust : Prop :=
  ((∀ (s : State) (t : Time) (h : CmdHdr) (w : Nat), s.mayCommand h true → w < 2 ^ 64 → s.brw.wall = none →
    exec (.setTime t h w) s = .next ((({ s.begun t h with brw := { s.brw with wall := some (w, max s.now t) } }).stage 0x05 0
      (leBytes 8 0 ++ leBytes 8 w)).complete h 0x22 rDone [])) ∧
  (∀ (s : State) (t : Time) (h : CmdHdr) (w w0 : Nat) (t0 : Time), s.mayCommand h true → w < 2 ^ 64 → s.brw.wall = some (w0, t0) →
    exec (.setTime t h w) s = .next (
      let old := w0 + (max s.now t - t0)
      let s1 := { s.begun t h with brw := { s.brw with wall := some (w, max s.now t) } }
      (if old + 100000000 < w ∨ w + 100000000 < old then s1.stage 0x05 0 (leBytes 8 old ++ leBytes 8 w) else s1).complete
        h 0x22 rDone []))) ∧
  ((∀ (s : State) (t : Time) (h : CmdHdr) (p : Nat), s.mayCommand h true → 1 ≤ p → p ≤ 254 → s.frz.speaking = true →
    exec (.expel t h p) s = .next (((s.begun t h).expelPart p 0).complete h 0x23 rDone [])) ∧
  (∀ (s : State) (t : Time) (h : CmdHdr) (p : Nat), s.mayCommand h true → 1 ≤ p → p ≤ 254 → s.frz.speaking = false →
    exec (.expel t h p) s = .next ((s.begun t h).complete h 0x23 rRefused [])) ∧
  (∀ (s : State) (t : Time) (h : CmdHdr), s.mayCommand h true → s.htlUp = true → s.htl.head = some s.member →
    exec (.bertInstall t h) s = .next (({ s.begun t h with htl := { s.htl with bertOwed := true } }).complete h 0x24 rDone []))) ∧
  ((∀ (s : State) (t : Time) (h : CmdHdr) (k : Nat) (d : List Byte), s.mayCommand h true → 0 < k → k < 16 → s.idsOk = true →
    s.ids.storeOk = true → s.brw.anchored = true →
    exec (.barrowClear t h k d) s = .next ((((s.begun t h).verifyOk).barrowClear k h.epoch d).complete h 0x25 rDone [])) ∧
  (∀ (s : State) (t : Time) (h : CmdHdr) (k : Nat) (d : List Byte), s.mayCommand h true → 0 < k → k < 16 → s.idsOk = true →
    s.ids.storeOk = true → s.brw.anchored = false →
    exec (.barrowClear t h k d) s = .next (((s.begun t h).verifyOk).complete h 0x25 rRefused [])) ∧
  (∀ (s : State) (t : Time) (h : CmdHdr) (b v : List Byte), s.mayCommand h false →
    exec (.trust t h b v) s = .next (
      let r := (s.begun t h).trustCommand b v
      match r.1 with
      | none => r.2.complete h 0x26 rDone []
      | some d => r.2.complete h 0x26 rFailed [BitVec.ofNat 8 d])))

/-- CFG_OP starts the loader operation that its byte codes as CFG_CMD.OP does; an operation is refused while another runs, and
answers when it ends (R454 to R458, R568). A WRITE whose staging buffer lies beyond the memory stops the model.
FW_ACTIVATE makes the one STAGED slot TRYING with TRIES 0, and is REFUSED when no slot is STAGED or a slot is already TRYING
(R575). BUNDLE_DELETE removes a bundle that no program digests entry names (R568).
A transfer (R573): XFER_BEGIN opens one of each kind at most and answers its number; XFER_CHUNK lands its bytes at their
offset; XFER_END of a configuration image of the right length and digest sets CFG_SRC and CFG_LEN, and of any other leaves the
staging buffer cleared and answers FAILED. -/
def Obligations.ImagesAndFirmware : Prop :=
  ((∀ (s : State) (t : Time) (h : CmdHdr) (k : Nat) (op : CfgOp), s.mayCommand h true → cfgOpOf k = some op →
    (op = .write → s.cfg.op.isNone = true → s.cfg.src.toNat + s.cfg.len ≤ 30 * 2 ^ 30) →
    exec (.cfgOp t h k) s = .next ((s.begun t h).cfgCommand op (some h))) ∧
  (∀ (s : State) (t : Time) (h : CmdHdr) (k : Nat), s.mayCommand h true → cfgOpOf k = none →
    exec (.cfgOp t h k) s = .next ((s.begun t h).complete h 0x30 rBadOperand []))) ∧
  ((∀ (s : State) (t : Time) (h : CmdHdr), s.mayCommand h true → (s.nv.fw0.state = .trying ∨ s.nv.fw1.state = .trying) →
    exec (.fwActivate t h) s = .next ((s.begun t h).complete h 0x31 rRefused [])) ∧
  (∀ (s : State) (t : Time) (h : CmdHdr), s.mayCommand h true → s.nv.fw0.state ≠ .staged → s.nv.fw1.state ≠ .staged →
    exec (.fwActivate t h) s = .next ((s.begun t h).complete h 0x31 rRefused [])) ∧
  (∀ (s : State) (t : Time) (h : CmdHdr), s.mayCommand h true → s.nv.fw0.state = .staged → s.nv.fw1.state ≠ .staged →
    s.nv.fw1.state ≠ .trying →
    exec (.fwActivate t h) s = .next (({ s.begun t h with nv :=
      { s.nv with fw0 := { s.nv.fw0 with state := .trying, tries := 0 } } }).complete h 0x31 rDone [])) ∧
  (∀ (s : State) (t : Time) (h : CmdHdr), s.mayCommand h true → s.nv.fw1.state = .staged → s.nv.fw0.state ≠ .staged →
    s.nv.fw0.state ≠ .trying →
    exec (.fwActivate t h) s = .next (({ s.begun t h with nv :=
      { s.nv with fw1 := { s.nv.fw1 with state := .trying, tries := 0 } } }).complete h 0x31 rDone [])) ∧
  (∀ (s : State) (t : Time) (h : CmdHdr) (d : List Byte), s.mayCommand h true → d.length = 48 →
    (∀ im, s.cfg.force = some im → Image.names im d = false) → (∀ im, s.cfg.staged = some im → Image.names im d = false) →
    exec (.bundleDelete t h d) s = .next (({ s.begun t h with nv :=
      { s.nv with bundles := s.nv.bundles.filter (fun b => b.1 != d) } }).complete h 0x32 rDone [])) ∧
  (∀ (s : State) (t : Time) (h : CmdHdr) (d : List Byte) (im : Image), s.mayCommand h true → d.length = 48 →
    (s.cfg.force = some im ∨ s.cfg.staged = some im) → Image.names im d = true →
    exec (.bundleDelete t h d) s = .next ((s.begun t h).complete h 0x32 rRefused []))) ∧
  ((∀ (s : State) (t : Time) (h : CmdHdr) (k n : Nat) (d : List Byte), s.mayCommand h true → 1 ≤ k → k ≤ 3 → d.length = 48 →
    0x208 ≤ n → n ≤ xferMax k → (∀ x ∈ s.mbx.xfers, x.kind ≠ k) →
    exec (.xferBegin t h k n d) s = .next (({ s.begun t h with mbx :=
      { (s.begun t h).mbx with
          xfers := s.mbx.xfers ++ [(⟨s.mbx.nextXfer % 2 ^ 32, k, n, d, h.mgr, h.epoch, [], 0⟩ : Xfer)]
          nextXfer := s.mbx.nextXfer % 2 ^ 32 + 1 } }).complete h 0x40 rDone (beBytes 4 (s.mbx.nextXfer % 2 ^ 32)))) ∧
  (∀ (s : State) (t : Time) (h : CmdHdr) (num off : Nat) (d : List Byte) (x : Xfer), s.mayCommand h false →
    s.mbx.xfers.find? (fun y => y.num == num) = some x → d ≠ [] → d.length ≤ 1012 → off + d.length ≤ x.length →
    exec (.xferChunk t h num off d) s = .next (((s.begun t h).landChunk x off d).complete h 0x41 rDone [])) ∧
  (∀ (s : State) (t : Time) (h : CmdHdr) (num : Nat) (x : Xfer), s.mayCommand h true →
    s.mbx.xfers.find? (fun y => y.num == num) = some x → x.kind = 1 →
    exec (.xferEnd t h num) s = .next (
      let s1 := { s.begun t h with mbx :=
        { (s.begun t h).mbx with xfers := s.mbx.xfers.filter (fun y => y.num != num) } }
      if x.extent = x.length ∧ Config.sha384 (x.data.readBytes 0 x.length) = x.digest then
        ({ s1 with cfg := { s.cfg with src := BitVec.ofNat 64 stagingAddr, len := x.length } }).complete h 0x42 rDone []
      else ({ s1 with ddr := s.ddr.writeBytes stagingAddr (List.replicate x.length 0) }).complete h 0x42 rFailed [])))

/-- READ returns `count` registers from an address, each read as R9 and R12 lay down, one after another; READ_OBJECT answers a
quote (R529) with the signed bytes and their signature, and the certificates of kind 3.
An unsigned command that must be signed is refused with BAD_SIGNATURE and has no effect; before the epoch is set every
command is answered NOT_READY; an earlier SENDER_EPOCH is refused with STALE_EPOCH; a command already executed is answered with its
stored result (R562, R563, R566, R568). -/
def Obligations.ReadsAndRefusals : Prop :=
  ((∀ (s : State) (t : Time) (h : CmdHdr) (a n : Nat), s.mayCommand h false → 1 ≤ n → n ≤ 64 →
    exec (.readRegisters t h a n) s = .next (
      (((s.begun t h).readRegs a n).2).complete h 0x01 rDone ((s.begun t h).readRegs a n).1)) ∧
  (∀ (s : State) (t : Time) (h : CmdHdr) (a n : Nat), s.mayCommand h false → n = 0 ∨ 64 < n →
    exec (.readRegisters t h a n) s = .next ((s.begun t h).complete h 0x01 rBadOperand [])) ∧
  (∀ (s : State) (t : Time) (h : CmdHdr), s.mayCommand h false →
    exec (.readObject t h [3]) s = .next ((s.begun t h).complete h 0x02 rDone Config.certificates)) ∧
  (∀ (s : State) (t : Time) (h : CmdHdr) (nonce : List Byte), s.mayCommand h false → nonce.length = 32 → s.idsOk = true →
    exec (.readObject t h (4 :: nonce)) s = .next ((s.begun t h).complete h 0x02 rDone ((s.begun t h).quote nonce)))) ∧
  ((∀ (s : State) (t : Time) (h : CmdHdr), s.mayCommand h false → h.signed = false →
    exec (.stopRelease t h) s = .next ((s.begun t h).complete h 0x12 rBadSignature [])) ∧
  (∀ (s : State) (t : Time) (h : CmdHdr), s.inRst .fabric = false → s.mbx.ready = false →
    exec (.hold t h) s = .next (((s.at_ t).countCmd h 0x10 rNotReady).sendReply h 0x10 rNotReady [])) ∧
  (∀ (s : State) (t : Time) (h : CmdHdr), s.inRst .fabric = false → s.mbx.ready = true → (s.mbx.mgr h.mgr).known = true →
    later (s.mbx.mgr h.mgr).epoch h.epoch = true →
    exec (.hold t h) s = .next (((s.at_ t).countCmd h 0x10 rStaleEpoch).sendReply h 0x10 rStaleEpoch [])) ∧
  (∀ (s : State) (t : Time) (h : CmdHdr) (n code r : Nat) (p : List Byte), s.inRst .fabric = false → s.mbx.ready = true →
    (s.mbx.mgr h.mgr).known = true → (s.mbx.mgr h.mgr).epoch = h.epoch → (s.mbx.mgr h.mgr).lastSeq = some n → h.seq ≤ n →
    (s.mbx.mgr h.mgr).results.find? (fun r => r.1 == h.seq) = some (h.seq, code, r, p) →
    exec (.hold t h) s = .next ((s.at_ t).sendReply h code r p)))

/-- A misaligned access or one of another width than 32 bits, an access into an island in reset, and an access to an address
without a register complete with no effect on any register: a read returns 0, and REG_ACCESS is reported with the address and
DETAIL 0, 3 or 1 (R9, R70).
A write to an RWL register after bring-up changes none of its fields and is reported with DETAIL 2 (R7, R9). -/
def Obligations.AccessesRefused : Prop :=
  (∀ (s : State) (t : Time) (a w : Nat) (v : Word) (d : Nat),
    ((w ≠ 32 ∨ a % 4 ≠ 0) ∧ d = 0) ∨
    (w = 32 ∧ a % 4 = 0 ∧ (s.at_ t).regUp a = false ∧ d = 3) ∨
    (w = 32 ∧ a % 4 = 0 ∧ (s.at_ t).regUp a = true ∧ (s.at_ t).readReg a = none ∧ d = 1) →
    exec (.badRegisterRead t a w) s = .next { (s.at_ t).report 0x200 0x01 a d with busRead := 0 } ∧
    exec (.registerWrite t a w v) s = .next ((s.at_ t).report 0x200 0x01 a d)) ∧
  (∀ (s : State) (t : Time) (v : Word), s.core.bringup = false → s.inRst .fabric = false →
    exec (.registerWrite t 0x00200004 32 v) s = .next ((s.at_ t).report 0x200 0x01 0x00200004 2) ∧
    exec (.registerWrite t 0x00100030 32 v) s = .next ((s.at_ t).report 0x200 0x01 0x00100030 2) ∧
    (∀ c, (s.flt.src c).isSome = true → c < 0x1000 →
      exec (.registerWrite t (0x00204000 + 4 * c) 32 v) s = .next ((s.at_ t).report 0x200 0x01 (0x00204000 + 4 * c) 2) ∧
      exec (.registerWrite t (0x00208000 + 4 * c) 32 v) s = .next ((s.at_ t).report 0x200 0x01 (0x00208000 + 4 * c) 2)))

/-- A read of a _LO register returns the low half and latches the high half of the same sample, and the _HI register then shows
that half (R12); nothing else changes, but that FLT_MSG_LO also removes its message.
Writes take effect by their access codes (R7): 1 clears a W1C bit and 0 leaves it; an RW field stores the value; an RO
register ignores it; nothing else changes. -/
def Obligations.ReadsAndWrites : Prop :=
  (∀ (s : State) (t : Time) (a : Nat) (w hi : Word), a ∈ loRegisters → (s.at_ t).regUp a = true →
    (s.at_ t).readReg a = some w → (s.at_ t).hiHalf a = some hi →
    ∃ s', exec (.loReadLatch t a) s = .next s' ∧ s'.busRead = w ∧ s'.readReg (a + 4) = some hi ∧
      s'.latches = insertKey s.latches (a + 4) hi ∧
      s'.flt = (if a = 0x00200008 then { s.flt with queue := s.flt.queue.drop 1 } else s.flt) ∧
      sameStage s s' ∧ sameSward s s' ∧ sameRow s s' ∧ sameAon s s' ∧ s'.brw = s.brw ∧ sameMgmt s s' ∧ sameStore s s' ∧
      s'.pending = s.pending ∧ s'.closed = s.closed ∧ s'.free = s.free) ∧
  (∀ (s : State) (t : Time) (v : Word), s.inRst .fabric = false →
    exec (.registerWrite t 0x003C0004 32 v) s =
      .next { s.at_ t with vot := { s.vot with event := s.vot.event &&& ~~~(v.setWidth 11) } } ∧
    exec (.registerWrite t 0x0040000C 32 v) s =
      .next { s.at_ t with pool := { s.pool with event := s.pool.event &&& ~~~(v.setWidth 10) } } ∧
    exec (.registerWrite t 0x00500010 32 v) s =
      .next { s.at_ t with fes := { s.fes with event := s.fes.event &&& ~~~(v.setWidth 14) } } ∧
    exec (.registerWrite t 0x00700004 32 v) s =
      .next { s.at_ t with ccd := { s.ccd with event := s.ccd.event &&& ~~~(v.setWidth 10) } } ∧
    exec (.registerWrite t 0x00200014 32 v) s =
      .next { s.at_ t with flt := { s.flt with intStatus := s.flt.intStatus &&& ~~~(v.setWidth 16) } } ∧
    exec (.registerWrite t 0x00200018 32 v) s = .next { s.at_ t with flt := { s.flt with intEnable := v.setWidth 16 } } ∧
    exec (.registerWrite t 0x00C00040 32 v) s =
      .next { s.at_ t with mbx := { s.mbx with stepModule := field v 7 4, stepShelf := field v 3 0 } } ∧
    exec (.registerWrite t 0x00C00004 32 v) s = .next (s.at_ t) ∧
    exec (.registerWrite t 0x00700000 32 v) s = .next (s.at_ t) ∧
    exec (.registerWrite t 0x00500000 32 v) s = .next (s.at_ t))

/-- A COMMAND that arrives for this conductor over a session of the running firmware, bearing the kept epoch and the conductor's
own, signed and verified, is posted behind the others and ends the silence; a full mailbox answers BUSY, and a receiver epoch that
is 0 or another answers WRONG_EPOCH with an EPOCH message and posts nothing (R563, R565).
The fabric executes the command posted first, of either mailbox, and takes it out (R565): HOLD and STOP_RELEASE of a mailbox
have the effect of their rows, an operand of the wrong length is BAD_OPERAND and a code not listed UNKNOWN (R568).
A command relayed over Heathline leaves the delivery queue and is judged and posted as one that arrives directly, with its
relaying member; a reply on its way back is sent on to the manager; before bring-up ends it waits (R435, R567). -/
def Obligations.MailboxesExecute : Prop :=
  (∀ (s : State) (t : Time) (m : CmdMsg), s.inRst .mgmt = false → s.inRst .fabric = false → s.mbx.fwRunning = true →
    m.hdr.session = true → msgFits m = true → s.mbx.ready = true → (s.mbx.mgr m.hdr.mgr).known = true →
    (s.mbx.mgr m.hdr.mgr).epoch = m.hdr.epoch → m.target = s.member → m.signed = true →
    (m.hdr.receiver ≠ 0 → m.hdr.receiver = s.mbx.epoch →
      (s.at_ t).heard.judge 5 m.signer m.message m.signature none = none → s.mbx.pendingOf m.hdr.mgr < 64 →
      exec (.commandExecution t (.arrive m)) s = .next (
        let u := (s.at_ t).heard.verifyOk
        { u with mbx := { u.mbx with box := u.mbx.box ++
          [(⟨m.hdr.mgr, m.hdr.epoch, m.hdr.seq, m.code, false, 0, true, m.operand⟩ : Posted)] } })) ∧
    (m.hdr.receiver = 0 ∨ m.hdr.receiver ≠ s.mbx.epoch →
      exec (.commandExecution t (.arrive m)) s = .next (
        ((s.at_ t).turnAway ⟨m.hdr.mgr, m.hdr.epoch, m.hdr.seq, false, 0, true⟩ m.code rWrongEpoch).sendEpoch
          m.hdr.mgr m.hdr.seq))) ∧
  (∀ (s : State) (t : Time) (p : Posted) (rest : List Posted), s.inRst .fabric = false → s.mbx.box = p :: rest →
    let s1 := { s.at_ t with mbx := { s.mbx with box := rest } }
    let h : CmdHdr := ⟨p.mgr, p.epoch, p.seq, p.relayed, p.relay, p.signed⟩
    (p.code = 0x10 → p.payload = [] → exec (.commandExecution t .execute) s = exec (.hold s1.now h) s1) ∧
    (p.code = 0x12 → p.payload = [] → exec (.commandExecution t .execute) s = exec (.stopRelease s1.now h) s1) ∧
    (p.code = 0x13 → ∀ b, p.payload = [b] →
      exec (.commandExecution t .execute) s = exec (.laneRelease s1.now h b.toNat) s1) ∧
    (p.code = 0x22 → p.payload.length = 8 →
      exec (.commandExecution t .execute) s = exec (.setTime s1.now h (ofBe p.payload)) s1) ∧
    (signedCode p.code = none → s1.mayCommand h false →
      exec (.commandExecution t .execute) s = .next ((s1.begun s1.now h).complete h p.code rUnknown []))) ∧
  ((∀ (s : State) (t : Time) (m : CmdMsg) (relay : Nat), s.inRst .fabric = false → s.inRst .htlFrz = false →
    s.core.bringup = false → msgFits m = true → m.target = (s.at_ t).member →
    exec (.commandRecord t (.command m relay)) s = .next (((s.at_ t).takeInbox 0x05).postCommand m (some relay))) ∧
  (∀ (s : State) (t : Time) (g : Mgr) (code ref result : Nat) (p : List Byte), s.inRst .fabric = false →
    s.inRst .htlFrz = false → s.core.bringup = false →
    exec (.commandRecord t (.reply g code ref result p)) s =
      .next (((s.at_ t).takeInbox 0x05).sendMsg .reply g code ref result p)) ∧
  (∀ (s : State) (t : Time) (x : RelayRec), s.inRst .fabric = false → s.core.bringup = true →
    exec (.commandRecord t x) s = .next (s.at_ t)))

/-- The conductor's epoch is PCC[15:0] × 2¹⁶ + RST_COUNT_L4[15:0], set once bring-up has ended and Barrow has anchored, and
announced to both managers (R562).
A HEARTBEAT over a session, bearing the kept epoch and no wrong receiver epoch, is answered with an EPOCH message that carries
the epoch, MBX_STATUS and AON_MODE (R561).
A client whose certificate key is a MANAGER role key of the trust store gets a session, and any other client none (R559). -/
def Obligations.EpochsAndSessions : Prop :=
  (∀ (s : State) (t : Time), s.inRst .fabric = false → s.core.bringup = false → s.brw.anchored = true → s.mbx.ready = false →
    ∃ s', exec (.epochSet t) s = .next s' ∧ s'.mbx.ready = true ∧
      s'.mbx.epoch = s.core.pcc % 65536 * 65536 + s.core.countL4.toNat % 65536 ∧
      (s.mbx.fwRunning = true → s'.mbx.sent.length = s.mbx.sent.length + 2) ∧
      sameStage s s' ∧ sameSward s s' ∧ sameRow s s' ∧ sameAon s s' ∧ sameLog s s' ∧ sameStore s s' ∧ sameBus s s') ∧
  (∀ (s : State) (t : Time) (m : MsgHdr), s.inRst .mgmt = false → s.mbx.fwRunning = true → m.session = true → m.version = 1 →
    m.length ≤ 1024 → s.mbx.ready = true → (s.mbx.mgr m.mgr).known = true → (s.mbx.mgr m.mgr).epoch = m.epoch →
    m.receiver = 0 ∨ m.receiver = s.mbx.epoch →
    exec (.heartbeat t m) s = .next (
      let u := (s.at_ t).heard
      { u with mbx := { u.mbx with
          sent := u.mbx.sent ++ [⟨.epoch, m.mgr, 0, u.mbx.txSeq, m.seq, 0,
            beBytes 4 u.mbx.epoch ++ beBytes 4 u.mbxStatus.toNat ++ beBytes 4 u.aonMode.toNat⟩]
          txSeq := u.mbx.txSeq + 1 } })) ∧
  (∀ (s : State) (t : Time) (g : Mgr) (b : Bool) (key : List Byte), s.inRst .mgmt = false → s.mbx.fwRunning = true →
    s.ids.storeOk = true →
    ∃ s', exec (.dtlsHandshake t g b key) s = .next s' ∧
      ((∃ k ∈ s.nv.trust.keys, k.role = 4 ∧ k.hash = key) → (s'.mbx.mgr g).session = true ∧ s'.mbx.fwSession = true) ∧
      ((∀ k ∈ s.nv.trust.keys, ¬(k.role = 4 ∧ k.hash = key)) → s'.mbx = s.mbx) ∧
      sameStage s s' ∧ sameSward s s' ∧ sameRow s s' ∧ sameAon s s' ∧ sameLog s s' ∧ sameStore s s' ∧ sameBus s s')

/-- Silence of both managers for `mgmt.silent_time` sets ALONE and writes its record; the hold state, the rack cap and the mailboxes
stay as they are (R572).
The STATUS item of R570 has 17 words of 4 bytes and goes on its way as R571 lays down. -/
def Obligations.SilenceAndStatus : Prop :=
  (∀ (s : State) (t : Time), s.inRst .fabric = false → s.mbx.ready = true → s.mbx.alone = false →
    s.mbx.lastMsg + s.fldN .mgmtSilentTime * 1000000000 ≤ max s.now t →
    ∃ s', exec (.alone t) s = .next s' ∧ s'.mbx.alone = true ∧ s'.mbx.held = s.mbx.held ∧ s'.mbx.box = s.mbx.box ∧
      s'.ccd = s.ccd ∧ sameStage s s' ∧ sameSward s s' ∧ s'.frz = s.frz ∧ sameAon s s' ∧ sameStore s s' ∧ s'.cfg = s.cfg ∧
      s'.ids = s.ids) ∧
  (∀ (s : State) (t : Time), s.inRst .fabric = false → s.core.bringup = false →
    (s.at_ t).statusWords.length = 17 ∧
    exec (.telemetryStatus t) s =
      .next ((s.at_ t).item 1 ((s.at_ t).statusWords.flatMap (fun (w : Word) => beBytes 4 w.toNat))))

/-- BRINGUP_END ends bring-up and takes HELD with cause NO_IMAGE where no image is in force, else FALLOW with cause IMAGE_STARTED
and, where a condition for STOPPED holds, STOPPED in the same evaluation, so that AON_MODE counts two transitions (R25, R477, R589).
FABRIC_MODE_EVALUATION with no vote formed: a hold command takes HELD from every other mode and is evaluated before all else;
a release command takes HELD to FALLOW with an image in force and no condition for STOPPED; in HELD with neither, the mode stays
(R20, R22, R23, R589). -/
def Obligations.ModesWithoutVote : Prop :=
  (∀ (s : State) (t : Time), (s.at_ t).bringupDue = true →
    ∃ s', exec (.bringupEnd t) s = .next s' ∧ s'.core.bringup = false ∧ s'.core.mgmtLate = !s.mbx.fwRunning ∧
      s'.core.bringupMs = min 65535 ((max s.now t - s.core.bringupStart) / 1000000) ∧
      (s.cfg.force = none → s'.aon.mode = .held ∧ s'.aon.cause = .noImage ∧ s'.aon.prevMode = s.aon.mode ∧
        s'.aon.count = s.aon.count + 1) ∧
      (s.cfg.force.isSome = true → s.stopCause = none → s'.aon.mode = .fallow ∧ s'.aon.cause = .imageStarted ∧
        s'.aon.prevMode = s.aon.mode ∧ s'.aon.count = s.aon.count + 1) ∧
      (s.cfg.force.isSome = true → s.stopCause = some .stageKill → s'.aon.mode = .stopped ∧ s'.aon.cause = .stageKill ∧
        s'.aon.prevMode = .fallow ∧ s'.aon.count = s.aon.count + 2) ∧
      s'.nv = s.nv ∧ s'.ddr = s.ddr ∧ s'.cfg = s.cfg ∧ s'.pending = s.pending) ∧
  (∀ (s : State) (t : Time), s.inRst .fabric = false → s.vot.formed = false → s.core.bringup = false →
    (s.aon.mode ≠ .held → s.vot.holdCond = true →
      ∃ s', exec (.fabricModeEvaluation t) s = .next s' ∧ s'.aon = { s.aon with
          mode := .held, prevMode := s.aon.mode, cause := .holdCommand, count := s.aon.count + 1, modeTime := (s.at_ t).opMs } ∧
        s'.plan.force = none ∧ s'.pool.stageRun = false ∧ s'.vot.holdCond = false ∧ sameStore s s' ∧ sameSward s s' ∧
        s'.cfg = s.cfg ∧ s'.ids = s.ids) ∧
    (s.aon.mode = .held → s.vot.holdCond = false → s.vot.releaseCond = true → s.inForce = true → s.stopCause = none →
      ∃ s', exec (.fabricModeEvaluation t) s = .next s' ∧ s'.aon = { s.aon with
          mode := .fallow, prevMode := .held, cause := .holdReleased, count := s.aon.count + 1, modeTime := (s.at_ t).opMs } ∧
        s'.plan.force = none ∧ s'.pool.testing = true ∧ s'.vot.releaseCond = false ∧ sameStore s s' ∧ s'.lex = s.lex ∧
        s'.swd = s.swd ∧ s'.swm = s.swm ∧ s'.cfg = s.cfg ∧ s'.ids = s.ids) ∧
    (s.aon.mode = .held → s.vot.releaseCond = false → s.vot.holdCond = false → (s.at_ t).gridLossDue = false →
      ∃ v p, exec (.fabricModeEvaluation t) s = .next { s.at_ t with vot := v, plan := p } ∧
        v = { s.vot with shedCond := false, restartCond := false } ∧ p.force = s.plan.force))

/-- STOP_CLEARED takes STOPPED to FALLOW once the conditions of R26 have held for limits.stop_hold, opens the recovery watch and
sets recharge; STOP_WATCH_END ends a watch of one hour, and the restart count returns to 0 when STOPPED was not entered in it (R26,
R27).
GRID_LOSS shows the grid absent and takes FALLOW and CONDUCTING to BRIDGING with cause GRID_LOST, and no other mode anywhere;
GRID_RETURN shows it present and, in BRIDGING, owes re-engagement at the next boundary; GRID_RESTORED takes BRIDGING to FALLOW
after 400 covered periods (R180, R182, R183). -/
def Obligations.ModesOfGridAndStop : Prop :=
  ((∀ (s : State) (t : Time), s.inRst .fabric = false → (s.at_ t).stopClearedDue = true →
    ∃ s', exec (.stopCleared t) s = .next s' ∧ s'.aon = { s.aon with
        mode := .fallow, prevMode := .stopped, cause := .stopCleared, count := s.aon.count + 1, modeTime := (s.at_ t).opMs
        stopWatch := some ⟨(s.at_ t).opMs, false⟩ } ∧
      s'.fes.recharge = true ∧ s'.pool.testing = true ∧ s'.vot = s.vot ∧ sameStore s s' ∧ sameSward s s' ∧ s'.cfg = s.cfg ∧
      s'.ids = s.ids) ∧
  (∀ (s : State) (t : Time) (w : StopWatch), s.inRst .aon = false → s.aon.stopWatch = some w →
    (w.start + 3600000 ≤ (s.at_ t).opMs → exec (.stopWatchEnd t) s = .next { s.at_ t with aon :=
      { s.aon with stopWatch := none, restarts := if w.entered then s.aon.restarts else 0 } }) ∧
    ((s.at_ t).opMs < w.start + 3600000 → exec (.stopWatchEnd t) s = .next (s.at_ t)))) ∧
  ((∀ (s : State) (t : Time), s.inRst .fabric = false → s.vot.formed = true → (s.at_ t).gridLossDue = true →
    ∃ s', exec (.gridLoss t) s = .next s' ∧ s'.fes.gridPresent = false ∧ s'.fes.reengage = false ∧ s'.fes.covered = 0 ∧
      (s.aon.mode = .fallow ∨ s.aon.mode = .conducting → s'.fes.ref = 0 ∧ s'.aon = { s.aon with
        mode := .bridging, prevMode := s.aon.mode, cause := .gridLost, count := s.aon.count + 1, modeTime := (s.at_ t).opMs }) ∧
      (s.aon.mode ≠ .fallow → s.aon.mode ≠ .conducting → s'.aon = s.aon) ∧ s'.pool = s.pool ∧ s'.vot = s.vot ∧
      s'.plan = s.plan ∧ sameSward s s' ∧ sameStore s s' ∧ s'.cfg = s.cfg ∧ s'.ids = s.ids) ∧
  (∀ (s : State) (t t0 : Time), s.inRst .fabric = false → s.vot.formed = true → s.fes.gridPresent = false →
    s.fes.inService ≠ [] → s.fes.sagSince = none → s.fes.shortSince = none → s.fes.returnSince = some t0 →
    t0 + s.lfldN .frontendReturnTime * 10000000 ≤ max s.now t →
    ∃ f, exec (.gridReturn t) s = .next { s.at_ t with fes := f } ∧ f.gridPresent = true ∧ f.event.getLsbD 1 = true ∧
      f.reengageOwed = (s.aon.mode == .bridging) ∧ f.ref = s.fes.ref ∧ f.rects = s.fes.rects ∧ f.strs = s.fes.strs ∧
      f.target = s.fes.target) ∧
  (∀ (s : State) (t : Time), s.inRst .fabric = false → s.vot.formed = true → s.aon.mode = .bridging → s.fes.reengage = true →
    400 ≤ s.fes.covered →
    ∃ s', exec (.gridRestored t) s = .next s' ∧ s'.aon = { s.aon with
        mode := .fallow, prevMode := .bridging, cause := .gridRestored, count := s.aon.count + 1, modeTime := (s.at_ t).opMs } ∧
      s'.fes.recharge = true ∧ s'.fes.event.getLsbD 2 = true ∧ s'.fes.reengage = false ∧ s'.pool = s.pool ∧ s'.vot = s.vot ∧
      sameSward s s' ∧ sameStore s s' ∧ s'.cfg = s.cfg ∧ s'.ids = s.ids))

/-- VOTED_MARK with every strobe in time counts the mark, opens the next period at its instant and takes what the period measured:
mean grid power, the mean of the voting lanes' bus means, mean storage voltages (R63, R81, R126). -/
def Obligations.VotedMarkOpensPeriod : Prop :=
  ∀ (s : State) (t : Time) (x : MarkIn), s.inRst .fabric = false → s.vot.formed = true → x.late = [] → x.silent = [] →
    (∀ y, (s.lane y).vote ≠ .latched) →
    ∃ s', exec (.votedMark t x) s = .next s' ∧ s'.vot.mark = s.vot.mark + 1 ∧ s'.vot.markAt = max s.now t ∧
      s'.vot.fresh = false ∧ s'.fes.period.grid = x.grid ∧ s'.fes.period.bus = meanRat (s.voting.map (busOf x)) ∧
      s'.fes.period.stoS = x.stoS ∧ s'.fes.period.stoB = x.stoB ∧ s'.nv.fuse = s.nv.fuse ∧ s'.ddr = s.ddr ∧
      s'.pending = s.pending

/-- PLANNING_TICK ends the tick before, missed when no vector of it was accepted, and begins the tick of number lanes' ring time /
250 µs with its basis record (R191, R192, R198); PLAN_RELEASE, from 2 µs after the mark, puts the newest vector written into the
plan vector channels once (R193).
The lanes take the vector that has arrived at a mark. One whose check word is wrong, whose format is, whose tick is over or
has no basis record, or whose SEQ repeats is rejected with verdict 2, 1, 4, 5 or 3: REJECTED counts it and no vector is put in force
by it. An accepted vector counts in ACCEPTED, its SEQ and its confidence run are kept, and in CONDUCTING, BRIDGING and STOPPED it
comes into force (R196 to R199, R201). -/
def Obligations.TicksAndVectors : Prop :=
  ((∀ (s : State) (t : Time), s.inRst .fabric = false → s.vot.formed = true → s.plan.tickDue = true →
    ∃ s', exec (.planningTick t) s = .next s' ∧ s'.plan.tick = s.plan.rounded / 250000 % 2 ^ 32 ∧ s'.plan.ticking = true ∧
      s'.plan.tickDue = false ∧ s'.plan.tickOk = false ∧ (∀ b ∈ s'.plan.basis.head?, b.tick = s'.plan.tick) ∧
      (s.plan.ticking = true → s.plan.tickOk = false → s'.plan.missed = s.plan.missed + 1 ∧ s'.plan.verdict = 13 ∧
        s'.plan.confRun = 0 ∧ s'.plan.missedRun = min 3 (s.plan.missedRun + 1)) ∧
      (s.plan.ticking = false ∨ s.plan.tickOk = true → s'.plan.missed = s.plan.missed ∧ s'.plan.verdict = s.plan.verdict) ∧
      s'.plan.accepted = s.plan.accepted ∧ s'.plan.rejected = s.plan.rejected ∧ s'.vot = s.vot ∧ sameStore s s') ∧
  (∀ (s : State) (t m : Time) (w : List Word), s.inRst .planning = false → s.emit.markAt = some m → s.emit.written = some w →
    s.emit.done = false → s.vot.formed = true → m + 2000 ≤ max s.now t → s.plan.chan = [] →
    (∃ x, Chan.planVector x ∉ s.closed) →
    exec (.planRelease t) s = .next { s.at_ t with
      emit := { s.emit with written := none, released := s.emit.released + 1, lastTick := w.getD 1 0, done := true }
      plan := { s.plan with chan := [w] } }) ∧
  (∀ (s : State) (t : Time), s.emit.done = true → exec (.planRelease t) s = .next (s.at_ t))) ∧
  ((∀ (s : State) (w : List Word) (rest : List (List Word)), s.plan.chan = w :: rest → s.aon.mode ≠ .held → s.verdict w ≠ 0 →
    (s.judgeVec).plan = { s.plan with chan := rest, seqRead := vecSeq w, verdict := s.verdict w, rejected := s.plan.rejected + 1
                                      rejectSeen := true } ∧ (s.judgeVec).ccd = s.ccd) ∧
  (∀ (s : State) (w : List Word), (vecCheckOk w = false → s.verdict w = 2) ∧
    (vecCheckOk w = true → vecFormatOk w = false → s.verdict w = 1) ∧
    (vecCheckOk w = true → vecFormatOk w = true → s.plan.ticking = true → older (vecTick w) s.plan.tick = true →
      s.verdict w = 4) ∧
    (vecCheckOk w = true → vecFormatOk w = true → s.plan.ticking = false → s.verdict w = 5)) ∧
  (∀ (s : State) (w : List Word) (rest : List (List Word)), s.plan.chan = w :: rest → s.aon.mode ≠ .held → s.verdict w = 0 →
    let p := (s.judgeVec).plan
    p.accepted = s.plan.accepted + 1 ∧ p.lastSeq = some (vecSeq w) ∧ p.tickOk = true ∧ p.missedRun = 0 ∧ p.chan = rest ∧
      p.confRun = (if vecConf w then min 255 (s.plan.confRun + 1) else 0) ∧
      p.unconfRun = (if vecConf w then 0 else min 255 (s.plan.unconfRun + 1)) ∧
      p.force = (if s.aon.mode = .fallow then s.plan.force else some w)) ∧
  (∀ (s : State) (w : List Word) (rest : List (List Word)), s.plan.chan = w :: rest → s.aon.mode = .held →
    s.judgeVec = { s with plan := { s.plan with chan := rest } }))

/-- DAC_UPDATE, every 50 ns: the target of a lane that votes or runs in shadow moves to its endpoint, rounded to whole µV, by no
more than a twentieth of loadline.slew volts per 1000 updates, and is 0 while the stage is not started (R84, R85, R120);
nothing but the converter and the lanes changes.
SETPOINT_STEP: with no frame to carry the links go to high impedance and nothing else changes; otherwise every fitted module's
link carries one frame of the type R153 gives, with its own sequence number, which then advances, and with a current of 0 but for
an IN_SERVICE module in a REFERENCE frame (R151 to R153, R158). -/
def Obligations.TargetsAndSetpoints : Prop :=
  (∀ (s : State) (t : Time) (x : DacIn), s.inRst .fabric = false → s.vot.formed = true →
    ∃ p la lb lc, exec (.dacUpdate t x) s = .next { s.at_ t with pool := p, laneA := la, laneB := lb, laneC := lc } ∧
      p.samples = ⟨x.busA, x.busB, x.busC, x.stoS, x.stoB⟩ ∧
      (∀ l l', (l, l') ∈ [(s.laneA, la), (s.laneB, lb), (s.laneC, lc)] →
        (l.vote.compared = false → l' = l) ∧
        (l.vote.compared = true →
          l'.target = (if s.pool.stageRun then
            towards l.target ((roundEven (1000000 * l.endpoint) : Rat) / 1000000) ((s.lfld .loadlineSlew : Rat) / 20000) else 0) ∧
          l'.tSum = l.tSum + l'.target ∧ l'.tCount = l.tCount + 1 ∧ l'.endpoint = l.endpoint ∧ l'.vote = l.vote))) ∧
  (∀ (s : State) (t : Time) (agreed : Bool), s.inRst .fabric = false →
    ((s.at_ t).linkType agreed = 0 →
      exec (.setpointStep t agreed) s = .next { s.at_ t with fes := { s.fes with link := 0 } }) ∧
    ((s.at_ t).linkType agreed ≠ 0 →
      ∃ s', exec (.setpointStep t agreed) s = .next s' ∧ s'.fes.link = (s.at_ t).linkType agreed ∧
        (∀ k, k < 6 → (s.fes.rect k).state ≠ 0 →
          (s'.fes.rect k).seq = ((s.fes.rect k).seq + 1) % 16 ∧
          ∃ i, (s'.fes.rect k).frame = frame s'.fes.link (s.fes.rect k).seq i s.aon.mode.code k ∧
            (s'.fes.link ≠ 1 ∨ (s.fes.rect k).state ≠ 1 → i = 0)) ∧
        (∀ k, k < 6 → (s.fes.rect k).state = 0 → s'.fes.rect k = s.fes.rect k) ∧
        s'.fes.strs = s.fes.strs ∧ s'.fes.period = s.fes.period ∧ s'.pool = s.pool ∧ s'.vot = s.vot ∧ s'.plan = s.plan ∧
        s'.aon = s.aon ∧ sameSward s s' ∧ sameStore s s'))

/-- A gate disagreement of a compared lane counts once per period and lane and gate: total, window, VOT_LAST; with three lanes
voting and fewer than lanes.fence_n in the window nothing else changes. With two lanes voting a gate disagreement of a voting lane
sets the stop latch and drives every gate low (R127, R128, R132, R140).
SNAPSHOT_JUDGEMENT of three voting lanes: with all pairs in agreement no lane disagrees; with one lane outvoted by the two
others that lane has a snapshot disagreement; with no two in agreement the stage stops (R131, R140). -/
def Obligations.DisagreementsCounted : Prop :=
  ((∀ (s : State) (t : Time) (x : Lane) (g : Nat), s.inRst .fabric = false → s.vot.formed = true → s.vot.stopLatch = false →
    g < 64 → (s.lane x).vote = .voting → s.voting.length = 3 → g ∉ (s.lane x).counted → s.killFree = true →
    s.windowCount x + 1 < s.lfldN .lanesFenceN →
    ∃ l, exec (.gateDisagreement t x g) s = .next { (s.at_ t).updLane x (fun _ => l) with vot :=
        { s.vot with lastLane := x.num, lastKind := 0, lastGate := g, lastSection := 0, lastMark := s.vot.mark.toNat } } ∧
      l.total = (s.lane x).total + 1 ∧ l.counted = g :: (s.lane x).counted ∧ l.vote = .voting ∧ l.fences = (s.lane x).fences) ∧
  (∀ (s : State) (t : Time) (x : Lane) (g : Nat), s.inRst .fabric = false → s.vot.formed = true → g < 64 →
    g ∈ (s.lane x).counted → (∀ y, (s.lane y).vote ≠ .latched) → s.stopCause = none →
    exec (.gateDisagreement t x g) s = .next (s.at_ t)) ∧
  (∀ (s : State) (t : Time) (x : Lane) (g : Nat), s.inRst .fabric = false → s.vot.formed = true → s.vot.stopLatch = false →
    g < 64 → (s.lane x).vote = .voting → s.voting.length = 2 → g ∉ (s.lane x).counted → (∀ y, (s.lane y).vote ≠ .latched) →
    ∃ s', exec (.gateDisagreement t x g) s = .next s' ∧ s'.vot.stopLatch = true ∧ s'.vot.formed = false ∧ s'.fes.link = 0 ∧
      (∀ l ∈ s'.pool.legs, l.drive = .off) ∧
      (s.aon.mode.live = true → s'.aon.mode = .stopped ∧ s'.aon.cause = .laneDisagree ∧ s'.aon.prevMode = s.aon.mode) ∧
      (s.aon.mode.live = false → s'.aon = s.aon) ∧ s'.nv.fuse = s.nv.fuse ∧ s'.ddr = s.ddr)) ∧
  ((∀ (s : State) (t : Time), s.inRst .fabric = false → s.vot.formed = true → s.voting.length = 3 → s.stopCause = none →
    ∃ a b c, exec (.snapshotJudgement t .agree .agree .agree) s = .next { s.at_ t with laneA := a, laneB := b, laneC := c } ∧
      a = { s.laneA with snapOk := true } ∧ b = { s.laneB with snapOk := true } ∧ c = { s.laneC with snapOk := true }) ∧
  (∀ (s : State) (t : Time) (k : Nat), s.inRst .fabric = false → s.vot.formed = true → s.voting.length = 3 →
    s.vot.stopLatch = false → s.killFree = true → 65 ∉ s.laneC.counted → s.windowCount .c + 1 < s.lfldN .lanesFenceN →
    ∃ a b c v, exec (.snapshotJudgement t .agree (.differ k) (.differ k)) s =
        .next { s.at_ t with laneA := a, laneB := b, laneC := c, vot := v } ∧
      c.total = s.laneC.total + 1 ∧ c.snapOk = false ∧ a.total = s.laneA.total ∧ b.total = s.laneB.total ∧
      v.lastLane = 2 ∧ v.lastKind = 2 ∧ v.lastSection = k ∧ v.stopLatch = false) ∧
  (∀ (s : State) (t : Time) (k : Nat), s.inRst .fabric = false → s.vot.formed = true → s.voting.length = 3 →
    s.vot.stopLatch = false →
    ∃ s', exec (.snapshotJudgement t (.differ k) (.differ k) (.differ k)) s = .next s' ∧ s'.vot.stopLatch = true ∧
      s'.vot.formed = false ∧ (∀ l ∈ s'.pool.legs, l.drive = .off) ∧ s'.nv.fuse = s.nv.fuse ∧ s'.ddr = s.ddr))

/-- LANE_READY of a lane out of reset whose retained copy passes its CRC marks it ready, and one whose copy fails raises
RETAINED_CRC and holds the lane by its fence source; at the wait's end the vote forms of the ready lanes when there are at least two,
with mark 0 and the stop latch clear, else the stop latch is set (R144, R453).
STAGE_KILL: the line's fall sets the kill latch and drives every gate low, and takes a live mode to STOPPED with cause
STAGE_KILL; its rise begins the microsecond the latch asks for. LANE_WATCHDOG: a voting or shadow lane that has raised no strobe
for 80 µs asserts its watchdog source at the fused level (R145, R146, R468). -/
def Obligations.VoteFormsAndStops : Prop :=
  ((∀ (s : State) (t : Time) (x : Lane), s.inRst .fabric = false → s.inRst (.lane x) = false → (s.lane x).clockFailed = false →
    (s.lane x).ready = false → s.cfg.lane.isSome = true → (s.lane x).vote ≠ .latched → s.vot.formed = true →
    exec (.laneReady t x true) s = .next ((s.at_ t).updLane x (fun l => { l with ready := true, awaitingMark := true }))) ∧
  (∀ (s : State) (t : Time) (x : Lane), s.inRst .fabric = false → s.inRst (.lane x) = false → (s.lane x).clockFailed = false →
    (s.lane x).ready = false → s.cfg.lane.isSome = true → (s.lane x).vote ≠ .latched →
    exec (.laneReady t x false) s = .next
      ((({ s.at_ t with cfg := { s.cfg with retainedOk := false } }).report 0xB03 0x71 0).assertSource (.fence x)
        (s.fused (.fence x)) [x] true)) ∧
  (∀ (s : State) (t t0 : Time), s.inRst .fabric = false → s.vot.formed = false → s.vot.waitSince = some t0 →
    t0 + s.lfldN .lanesFormationWait * 100000 ≤ max s.now t → 2 ≤ (s.awaited.filter (fun x => (s.lane x).ready)).length →
    s.aon.mode.live = false →
    ∃ s', exec (.formationWaitExpiry t) s = .next s' ∧ s'.vot.formed = true ∧ s'.vot.stopLatch = false ∧ s'.vot.mark = 0 ∧
      s'.vot.waitSince = none ∧
      (∀ x, (x ∈ s.awaited ∧ (s.lane x).ready = true → (s'.lane x).vote = .voting) ∧
        (x ∉ s.awaited ∨ (s.lane x).ready = false → s'.lane x = s.lane x)) ∧
      s'.aon = s.aon ∧ s'.fes = s.fes ∧ sameSward s s' ∧ sameStore s s') ∧
  (∀ (s : State) (t t0 : Time), s.inRst .fabric = false → s.vot.formed = false → s.vot.waitSince = some t0 →
    t0 + s.lfldN .lanesFormationWait * 100000 ≤ max s.now t → (s.awaited.filter (fun x => (s.lane x).ready)).length < 2 →
    s.aon.mode.live = false → s.vot.stopLatch = false →
    ∃ s', exec (.formationWaitExpiry t) s = .next s' ∧ s'.vot.formed = false ∧ s'.vot.stopLatch = true ∧ s'.laneA = s.laneA ∧
      s'.laneB = s.laneB ∧ s'.laneC = s.laneC ∧ s'.aon = s.aon ∧ sameSward s s' ∧ sameStore s s')) ∧
  ((∀ (s : State) (t : Time), s.inRst .fabric = false →
    ∃ s', exec (.stageKill t true) s = .next s' ∧ s'.pin.stageKill = true ∧ s'.vot.killLatch = true ∧
      s'.vot.event.getLsbD 9 = true ∧ (∀ l ∈ s'.pool.legs, l.drive = .off) ∧
      (s.aon.mode.live = true → s.vot.stopLatch = false → 2 ≤ s.voting.length →
        s'.aon.mode = .stopped ∧ s'.aon.cause = .stageKill ∧ s'.aon.prevMode = s.aon.mode) ∧
      (s.aon.mode.live = false → s'.aon = s.aon ∧ sameSward s s' ∧ sameRow s s' ∧ sameLog s s' ∧ sameMgmt s s' ∧
        sameStore s s')) ∧
  (∀ (s : State) (t : Time), s.inRst .fabric = false → s.vot.killLine = false →
    exec (.stageKill t false) s = .next { s.at_ t with
      pin := { s.pin with stageKill := false }, vot := { s.vot with killHighSince := some (max s.now t) } }) ∧
  (∀ (s : State) (t t0 : Time) (x : Lane), (s.lane x).strobeAt = some t0 → (s.lane x).vote = .voting ∨ (s.lane x).vote = .shadow →
    t0 + 80000 ≤ max s.now t →
    exec (.laneWatchdog t x) s = .next ((s.at_ t).assertReset (.laneWdog x) (s.fused (.laneWdog x)) [x])) ∧
  (∀ (s : State) (t t0 : Time) (x : Lane), (s.lane x).strobeAt = some t0 → max s.now t < t0 + 80000 →
    exec (.laneWatchdog t x) s = .next (s.at_ t)))

/-- A trip of one comparator fires the leg held ready: that leg enters an on-time in the comparator's direction, the pulse count
rises, the comparator is blanked for phase.blank. With the stage not driving, a window edge reached, or the comparator blanked nothing
fires; both comparators in one cycle raise DUAL_TRIP and fire none; with no ready leg the trip waits (R89, R90, R97).
The ends of an on-time and of a freewheel: at the counted end the switch opens and the leg freewheels when phase.sync is 1; a
peak limit ends it early as a limited cycle; a BLIND leg's comparator is ignored; a zero crossing ends the freewheel; a hiccup that
has run its time lets the leg return at the next boundary; an idle check keeps its verdict (R91, R94, R108, R110, R113). -/
def Obligations.TripsAndPulses : Prop :=
  ((∀ (s : State) (t : Time) (k : Nat), (s.at_ t).drives = true → s.inhibited .supply = false → (s.at_ t).blanked .supply = false →
    (s.at_ t).readyLeg .s = some k →
    ∃ p, exec (.busTrip t true false none) s = .next { s.at_ t with pool := p } ∧
      (p.legs.getD k Leg.reset).drive = .on .supply (max s.now t) ((s.at_ t).onTime .s .supply ((s.at_ t).leg k)) ∧
      p.pulses = s.pool.pulses + 1 ∧ p.pointerS = k ∧ p.waiting = none ∧
      p.blankLower = some (max s.now t + s.lfldN .phaseBlank) ∧ p.blankUpper = s.pool.blankUpper ∧
      (∀ j, (p.legs.getD j Leg.reset).state = (s.pool.legs.getD j Leg.reset).state)) ∧
  (∀ (s : State) (t : Time), (s.at_ t).drives = true → s.inhibited .supply = false → (s.at_ t).blanked .supply = false →
    (s.at_ t).readyLeg .s = none → s.pool.waiting = none →
    exec (.busTrip t true false none) s = .next (({ s.at_ t with pool := { s.pool with waiting := some .supply } }).updLanes
      (fun (l : LaneSt) => if l.vote = Vote.reset ∨ l.vote = Vote.latched then l else { l with tripWait := l.tripWait + 1 }))) ∧
  (∀ (s : State) (t : Time) (lower upper : Bool), s.drives = false →
    exec (.busTrip t lower upper none) s = .next (s.at_ t)) ∧
  (∀ (s : State) (t : Time), s.drives = true →
    exec (.busTrip t true true none) s = .next (((s.at_ t).report 0x303 0x24 0 0 true).legEvent 9)) ∧
  (∀ (s : State) (t : Time) (k : Nat), (s.at_ t).drives = true → s.inhibited .supply = false → s.pool.waiting = some .supply →
    (s.at_ t).readyLeg .s = some k →
    ∃ p, exec (.tripWait t) s = .next { s.at_ t with pool := p } ∧ p.waiting = none ∧ p.pulses = s.pool.pulses + 1 ∧
      p.pointerS = k) ∧
  (∀ (s : State) (t e : Time), s.pool.blankLower = some e → e ≤ max s.now t → s.pool.blankUpper = none →
    exec (.blankExpiry t false false) s = .next { s.at_ t with pool := { s.pool with blankLower := none } })) ∧
  ((∀ (s : State) (t : Time) (k : Nat) (x : PulseIn) (d : Dir) (st len : Nat), (s.leg k).drive = .on d st len →
    st + len ≤ max s.now t → exec (.onTimeExpiry t k x) s = .next ((s.at_ t).endOnTime k d false x)) ∧
  (∀ (s : State) (t : Time) (k : Nat) (x : PulseIn) (d : Dir) (st len : Nat), (s.leg k).drive = .on d st len →
    max s.now t < st + len → (s.leg k).state ≠ .blind → exec (.onTimeExpiry t k x) s = .next (s.at_ t)) ∧
  (∀ (s : State) (t : Time) (k : Nat) (x : PulseIn) (d : Dir) (st len : Nat), (s.leg k).drive = .on d st len →
    (s.leg k).state ≠ .blind →
    exec (.peakLimitTrip t k x) s = .next ((s.at_ t).endOnTime k d (decide (max s.now t < st + len)) x)) ∧
  (∀ (s : State) (t : Time) (k : Nat) (x : PulseIn), (s.leg k).state = .blind →
    exec (.peakLimitTrip t k x) s = .next (s.at_ t)) ∧
  (∀ (s : State) (t : Time) (k : Nat) (d : Dir) (st : Time), k < s.pool.legs.length → (s.leg k).drive = .freewheel d st →
    (s.leg k).state ≠ .blind →
    ∃ p, exec (.zeroCross t k) s = .next { s.at_ t with pool := p } ∧ (p.legs.getD k Leg.reset).drive = .off ∧
      (p.legs.getD k Leg.reset).lowSince = max s.now t ∧ (p.legs.getD k Leg.reset).state = (s.leg k).state ∧
      (∀ j, j ≠ k → p.legs.getD j Leg.reset = s.leg j)) ∧
  (∀ (s : State) (t : Time) (k : Nat), (s.leg k).state = .hiccup → (s.leg k).hiccupEnd ≤ max s.now t →
    exec (.hiccupTimeExpiry t k) s = .next ((s.at_ t).updLeg k (fun l => { l with hiccupOver := true }))) ∧
  (∀ (s : State) (t : Time) (k : Nat) (mean : Rat), (s.leg k).drive = .off → (s.leg k).est = 0 →
    (s.leg k).lowSince + 2000 ≤ max s.now t →
    exec (.idleCheck t k mean) s = .next ((s.at_ t).updLeg k (fun l =>
      { l with idleOk := decide (|mean| ≤ (s.lfld .legsSenseTolAbs : Rat) / 10) }))))

/-- A board's removal leaves its four legs ABSENT and no other leg's state changed; its refitting makes each configured ABSENT leg
UNTESTED with trim, counts and record cleared (R79).
A test attempt takes the UNTESTED legs whose storage condition holds to TESTING; its judgement, after 2.248 ms, ends the attempt;
a recheck whose spare passes owes its joining at the next boundary (R102 to R107). -/
def Obligations.BoardsAndTests : Prop :=
  ((∀ (s : State) (t : Time) (j : Nat), j < 8 → s.pool.legs.length = 32 → s.pool.recheck = none →
    ∃ s', exec (.boardRemoved t j) s = .next s' ∧ s'.pin = { s.pin with boardAbsent := setBit s.pin.boardAbsent j } ∧
      (∀ k, k < 32 → k / 4 = j → (s'.leg k).state = .absent ∧ (s'.leg k).group = (s.leg k).home) ∧
      (∀ k, k < 32 → k / 4 ≠ j → s'.leg k = s.leg k) ∧ s'.vot = s.vot ∧ s'.fes = s.fes ∧ s'.aon = s.aon ∧ sameSward s s' ∧
      sameStore s s') ∧
  (∀ (s : State) (t : Time) (j : Nat), j < 8 → s.pool.legs.length = 32 →
    ∃ s', exec (.boardRefitted t j) s = .next s' ∧ s'.pin = { s.pin with boardAbsent := clrBit s.pin.boardAbsent j } ∧
      (∀ k, k < 32 → k / 4 = j → (s.lfldN .legsActive).testBit k = true → (s.leg k).state = .absent →
        (s'.leg k).state = .untested ∧ (s'.leg k).trim = 0 ∧ (s'.leg k).limited = 0 ∧ (s'.leg k).openSuspect = 0 ∧
        (s'.leg k).senseSuspect = 0 ∧ (s'.leg k).senseFailed = false ∧ (s'.leg k).home = (s.leg k).home) ∧
      (∀ k, k < 32 → k / 4 ≠ j → s'.leg k = s.leg k) ∧ s'.vot = s.vot ∧ s'.fes = s.fes ∧ s'.aon = s.aon ∧ sameSward s s' ∧
      sameStore s s')) ∧
  ((∀ (s : State) (t : Time), s.pool.testing = true → s.pool.running = false → s.fes.settleOwed = false →
    (∀ y ∈ s.fes.strs, y.state ≠ 2) → s.pool.legs.length = 32 →
    (∃ l ∈ s.pool.legs, l.state = .untested) → (∀ l ∈ s.pool.legs, l.state ≠ .testing) →
    ∃ s', exec (.testAttemptStart t true true) s = .next s' ∧ s'.pool.running = true ∧ s'.pool.windowWait = false ∧
      s'.pool.attempt = 0 ∧ s'.pool.attemptStart = max s.now t ∧
      (∀ k, k < 32 → ((s.leg k).state = .untested → (s'.leg k).state = .testing) ∧
        ((s.leg k).state ≠ .untested → s'.leg k = s.leg k)) ∧
      s'.vot = s.vot ∧ s'.fes = s.fes ∧ s'.aon = s.aon ∧ sameSward s s' ∧ sameStore s s') ∧
  (∀ (s : State) (t : Time), s.pool.testing = true → s.pool.running = false → s.fes.settleOwed = false →
    (∀ y ∈ s.fes.strs, y.state ≠ 2) → (∀ l ∈ s.pool.legs, l.state ≠ .testing) →
    exec (.testAttemptStart t false false) s = .next { s.at_ t with pool := { s.pool with windowWait := true } }) ∧
  (∀ (s : State) (t : Time) (x : TestIn), s.pool.running = true → s.pool.attemptStart + 2248000 ≤ max s.now t →
    ∃ s', exec (.testJudgement t x) s = .next s' ∧ s'.pool.running = false ∧ s'.vot = s.vot ∧ s'.fes = s.fes ∧ s'.aon = s.aon ∧
      sameSward s s' ∧ sameStore s s') ∧
  (∀ (s : State) (t : Time) (x : TestIn) (k n : Nat) (d : Departure), s.pool.recheck = some (k, d, n) →
    s.pool.recheckStart + 64000 ≤ max s.now t → (s.at_ t).judgeRow x k (s.leg k) = 4 →
    exec (.spareRecheckJudgement t x) s = .next { s.at_ t with pool := { s.pool with recheck := none, joinOwed := some (k, d) } }))

/-- PMBUS_POLL, at most every 10 ms, queues six reads of each fitted module; PMB_ALERT queues a status sweep behind the transaction
in progress; a transaction's end takes it off the bus, a failed one is reported, and a status word with a fault bit takes its module
out of service; a precharge that runs out fails (R156, R157, R174, R581).
STRING_POLL takes a string's answers, opens one whose temperature or overvoltage bit asks for it and serves each retirement with
the lowest spare; a poll of an unchanged bank changes only the front end (R168 to R174). SEGMENT_LOSS is set by a lost member and
clears when none has been lost for frontend.loss_hold (R185). -/
def Obligations.FrontEndPolled : Prop :=
  ((∀ (s : State) (t : Time), s.inRst .fabric = false → s.inForce = true → s.fes.lastPoll + 10000000 ≤ max s.now t →
    exec (.pmbusPoll t) s = .next { s.at_ t with fes := { s.fes with
      lastPoll := max s.now t
      pmb := s.fes.pmb ++ s.fitted.flatMap (fun k =>
        [PmCmd.statusWord, .readVin, .readIin, .readVout, .readIout, .readTemp].map (fun c => (⟨k, c, true⟩ : BusTx))) } }) ∧
  (∀ (s : State) (t : Time) (x : BusTx) (rest : List BusTx), s.inRst .fabric = false → s.inForce = true →
    s.fes.pmb = x :: rest →
    exec (.pmbAlert t) s = .next { s.at_ t with fes := { s.fes with
      pmb := x :: (s.fitted.map (fun k => (⟨k, .statusWord, false⟩ : BusTx)) ++ rest) } }) ∧
  (∀ (s : State) (t : Time) (k v : Nat) (rest : List BusTx), s.inRst .fabric = false →
    s.fes.pmb = ⟨k, .readIout, true⟩ :: rest →
    exec (.busTransactionEnd t true (.ok v)) s = .next (({ s.at_ t with fes := { s.fes with pmb := rest } }).updRect k
      (fun m => { m with iout := v }))) ∧
  (∀ (s : State) (t : Time) (k v : Nat) (rest : List BusTx), s.inRst .fabric = false →
    s.fes.pmb = ⟨k, .statusWord, true⟩ :: rest → v.testBit 6 = true → k < s.fes.rects.length → (s.fes.rect k).state = 1 →
    ∃ s', exec (.busTransactionEnd t true (.ok v)) s = .next s' ∧ (s'.fes.rect k).state = 2 ∧ (s'.fes.rect k).status = v ∧
      (s'.fes.rect k).clean = 0 ∧ s'.fes.pmb = rest ∧ s'.fes.event.getLsbD 5 = true ∧
      (∀ j, j ≠ k → s'.fes.rect j = s.fes.rect j) ∧ s'.pool = s.pool ∧ s'.vot = s.vot ∧ s'.aon = s.aon ∧ sameSward s s' ∧
      sameStore s s') ∧
  (∀ (s : State) (t : Time) (c : StrCmd) (rest : List StrCmd) (v : Nat), s.inRst .fabric = false → s.fes.smb = c :: rest →
    exec (.busTransactionEnd t false (.ok v)) s = .next { s.at_ t with fes := { s.fes with smb := rest } } ∧
    exec (.busTransactionEnd t false .noAck) s =
      .next (({ s.at_ t with fes := { s.fes with smb := rest } }).report 0xD31 0x84 c.addr 0)) ∧
  (∀ (s : State) (t : Time) (j : Nat), s.inRst .fabric = false → j < s.fes.strs.length → (s.str j).state = 2 →
    (s.str j).closing = false → (s.str j).preAt + s.lfldN .stringsPrechargeTime * 1000000000 ≤ max s.now t →
    exec (.prechargeTimeout t j) s = .next ((s.at_ t).joinFails j))) ∧
  ((∀ (s : State) (t : Time) (x : List StrRes) (b : StrRes), s.inRst .fabric = false → s.inForce = true →
    s.fes.lastStr + s.strCycle ≤ max s.now t →
    ∃ s', exec (.stringPoll t x b) s = .next s' ∧ s'.fes.lastStr = max s.now t ∧ s'.pool = s.pool ∧ s'.vot = s.vot ∧
      s'.aon = s.aon ∧ s'.plan = s.plan ∧ s'.fes.rects = s.fes.rects ∧ s'.fes.ref = s.fes.ref ∧ sameSward s s' ∧
      sameStore s s' ∧ s'.cfg = s.cfg ∧ s'.ids = s.ids) ∧
  (∀ (s : State) (j st volt esr : Nat) (curr temp : Int), j < s.fes.strs.length → j < 16 →
    (s.lfldN .stringsActive).testBit j = true → (s.str j).state = 3 → st.testBit 3 = true →
    let u := s.pollStr j (.read st volt curr temp esr)
    (u.str j).state = 7 ∧ (u.str j).volt = volt ∧ (u.str j).curr = curr ∧ (u.str j).temp = temp ∧ (u.str j).silent = 0 ∧
      (∀ k, k ≠ j → u.str k = s.str k)) ∧
  (∀ (s : State) (t : Time) (m : Nat), s.inRst .fabric = false → s.inRst .htlFrz = false → (s.at_ t).memberLost m = true →
    ∃ f, exec (.segmentLoss t m) s = .next { s.at_ t with fes := f } ∧ f.segmentLoss = true ∧ m ∈ f.lost ∧
      f.event.getLsbD 11 = true ∧ (∀ k ∈ s.fes.lost, k ∈ f.lost) ∧ f.ref = s.fes.ref) ∧
  (∀ (s : State) (t : Time) (m : Nat), (s.at_ t).memberLost m = false → exec (.segmentLoss t m) s = .next (s.at_ t)) ∧
  (∀ (s : State) (t : Time), s.inRst .fabric = false → s.fes.lost = [] → s.fes.segmentLoss = true →
    s.fes.lossClear + s.lfldN .frontendLossHold * 1000000000 ≤ max s.now t →
    exec (.segmentLossClear t) s = .next { s.at_ t with fes := { s.fes with segmentLoss := false } }))

/-- A monitored clock fails on a deviation above 1000 ppm, on 1 µs without an edge, or on a lock loss: its bit of AON_CLK_FAULT is
set and CLOCK_FAIL reported with the bit and DETAIL 0, 1 or 2; a lane clock's failure also fences the lane at once. A window within
1000 ppm only shows a lane's deviation (R73, R74, R76).
An update moves an island's copy of ring time forward to it when it is behind, and holds it still for at most 8 ns when it is
ahead; no copy is ever turned back. Every copy enters holdover together when Heathline is unsynchronised, and a channel reopens
when both its ends have left reset (R66 to R68). -/
def Obligations.ClocksAndCopies : Prop :=
  ((∀ (s : State) (t : Time) (c : Clk) (ppm : Int), s.clkJudged c = true → (s.dom (clkDom c)).release + 40000 ≤ max s.now t →
    clkLane c = none →
    (s.core.aonRc = false → 1000 < ppm.natAbs →
      exec (.clockWindowEnd t c ppm) s = .next (({ s.at_ t with aon :=
        { s.aon with clkFault := setBit s.aon.clkFault (clkBit c) } }).report 0x001 0x12 (clkBit c) 0)) ∧
    (ppm.natAbs ≤ 1000 ∨ s.core.aonRc = true → exec (.clockWindowEnd t c ppm) s = .next (s.at_ t))) ∧
  (∀ (s : State) (t : Time) (ppm : Int), s.clkJudged .lna = true → (s.dom (.lane .a)).release + 40000 ≤ max s.now t →
    ppm.natAbs ≤ 1000 →
    exec (.clockWindowEnd t .lna ppm) s =
      .next { s.at_ t with aon := { s.aon with ppmA := max (-128) (min 127 ppm) } }) ∧
  (∀ (s : State) (t : Time) (c : Clk), s.clkJudged c = true → clkLane c = none →
    exec (.clockEdgeTimeout t c) s = .next (({ s.at_ t with aon :=
      { s.aon with clkFault := setBit s.aon.clkFault (clkBit c) } }).report 0x001 0x12 (clkBit c) 1) ∧
    exec (.pllLockLoss t c) s = .next (({ s.at_ t with aon :=
      { s.aon with locks := clrBit s.aon.locks (clkBit c), clkFault := setBit s.aon.clkFault (clkBit c) } }).report 0x001 0x12
        (clkBit c) 2)) ∧
  (∀ (s : State) (t : Time) (c : Clk) (x : Lane), s.clkJudged c = true → clkLane c = some x →
    exec (.clockEdgeTimeout t c) s = .next (((({ s.at_ t with aon :=
      { s.aon with clkFault := setBit s.aon.clkFault (clkBit c) } }).report 0x001 0x12 (clkBit c) 1).updLane x
        (fun l => { l with clockFailed := true })).fenceNow x)) ∧
  (∀ (s : State) (t : Time) (b : Bool), s.core.aonRc = false → s.inRst .aon = false →
    exec (.aonXtalFail t b) s = .next (({ s.at_ t with
      core := { s.core with aonRc := true }, aon := { s.aon with clkFault := setBit s.aon.clkFault 14 } }).report 0x001 0x12 14
        (if b then 1 else 0))) ∧
  (∀ (s : State) (t : Time) (b : Bool), s.core.aonRc = true → exec (.aonXtalFail t b) s = .next (s.at_ t))) ∧
  ((∀ (s : State) (t : Time) (i : Island), s.inRst .htlFrz = false → (s.at_ t).islandRst i = false → s.htl.sync = true →
    (s.rings.get i).holdover = false →
    ∃ r b, exec (.ringTimeUpdate t i) s = .next { s.at_ t with rings := r, aon := { s.aon with ringHoldover := b } } ∧
      (∀ j, j ≠ i → r.get j = s.rings.get j) ∧ r.rejoining = s.rings.rejoining ∧
      (let c := (s.rings.get i).now (max s.now t)
       let ring := (s.at_ t).ringTime
       (c ≤ ring → r.get i = ⟨ring, max s.now t, false⟩) ∧
       (ring < c → r.get i = ⟨c, max s.now t + min 8 (c - ring), false⟩))) ∧
  (∀ (s : State) (t : Time), s.htl.sync = false ∨ s.inRst .htlFrz = true →
    ∃ r, exec (.ringHoldoverEntry t) s = .next { s.at_ t with rings := r, aon := { s.aon with ringHoldover := true } } ∧
      (∀ i, r.get i = { s.rings.get i with holdover := true }) ∧ r.rejoining = false) ∧
  (∀ (s : State) (t : Time), s.inRst .htlFrz = false → s.htl.sync = true →
    exec (.ringHoldoverEnd t) s = .next { s.at_ t with rings := { s.rings with rejoining := true } }) ∧
  (∀ (s : State) (t : Time) (ch : Chan), (∀ d ∈ ch.ends, s.inRst d = false) →
    ∃ l r, exec (.channelReopen t ch) s = .next { s.at_ t with closed := l, closureReported := r } ∧ ch ∉ l ∧ ch ∉ r ∧
      (∀ c, c ≠ ch → (c ∈ l ↔ c ∈ s.closed) ∧ (c ∈ r ↔ c ∈ s.closureReported))) ∧
  (∀ (s : State) (t : Time) (ch : Chan) (d : Dom), d ∈ ch.ends → s.inRst d = true →
    exec (.channelReopen t ch) s = .next (s.at_ t)))

/-- An auxiliary input beyond its bounds is disconnected and reported with AUX_FAULT; one back for 100 ms is connected; the rail at
10.8 V for 10 ms with 20 J stored releases POWER_ON; a
rail that recovers takes power-on in place of brown-out (R42, R43, R45).
POWER_FAIL drives every gate low, sets the kill latch, sheds the sward, puts the links at high impedance and takes a live mode
to STOPPED with cause STAGE_KILL; 1 ms later staging closes; at its end brown-out, or power-on with the rail back, resets every
domain (R44, R45, R509). -/
def Obligations.SupplyAndPowerFail : Prop :=
  ((∀ (s : State) (t : Time) (high : Bool), s.inRst .aon = false →
    exec (.auxInputFault t false high) s = .next (({ s.at_ t with
      pin := { s.pin with auxA := false }, aon := { s.aon with auxFault := true, auxAOk := false } }).report 0x000 0x10 0
        (if high then 1 else 0)) ∧
    exec (.auxInputFault t true high) s = .next (({ s.at_ t with
      pin := { s.pin with auxB := false }, aon := { s.aon with auxFault := true, auxBOk := false } }).report 0x000 0x10 1
        (if high then 1 else 0)) ∧
    exec (.auxInputReconnect t false) s = .next { s.at_ t with
      pin := { s.pin with auxA := true }, aon := { s.aon with auxAOk := true } } ∧
    exec (.auxInputReconnect t true) s = .next { s.at_ t with
      pin := { s.pin with auxB := true }, aon := { s.aon with auxBOk := true } }) ∧
  (∀ (s : State) (t : Time), s.srcOn .powerOn = true → s.core.srcs.length = 15 →
    ∃ c, exec (.powerOnRelease t) s = .next { s.at_ t with core := c, pin := { s.pin with railUp := true, holdup := true } } ∧
      (c.srcs.getD 0 ⟨false, 0, none, 0, []⟩).asserted = false ∧
      (c.srcs.getD 0 ⟨false, 0, none, 0, []⟩).released = max s.now t ∧ c.doms = s.core.doms) ∧
  (∀ (s : State) (t : Time), s.srcOn .brownOut = true →
    exec (.railRecovery t) s = .next ((({ s.at_ t with pin := { s.pin with railUp := true } }).assertReset .powerOn
      (s.fused .powerOn)).releaseSrc .brownOut))) ∧
  ((∀ (s : State) (t : Time) (mv : Nat), s.srcOn .powerOn = false → s.srcOn .brownOut = false → s.pin.powerFail = none →
    s.inRst .fabric = false →
    ∃ s', exec (.powerFail t mv) s = .next s' ∧ s'.pin.powerFail = some (max s.now t) ∧ s'.pin.railUp = false ∧
      s'.vot.killLatch = true ∧ s'.vot.killLine = true ∧ (∀ l ∈ s'.pool.legs, l.drive = .off) ∧ s'.fes.link = 0 ∧
      s'.swd.shed = true ∧ s'.swd.powered = false ∧ s'.swm = [] ∧ s'.lex = Lex.reset ∧ s'.brw.flush = true ∧
      (s.aon.mode.live = true → s'.aon.mode = .stopped ∧ s'.aon.cause = .stageKill) ∧
      (s.aon.mode.live = false → s'.aon.mode = s.aon.mode) ∧ s'.nv = s.nv ∧ s'.ddr = s.ddr) ∧
  (∀ (s : State) (t t0 : Time), s.pin.powerFail = some t0 → s.pin.stagingClosed = false → t0 + 1000000 ≤ max s.now t →
    s.inRst .fabric = false → s.brw.anchored = true → s.brw.ioFail = false →
    ∃ s', exec (.finalFlushStagingClose t) s = .next s' ∧ s'.pin = { s.pin with stagingClosed := true } ∧
      s'.brw.staging = [] ∧ sameStage s s' ∧ sameSward s s' ∧ s'.core = s.core ∧ s'.aon = s.aon ∧ s'.mbx = s.mbx ∧
      s'.cfg = s.cfg ∧ s'.nv.fuse = s.nv.fuse ∧ s'.nv.slot0 = s.nv.slot0 ∧ s'.nv.trust = s.nv.trust) ∧
  (∀ (s : State) (t t0 : Time), s.pin.powerFail = some t0 → s.pin.stagingClosed = false → max s.now t < t0 + 1000000 →
    exec (.finalFlushStagingClose t) s = .next (s.at_ t)) ∧
  (∀ (s : State) (t t0 : Time) (up : Bool), s.pin.powerFail = some t0 → s.pin.deferred = [] → s.core.srcs.length = 15 →
    s.fused .powerOn = 5 → s.fused .brownOut = 5 → s.core.lastLevel ≤ 5 →
    ∃ s', exec (.finalFlushEnd t up) s = .next s' ∧ s'.pin.powerFail = none ∧ s'.pin.railUp = up ∧
      s'.srcOn (if up then .powerOn else .brownOut) = true ∧ (∀ d, s'.inRst d = true) ∧ s'.core.lastLevel = 5 ∧
      s'.aon.mode = .held ∧ s'.nv.fuse = s.nv.fuse ∧ s'.nv.trust = s.nv.trust ∧ s'.nv.slot0 = s.nv.slot0 ∧
      s'.nv.slot1 = s.nv.slot1))

/-- HOLDUP_READY falls to 0 after bring-up with the rail above 10.8 V: the fault is reported; with the bank at 20 J it is set again.
Nothing else changes, so the mode does not (R52). -/
def Obligations.HoldupBank : Prop :=
  (∀ (s : State) (t : Time) (dj : Nat), s.core.bringup = false → s.pin.railUp = true → s.inRst .aon = false → dj < 200 →
    s.aon.holdupReady = true →
    exec (.holdupFault t dj) s = .next (({ s.at_ t with
      pin := { s.pin with holdup := false }, aon := { s.aon with holdupReady := false, holdupDj := dj } }).report 0x000 0x11 dj 0)) ∧
  (∀ (s : State) (t : Time) (dj : Nat), s.pin.railUp = true → s.inRst .aon = false → 200 ≤ dj →
    exec (.holdupRecharged t dj) s = .next { s.at_ t with
      pin := { s.pin with holdup := true }, aon := { s.aon with holdupReady := true, holdupDj := dj } }) ∧
  (∀ (s : State) (t : Time) (dj : Nat) (s' : State),
    exec (.holdupFault t dj) s = .next s' ∨ exec (.holdupRecharged t dj) s = .next s' → s'.aon.mode = s.aon.mode)

/-- SENSOR_SAMPLE takes the sensors' samples; FLOW_UPDATE counts the last ten pulse counts into the flow; a first condition of loss
that has held its time sets LOST and reports COOLANT with its number; the sward is shed once after the declaration; COOLANT_RESTORE
clears LOST and reports DETAIL 1 (R549 to R554).
The firmware's thermal evaluations: the sward's ceiling rises a step, to 4 at most, while its hottest sensor is at or above
mgmt.sward_t_ceil; STEP_SHELF rises with a leg sensor at or above mgmt.tleg_max; with no derating STEP_MODULE is 0 (R556, R558). -/
def Obligations.CoolantAndThermal : Prop :=
  ((∀ (s : State) (t : Time) (l : List Reading) (v : Int), s.inRst .aon = false → s.aon.sensors.length = 88 → l[64]? = some (.centi v) →
    v < 11200 →
    ∃ s', exec (.sensorSample t l) s = .next s' ∧ s'.aon.sensor 64 = ⟨true, false, (v :: (s.aon.sensor 64).samples).take 10⟩ ∧
      s'.nv.fuse = s.nv.fuse ∧ s'.ddr = s.ddr ∧ s'.cfg = s.cfg) ∧
  (∀ (s : State) (t : Time) (x : FlowIn), s.inRst .aon = false → (∀ t0, s.aon.condSince.getD 1 none = some t0 → t0 ≤ s.now) →
    ∃ s', exec (.flowUpdate t x) s = .next s' ∧ s'.aon.flowPulses = (x.pulses :: s.aon.flowPulses).take 10 ∧
      s'.aon.leak = x.leakNow ∧
      (s.lfldN .calFlowPpl ≠ 0 → s'.aon.flow = sumNat s'.aon.flowPulses * 6000 / s.lfldN .calFlowPpl) ∧
      (x.leakHeld = true → s'.core.coolLost = true) ∧ (s.core.coolLost = true → s'.core.coolLost = true) ∧
      s'.aon.derateEntry = decide (s'.aon.derate < 256) ∧ s'.pool = s.pool ∧ s'.vot = s.vot ∧ s'.fes = s.fes ∧
      sameSward s s' ∧ sameStore s s' ∧ s'.cfg = s.cfg ∧ s'.ids = s.ids) ∧
  (∀ (s : State) (t : Time), s.inRst .aon = false → s.core.coolLost = true → s.swd.shed = false →
    ∃ s', exec (.swardShed t) s = .next s' ∧ s'.swd.shed = true ∧ s'.swd.powered = false ∧ s'.inRst .planning = true ∧
      s'.inRst .swardPower = true ∧ s'.vot = { s.vot with shedCond := true } ∧ s'.pool = s.pool ∧ s'.fes = s.fes ∧
      s'.aon = s.aon ∧ sameStore s s' ∧ s'.swm = s.swm) ∧
  (∀ (s : State) (t : Time), s.core.coolLost = true → s.swd.shed = true → exec (.swardShed t) s = .next (s.at_ t)) ∧
  (∀ (s : State) (t t0 : Time), s.inRst .aon = false → s.core.coolLost = true → s.aon.returning = some t0 →
    t0 + s.lfldN .mgmtCoolReturn * 1000000000 ≤ max s.now t →
    ∃ s', exec (.coolantRestore t) s = .next s' ∧ s'.core = { s.core with coolLost := false } ∧ s'.aon.returning = none ∧
      (s.aon.thermShed = false → s'.swd = { s.swd with shed := false }) ∧ (s.aon.thermShed = true → s'.swd = s.swd) ∧
      s'.pool = s.pool ∧ s'.vot = s.vot ∧ s'.fes = s.fes ∧ sameStore s s')) ∧
  ((∀ (s : State) (t : Time) (v : Int), s.mbx.fwRunning = true → s.inRst .planning = false → s.aon.maxMean 0 63 = some v →
    100 * s.fld .mgmtSwardTCeil ≤ v →
    exec (.swardThermalEvaluation t) s = .next { s.at_ t with swd := { s.swd with ceil := min 4 (s.swd.ceil + 1) } }) ∧
  (∀ (s : State) (t : Time), s.mbx.fwRunning = true → s.inRst .planning = false → s.aon.maxMean 0 63 = none →
    exec (.swardThermalEvaluation t) s = .next (s.at_ t)) ∧
  (∀ (s : State) (t : Time) (ppk pg : Rat), s.mbx.fwRunning = true → s.inRst .fabric = false → 256 ≤ s.aon.derate →
    ∃ m, exec (.shelfThermalEvaluation t ppk pg) s = .next { s.at_ t with mbx := m } ∧ m.stepModule = 0 ∧ m.box = s.mbx.box ∧
      m.held = s.mbx.held ∧ m.mgrA = s.mbx.mgrA ∧ m.mgrB = s.mbx.mgrB) ∧
  (∀ (s : State) (t : Time) (ppk pg : Rat) (x : Int), s.mbx.fwRunning = true → s.inRst .fabric = false → x ∈ s.tlegs →
    100 * s.fld .mgmtTlegMax ≤ x → s.mbx.shelfRaised = none →
    ∃ m, exec (.shelfThermalEvaluation t ppk pg) s = .next { s.at_ t with mbx := m } ∧
      m.stepShelf = min 15 (s.capInForce + 1) ∧ m.shelfRaised = some (max s.now t)))

/-- The reset pin low asserts its source at the fused level and high releases it; a pulse source releases when its pulse ends; the
management watchdog's interval, a write to RST_MWDOG and Idsol's signal act as R466 to R469 and R475 lay down.
A domain that may leave reset leaves it at that instant and no other domain's reset state changes; one that may not stays. At
the end of a flush window every domain enters reset: what no L4 touches stays, and all else is at its reset value (R464, R465, R470
to R474). -/
def Obligations.SourcesAndDomains : Prop :=
  ((∀ (s : State) (t : Time), exec (.resetPin t true) s =
    .next (({ s.at_ t with pin := { s.pin with resetN := true } }).assertReset .resetPin (s.fused .resetPin))) ∧
  (∀ (s : State) (t : Time), s.pin.deferred = [] → exec (.resetPin t false) s =
    .next (({ s.at_ t with pin := { s.pin with resetN := false } }).releaseSrc .resetPin)) ∧
  (∀ (s : State) (t e : Time) (x : Src), (s.core.srcs.getD x.code ⟨false, 0, none, 0, []⟩).pulseEnd = some e →
    (e ≤ max s.now t → exec (.resetPulseEnd t x) s = .next ((s.at_ t).releaseSrc x)) ∧
    (max s.now t < e → exec (.resetPulseEnd t x) s = .next (s.at_ t))) ∧
  (∀ (s : State) (t t0 : Time) (n : Nat), s.core.mwdog = some (t0, n) → t0 + n ≤ max s.now t →
    exec (.mgmtWdog t) s = .next (({ s.at_ t with core := { s.core with mwdog := none } }).assertReset .mgmtWdog
      (s.fused .mgmtWdog))) ∧
  (∀ (s : State) (t : Time) (v : Word), s.inRst .mgmt = false →
    (field v 15 0 = 0xA5C3 → exec (.mwdogKick t v) s = .next { s.at_ t with core :=
      { s.core with mwdog := some (max s.now t, s.core.mwdogTimeout * 10 * 1000000) } }) ∧
    (field v 15 0 ≠ 0xA5C3 → exec (.mwdogKick t v) s = .next ((s.at_ t).report 0x200 0x02 0x00100034))) ∧
  (∀ (s : State) (t : Time), s.inRst .idsol = false → s.core.idsolSignal = none →
    max s.now t < (s.dom .idsol).release + 1 + 1000000 →
    (∃ m, exec (.idsolReady t true) s = .next { s.at_ t with
      ids := { s.ids with ready := true, meas := m }, core := { s.core with idsolSignal := some true, idsolFail := false } } ∧
      ∀ i, i ≠ 0 → m.getD i [] = s.ids.meas.getD i []) ∧
    exec (.idsolReady t false) s = .next (({ s.at_ t with
      ids := { s.ids with failed := true }
      core := { s.core with idsolSignal := some false, idsolFail := true } }).report 0x100 0x75 0 0)) ∧
  (∀ (s : State) (t : Time), s.inRst .idsol = false → s.core.idsolSignal = none → (s.dom .idsol).release + 1000000 ≤ max s.now t →
    exec (.idsolTimeout t) s = .next (({ s.at_ t with core :=
      { s.core with idsolSignal := some false, idsolFail := true } }).report 0x100 0x75 0 1))) ∧
  ((∀ (s : State) (t : Time) (d : Dom), (s.at_ t).mayRelease d = true → s.core.doms.length = 10 →
    ∃ s', exec (.domainRelease t d) s = .next s' ∧ s'.inRst d = false ∧ (s'.dom d).release = max s.now t ∧
      (∀ e, e ≠ d → s'.dom e = s.dom e) ∧ s'.core.srcs = s.core.srcs ∧ s'.aon.mode = s.aon.mode ∧ s'.cfg = s.cfg ∧
      s'.nv = s.nv ∧ s'.ddr = s.ddr) ∧
  (∀ (s : State) (t : Time) (d : Dom), (s.at_ t).mayRelease d = false → exec (.domainRelease t d) s = .next (s.at_ t)) ∧
  (∀ (s : State) (t t0 : Time), s.core.flush = some t0 → t0 + 2000000 ≤ max s.now t → s.core.lastLevel = 4 →
    exec (.flushWindowEnd t false) s = .next { State.reset with
      now := max s.now t, pending := s.pending, free := s.free, nv := s.nv, pin := s.pin
      core := { s.core with
        doms := List.replicate 10 ⟨true, max s.now t, 0⟩, bringup := true, mgmtLate := false, flush := none
        countL4 := s.core.countL4 + 1, mwdogTimeout := 0x0C8, mwdog := none, bringupMs := 0, owedRecords := []
        idsolSignal := none, owedMode := some s.aon.mode, bringupStart := max s.now t } }) ∧
  (∀ (s : State) (t t0 : Time), s.core.flush = some t0 → max s.now t < t0 + 2000000 →
    exec (.flushWindowEnd t false) s = .next (s.at_ t)))

/-- A message a source sends is collected: its count rises by one, the queue takes it or counts it dropped, and the class's
reactions follow; a bin boundary begins a bin; reading the queue removes its oldest message and shows it; TRAP_ACK of 1 ends the
trap; FAULT_CLEAR clears pending bits (R485 to R496). -/
def Obligations.FaultsCollected : Prop :=
  (∀ (s : State) (t : Time) (m : FaultMsg) (rest : List FaultMsg), s.inRst .fabric = false → (∀ z ∈ rest, z.source ≠ m.source) →
    s.flt.path = m :: rest → (s.flt.src m.source).isSome = true →
    exec (.faultMessage t (.path m.source 0)) s =
      .next (({ s.at_ t with flt := { s.flt with path := rest } }).collect m)) ∧
  (∀ (s : State) (t : Time) (c k i d : Nat), s.inRst .fabric = true →
    exec (.faultMessage t (.report c k i d)) s = .next ((s.at_ t).report c k i d)) ∧
  (∀ (s : State) (m : FaultMsg), s.inRst .fabric = false → (s.flt.src m.source).isSome = true →
    (∀ x, s.flt.src m.source = some x → x.react = 0) → (∀ y, (s.lane y).vote ≠ .latched) →
    ∃ q, (s.collect m).flt.queue = (if s.flt.queue.length < 1024 then s.flt.queue ++ [q] else s.flt.queue) ∧ q.msg = m ∧
      (s.collect m).flt.dropped = (if s.flt.queue.length < 1024 then s.flt.dropped else s.flt.dropped + 1) ∧
      (s.collect m).flt.intStatus = s.flt.intStatus ∧ (s.collect m).flt.trap = s.flt.trap ∧ (s.collect m).core = s.core) ∧
  (∀ (s : State) (t : Time) (c : Nat),
    exec (.faultBinBoundary t c) s =
      .next { s.at_ t with flt := s.flt.updSrc c (fun x => x.advance (max s.now t)) }) ∧
  (∀ (s : State) (t : Time) (q : QMsg) (rest : List QMsg), s.inRst .fabric = false → s.flt.queue = q :: rest →
    exec (.faultQueueRead t) s = .next { s.at_ t with
      flt := { s.flt with queue := rest }, busRead := q.word.setWidth 32
      latches := insertKey s.latches 0x0020000C ((q.word >>> 32).setWidth 32) }) ∧
  (∀ (s : State) (t : Time), s.inRst .fabric = false → s.flt.queue = [] →
    exec (.faultQueueRead t) s =
      .next { s.at_ t with busRead := 0, latches := insertKey s.latches 0x0020000C 0 }) ∧
  (∀ (s : State) (t : Time) (v : Word), s.inRst .fabric = false →
    exec (.trapAck t v) s = .next (if v.getLsbD 0 then
      { s.at_ t with flt := { s.flt with trap := false, trapsHeld := 0, trapOwed := false } } else s.at_ t)) ∧
  (∀ (s : State) (t : Time) (v : Word), s.inRst .fabric = false →
    v.getLsbD 31 = true ∨ (s.flt.src (field v 11 0)).isSome = true →
    exec (.faultClear t v) s = .next { s.at_ t with flt := { s.flt with srcs := s.flt.srcs.map (fun (x : FltSource) =>
      if v.getLsbD 31 || x.code == field v 11 0 then { x with pend := false } else x) } })

/-- The collector asserts no L4 during bring-up nor within L4_HOLD seconds of its end: the message takes its other reactions and HOLD is
set; afterwards it asserts it, and resets at L1, L2 and L3 it asserts at any time (R489). -/
def Obligations.L4Held : Prop :=
  ∀ (s : State) (m : FaultMsg) (x : FltSource), s.flt.src m.source = some x → (∀ y, (s.lane y).vote ≠ .latched) →
    let held : Prop := s.core.bringup = true ∨ ∃ t0, s.flt.bringupEndMs = some t0 ∧ s.opMs < t0 + s.flt.l4Hold * 1000
    ((∀ b, x.resetCode b = 4) → held →
      (s.collect m).core = s.core ∧ (s.collect m).flt.hold = true ∧
      (∃ z, (s.collect m).flt.src m.source = some z ∧ z.total = x.total + 1) ∧
      (s.flt.queue.length < 1024 → ∃ q, (s.collect m).flt.queue = s.flt.queue ++ [q] ∧ q.msg = m) ∧
      ((∀ b, x.int b = true) → (s.collect m).flt.intStatus = setBit s.flt.intStatus (m.source / 256 % 16)) ∧
      ((∀ b, x.nmi b = true) → (s.collect m).flt.trap = true)) ∧
    (s.pin.powerFail = none → s.core.srcs.length = 15 →
      ((∀ b, x.resetCode b = 4) → s.core.bringup = false → (∃ t0, s.flt.bringupEndMs = some t0 ∧ t0 + s.flt.l4Hold * 1000 ≤ s.opMs) →
        (s.collect m).srcOn .fault = true) ∧
      ((∀ b, x.resetCode b = 3) ∨ (∀ b, x.resetCode b = 2) ∨ ((∀ b, x.resetCode b = 1) ∧ m.source ∈ [0x300, 0x301, 0x302]) →
        (s.collect m).srcOn .fault = true))

/-- After an L5 the recorder restores its anchor from the newest record and checkpoint of LU3: OPTIME's base is one more than the
greater of the two, the power-cycle count rises by one and the ANCHOR record is committed; with LU3 unreadable it asks the
neighbours once bring-up has ended; after an L4 it replays and is anchored without one (R499, R500, R586).
A neighbour's first answer to the anchor query is kept and its second, or the time-out, completes the restoration: OPTIME from
the greatest answer plus 1 s, the count plus one, or unanchored with no answer; a neighbour's query is answered with what its store
holds; its record is written to the port's store (R500, R510, R511). -/
def Obligations.BarrowAnchors : Prop :=
  ((∀ (s : State) (t : Time) (c : Checkpoint) (r : BRec), s.inRst .fabric = false → s.brw.anchored = false → s.core.lastLevel = 5 →
    s.brw.queryAt = none → s.brw.ioFail = false → s.nv.lu3.replay.ckpt = some c → s.nv.lu3.replay.newest = some r →
    ∃ s', exec (.barrowRestoration t true) s = .next s' ∧ s'.brw.anchored = true ∧ s'.brw.unanchored = false ∧
      s'.core = { s.core with pcc := (c.pcc + 1) % 2 ^ 32, opBase := s.core.opBase + (max c.optime r.optime + 1) } ∧
      s'.brw.committed = r.rnum + 1 ∧ sameSward s s' ∧ s'.pool = s.pool ∧ s'.vot = s.vot ∧ s'.fes = s.fes ∧ s'.cfg = s.cfg ∧
      s'.nv.fuse = s.nv.fuse ∧ s'.ddr = s.ddr) ∧
  (∀ (s : State) (t : Time), s.inRst .fabric = false → s.brw.anchored = false → s.core.lastLevel = 5 → s.brw.queryAt = none →
    s.brw.ioFail = false → s.core.bringup = true →
    exec (.barrowRestoration t false) s =
      .next (({ s.at_ t with brw := { s.brw with ioFail := true } }).report 0xA00 0x82 0 0)) ∧
  (∀ (s : State) (t : Time), s.inRst .fabric = false → s.brw.anchored = false → s.core.lastLevel = 4 →
    ∃ s', exec (.l4Replay t true) s = .next s' ∧ s'.brw.anchored = true ∧ s'.brw.replaying = false ∧ s'.core = s.core ∧
      s'.brw.staging.length = s.brw.staging.length ∧ s'.brw.committed = ((s.nv.lu3.replay.newest).map BRec.rnum).getD 0 ∧
      s'.brw.nextRnum = s'.brw.committed + 1 + s.brw.staging.length ∧ sameStage s s' ∧ sameSward s s' ∧
      s'.nv.fuse = s.nv.fuse ∧ s'.ddr = s.ddr) ∧
  (∀ (s : State) (t : Time), s.brw.anchored = true →
    exec (.barrowRestoration t true) s = .next (s.at_ t) ∧ exec (.l4Replay t true) s = .next (s.at_ t))) ∧
  ((∀ (s : State) (t q : Time) (p : Port) (o c : Nat), s.brw.queryAt = some q → s.brw.anchored = false → p = .e ∨ p = .w →
    s.brw.replies = [] →
    exec (.anchorReply t p o c) s =
      .next { (s.at_ t).takeMsg 4 with brw := { s.brw with replies := [(o, c)] } }) ∧
  (∀ (s : State) (t q : Time) (p : Port) (o c o1 c1 : Nat), s.brw.queryAt = some q → s.brw.anchored = false → p = .e ∨ p = .w →
    s.brw.replies = [(o1, c1)] →
    ∃ s', exec (.anchorReply t p o c) s = .next s' ∧ s'.brw.anchored = true ∧ s'.brw.unanchored = false ∧
      s'.core.pcc = (max (max 0 c1) c + 1) % 2 ^ 32 ∧ s'.core.opBase = s.core.opBase + (max (max 0 o1) o + 1000) ∧
      s'.free = s.free + 1 ∧ s'.nv = s.nv ∧ sameSward s s' ∧ s'.cfg = s.cfg) ∧
  (∀ (s : State) (t q : Time), s.brw.queryAt = some q → s.brw.anchored = false → s.brw.replies = [] →
    s.core.bringupStart + s.core.bringupMs * 1000000 + 10000000000 ≤ max s.now t →
    ∃ s', exec (.anchorQueryTimeout t) s = .next s' ∧ s'.brw.anchored = true ∧ s'.brw.unanchored = true ∧ s'.core.pcc = 0 ∧
      s'.core.opBase = s.core.opBase ∧ s'.free = s.free + 1 ∧ s'.nv = s.nv ∧ sameSward s s' ∧ s'.cfg = s.cfg) ∧
  (∀ (s : State) (t : Time) (m : Nat), s.inRst .fabric = false → s.nv.lu3.storeE.member ≠ some m →
    exec (.anchorQuery t .e m) s = .next (((s.at_ t).takeMsg 4).brwSend .e
      ([3, BitVec.ofNat 8 s.member] ++ beBytes 6 0 ++ beBytes 4 0))) ∧
  (∀ (s : State) (t : Time) (m : Nat) (r : NbrRec), s.inRst .fabric = false → s.brw.ioFail = false →
    s.nv.lu3.storeE.member = some m → (∀ y ∈ s.nv.lu3.storeE.recs, y.rnum % 2 ^ 20 ≠ r.rnum % 2 ^ 20) →
    ∃ x, exec (.record t .e m r) s = .next { (s.at_ t).takeMsg 4 with nv := { s.nv with lu3 :=
        { s.nv.lu3 with storeE := { s.nv.lu3.storeE with recs := s.nv.lu3.storeE.recs ++ [x] } } } } ∧
      x.rnum = r.rnum ∧ x.type = r.type ∧ x.pcc = r.pcc ∧ x.optime = r.optime))

/-- A commit begins when 256 KiB are staged or the oldest record is 10 ms old, once anchored, and its completion moves the staged
records into LU3: the committed number is the last one's and staging keeps the rest; a failure is reported as BARROW_IO and retried
after 10 ms; a checkpoint follows while copies are owed; a capture's end shows it held (R504, R505, R507, R512).
The window's four commands start a read when none runs, and are out of range while one does; its completion shows the record
the cursor has come to, RESULT 0, and moves the cursor to it. RECORD_STAGE_GO stages a record of type 0x80 or above with the
recorder's header and refuses a lower type with 1 and a length out of 16 to 1024 with 2 (R503, R513, R516, R579). -/
def Obligations.BarrowWorks : Prop :=
  ((∀ (s : State) (t : Time) (x : Staged) (rest : List Staged), s.inRst .fabric = false → s.brw.anchored = true →
    s.brw.committing = none → s.brw.commitFailedAt = none → s.brw.staging = x :: rest → x.stagedAt + 10000000 ≤ max s.now t →
    s.brw.owedRate = 0 → s.brw.owedFull = 0 →
    exec (.journalCommit t) s = .next { s.at_ t with brw := { s.brw with committing := some s.brw.staging.length } }) ∧
  (∀ (s : State) (t : Time) (n : Nat) (l : List Staged) (x : Staged), s.brw.committing = some n →
    s.brw.staging.take n = l ++ [x] →
    ∃ u lu, exec (.commitComplete t true) s = .next { s.at_ t with brw := u, nv := { s.nv with lu3 := lu } } ∧
      u.staging = s.brw.staging.drop n ∧ u.committed = x.item.rnum ∧ u.committing = none ∧ u.ioFail = false ∧
      u.nextSegment = s.brw.nextSegment + 1 ∧ u.toCopy = true ∧ u.nextRnum = s.brw.nextRnum ∧ lu.storeE = s.nv.lu3.storeE ∧
      lu.storeW = s.nv.lu3.storeW) ∧
  (∀ (s : State) (t : Time) (n : Nat), s.brw.committing = some n →
    exec (.commitComplete t false) s = .next (({ s.at_ t with brw :=
      { s.brw with committing := none, ioFail := true, commitFailedAt := some (max s.now t) } }).report 0xA00 0x82 1 1)) ∧
  (∀ (s : State) (t t0 : Time), s.brw.commitFailedAt = some t0 → t0 + 10000000 ≤ max s.now t → s.brw.committing = none →
    s.brw.owedRate = 0 → s.brw.owedFull = 0 →
    exec (.commitRetry t) s = .next { s.at_ t with brw :=
      { s.brw with commitFailedAt := none, committing := some s.brw.staging.length } }) ∧
  (∀ (s : State) (t : Time), s.inRst .fabric = false → s.brw.anchored = true → s.brw.toCopy = true → s.brw.ioFail = false →
    ∃ u lu, exec (.checkpoint t) s = .next { s.at_ t with brw := u, nv := { s.nv with lu3 := lu } } ∧ u.toCopy = false ∧
      u.lastCheckpoint = max s.now t ∧ u.staging = s.brw.staging ∧ lu.ring = s.nv.lu3.ring ∧ lu.keep = s.nv.lu3.keep ∧
      (∃ c, (lu.ckptA = some c ∨ lu.ckptB = some c) ∧ c.newest = s.brw.committed ∧ c.pcc = s.core.pcc)) ∧
  (∀ (s : State) (t a : Time), s.inRst .fabric = false → s.htl.frozen .e = some a →
    ∃ s', exec (.captureComplete t .e) s = .next s' ∧ s'.nv = { s.nv with lu3 :=
        { s.nv.lu3 with captureE := some (s.htl.ringE.take captureBlocks) } } ∧
      s'.brw.capturingE = false ∧ s'.htl.frozen .e = none ∧ sameStage s s' ∧ sameSward s s' ∧ s'.aon = s.aon ∧
      s'.cfg = s.cfg ∧ s'.ddr = s.ddr)) ∧
  ((∀ (s : State) (t : Time) (a : BrwArea), s.inRst .fabric = false → s.brw.cmd = none →
    exec (.load t a) s = .next { s.at_ t with brw := { s.brw with cmd := some (.load, a) } } ∧
    exec (.next t a) s = .next { s.at_ t with brw := { s.brw with cmd := some (.next, a) } } ∧
    exec (.oldest t a) s = .next { s.at_ t with brw := { s.brw with cmd := some (.oldest, a) } } ∧
    exec (.newest t a) s = .next { s.at_ t with brw := { s.brw with cmd := some (.newest, a) } }) ∧
  (∀ (s : State) (t : Time) (a : BrwArea) (x : BrwOp × BrwArea), s.inRst .fabric = false → s.brw.cmd = some x →
    exec (.load t a) s = .next ((s.at_ t).report 0x200 0x02 0x00900048)) ∧
  (∀ (s : State) (t : Time) (r : BRec), s.brw.anchored = true → s.brw.cmd = some (.load, .storeE) →
    s.nv.lu3.storeE.recs = [r] → s.brw.oldestE ≤ r.rnum → s.brw.cursor.toNat = r.rnum →
    exec (.barrowCommandComplete t .ok) s = .next { s.at_ t with brw :=
      { s.brw with cmd := none, cursor := BitVec.ofNat 64 r.rnum, result := 0, len := r.bytes.length, data := wordsOf 256 r.bytes } }) ∧
  (∀ (s : State) (t : Time) (io : IoResult) (x : BrwOp × BrwArea), s.brw.anchored = false → s.brw.cmd = some x →
    exec (.barrowCommandComplete t io) s = .next { s.at_ t with brw :=
      { s.brw with cmd := none, result := 5, len := 0, data := List.replicate 256 0 } }) ∧
  (∀ (s : State) (t : Time) (v : Word), s.inRst .fabric = false → v.getLsbD 30 = true →
    s.mbx.rec_.toNat + field v 10 0 ≤ 30 * 2 ^ 30 →
    let bs := s.ddr.readBytes s.mbx.rec_.toNat (field v 10 0)
    (leAt bs 2 1 < 0x80 → exec (.recordStageGo t v) s = .next { s.at_ t with mbx :=
      { s.mbx with recLen := field v 10 0, recResult := 1 } }) ∧
    (0x80 ≤ leAt bs 2 1 → field v 10 0 < 16 ∨ 1024 < field v 10 0 → exec (.recordStageGo t v) s = .next { s.at_ t with mbx :=
      { s.mbx with recLen := field v 10 0, recResult := 2 } }) ∧
    (0x80 ≤ leAt bs 2 1 → 16 ≤ field v 10 0 → field v 10 0 ≤ 1024 → s.brw.staged + 2000 ≤ 16777216 →
      ∃ s', exec (.recordStageGo t v) s = .next s' ∧ s'.mbx = { s.mbx with recLen := field v 10 0, recResult := 0 } ∧
        (s.pin.stagingClosed = false → s'.brw.staging.length = s.brw.staging.length + 1 ∧
          s'.brw.nextRnum = s.brw.nextRnum + 1) ∧
        sameStage s s' ∧ sameSward s s' ∧ sameStore s s')) ∧
  (∀ (s : State) (t : Time) (v : Word), s.inRst .fabric = false → v.getLsbD 30 = false →
    exec (.recordStageGo t v) s = .next { s.at_ t with mbx := { s.mbx with recLen := field v 10 0 } }))

/-- A record staged carries ring time while HOLDING is 1, the fabric's copy, with FLAGS bit 2 while that copy is in holdover, and wall
time while wall time is set (R501). -/
def Obligations.RecordTimes : Prop :=
  ∀ (s : State) (type sub : Nat) (p : List Byte) (flush : Bool), s.inRst .fabric = false → s.pin.stagingClosed = false →
    s.brw.staged + (s.newRec type sub p flush).len ≤ 16777216 →
    ∃ x : Staged, (s.stage type sub p flush).brw.staging = s.brw.staging ++ [x] ∧ x.item.type = type ∧
      (s.htl.holding = true → x.item.rt = some (s.rings.fabric.now s.now) ∧ x.item.flags.getLsbD 2 = s.rings.fabric.holdover) ∧
      (s.htl.holding = false → x.item.rt = none ∧ x.item.flags.getLsbD 2 = false) ∧
      x.item.flags.getLsbD 0 = s.htl.holding ∧ x.item.flags.getLsbD 1 = s.brw.wall.isSome ∧
      x.item.wall = s.brw.wall.map (fun w => w.1 + (s.now - w.2))

/-- The trust store loads, or its failure is counted as VERIFY; a trust command Idsol does not accept changes nothing of the store;
a measurement register takes 48 bytes from running firmware and only extends; seals move the chains; a detector that trips sets its
OPEN bit and one restored clears it and is armed (R521 to R527, R539 to R542).
The broadcast key: with none in use a rotation that is due takes number 1 and the new key at once; a rotation all partners have
acknowledged is switched to, the key before kept; HOP_REKEY begins a rekey of a port that is UP (R533, R537). -/
def Obligations.IdsolAndKeys : Prop :=
  ((∀ (s : State) (t : Time), s.inRst .fabric = false → s.idsOk = true → s.ids.storeTried = false →
    exec (.trustStoreLoad t true) s = .next { s.at_ t with ids := { s.ids with storeOk := true, storeTried := true } } ∧
    exec (.trustStoreLoad t false) s =
      .next (({ s.at_ t with ids := { s.ids with storeOk := false, storeTried := true } }).verifyFail 0 6)) ∧
  (∀ (s : State) (t : Time) (b v : List Byte), s.inRst .idsol = false →
    ∃ s', exec (.trustCommand t b v) s = .next s' ∧
      (((s.at_ t).trustCommand b v).1.isSome = true → s'.nv = s.nv ∧ s'.ids.failObject = 4 ∧
        ((s.at_ t).trustCommand b v).1 = some s'.ids.failDetail) ∧
      (((s.at_ t).trustCommand b v).1 = none → s'.ids.verifyOk = s.ids.verifyOk + 1 ∧ s'.nv.trust.seq = BitVec.ofNat 32 (leAt b 4 4)) ∧
      sameStage s s' ∧ sameSward s s' ∧ s'.aon = s.aon ∧ s'.core = s.core ∧ s'.cfg = s.cfg ∧ s'.mbx = s.mbx ∧
      s'.nv.fuse = s.nv.fuse ∧ s'.ddr = s.ddr) ∧
  (∀ (s : State) (t : Time) (b : List Byte), s.idsOk = true → s.mbx.fwRunning = true → b.length = 48 →
    ∃ m, exec (.measurementExtend t b) s = .next { s.at_ t with ids := { s.ids with meas := m } } ∧
      (∀ i, i ≠ 7 → m.getD i [] = s.ids.meas.getD i []) ∧
      (7 < s.ids.meas.length → m.getD 7 [] = Config.sha384 (s.ids.meas.getD 7 [] ++ b))) ∧
  (∀ (s : State) (t : Time), s.idsOk = true → s.inRst .fabric = false → s.brw.anchored = true →
    s.ids.sealAt + 1000000000 ≤ max s.now t →
    ∃ s', exec (.barrowSeal t) s = .next s' ∧ s'.ids.sealAt = max s.now t ∧ s'.nv = s.nv ∧ s'.mbx = s.mbx ∧ s'.aon = s.aon ∧
      sameStage s s' ∧ sameSward s s' ∧ s'.ddr = s.ddr) ∧
  (∀ (s : State) (t : Time), s.idsOk = true → s.inRst .fabric = false → s.ids.teleSealAt + 1000000000 ≤ max s.now t →
    ∃ s', exec (.telemetrySeal t) s = .next s' ∧ s'.ids.teleSealAt = max s.now t ∧ s'.ids.teleChain.isSome = true ∧
      s'.mbx.items.length = 1 ∧ s'.nv = s.nv ∧ s'.aon = s.aon ∧ sameStage s s' ∧ sameSward s s' ∧ s'.ddr = s.ddr) ∧
  (∀ (s : State) (t : Time) (d : Nat), d < 5 → s.inRst .idsol = false → s.pin.tripped.getLsbD d = false →
    s.nv.trust.tamperPolicy d = 0 →
    exec (.tamperDetect t d) s = .next { s.at_ t with
      pin := { s.pin with tripped := setBit s.pin.tripped d }, ids := { s.ids with tamperOpen := setBit s.ids.tamperOpen d } }) ∧
  (∀ (s : State) (t : Time) (d : Nat), d < 5 → s.inRst .idsol = false → s.pin.tripped.getLsbD d = false →
    s.nv.trust.tamperPolicy d = 3 → s.fused .tamper = 4 → s.pin.powerFail = none → s.episode = false → s.core.srcs.length = 15 →
    ∃ s', exec (.tamperDetect t d) s = .next s' ∧ s'.nv.trust.enrol = [] ∧ s'.ids.tamperSeen.getLsbD d = true ∧
      s'.ids.event.getLsbD 0 = true ∧ s'.ids.event.getLsbD 4 = true ∧ s'.srcOn .tamper = true ∧ s'.vot.killLatch = true) ∧
  (∀ (s : State) (t : Time) (d : Nat), d < 5 → s.inRst .idsol = false →
    exec (.tamperLoopRestored t d) s = .next { s.at_ t with
      pin := { s.pin with tripped := clrBit s.pin.tripped d }
      ids := { s.ids with tamperOpen := clrBit s.ids.tamperOpen d, disarmed := clrBit s.ids.disarmed d } })) ∧
  ((∀ (s : State) (t : Time), s.frz.speaking = true → s.idsOk = true → s.ids.rotationOwed = true → s.ids.kbcNum = 0 →
    s.ids.rotation = none →
    ∃ s', exec (.kbcRotation t) s = .next s' ∧ s'.ids.kbcNum = 1 ∧ s'.ids.draws = s.ids.draws + 1 ∧ s'.ids.rotationOwed = false ∧
      s'.ids.kbc = some ((Config.randomKey s.ids.draws).take 16) ∧ s'.ids.event.getLsbD 5 = true ∧ sameStage s s' ∧
      sameSward s s' ∧ s'.aon = s.aon ∧ sameStore s s') ∧
  (∀ (s : State) (t : Time) (r : KbcRotation), s.ids.rotation = some r → s.frz.speaking = true → r.waiting = [] →
    ∃ s', exec (.kbcSwitch t) s = .next s' ∧ s'.ids = { s.ids with
        kbcPrev := s.ids.kbc, kbc := some r.key, kbcNum := r.num, rotation := none, event := setBit s.ids.event 5 } ∧
      sameStage s s' ∧ sameSward s s' ∧ s'.aon = s.aon ∧ sameStore s s') ∧
  (∀ (s : State) (t : Time), s.ids.rotation = none → exec (.kbcSwitch t) s = .next (s.at_ t)) ∧
  (∀ (s : State) (t : Time) (p : Port), s.htlUp = true → (s.port p).state = .up →
    exec (.hopRekey t p) s = .next ((s.at_ t).updPort p (fun q => { q with rekeying := true }))))

/-- The boot ROM takes the TRYING slot, counting the try, while it has fewer than 3, else the GOOD slot; Idsol's judgement permits it
or marks the slot BAD; MBX_RUN with its key reports the firmware running; a confirmed TRYING slot becomes GOOD with GEN one above the
other's; the firmware loads the collector's policy from the image (R547, R548, R574, R575).
The loader: selection records both slots' judgements and, with no VALID one, leaves no image in force; WRITE, APPLY_WARM and
APPLY_FULL end with the RESULT R458 lists and ERASE erases the slot not in use; an operation is refused while another runs (R451 to
R458, R463). -/
def Obligations.FirmwareAndLoader : Prop :=
  ((∀ (s : State) (t : Time), s.inRst .mgmt = false → s.mbx.bootTried = false →
    (s.nv.fw0.state = .trying → s.nv.fw0.tries < 3 →
      exec (.firmwareSlotSelect t) s = .next { s.at_ t with
        nv := { s.nv with fw0 := { s.nv.fw0 with tries := s.nv.fw0.tries + 1 } }
        mbx := { s.mbx with bootTried := true, boot := some false } }) ∧
    (s.nv.fw0.state = .good → s.nv.fw1.state ≠ .good → s.nv.fw1.state ≠ .trying →
      exec (.firmwareSlotSelect t) s =
        .next { s.at_ t with mbx := { s.mbx with bootTried := true, boot := some false } }) ∧
    (s.nv.fw0.state = .empty → s.nv.fw1.state = .empty →
      exec (.firmwareSlotSelect t) s =
        .next { s.at_ t with mbx := { s.mbx with bootTried := true, boot := none } })) ∧
  (∀ (s : State) (t : Time) (k : Bool), s.mbx.boot = some k → s.inRst .mgmt = false → s.idsOk = true →
    ∃ s', exec (.firmwareVerify t) s = .next s' ∧
      (((s.at_ t).verifyFile 3 (s.nv.fw k).image).1 = true → s'.ids.permit = true ∧ s'.mbx.boot = none ∧ s'.mbx.fwSlot = k ∧
        s'.nv = s.nv) ∧
      (((s.at_ t).verifyFile 3 (s.nv.fw k).image).1 = false → (s'.nv.fw k).state = .bad ∧ s'.ids.permit = s.ids.permit ∧
        s'.mbx.boot = (if (s.nv.fw (!k)).state = .good then some (!k) else none)) ∧
      sameStage s s' ∧ sameSward s s' ∧ s'.aon = s.aon ∧ s'.core = s.core ∧ s'.cfg = s.cfg ∧ s'.ddr = s.ddr) ∧
  (∀ (s : State) (t : Time) (v : Word), s.inRst .fabric = false → s.mbx.fwRunning = false →
    (field v 15 0 = 0xC3A5 → exec (.firmwareRunning t v) s = .next { s.at_ t with mbx :=
      { s.mbx with fwRunning := true, fwSince := (s.at_ t).opMs, fwSession := false } }) ∧
    (field v 15 0 ≠ 0xC3A5 → exec (.firmwareRunning t v) s = .next ((s.at_ t).report 0x200 0x01 0x00C00048 0))) ∧
  (∀ (s : State) (t : Time), s.mbx.fwRunning = true → s.mbx.fwSession = true → s.mbx.fwSlot = false →
    s.nv.fw0.state = .trying → s.mbx.fwSince + s.fldN .mgmtFwConfirm * 10000 ≤ (s.at_ t).opMs →
    exec (.firmwareConfirm t) s = .next { s.at_ t with nv :=
      { s.nv with fw0 := { s.nv.fw0 with state := .good, gen := (s.nv.fw1.gen + 1) % 2 ^ 32 } } }) ∧
  (∀ (s : State) (t : Time) (im : Image), s.cfg.force = some im → s.mbx.fwRunning = true → s.core.bringup = true →
    s.inRst .fabric = false →
    ∃ l, exec (.firmwarePolicyLoad t) s = .next { s.at_ t with flt := { s.flt with srcs := l } } ∧
      l.length = s.flt.srcs.length ∧
      (∀ (i : Nat) (x y : FltSource), s.flt.srcs[i]? = some x → l[i]? = some y → y.code = x.code ∧ y.total = x.total ∧ y.pend = x.pend ∧
        y.n = ((im.vals.lookup (Fld.mgmtFltN, x.code)).map Int.toNat).getD x.n ∧
        y.t = ((im.vals.lookup (Fld.mgmtFltT, x.code)).map Int.toNat).getD x.t))) ∧
  ((∀ (s : State) (t : Time), s.inRst .fabric = false → s.cfg.selected = false → s.nv.fuse.otpFault = none → s.nv.slot0 = [] →
    s.nv.slot1 = [] →
    ∃ s', exec (.imageSelection t) s = .next s' ∧ s'.cfg.selected = true ∧ s'.cfg.force = s.cfg.force ∧ s'.cfg.check0 = 1 ∧
      s'.cfg.check1 = 1 ∧ s'.cfg.seq0 = 0 ∧ s'.cfg.seq1 = 0 ∧ sameStage s s' ∧ sameSward s s' ∧ sameStore s s') ∧
  (∀ (s : State) (t : Time) (x : CfgOp × List Byte × Option Image), s.inRst .fabric = false → s.cfg.op = some x →
    exec (.write t) s = .next ((s.at_ t).cfgDone .write 15 (s.cfgSeq .write) none) ∧
    exec (.applyWarm t) s = .next ((s.at_ t).cfgDone .applyWarm 15 (s.cfgSeq .applyWarm) none) ∧
    exec (.applyFull t) s = .next ((s.at_ t).cfgDone .applyFull 15 (s.cfgSeq .applyFull) none) ∧
    exec (.erase t) s = .next ((s.at_ t).cfgDone .erase 15 (s.cfgSeq .erase) none)) ∧
  (∀ (s : State) (t : Time), s.inRst .fabric = false → s.cfg.op = none → s.cfg.src.toNat + s.cfg.len ≤ 30 * 2 ^ 30 →
    ∃ s', exec (.write t) s = .next s' ∧
      (((s.at_ t).judgeImage (s.ddr.readBytes s.cfg.src.toNat s.cfg.len)).1.image = none →
        s'.cfg.lastOp = 1 ∧ s'.cfg.op = none ∧ s'.nv.slot0 = s.nv.slot0 ∧ s'.nv.slot1 = s.nv.slot1 ∧
        s'.cfg.result = ((s.at_ t).judgeImage (s.ddr.readBytes s.cfg.src.toNat s.cfg.len)).1.code) ∧
      (((s.at_ t).judgeImage (s.ddr.readBytes s.cfg.src.toNat s.cfg.len)).1.image.isSome = true → s.cfg.force = none →
        s'.cfg.op.isSome = true ∧ s'.nv.slot0 = [] ∧ s'.nv.slot1 = s.nv.slot1) ∧
      sameStage s s' ∧ sameSward s s' ∧ s'.ddr = s.ddr ∧ s'.nv.fuse = s.nv.fuse) ∧
  (∀ (s : State) (t : Time) (f im : Image), s.inRst .fabric = false → s.cfg.op = none → s.cfg.force = some f →
    s.cfg.staged = some im → s.core.bringup = false → (s.cfg.combined im).constraints = true →
    ∃ s', exec (.applyWarm t) s = .next s' ∧ s'.cfg = { s.cfg with
        active := !s.cfg.active, force := some im, warmPending := true, lastOp := 2, result := 0 } ∧
      sameStage s s' ∧ sameSward s s' ∧ sameStore s s') ∧
  (∀ (s : State) (t : Time), s.inRst .fabric = false → s.cfg.op = none → s.cfg.force = none → s.cfg.staged = none →
    exec (.applyFull t) s = .next ((s.at_ t).cfgDone .applyFull 15 0 none)) ∧
  (∀ (s : State) (t : Time), s.inRst .fabric = false → s.cfg.op = none → s.cfg.force.isSome = true →
    ∃ q, exec (.applyFull t) s =
      .next (((s.at_ t).cfgDone .applyFull 0 q none).assertReset .remote (s.fused .remote))) ∧
  (∀ (s : State) (t : Time), s.inRst .fabric = false → s.cfg.op = none → s.cfg.force.isSome = true → s.cfg.active = false →
    exec (.erase t) s = .next { s.at_ t with
      nv := { s.nv with slot1 := [] }
      cfg := { s.cfg with op := some (.erase, [], none), opBy := none, writes1 := min 65535 (s.cfg.writes1 + 1) } }) ∧
  (∀ (s : State) (t : Time), s.cfg.op = some (.erase, [], none) → s.cfg.opBy = none → s.cfg.force.isSome = true →
    s.cfg.active = false →
    ∃ s', exec (.cfgOperationComplete t true) s = .next s' ∧ s'.cfg = { s.cfg with
        op := none, opBy := none, lastOp := 4, result := 0, check1 := 1, seq1 := 0, image1 := none } ∧
      sameStage s s' ∧ sameSward s s' ∧ sameStore s s'))

/-- SEQ A is later than SEQ B when (A − B) mod 2³² lies between 1 and 2³¹ − 1 (R450). -/
def Obligations.SerialOrder : Prop :=
  ∀ a b : Nat, a < 2 ^ 32 → b < 2 ^ 32 →
    (later a b = true ↔ ∃ d : Nat, 1 ≤ d ∧ d ≤ 2 ^ 31 - 1 ∧ ((a : Int) - b) % 2 ^ 32 = d)

/-- The SCALAR operations: each writes its result to register A and goes on, B a register, the other operand register C or, with OP
bit 7, IMM; CYCLE_LO and CYCLE_HI write the halves of the cycle counter; a shift by 32 or more writes some value. Nothing else
changes but that a free value may have been taken. A write of register 0 has no effect (R312).
LOAD and STORE of a word of the tussock's own SRAM (R258, R312): LOAD writes the word at B + IMM, its address wrapped and
aligned, to A; STORE writes C to it and leaves every other byte as it was. An access to bank 7 in rows 0 to 15 reads 0, stores
nothing and is reported, and a word with two bits in error halts the tussock with CAUSE 1 (R259, R283). -/
def Obligations.ScalarsAndMemory : Prop :=
  (∀ (s : State) (t : Time) (x : TIns), s.runs x.tus →
    let k := s.tus x.tus
    let b := k.reg x.b
    let c := if x.useImm then x.imm else k.reg x.c
    let put (v : Word) : State := s.became t x.tus { k with regs := if x.a = 0 then k.regs else k.regs.set x.a v, pc := k.pc + 1 }
    exec (.scalarAdd t x) s = .next (put (b + c)) ∧
    exec (.scalarSub t x) s = .next (put (b - c)) ∧
    exec (.scalarMul t x) s = .next (put (b * c)) ∧
    exec (.scalarAnd t x) s = .next (put (b &&& c)) ∧
    exec (.scalarOr t x) s = .next (put (b ||| c)) ∧
    exec (.scalarXor t x) s = .next (put (b ^^^ c)) ∧
    exec (.scalarSlt t x) s = .next (put (if b.toInt < c.toInt then 1 else 0)) ∧
    (c.toNat < 32 → exec (.scalarShl t x) s = .next (put (b <<< c.toNat)) ∧
      exec (.scalarShr t x) s = .next (put (b >>> c.toNat)) ∧
      exec (.scalarSar t x) s = .next (put (b.sshiftRight c.toNat))) ∧
    (32 ≤ c.toNat → ∃ v, exec (.scalarShl t x) s = .next (put v) ∧ exec (.scalarShr t x) s = .next (put v) ∧
      exec (.scalarSar t x) s = .next (put v)) ∧
    exec (.cycleLo t x) s = .next (put (BitVec.ofNat 32 (k.cyclesNow (max s.now t)))) ∧
    exec (.cycleHi t x) s = .next (put (BitVec.ofNat 32 (k.cyclesNow (max s.now t) / 2 ^ 32)))) ∧
  (∀ (s : State) (t : Time) (x : TIns), s.runs x.tus →
    let k := s.tus x.tus
    let p := (k.reg x.b + x.imm).toNat / 4 * 4 % 2 ^ 19
    k.corrected ≤ 65535 →
    (x.ev = [] → (512 ≤ x.tus ∨ p + 4 ≤ 7 * 65536) →
      exec (.scalarLoad t x) s = .next (s.became t x.tus
        { k with regs := if x.a = 0 then k.regs else k.regs.set x.a (k.sram.readWord p), pc := k.pc + 1 }) ∧
      ∃ m, exec (.scalarStore t x) s = .next (s.became t x.tus { k with sram := m, pc := k.pc + 1 }) ∧
        (k.sram.wf = true → m.readWord p = k.reg x.c) ∧ ∀ q, q < p ∨ p + 4 ≤ q → m.read q = k.sram.read q) ∧
    (x.ev = [] → x.tus < 512 → 7 * 65536 ≤ p →
      exec (.scalarLoad t x) s = .next ((s.became t x.tus
        { k with regs := if x.a = 0 then k.regs else k.regs.set x.a 0, pc := k.pc + 1, arith := { k.arith with bank7 := true } }).report
          (0xF00 + x.tus / 32) 0x45 x.tus 0) ∧
      exec (.scalarStore t x) s = .next ((s.became t x.tus
        { k with pc := k.pc + 1, arith := { k.arith with bank7 := true } }).report (0xF00 + x.tus / 32) 0x45 x.tus 0)) ∧
    (x.ev = [(p, .double)] → 512 ≤ x.tus →
      exec (.scalarLoad t x) s = .next ((s.became t x.tus
        { k with st := .halted, cause := 1, uncorr := setBit k.uncorr (p / 65536) }).report (0xF00 + x.tus / 32) 0x44 x.tus
          (p / 65536))))

/-- The CONTROL operations: NOP goes on; JUMP, BNZ and BZ set the number of the next instruction; WAIT stands until its arrival counter
has reached B and TAKE lowers it, at least to 0; FENCE stands while a flit of this tussock has not entered a link; STEP requests a
step 0 to 5; HALT halts with CAUSE 0, and an undecodable instruction, or STEP 6 or 7, with CAUSE 3 and a report (R279, R290, R312).
Nothing else changes but that a free value may have been taken.
An instruction of a tussock that is not in RUN, or is not powered, has no effect at all (R297, R312). -/
def Obligations.ControlAndHalts : Prop :=
  (∀ (s : State) (t : Time) (x : TIns), s.runs x.tus →
    let k := s.tus x.tus
    let n := x.imm.toNat % 16
    let faulted : State := (s.became t x.tus { k with st := .halted, cause := 3 }).report (0xF00 + x.tus / 32) 0x43 x.tus 3
    exec (.nop t x) s = .next (s.became t x.tus { k with pc := k.pc + 1 }) ∧
    exec (.jump t x) s = .next (s.became t x.tus { k with pc := x.imm.toNat }) ∧
    exec (.bnz t x) s = .next (s.became t x.tus { k with pc := if k.reg x.b = 0 then k.pc + 1 else x.imm.toNat }) ∧
    exec (.bz t x) s = .next (s.became t x.tus { k with pc := if k.reg x.b = 0 then x.imm.toNat else k.pc + 1 }) ∧
    ((k.reg x.b).toNat ≤ (k.cnt.getD n 0).toNat → exec (.wait t x) s = .next (s.became t x.tus { k with pc := k.pc + 1 })) ∧
    ((k.cnt.getD n 0).toNat < (k.reg x.b).toNat → exec (.wait t x) s = .next (s.became t x.tus k)) ∧
    exec (.take t x) s = .next (s.became t x.tus { k with
      cnt := k.cnt.set n (BitVec.ofNat 32 ((k.cnt.getD n 0).toNat - (k.reg x.b).toNat)), pc := k.pc + 1 }) ∧
    ((∀ m ∈ s.swd.mesh, m.src = x.tus → m.via ≠ .local_) →
      exec (.fence t x) s = .next (s.became t x.tus { k with pc := k.pc + 1 })) ∧
    ((∃ m ∈ s.swd.mesh, m.src = x.tus ∧ m.via = .local_) → exec (.fence t x) s = .next (s.became t x.tus k)) ∧
    (x.imm.toNat % 8 ≤ 5 →
      exec (.step t x) s = .next (s.became t x.tus { k with requested := x.imm.toNat % 8, pc := k.pc + 1 })) ∧
    (5 < x.imm.toNat % 8 → exec (.step t x) s = .next faulted) ∧
    exec (.halt t x) s = .next (s.became t x.tus { k with st := .halted, cause := 0 }) ∧
    exec (.undecodableInstruction t x.tus) s = .next faulted) ∧
  (∀ (s : State) (t : Time) (x : TIns), (s.tus x.tus).st ≠ .run ∨ s.swd.powered = false →
    ∀ c ∈ ([Instr.scalarAdd, .scalarLoad, .scalarStore, .cycleLo, .nop, .jump, .take, .fence, .step, .halt, .mma, .drain,
        .vectorAdd, .vectorDiv, .cvt, .recip, .cos, .send, .streamRead, .addI32, .swap] : List (Time → TIns → Instr)),
      exec (c t x) s = .next (s.at_ t))

/-- MMA with formats that pair and parameters within their ranges accumulates C block by block and goes on; the descriptor's faults
halt the tussock with CAUSE 3 (R264 to R266, R313).
One block onto an accumulator entry. An integer pair whose scales are not 0xFF and whose exponent does not fall below X adds the
exact sum, shifted, within 32 bits, wrapped or saturated (R267, R268); a scale 0xFF marks the entry INVALID (R269); a floating-point
pair adds its exact products and the entry in one rounding to fp32 (R270).
DRAIN converts the first m rows and n columns of the accumulator file into SRAM and clears them, leaving every other entry and
every byte outside its ranges (R271, R313). -/
def Obligations.MatricesAccumulate : Prop :=
  (∀ (s : State) (t : Time) (x : TIns), s.runs x.tus →
    let k := s.tus x.tus
    let cx := s.ctx t x
    let w := cx.desc k
    cx.descOk k → plain x k [(cx.addr k, 64)] →
    (∀ (fa fb : NFmt) (cols : Nat) (ints : Bool),
      NFmt.ofCode (field (w 0) 3 0) = some fa → NFmt.ofCode (field (w 0) 7 4) = some fb → mmaShape fa fb = some (cols, ints) →
      let d : Mma := { fa := fa, fb := fb, m := field (w 0) 14 8 + 1, n := field (w 1) 14 8 + 1
                       k := 32 * (field (w 1) 7 0 + 1), x := signed 8 (field (w 0) 22 15), sat_ := bitOf (w 0) 23
                       clear := bitOf (w 0) 24, a := (w 2).toNat, b := (w 3).toNat, sa := (w 4).toNat, sb := (w 5).toNat }
      d.n ≤ cols →
      (∀ a ∈ (if ints then [d.a, d.b, d.sa, d.sb] else [d.a, d.b]), a % 64 = 0 ∧ a < 2 ^ 19) →
      plain x k ([(d.a, d.m * d.k * fa.bits / 8), (d.b, d.k * d.n * fb.bits / 8)]
        ++ (if ints then [(d.sa, d.m * d.k / 32), (d.sb, d.n * d.k / 32)] else [])) →
      exec (.mma t x) s = .next (s.became t x.tus (cx.mma d ints k).next) ∧
      (cx.mma d ints k).sram = k.sram ∧ (cx.mma d ints k).regs = k.regs ∧ (cx.mma d ints k).gens = k.gens) ∧
    (NFmt.ofCode (field (w 0) 3 0) = none →
      exec (.mma t x) s = .next ((s.became t x.tus { k with st := .halted, cause := 3 }).report (0xF00 + x.tus / 32) 0x43 x.tus 3))) ∧
  ((∀ (x p : Int) (st : Bool) (ea eb : Nat) (e : AccEntry), ea ≠ 255 → eb ≠ 255 → 0 ≤ (ea : Int) + eb - 254 - x →
    let c := p * 2 ^ ((ea : Int) + eb - 254 - x).toNat;
    -(2 ^ 31) ≤ c → c < 2 ^ 31 → -(2 ^ 31) ≤ e.val.toInt + c → e.val.toInt + c < 2 ^ 31 →
    (accInt x st ea eb p e).1.val.toInt = e.val.toInt + c ∧ (accInt x st ea eb p e).1.invalid = e.invalid ∧
      (accInt x st ea eb p e).2 = Events.none) ∧
  (∀ (x p : Int) (ea eb : Nat) (e : AccEntry), ea ≠ 255 → eb ≠ 255 → 0 ≤ (ea : Int) + eb - 254 - x →
    let c := p * 2 ^ ((ea : Int) + eb - 254 - x).toNat;
    -(2 ^ 31) ≤ c → c < 2 ^ 31 → 2 ^ 31 ≤ e.val.toInt + c →
    (accInt x true ea eb p e).1.val = 0x7FFFFFFF ∧ (accInt x false ea eb p e).1.val = e.val + BitVec.ofInt 32 c ∧
      (accInt x true ea eb p e).2 = Events.ov ∧ (accInt x false ea eb p e).2 = Events.ov) ∧
  (∀ (x p : Int) (st : Bool) (ea eb : Nat) (e : AccEntry), ea = 255 ∨ eb = 255 →
    (accInt x st ea eb p e).1.invalid = true ∧ (accInt x st ea eb p e).1.val = e.val ∧ (accInt x st ea eb p e).2 = Events.inv) ∧
  (∀ (st : Bool) (prods : List (FVal × FVal)) (e : AccEntry),
    (∀ q ∈ prods, (∃ a m, q.1 = .fin a m) ∧ ∃ b n, q.2 = .fin b n) → (∃ h m, decodeFloat .fp32 e.val.toNat = .fin h m) →
    let total := (decodeFloat .fp32 e.val.toNat).real + sumRat (prods.map (fun q => q.1.real * q.2.real))
    total ≠ 0 →
    (accFloat st prods e).1.val = BitVec.ofNat 32 (encodeVal .fp32 st .rn (FVal.ofRat total)).1 ∧
      (accFloat st prods e).1.invalid = e.invalid)) ∧
  (∀ (s : State) (t : Time) (x : TIns) (f : NFmt), s.runs x.tus →
    let k := s.tus x.tus
    let cx := s.ctx t x
    let w := cx.desc k
    let m := field (w 0) 12 6 + 1
    let n := field (w 0) 19 13 + 1
    let bytes := (m * n * f.bits + 7) / 8
    cx.descOk k → plain x k [(cx.addr k, 64)] → NFmt.ofCode (field (w 0) 3 0) = some f → f.scaled = false →
    (w 1).toNat + bytes ≤ 2 ^ 19 → (w 1).toNat < 2 ^ 19 → plain x k [((w 1).toNat, bytes)] →
    ∃ k', exec (.drain t x) s = .next (s.became t x.tus k') ∧ k'.pc = k.pc + 1 ∧ k'.st = .run ∧ k'.regs = k.regs ∧
      (∀ i, (i / 128 < m ∧ i % 128 < n → k'.acc.lookup i = none) ∧ (¬(i / 128 < m ∧ i % 128 < n) → k'.acc.lookup i = k.acc.lookup i)) ∧
      (∀ q, q < (w 1).toNat ∨ (w 1).toNat + bytes ≤ q → k'.sram.read q = k.sram.read q))

/-- An element-wise operation in round to nearest, on formats the vector unit has it for, stores for every element the result its
operation gives and goes on (R260, R276, R313).
The results of R276 on int32: sums, differences and products wrapped or saturated, quotients rounded, 0x80000000 for a division
by 0; and on floating-point values the exact sum, product and quotient rounded once, the root of a negative number NaN, with the
events of R274 and R277. -/
def Obligations.VectorsRun : Prop :=
  (∀ (s : State) (t : Time) (x : TIns) (v : Vec), s.runs x.tus →
    let k := s.tus x.tus
    let cx := s.ctx t x
    ∀ p ∈ ([(.vectorAdd, .add), (.vectorSub, .sub), (.vectorMul, .mul), (.vectorFma, .fma), (.vectorDiv, .div), (.vectorSqrt, .sqrt),
        (.vectorMax, .max_), (.vectorMin, .min_), (.vectorShl, .shl), (.vectorShr, .shr), (.vectorSar, .sar)] :
        List ((Time → TIns → Instr) × VOp)),
      cx.descOk k → vecOf (cx.desc k) = some v → p.2.fits v = true → v.sr = false →
      plain x k [(cx.addr k, 64), (v.a, vecBytes v.src v.n), (v.b, vecBytes v.src v.n), (v.c, vecBytes v.src v.n),
        (v.d, vecBytes v.dst v.n)] →
      ∃ codes e, exec (p.1 t x) s = .next (s.became t x.tus
          { cx.store k v.d (packElems v.dst codes) with pc := k.pc + 1, arith := e }) ∧
        codes.length = v.n ∧ ∀ i, i < v.n →
          let free := Config.freeWord s.free (sramBytes + i)
          let a := cx.elem k v.src v.a i
          let b := cx.elem k v.src v.b i
          let c := cx.elem k v.src v.c i
          codes[i]? = some (if v.src = .int32 then (p.2.intElem v free.toNat a b c k i).1
            else (p.2.floatElem v (.fin (free.getLsbD 0) 0) a b c k i).1)) ∧
  ((∀ (st : Bool) (o a b c : Nat),
    let x := signed 32 a
    let y := signed 32 b
    (VOp.add).onInt st .rn o a b c = some (intOut st (x + y)) ∧
    (VOp.sub).onInt st .rn o a b c = some (intOut st (x - y)) ∧
    (VOp.mul).onInt st .rn o a b c = some (intOut st (x * y)) ∧
    (y = 0 → (VOp.div).onInt st .rn o a b c = some (0x80000000, Events.inv)) ∧
    (b < 32 → (VOp.shl).onInt st .rn o a b c = some (intOut st (x * 2 ^ b)))) ∧
  (∀ z : Int, (-(2 ^ 31) ≤ z → z < 2 ^ 31 → ∀ st, signed 32 (intOut st z).1 = z ∧ (intOut st z).2 = Events.none) ∧
    (2 ^ 31 ≤ z → (intOut true z).1 = 0x7FFFFFFF ∧ (intOut true z).2 = Events.ov ∧ (intOut false z).2 = Events.ov ∧
      ((intOut false z).1 : Int) = z % 2 ^ 32) ∧
    (z < -(2 ^ 31) → (intOut true z).1 = 0x80000000 ∧ (intOut true z).2 = Events.ov)) ∧
  (∀ (p q : Bool) (m n : Rat) (tie c : FVal),
    (VOp.mul).onVal tie (.fin p m) (.fin q n) c = some (.fin (p ^^ q) (m * n), Events.none) ∧
    (n ≠ 0 → (VOp.div).onVal tie (.fin p m) (.fin q n) c = some (.fin (p ^^ q) (m / n), Events.none)) ∧
    (m ≠ 0 → (VOp.div).onVal tie (.fin p m) (.fin q 0) c = some (.inf (p ^^ q), Events.none)) ∧
    ((VOp.div).onVal tie (.fin p 0) (.fin q 0) c = some (.nan, Events.inv)) ∧
    (0 < m → (VOp.sqrt).onVal tie (.fin true m) c c = some (.nan, Events.inv))) ∧
  (∀ (tie c : FVal) (n : Bool), (VOp.add).onVal tie (.inf n) (.inf (!n)) c = some (.nan, Events.inv)))

/-- CVT stores the codes and block scales that the conversion of R274 and R275 gives and goes on; and a conversion to a format
without block scales, in round to nearest, gives every element its own code.
The approximations, on fp32 or bf16 operands, in round to nearest, store for every element the value that R278 bounds or states:
RECIP of a zero an infinity of its sign and of an infinity a zero; EXP2 and EXP beyond their domains 0 and infinity; LOG2 of 0 minus
infinity and of a negative number NaN; TANH and SIGMOID at the infinities; SIN and COS beyond 4096 NaN (R278, R313). -/
def Obligations.ConversionsAndTables : Prop :=
  ((∀ (s : State) (t : Time) (x : TIns) (v : Vec), s.runs x.tus →
    let k := s.tus x.tus
    let cx := s.ctx t x
    cx.descOk k → vecOf (cx.desc k) = some v →
    plain x k [(cx.addr k, 64), (v.a, vecBytes v.src v.n), (v.d, vecBytes v.dst v.n), (v.scales, (v.n + 31) / 32)] →
    let vs := (List.range v.n).map (cx.value k v)
    let given := if v.given then some (fun j => (cx.byte k (v.scales + j)).toNat) else none
    let r := (vs.foldl (fun (k : Tus) y => k.events y.2) k).convert v.dst v.sr v.sat_ given (fun i => i % 64) (vs.map Prod.fst)
    exec (.cvt t x) s = .next (s.became t x.tus
      (cx.store (cx.store r.2.2 v.d (packElems v.dst r.1)) v.scales (r.2.1.map (BitVec.ofNat 8))).next)) ∧
  (∀ (k : Tus) (f : NFmt) (st : Bool) (g : Option (Nat → Nat)) (lane : Nat → Nat) (vs : List FVal) (i : Nat) (y : FVal),
    f.scaled = false → vs[i]? = some y →
    (k.convert f false st g lane vs).1[i]? = some (encodeVal f st .rn y).1 ∧ (k.convert f false st g lane vs).2.1 = []) ∧
  (∀ (f : NFmt) (xs : List FVal), (∃ y ∈ xs, y = .nan ∨ ∃ n, y = .inf n) → chooseScale f xs = 255) ∧
  (∀ (f : NFmt) (xs : List FVal), (∀ y ∈ xs, ∃ n, y = .fin n 0) → chooseScale f xs = 127) ∧
  (∀ (f : NFmt) (xs : List FVal), (∀ y ∈ xs, ∃ n m, y = .fin n m) → 1 ≤ chooseScale f xs ∧ chooseScale f xs ≤ 254)) ∧
  ((∀ (s : State) (t : Time) (x : TIns) (v : Vec), s.runs x.tus →
    let k := s.tus x.tus
    let cx := s.ctx t x
    ∀ p ∈ ([(.recip, .recip), (.rsqrt, .rsqrt), (.exp2, .exp2), (.exp, .exp), (.log2, .log2), (.tanh, .tanh),
        (.sigmoid, .sigmoid), (.sin, .sin), (.cos, .cos)] : List ((Time → TIns → Instr) × AOp)),
      cx.descOk k → vecOf (cx.desc k) = some v → v.src = .fp32 ∨ v.src = .bf16 → directFmt v.dst = true → v.sr = false →
      plain x k [(cx.addr k, 64), (v.a, vecBytes v.src v.n), (v.d, vecBytes v.dst v.n)] →
      ∃ codes e, exec (p.1 t x) s = .next (s.became t x.tus
          { cx.store k v.d (packElems v.dst codes) with pc := k.pc + 1, arith := e }) ∧
        codes.length = v.n ∧ ∀ i, i < v.n → codes[i]? = some (encodeVal v.dst v.sat_ .rn
          (p.2.eval (if v.src = .bf16 then cx.elem k v.src v.a i * 65536 else cx.elem k v.src v.a i)).1).1) ∧
  (∀ (c : Nat) (n : Bool) (m : Rat),
    (decodeFloat .fp32 c = .fin n 0 → (AOp.recip).eval c = (.inf n, Events.none)) ∧
    (decodeFloat .fp32 c = .inf n → (AOp.recip).eval c = (.fin n 0, Events.none) ∧
      (AOp.exp2).eval c = (if n then .fin false 0 else .inf false, Events.none) ∧ (AOp.tanh).eval c = (.fin n 1, Events.none) ∧
      (AOp.sigmoid).eval c = (.fin false (if n then 0 else 1), Events.none) ∧ (AOp.sin).eval c = (.nan, Events.inv) ∧
      (AOp.cos).eval c = (.nan, Events.inv)) ∧
    (decodeFloat .fp32 c = .fin true m → 150 < m → (AOp.exp2).eval c = (.fin false 0, Events.none)) ∧
    (decodeFloat .fp32 c = .fin false m → 128 < m → (AOp.exp2).eval c = (.inf false, Events.none)) ∧
    (decodeFloat .fp32 c = .fin false m → 89 < m → (AOp.exp).eval c = (.inf false, Events.none)) ∧
    (decodeFloat .fp32 c = .fin n 0 → (AOp.log2).eval c = (.inf true, Events.none)) ∧
    (decodeFloat .fp32 c = .fin true m → 0 < m → (AOp.log2).eval c = (.nan, Events.inv) ∧
      (AOp.rsqrt).eval c = (.nan, Events.inv)) ∧
    (decodeFloat .fp32 c = .fin n m → 4096 < m → (AOp.sin).eval c = (.nan, Events.inv) ∧ (AOp.cos).eval c = (.nan, Events.inv))))

/-- A STREAM operation whose descriptor names a stream the tussock may send puts its flits into the mesh, in order, and goes on; one
that it may not send halts it with CAUSE 3 and DETAIL 5 and sends nothing (R303, R304, R313).
The local atomics add to, or replace, a word of the tussock's own SRAM and store the word it held at the return address; ADD_I32
wraps, ADD_F32 rounds once to nearest (R282, R313). -/
def Obligations.StreamsAndAtomics : Prop :=
  (∀ (s : State) (t : Time) (x : TIns), s.runs x.tus →
    let k := s.tus x.tus
    let cx := s.ctx t x
    let w := cx.desc k
    let n := field (w 1) 27 12 + 1
    let src := (w 2).toNat
    ∀ p ∈ ([(.send, 0), (.sendAddI32, 1), (.sendAddF32, 2), (.streamRead, 3), (.streamSwap, 4)] :
        List ((Time → TIns → Instr) × Nat)),
      cx.descOk k → src % 32 = 0 → src < 2 ^ 19 → plain x k [(cx.addr k, 64), (src, min sramBytes (32 * n))] →
      (∀ st, k.outStream (field (w 1) 11 0) = some st →
        ∃ fs : List Flit, exec (p.1 t x) s = .next { s.at_ t with free := s.free + 1, swd := { s.swd with
            tus := upd s.swd.tus x.tus (fun _ => { k with pc := k.pc + 1 })
            mesh := s.swd.mesh ++ fs.map (fun f => ⟨f, x.tus / 32, x.tus % 32, .local_, x.tus⟩) } } ∧
          fs.length = n ∧ ∀ f ∈ fs, f.op = p.2 ∧ f.stream = st ∧ f.drow = field (w 0) 31 27 ∧ f.dcol = field (w 0) 26 22 ∧
            f.bank = field (w 0) 21 19 ∧ f.tag = field (w 3) 15 0 ∧ f.wen = field (w 3) 23 16 ∧ f.payload.length = 8) ∧
      (k.outStream (field (w 1) 11 0) = none →
        exec (p.1 t x) s = .next ((s.became t x.tus { k with st := .halted, cause := 3 }).report (0xF00 + x.tus / 32) 0x43 x.tus 5))) ∧
  ((∀ (s : State) (t : Time) (x : TIns), s.runs x.tus →
    let k := s.tus x.tus
    let cx := s.ctx t x
    let w := cx.desc k
    let a := (w 0).toNat / 4 * 4
    let d := (w 2).toNat / 4 * 4
    let old := k.sram.readWord a
    cx.descOk k → (w 0).toNat < 2 ^ 19 → (w 2).toNat < 2 ^ 19 → plain x k [(cx.addr k, 64), (a, 4), (d, 4)] →
    ∀ p ∈ ([(.addI32, 1), (.addF32, 2), (.swap, 3)] : List ((Time → TIns → Instr) × Nat)),
      ∃ m e, exec (p.1 t x) s = .next (s.became t x.tus { k with sram := m, pc := k.pc + 1, arith := e }) ∧
        (k.sram.wf = true → m.readWord d = old ∧ (a ≠ d → m.readWord a = (atomicWord p.2 old (w 1)).1)) ∧
        ∀ q, q < a ∨ a + 4 ≤ q → q < d ∨ d + 4 ≤ q → m.read q = k.sram.read q) ∧
  (∀ old v : Word, (atomicWord 1 old v).1 = old + v ∧ (atomicWord 3 old v).1 = v ∧
    (atomicWord 2 old v).1 = BitVec.ofNat 32
      (encodeVal .fp32 false .rn (addV (decodeFloat .fp32 old.toNat) (decodeFloat .fp32 v.toNat)).1).1))

/-- A router forwards the oldest flit of a queue and class along its row, then along its column, while the link has a credit of
eight; a flit with an unused OP, or that would leave the mesh sideways, is discarded and reported, and one with no credit waits
(R284 to R288).
At its destination a WRITE whose stream the tussock admits writes its enabled words and no other byte, and counts at the counter
its stream is bound to; one that is not admitted is discarded and counted; a halted tussock drops it; a word port N holds is
retried (R280, R281, R305, R306). -/
def Obligations.FlitsMove : Prop :=
  (∀ (s : State) (t : Time) (r c : Nat) (v : Via) (reply : Bool) (m : Moving) (rest : List Moving), r < 20 → c < 32 →
    (s.tus (32 * r + c)).stopped = false → s.swd.waiting r c v reply = m :: rest →
    (m.flit.bad = none → c < m.flit.dcol → c < 31 → (s.tus (32 * r + (c + 1))).closed = false →
      (s.tus (32 * r + (c + 1))).stopped = false → (s.swd.waiting r (c + 1) .left reply).length < 8 →
      exec (.flitRoute t r c v reply) s = .next { s.at_ t with swd := { s.swd with
        mesh := s.swd.mesh.erase m ++ [⟨m.flit, r, c + 1, .left, m.src⟩] } }) ∧
    (m.flit.bad = none → c = m.flit.dcol → r < m.flit.drow → m.flit.drow ≤ 19 → (s.tus (32 * (r + 1) + c)).closed = false →
      (s.tus (32 * (r + 1) + c)).stopped = false → (s.swd.waiting (r + 1) c .up reply).length < 8 →
      exec (.flitRoute t r c v reply) s = .next { s.at_ t with swd := { s.swd with
        mesh := s.swd.mesh.erase m ++ [⟨m.flit, r + 1, c, .up, m.src⟩] } }) ∧
    (m.flit.bad = none → c = m.flit.dcol → m.flit.drow = r → exec (.flitRoute t r c v reply) s = .next (s.at_ t)) ∧
    (m.flit.bad = none → c < m.flit.dcol → c < 31 → (s.tus (32 * r + (c + 1))).closed = false →
      8 ≤ (s.swd.waiting r (c + 1) .left reply).length → exec (.flitRoute t r c v reply) s = .next (s.at_ t)) ∧
    (∀ d, m.flit.bad = some d →
      exec (.flitRoute t r c v reply) s = .next ((s.took t m).report (0xF00 + r) 0x47 (32 * r + c) d)) ∧
    (7 ≤ m.flit.op → m.flit.bad = some 1) ∧ (m.flit.op = 3 → m.flit.wen ≠ 1 → m.flit.bad = some 2)) ∧
  ((∀ (s : State) (t : Time) (r c : Nat) (v : Via) (reply : Bool) (m : Moving) (rest : List Moving), r < 20 → c < 32 →
    let i := 32 * r + c
    let k := s.tus i
    i < s.swd.tus.length → k.stopped = false → k.closed = false → k.retries = [] → s.swd.waiting r c v reply = m :: rest →
    m.flit.bad = none → m.flit.drow = r → m.flit.dcol = c → m.flit.op = 0 →
    (k.st ≠ .halted → (r ≤ 15 → m.flit.bank ≠ 7) → k.admits m.flit.stream = true → k.corrected ≤ 65535 →
      ∃ ram cnt, exec (.flitArrival t r c v reply [] []) s = .next { s.took t m with swd := { (s.swd.remove m) with
          tus := upd s.swd.tus i (fun _ => { k with sram := ram, cnt := cnt }) } } ∧
        (∀ j, k.sram.wf = true → j < 8 → m.flit.wen.testBit j = true → ram.readWord (m.flit.word j) = m.flit.payload.getD j 0) ∧
        (∀ q, (∀ j, j < 8 → m.flit.wen.testBit j = true → q < m.flit.word j ∨ m.flit.word j + 4 ≤ q) → ram.read q = k.sram.read q) ∧
        ((∀ j, j < 16 → ¬(bitOf (k.bind_.getD j 0) 12 = true ∧ field (k.bind_.getD j 0) 11 0 = m.flit.stream)) → cnt = k.cnt)) ∧
    (k.st = .halted → ∀ n ev, exec (.flitArrival t r c v reply n ev) s = .next (s.took t m)) ∧
    (k.st ≠ .halted → (r ≤ 15 → m.flit.bank ≠ 7) → k.admits m.flit.stream = false → k.rejectSeen = true →
      ∀ n ev, exec (.flitArrival t r c v reply n ev) s = .next { s.took t m with swd := { (s.swd.remove m) with
        tus := upd s.swd.tus i (fun _ => { k with rejects := k.rejects + 1 }) } })) ∧
  (∀ (s : State) (t : Time) (i b : Nat) (r : Retry) (rest : List Retry), i < 640 → i < s.swd.tus.length →
    (s.tus i).closed = false → (s.tus i).stopped = false → (s.tus i).retries = r :: rest → r.flit.bank = b → r.flit.op = 0 →
    r.fails < 64 →
    ∃ k', exec (.portSRetry t i b []) s = .next { s.at_ t with swd := { s.swd with tus := upd s.swd.tus i (fun _ => k') } } ∧
      k'.retries = rest ∧ k'.pc = (s.tus i).pc ∧ k'.regs = (s.tus i).regs ∧
      (∀ j, (s.tus i).sram.wf = true → j < 8 → r.flit.wen.testBit j = true → k'.sram.readWord (r.flit.word j) = r.flit.payload.getD j 0)))

/-- A change of granted step (R290, R291): the step granted is the highest of request, ceiling and governor; D5 gates the clock, a
slower step stops it at once, a faster one waits for its supply; the clock restarts at the new divider.
The governor: a mean above the limit raises its step by one, at most once a millisecond and to 4 at most; a mean below nine
tenths of it for 10 ms lowers it by one (R292). CEIL is written in range only, and not while the periphery does not answer (R290,
R298). A seed is written outside RUN only (R273). -/
def Obligations.StepsAndSeeds : Prop :=
  ((∀ (s : State) (t : Time) (i : Nat), i < 640 → (s.tus i).change = none → (s.tus i).st = .run →
    let k := s.tus i
    let g := max (max k.requested s.swd.ceil) s.swd.gov
    let put (k' : Tus) : State := { s.at_ t with swd := { s.swd with tus := upd s.swd.tus i (fun _ => k') } }
    let k1 := { k.sync (max s.now t) with granted := g }
    (g = k.granted → exec (.dvfsGrant t i) s = .next (s.at_ t)) ∧
    (g ≠ k.granted → g = 5 → exec (.dvfsGrant t i) s = .next (put { k1 with st := .gated, clock := 5 })) ∧
    (g ≠ k.granted → g ≠ 5 → k.clock < g → exec (.dvfsGrant t i) s = .next (put
      { k1 with st := .clockStop, change := some ⟨g, false, true, max s.now t, .run⟩ })) ∧
    (g ≠ k.granted → g ≠ 5 → g ≤ k.clock → exec (.dvfsGrant t i) s = .next (put
      { k1 with change := some ⟨g, true, false, max s.now t, .run⟩ }))) ∧
  (∀ (s : State) (t : Time) (i : Nat) (c : StepChange), (s.tus i).change = some c →
    let k := s.tus i
    let put (k' : Tus) : State := { s.at_ t with swd := { s.swd with tus := upd s.swd.tus i (fun _ => k') } }
    (c.faster = true → c.stopped = false → exec (.dvfsSupplyArrival t i) s = .next (put { k.sync (max s.now t) with
      st := .clockStop, change := some { c with stopped := true, since := max s.now t } })) ∧
    (c.stopped = true → max (max k.requested s.swd.ceil) s.swd.gov = k.granted →
      exec (.dvfsClockRestart t i) s = .next (put { k.sync (max s.now t) with st := c.back, clock := c.step, change := none })))) ∧
  ((∀ (s : State) (t : Time) (p : Rat), s.inRst .planning = false → s.swd.powered = true →
    let ps := (p :: s.swd.power).take 100
    let limit : Rat := 10 * s.fld .swardPowerLimit
    (limit < meanRat ps → s.swd.gov < 4 → s.swd.govRaised + 1000000 ≤ max s.now t →
      ∃ l, exec (.governorMeasure t p) s = .next { s.at_ t with swd := { s.swd with
        power := ps, govLow := l, gov := s.swd.gov + 1, govEvents := s.swd.govEvents + 1, govRaised := max s.now t } }) ∧
    (∀ x, meanRat ps ≤ limit → meanRat ps < 9 * limit / 10 → s.swd.govLow = some x → x + 10000000 ≤ max s.now t → 0 < s.swd.gov →
      exec (.governorMeasure t p) s = .next { s.at_ t with swd := { s.swd with
        power := ps, govLow := some (max s.now t), gov := s.swd.gov - 1 } }) ∧
    (meanRat ps ≤ limit → 9 * limit / 10 ≤ meanRat ps →
      exec (.governorMeasure t p) s = .next { s.at_ t with swd := { s.swd with power := ps, govLow := none } })) ∧
  (∀ (s : State) (t : Time) (v : Word), s.inRst .planning = false → s.swd.shed = false →
    (field v 2 0 ≤ 4 → exec (.ceilWrite t v) s = .next { s.at_ t with swd := { s.swd with ceil := field v 2 0 } }) ∧
    (4 < field v 2 0 → exec (.ceilWrite t v) s = .next ((s.at_ t).report 0x200 0x02 0x01E00004 0))) ∧
  (∀ (s : State) (t : Time) (v : Word), s.inRst .planning = true → exec (.ceilWrite t v) s =
    .next ((s.at_ t).report 0x200 0x01 0x01E00004 3)) ∧
  (∀ (s : State) (t : Time) (i : Nat) (v : Word), i < 640 → s.tusAnswers i = true →
    ((s.tus i).inRun = false →
      exec (.seedWrite t i false v) s = .next ((s.at_ t).updTus i (fun k =>
        { k with seed := (k.seed &&& 0xFFFFFFFF00000000#64) ||| v.setWidth 64 })) ∧
      exec (.seedWrite t i true v) s = .next (({ s.at_ t with latches := insertKey s.latches (0x01000008 + i * 0x4000) v }).updTus i
        (fun k => { k with seed := (k.seed &&& 0xFFFFFFFF#64) ||| (v.setWidth 64 <<< 32) }))) ∧
    ((s.tus i).inRun = true →
      exec (.seedWrite t i false v) s = .next ((s.at_ t).report 0x200 0x01 (0x01000004 + i * 0x4000) 4))))

/-- A tussock whose PLL locks is IDLE; one whose clock fails is FAILED with CAUSE 2, marked and reported, and nothing outside the
sward and the collector changes (R293, R294).
A load halts every tussock in RUN with CAUSE 4, takes the ceiling of the image, leaves no entry running and owes the start; at
the first mark after it every idle or halted tussock of an entry enters RUN at instruction 0 with its generators seeded, and the
watch on plan vectors begins (R273, R314, R315, R317).
No vector written for `planner.watchdog` while the planner's entry runs asserts the sward watchdog at its fused level; before that
the command does nothing (R204). A boundary of the lanes' superframe takes the mean grid power once (R165, R587). -/
def Obligations.ClocksProgramsAndLanes : Prop :=
  ((∀ (s : State) (t : Time) (i : Nat), i < 640 → i < s.swd.tus.length → s.swd.powered = true → (s.tus i).st = .reset →
    ∃ b, exec (.tussockPllLock t i true) s = .next { s.at_ t with swd := { s.swd with
        tus := upd s.swd.tus i (fun k => { k with st := .idle, cyclesAt := max s.now t })
        lock := if i ∈ s.swd.lock then s.swd.lock else s.swd.lock ++ [i]
        meshUp := b } } ∧ (s.swd.meshUp = true → b = true)) ∧
  (∀ (s : State) (t : Time) (i d : Nat), i < 640 → i < s.swd.tus.length → s.swd.powered = true → (s.tus i).st ≠ .failed →
    (s.tus i).st ≠ .gated ∨ d ≠ 1 →
    ∃ s', exec (.tussockClockFail t i d) s = .next s' ∧ s'.tus i = { Tus.reset with st := .failed, cause := 2 } ∧
      i ∈ s'.swd.clkFault ∧ (d = 2 → i ∉ s'.swd.lock) ∧ (d ≠ 2 → s'.swd.lock = s.swd.lock) ∧
      (∀ j, j ≠ i → s'.tus j = s.tus j) ∧ s'.swm = s.swm ∧ sameStage s s' ∧ sameRow s s' ∧ sameAon s s' ∧ s'.brw = s.brw ∧
      sameMgmt s s' ∧ sameStore s s') ∧
  (∀ (s : State) (t : Time) (i d : Nat), (s.tus i).st = .failed → exec (.tussockClockFail t i d) s = .next (s.at_ t))) ∧
  ((∀ (s : State) (t : Time), s.swd.loadOwed = true → s.lexUp = true → s.cfg.prog.isSome = true → s.core.bringup = false →
    ∃ s', exec (.programLoad t) s = .next s' ∧ s'.swd.loadOwed = false ∧ s'.swd.goOwed = true ∧ s'.swd.running = false ∧
      s'.swd.loadAt = max s.now t ∧ s'.swd.ceil = s.fldN .swardCeiling ∧ s'.swd.dma = [] ∧
      (∀ i, (s.tus i).inRun = true → (s'.tus i).st = .halted ∧ (s'.tus i).cause = 4) ∧
      ((∀ k, k < 8 → s.fldN .programsRole k = 0) → s'.swd.areas = [] ∧ s'.swd.landings = [] ∧ s'.swm = s.swm ∧ s'.flt = s.flt ∧
        s'.brw = s.brw ∧ ∀ i, (s.tus i).st ≠ .failed → (s'.tus i).entry = 15) ∧
      sameStage s s' ∧ s'.aon = s.aon ∧ s'.core = s.core ∧ s'.cfg = s.cfg ∧ s'.frz = s.frz ∧ s'.ddr = s.ddr) ∧
  (∀ (s : State) (t m : Time), s.emit.markAt = some m → s.swd.goOwed = true → s.lexUp = true → s.vot.formed = true →
    s.swd.loadAt ≤ m → s.swd.sources = [] →
    ∃ l : List Tus, exec (.go t) s = .next { s.at_ t with
        swd := { s.swd with tus := l, running := true, goOwed := false }
        emit := { s.emit with wroteAt := max s.now t } } ∧
      ∀ (i : Nat) (k : Tus), s.swd.tus[i]? = some k → ∃ k', l[i]? = some k' ∧
        k'.sram = k.sram ∧ k'.regs = k.regs ∧ k'.acc = k.acc ∧ k'.seed = k.seed ∧
        (k.entry = 15 → k'.st = k.st ∧ k'.pc = k.pc) ∧
        (k.entry ≠ 15 → k.st = .idle ∨ k.st = .halted →
          k'.st = .run ∧ k'.pc = 0 ∧ k'.cause = 0 ∧ k'.gens = (List.range 64).map (seedGen k.seed))) ∧
  (∀ (s : State) (t : Time), s.swd.goOwed = false → exec (.go t) s = .next (s.at_ t))) ∧
  ((∀ (s : State) (t : Time), s.inRst .planning = false → s.swd.shed = false → s.plannerRuns = true → s.aon.mode ≠ .held →
    (max s.emit.wroteAt (s.dom .planning).release + s.lfldN .plannerWatchdog * 10000000 ≤ max s.now t →
      exec (.swardWatchdog t) s = .next (({ s.at_ t with emit := { s.emit with wdog := true, wroteAt := max s.now t } }).assertReset
        .swardWdog (s.fused .swardWdog))) ∧
    (max s.now t < max s.emit.wroteAt (s.dom .planning).release + s.lfldN .plannerWatchdog * 10000000 →
      exec (.swardWatchdog t) s = .next (s.at_ t))) ∧
  (∀ (s : State) (t : Time), 0 < s.fes.count → s.htl.sfLanes ≠ some (sfOf (s.rings.lanes.now (max s.now t))) →
    exec (.superframeBoundary t .lanes) s = .next { s.at_ t with
      htl := { s.htl with sfLanes := some (sfOf (s.rings.lanes.now (max s.now t))) }
      fes := { s.fes with pg := s.fes.sum / s.fes.count, flat := (s.fes.sum / s.fes.count :: s.fes.flat).take 1000, sum := 0, count := 0 } }) ∧
  (∀ (s : State) (t : Time), s.htl.sfLanes = some (sfOf (s.rings.lanes.now (max s.now t))) →
    exec (.superframeBoundary t .lanes) s = .next (s.at_ t)))

/-- EMIT pairs two halves of one TAG into the newest plan vector written and rejects a half without its partner; SUMMARY_OUT gathers
1600 bytes; REPORT passes a finding on and, from the 1001st of a second, counts it as rejected; ROW sends an entry's traffic; a frame
of samples goes to its landing rings while programs run (R307, R309).
A DMA descriptor that may be performed waits, at most 64 of an entry, and one that may not moves nothing, is counted and answered
with 0xFFFFFFFF; on completion of one that writes memory its lines stand in memory, every other byte is as before, and the
count of lines goes to the completion word (R247, R310, R311). -/
def Obligations.ServicesAndDma : Prop :=
  ((∀ (s : State) (t : Time) (above : Bool) (col : Nat) (m : Moving), s.offers above col 0xF00 m →
    (m.flit.half = false → s.swd.emitHalf = none →
      exec (.emit t above col) s = .next { s.at_ t with swd := { s.swd.remove m with emitHalf := some m.flit } }) ∧
    (∀ g, m.flit.half = true → s.swd.emitHalf = some g → g.tag = m.flit.tag → s.vot.formed = true → s.emit.written = none →
      exec (.emit t above col) s = .next { s.at_ t with
        swd := { s.swd.remove m with emitHalf := none }
        emit := { s.emit with wroteAt := max s.now t, written := some (g.payload ++ m.flit.payload) } }) ∧
    (∀ g, m.flit.half = true → s.swd.emitHalf = some g → g.tag ≠ m.flit.tag →
      exec (.emit t above col) s = .next { s.at_ t with swd := { s.swd.remove m with reject := s.swd.reject + 1 } })) ∧
  (∀ (s : State) (t : Time) (above : Bool) (col : Nat) (m : Moving), s.offers above col 0xF06 m →
    let l := s.swd.summary ++ m.flit.payload.flatMap (fun (w : Word) => leBytes 4 w.toNat)
    (l.length < 1600 → exec (.summaryOut t above col) s = .next { s.at_ t with swd := { s.swd.remove m with summary := l } }) ∧
    (1600 ≤ l.length → exec (.summaryOut t above col) s = .next { s.at_ t with swd :=
      { s.swd.remove m with summary := [], summaryOut := some (l.take 1600) } })) ∧
  (∀ (s : State) (t : Time) (above : Bool) (col : Nat) (m : Moving), s.offers above col 0xF09 m →
    s.swd.reportSecond = (s.at_ t).opMs / 1000 →
    let n := lookupD s.swd.reports (s.tus m.src).entry 0
    let s1 := { s.at_ t with swd := { s.swd.remove m with reports := insertKey s.swd.reports (s.tus m.src).entry (n + 1) } }
    (n < 1000 → exec (.report t above col) s = .next (s1.finding (s.tus m.src).entry
      (m.flit.payload.flatMap (fun (w : Word) => leBytes 4 w.toNat)))) ∧
    (1000 ≤ n → exec (.report t above col) s = .next { s1 with swd := { s1.swd with reject := s.swd.reject + 1 } })) ∧
  (∀ (s : State) (t : Time) (above : Bool) (col dst ch : Nat) (m : Moving), s.offers above col 0xF08 m →
    exec (.row t above col dst ch) s = .next ((s.took t m).htlSend 5 (0x100 + ch % 256) dst
      (m.flit.payload.flatMap (fun (w : Word) => leBytes 4 w.toNat)))) ∧
  (∀ (s : State) (t : Time) (fr : List Byte), s.inRst .planning = false → s.swd.running = true →
    ∃ ms ls, exec (.samplesDelivery t fr) s = .next { s.at_ t with swd := { s.swd with mesh := ms, landings := ls } } ∧
      ls = s.swd.landings.map (fun (l : Landing) => if l.service = 2 then { l with count := l.count + 16 } else l)) ∧
  (∀ (s : State) (t : Time) (fr : List Byte), s.swd.running = false → exec (.samplesDelivery t fr) s = .next (s.at_ t))) ∧
  ((∀ (s : State) (t : Time) (above : Bool) (col e : Nat) (m : Moving), s.offers above col (0xF10 + e) m → e < 8 →
    (s.swd.dma.filter (fun d => d.entry == e)).length < 64 →
    ((s.took t m).dmaOk ⟨e, m.flit.payload⟩ = true →
      exec (.dmaDescriptor t above col e) s = .next { s.at_ t with swd :=
        { s.swd.remove m with dma := s.swd.dma ++ [(⟨e, m.flit.payload⟩ : Dma)] } }) ∧
    ((s.took t m).dmaOk ⟨e, m.flit.payload⟩ = false →
      exec (.dmaDescriptor t above col e) s = .next (({ s.took t m with swd :=
        { s.swd.remove m with reject := s.swd.reject + 1 } }).completion (m.flit.w 5) (0xF10 + e) 0xFFFFFFFF))) ∧
  (∀ (s : State) (t : Time) (above : Bool) (col e : Nat), 64 ≤ (s.swd.dma.filter (fun d => d.entry == e)).length →
    exec (.dmaDescriptor t above col e) s = .next (s.at_ t)) ∧
  (∀ (s : State) (t : Time) (e : Nat) (d : Dma), s.inRst .planning = false → s.swd.dma.find? (fun d => d.entry == e) = some d →
    d.out = true → 64 * gib ≤ d.addr →
    ∃ m, exec (.dmaComplete t e) s = .next (({ s.at_ t with swm := m, swd := { s.swd with dma := s.swd.dma.erase d } }).completion
        (d.words.getD 5 0) (0xF10 + e) (BitVec.ofNat 32 d.lines)) ∧
      (∀ i, s.swm.wf = true → i < 64 * d.lines → m.read (d.addr + i) = (s.tus d.tus).sram.read
        (field (d.words.getD 3 0) 21 19 * 65536 + field (d.words.getD 3 0) 18 9 * 64 + i)) ∧
      (∀ q, q < d.addr ∨ d.addr + 64 * d.lines ≤ q → m.read q = s.swm.read q)))

/-- LOOKUP, BEST, PIN, UNPIN and READ start an operation when none runs, and are out of range while one does; where the registers do
not answer they are reported. On completion BUSY clears and the result shows: NOT_READY before the priors are loaded, MISS for a
key without a lemma, and for a lemma LOOKUP finds, its slot and header, its core then first in the cache (R244, R246, R256).
The priors of the image take slots 0 to 255 and the engine is ready; the scan after a return leaves lemmas whose check is right and
ends CHECKING; a LEMMA request before that is answered NOT_READY; an OBSERVE flit adds its samples to the pair that it names
(R226, R235, R236, R246, R248, R307). -/
def Obligations.LexiconWorks : Prop :=
  ((∀ (s : State) (t : Time) (off : Nat), s.inRst .planning = false → s.swd.shed = false → s.lex.op = none →
    exec (.lookup t) s = .next { s.at_ t with lex := { s.lex with op := some (1, 0) } } ∧
    exec (.best t) s = .next { s.at_ t with lex := { s.lex with op := some (2, 0) } } ∧
    exec (.pin t) s = .next { s.at_ t with lex := { s.lex with op := some (3, 0) } } ∧
    exec (.unpin t) s = .next { s.at_ t with lex := { s.lex with op := some (4, 0) } } ∧
    exec (.read t off) s = .next { s.at_ t with lex := { s.lex with op := some (5, off % 1024) } }) ∧
  (∀ (s : State) (t : Time) (x : Nat × Nat), s.inRst .planning = false → s.swd.shed = false → s.lex.op = some x →
    ∀ c ∈ [Instr.lookup t, .best t, .pin t, .unpin t, .read t 0], exec c s = .next ((s.at_ t).report 0x200 0x02 0x02000048 0)) ∧
  (∀ (s : State) (t : Time), s.inRst .planning = true → exec (.lookup t) s = .next ((s.at_ t).report 0x200 0x01 0x02000048 3)) ∧
  (∀ (s : State) (t : Time) (op off : Nat), s.lexUp = true → s.lex.op = some (op, off) →
    (s.lex.ready = false → exec (.lexOperationComplete t) s = .next { s.at_ t with lex := { s.lex with
      op := none, result := 6, slot := 0, words := List.replicate 16 0 } }) ∧
    (s.lex.ready = true → s.lex.slotOf s.lex.key.toNat = none → op = 1 ∨ op = 5 →
      exec (.lexOperationComplete t) s = .next { s.at_ t with lex := { s.lex with
        op := none, result := 1, slot := 0, words := List.replicate 16 0 } }) ∧
    (∀ n l, s.lex.ready = true → s.lex.checking = false → s.lex.slotOf s.lex.key.toNat = some n → op = 1 →
      s.lex.lines.find? (fun p => p.2 == n) = some l →
      exec (.lexOperationComplete t) s = .next { s.at_ t with lex := { s.lex with
        op := none, result := 0, slot := n, hit := s.lex.hit + 1, lines := l :: s.lex.lines.filter (fun q => q.2 != n)
        words := (List.range 16).map (fun i => s.swm.readWord (n * 65536 + 4 * i)) } }))) ∧
  ((∀ (s : State) (t : Time) (im : Image), s.cfg.prog = some im → s.lexUp = true → s.lex.priorsLoaded = false →
    ∃ s', exec (.priorsLoad t) s = .next s' ∧ s'.lex.ready = true ∧ s'.lex.priorsLoaded = true ∧
      (∀ p ∈ s.lex.index, 256 ≤ p.1 → p ∈ s'.lex.index) ∧
      s'.lex.index.filter (fun p => decide (p.1 < 256)) = ((List.range 256).zip im.priors).map (fun c => (c.1, leAt c.2 0 8)) ∧
      s'.swd = s.swd ∧ s'.emit = s.emit ∧ sameStage s s' ∧ sameRow s s' ∧ sameAon s s' ∧ sameLog s s' ∧ sameMgmt s s' ∧
      sameStore s s') ∧
  (∀ (s : State) (t : Time), s.lexUp = true → s.lex.checking = true →
    (∀ p ∈ s.lex.index, lemN s.swm p.1 0x3C 4 = lemCrc s.swm p.1) →
    exec (.lexiconScanEnd t) s = .next { s.at_ t with lex := { s.lex with checking := false } }) ∧
  (∀ (s : State) (t : Time) (n k : Nat), s.lexUp = true → s.lex.checking = true → s.lex.index = [(n, k)] →
    lemN s.swm n 0x3C 4 ≠ lemCrc s.swm n →
    exec (.lexiconScanEnd t) s = .next { s.at_ t with
      swm := lemZero s.swm n
      lex := { s.lex with checking := false, index := [], dropped := s.lex.dropped + 1
                          lines := s.lex.lines.filter (fun p => p.2 != n) } }) ∧
  (∀ (s : State) (t : Time) (above : Bool) (col : Nat) (m : Moving), s.offers above col 0xF05 m → s.lex.ready = false →
    1 ≤ field (m.flit.w 0) 3 0 → field (m.flit.w 0) 3 0 ≤ 5 →
    ∃ f g : Flit, exec (.lemmaRequest t above col) s = .next (((s.took t m).fromPort f).fromPort g) ∧
      f.payload = [6, 0, 0, 0, 0, 0, 0, 0] ∧ g.payload = List.replicate 8 0 ∧ f.tag = m.flit.tag ∧ g.tag = m.flit.tag ∧
      f.drow = field (m.flit.w 7) 31 27 ∧ f.dcol = field (m.flit.w 7) 26 22 ∧ f.bank = field (m.flit.w 7) 21 19 ∧
      f.line = field (m.flit.w 7) 18 9) ∧
  (∀ (s : State) (t : Time) (above : Bool) (col : Nat) (m : Moving), s.offers above col 0xF04 m →
    exec (.observe t above col) s = .next { s.took t m with lex := { s.lex with pairs := s.lex.pairs.map (fun (p : LPair) =>
      if p.job = field (m.flit.w 0) 23 0 ∧ p.group = field (m.flit.w 1) 15 0 then { p with series := observeSamples m.flit ++ p.series }
      else p) } }))

/-- A PHASE report that repeats the running phase of its pair renews it; a pair not reported for `lexicon.idle_time` ends, and a
sooner command leaves it (R223, R224).
A history block goes to its index of the ring in the sward's memory with the next BSEQ, once for its interval, and leaves every
other byte; a decimated block of 2048 bytes to its index of LU4's (R249, R250, R253). -/
def Obligations.PairsAndHistory : Prop :=
  ((∀ (s : State) (t : Time) (a : Acc) (rest : List Acc), s.hears a rest → a.c.verb = 0x01 →
    ∃ s', exec (.phase t) s = .next s' ∧ s'.frz.accepted = rest ∧ sameStage s s' ∧ sameAon s s' ∧ sameStore s s' ∧ s'.cfg = s.cfg ∧
      s'.mbx = s.mbx ∧ s'.swd = s.swd ∧ s'.emit = s.emit ∧
      (s.lexUp = true → tenseOf a.c ≠ 2 → 0 < ((s.part a.c.subject).map Partner.group).getD 0 →
        ∃ p ∈ s'.lex.pairs, p.job = objN a.c 0 3 ∧ p.group = ((s.part a.c.subject).map Partner.group).getD 0 ∧
          ∃ r ∈ p.reps, r.partner = a.c.subject ∧ r.phase = objN a.c 3 3 ∧ r.start = objN a.c 6 8)) ∧
  (∀ (s : State) (t : Time) (v : Nat) (a : Acc) (rest : List Acc), s.hears a rest → a.c.verb = v → v ≠ 0x01 →
    exec (.phase t) s = .next (s.at_ t)) ∧
  (∀ (s : State) (t : Time) (job g : Nat) (p : LPair), s.lexUp = true →
    s.lex.pairs.find? (fun p => p.job == job && p.group == g) = some p →
    (p.lastAt + s.fldN .lexiconIdleTime * 10000000 ≤ max s.now t →
      ∃ s', exec (.pairIdleEnd t job g) s = .next s' ∧ (∀ q ∈ s'.lex.pairs, ¬(q.job = job ∧ q.group = g)) ∧
        (∀ q ∈ s.lex.pairs, ¬(q.job = job ∧ q.group = g) → q ∈ s'.lex.pairs) ∧ s'.swd = s.swd ∧ s'.emit = s.emit ∧
        sameStage s s' ∧ sameRow s s' ∧ sameAon s s' ∧ sameLog s s' ∧ sameMgmt s s' ∧ sameStore s s') ∧
    (max s.now t < p.lastAt + s.fldN .lexiconIdleTime * 10000000 → exec (.pairIdleEnd t job g) s = .next (s.at_ t)))) ∧
  ((∀ (s : State) (t : Time) (fr : List Byte) (lost : Bool), s.lexUp = true → s.vot.formed = true → 0 < (s.at_ t).swardRing / 8000 →
    s.lex.bseq = 0 →
    let n := (s.at_ t).swardRing / 8000
    ∃ m, exec (.historyBlockWrite t fr lost) s = .next { s.at_ t with
        swm := m, lex := { s.lex with bseq := 1, histNew := (n - 1) * 8000, histOld := (n - 1) * 8000, tray := [] } } ∧
      (∀ i, s.swm.wf = true → i < 8 → m.read (64 * 2 ^ 30 + (n - 1) % 2 ^ 26 * 4096 + i) = (leBytes 8 ((n - 1) * 8000)).getD i 0) ∧
      (∀ q, q < 64 * 2 ^ 30 + (n - 1) % 2 ^ 26 * 4096 ∨ 64 * 2 ^ 30 + ((n - 1) % 2 ^ 26 + 1) * 4096 ≤ q → m.read q = s.swm.read q)) ∧
  (∀ (s : State) (t : Time) (fr : List Byte) (lost : Bool), s.lexUp = true → s.lex.bseq ≠ 0 →
    ((s.at_ t).swardRing / 8000 - 1) * 8000 ≤ s.lex.histNew → exec (.historyBlockWrite t fr lost) s = .next (s.at_ t)) ∧
  (∀ (s : State) (t : Time) (b : List Byte) (lost : Nat), s.inRst .mgmt = false → s.core.bringup = false → s.lex.decNew = none →
    0 < s.rings.mgmt.now (max s.now t) / 16000000 →
    let n := s.rings.mgmt.now (max s.now t) / 16000000
    ∃ bs : List Byte, exec (.decimatedBlockWrite t b lost) s = .next { s.at_ t with
        nv := { s.nv with lu4 := insertKey s.nv.lu4 ((n - 1) % decBlocks) bs }
        lex := { s.lex with decSeq := s.lex.decSeq + 1, decNew := some ((n - 1) * 16000000) } } ∧
      bs.length = 2048 ∧ bs.take 8 = leBytes 8 ((n - 1) * 16000000) ∧ (bs.drop 8).take 8 = leBytes 8 (s.lex.decSeq + 1)))

/-- A truncated or undecoded burst is counted; the checks of R343 give their verdicts in order; a clause rejected for its form is counted
and shown and goes no further; an accepted one is counted and waits for the fabric (R328, R336, R343, R344, R352). -/
def Obligations.ClausesAreJudged : Prop :=
  (∀ (s : State) (t : Time) (slot sf : Nat) (snr : Rat), s.inRst .htlFrz = false → 5 ≤ slot → slot ≤ 40 →
    exec (.burstReceived t ⟨slot, sf, snr, .truncated⟩) s = .next { s.at_ t with frz := { s.frz with trunc := s.frz.trunc + 1 } } ∧
    (s.slotHolder (slot - 5) sf = none →
      exec (.burstReceived t ⟨slot, sf, snr, .undecoded⟩) s = .next { s.at_ t with frz := { s.frz with rxFail := s.frz.rxFail + 1 } })) ∧
  (∀ (s : State) (c : Clause) (sf : Nat), (formOk c = false → s.clauseVerdict c sf = 4) ∧
    (formOk c = true → c.subject = 255 → c.verb ≠ 0x06 → c.verb ≠ 0x0A → s.clauseVerdict c sf = 6) ∧
    (formOk c = true → c.subject ≠ 255 → s.part c.subject = none → s.clauseVerdict c sf = 5) ∧
    (∀ p key high seen old, formOk c = true → c.subject ≠ 255 → s.part c.subject = some p → pLive p = true →
      s.rxKey p c sf = some (key, high, seen, old) → tagOk key c = false → s.clauseVerdict c sf = 1) ∧
    (∀ p key high seen old, formOk c = true → c.subject ≠ 255 → s.part c.subject = some p → pLive p = true →
      s.rxKey p c sf = some (key, high, seen, old) → tagOk key c = true → staleAt c sf = false → (c.seq, c.tag) ∉ seen →
      seqFresh high seen c.seq = true → s.clauseVerdict c sf = 0)) ∧
  (∀ (s : State) (t : Time) (sf slot : Nat) (c : Clause), s.inRst .htlFrz = false → formOk c = false →
    ∃ f, exec (.clauseRelay t sf slot c) s = .next { (s.at_ t).takeInbox 4 with frz := f } ∧ f.relayIn = s.frz.relayIn + 1 ∧
      f.reject = s.frz.reject + 1 ∧ f.lastReject = (4, c.subject, c.verb, slot) ∧ f.accepted = s.frz.accepted ∧
      f.rxOk = s.frz.rxOk ∧ f.parts = s.frz.parts ∧ f.valid = s.frz.valid) ∧
  (∀ (s : State) (t : Time) (sf slot : Nat) (c : Clause), s.inRst .htlFrz = false → s.clauseVerdict c sf = 0 →
    s.frz.accepted.length < 512 →
    ∃ s', exec (.clauseRelay t sf slot c) s = .next s' ∧ s'.frz.rxOk = s.frz.rxOk + 1 ∧ s'.frz.relayIn = s.frz.relayIn + 1 ∧
      s'.frz.accepted = s.frz.accepted ++ [⟨sf, slot, c⟩] ∧ s'.frz.reject = s.frz.reject ∧ sameStage s s' ∧ sameAon s s' ∧
      sameStore s s' ∧ s'.cfg = s.cfg ∧ s'.ids = s.ids ∧ s'.ccd = s.ccd ∧ s'.lex = s.lex)

/-- What an accepted clause does: VFTABLE enters the power of the indices it names, THROTTLE and STEP the index a member runs at, ACK
of an offer in progress marks its member acknowledged, HELLO enters the stranger's table, LEAVE notes the superframe announced; and a
clause of another verb at the front is left alone (R340, R344, R349, R360, R368, R372, R376). -/
def Obligations.ClausesAct : Prop :=
  (∀ (s : State) (t : Time) (a : Acc) (rest : List Acc), s.hears a rest →
    let id := a.c.subject
    (a.c.verb = 0x03 → (s.cpart id).vf.length = 16 →
      ∃ vf : List Nat, exec (.vftable t) s = .next ((s.heardOne t rest).updCpart id (fun p => { p with vf := vf })) ∧
        (∀ i, i < 7 → objN a.c 0 1 + i < 16 → vf.getD (objN a.c 0 1 + i) 0 = objN a.c (1 + 2 * i) 2) ∧
        (∀ j, j < objN a.c 0 1 ∨ objN a.c 0 1 + 7 ≤ j → vf.getD j 0 = (s.cpart id).vf.getD j 0)) ∧
    (a.c.verb = 0x04 →
      ∃ c, exec (.throttle t) s = .next { s.heardOne t rest with ccd := c } ∧
        ∃ p ∈ c.parts, p.id = (s.cpart id).id ∧ p.index = objN a.c 3 1 % 16 ∧ p.throttle = some (objN a.c 3 1 % 16, a.c.tref)) ∧
    (a.c.verb = 0x02 →
      ∃ s', exec (.stepClause t) s = .next s' ∧ s'.frz.accepted = rest ∧ (s'.cpart id).job = objN a.c 0 3 ∧
        (tenseOf a.c ≠ 2 → (s'.cpart id).index = objN a.c 3 1 % 16) ∧ sameStage s s' ∧ sameAon s s' ∧ sameStore s s' ∧
        s'.swd = s.swd ∧ s'.swm = s.swm ∧ s'.cfg = s.cfg ∧ s'.ids = s.ids ∧ s'.mbx = s.mbx) ∧
    (∀ g r, a.c.verb = 0x05 → objN a.c 2 1 = 0x24 → objN a.c 8 1 = 0 → s.group (s.cpart id).job = some g → g.round = some r →
      r.act.num = objN a.c 4 4 →
      ∃ s', exec (.ack t) s = .next s' ∧ s'.frz.accepted = rest ∧ (s'.cpart id).acked = true ∧ (s'.cpart id).heldOut = false ∧
        s'.ccd.groups = s.ccd.groups ∧ sameStage s s' ∧ sameSward s s' ∧ sameAon s s' ∧ sameLog s s' ∧ sameMgmt s s' ∧
        sameStore s s') ∧
    (a.c.verb = 0x0A → s.frz.strangers.length < 64 →
      ∃ f, exec (.hello t) s = .next { s.heardOne t rest with frz := f } ∧
        f.strangers.lookup (objN a.c 0 8) = some (max s.now t) ∧ f.accepted = rest ∧ f.parts = s.frz.parts) ∧
    (∀ p, a.c.verb = 0x09 → s.part id = some p →
      exec (.leave t) s = .next { s.heardOne t rest with frz := { s.frz with
        accepted := rest, parts := updKey s.frz.parts id (fun p => { p with leaveAt := some a.c.tref }) } }) ∧
    (a.c.verb ≠ 0x0A → exec (.hello t) s = .next (s.at_ t)) ∧ (a.c.verb ≠ 0x09 → exec (.leave t) s = .next (s.at_ t)) ∧
    (a.c.verb ≠ 0x03 → exec (.vftable t) s = .next (s.at_ t)) ∧ (a.c.verb ≠ 0x05 → exec (.ack t) s = .next (s.at_ t)))

/-- JOIN: the speaker assigns an id, notes the partner as ENROLLING and queues ENROL, a grant and three KEYX parts; no other conductor
answers it. KEYX: a first or second part is kept, and the third derives the session keys, epoch 1 at enrolment (R345 to R347).
Ends of enrolments and of epochs: one not ACTIVE in time lapses to the id's state before; a partner SILENT for `furze.lapse` loses its
keys and its id is held; a held id becomes FREE; a rekey sends KEYX parts with a new ephemeral key; an epoch beyond its grace and a
stranger not heard for 10 s are forgotten (R346, R348, R349, R358, R360). -/
def Obligations.EnrolmentsRun : Prop :=
  ((∀ (s : State) (t : Time) (a : Acc) (rest : List Acc), s.hears a rest → a.c.verb = 0x06 →
    (s.frz.speaking = false → (∀ p ∈ s.frz.parts, p.2.state = .revoked → p.2.token ≠ objN a.c 0 8) →
      exec (.join t) s = .next (s.heardOne t rest)) ∧
    (∀ id slot key, s.frz.speaking = true → s.enrolOpen = true → 1 ≤ objN a.c 12 2 → objN a.c 12 2 ≤ 0xFFFE →
      s.tokenRefused (objN a.c 0 8) = false → s.assignId (objN a.c 0 8) = some id → s.enrolSlot = some slot →
      s.nv.trust.enrol.find? (fun k => tagOk k a.c) = some key →
      ∃ s' p, exec (.join t) s = .next s' ∧ s'.part id = some p ∧ p.state = .enrolling ∧ p.token = objN a.c 0 8 ∧
        p.group = objN a.c 12 2 ∧ p.enrolKey = key ∧ p.up = [] ∧ p.joinSf = a.sf ∧ s'.ids.draws = s.ids.draws + 1 ∧
        s'.frz.accepted = rest ∧ s'.frz.down.length = s.frz.down.length + 5 ∧ (∀ j, j ≠ id → s'.part j = s.part j) ∧
        sameStage s s' ∧ sameSward s s' ∧ sameAon s s' ∧ sameLog s s' ∧ sameStore s s' ∧ s'.ccd = s.ccd ∧ s'.cfg = s.cfg)) ∧
  (∀ (s : State) (tok id : Nat), (∀ p ∈ s.frz.parts, p.2.state = .heldId → p.2.token ≠ tok) → 1 ≤ id → id ≤ 254 →
    s.part id = none → (∀ j, 1 ≤ j → j < id → (s.part j).isSome = true) → s.assignId tok = some id) ∧
  (∀ (s : State) (t : Time) (a : Acc) (rest : List Acc) (p : Partner), s.hears a rest → a.c.verb = 0x07 → enrolKeyx a.c = true →
    s.frz.speaking = true → s.part a.c.subject = some p → p.state = .enrolling → p.up = [] →
    let l := insertKey p.parts (objN a.c 0 1 % 4) (a.c.object.drop 1)
    ((l.lookup 0 = none ∨ l.lookup 1 = none ∨ l.lookup 2 = none) →
      exec (.keyx t) s = .next { s.heardOne t rest with frz := { s.frz with
        accepted := rest, parts := updKey s.frz.parts a.c.subject (fun p => { p with parts := l }) } }) ∧
    (∀ x y z, l.lookup 0 = some x → l.lookup 1 = some y → l.lookup 2 = some z →
      let secret := Config.ecdh p.ephemeral ((x ++ y ++ z).take 33)
      let salt := beBytes 8 p.token ++ beBytes 4 p.nonce
      ∃ s' q, exec (.keyx t) s = .next s' ∧ s'.part a.c.subject = some q ∧ q.epoch = 1 ∧
        q.up = Config.sessionKey salt (s.hkdfInfo a.c.subject 1) secret true ∧
        q.down = Config.sessionKey salt (s.hkdfInfo a.c.subject 1) secret false ∧ q.state = .enrolling ∧
        sameStage s s' ∧ sameSward s s' ∧ sameAon s s' ∧ sameLog s s' ∧ sameStore s s' ∧ s'.ids = s.ids)) ∧
  (∀ (s : State) (t : Time) (a : Acc) (rest : List Acc), s.hears a rest → a.c.verb ≠ 0x06 → a.c.verb ≠ 0x07 →
    exec (.join t) s = .next (s.at_ t) ∧ exec (.keyx t) s = .next (s.at_ t))) ∧
  ((∀ (s : State) (t : Time) (id : Nat) (p : Partner), s.inRst .htlFrz = false → s.part id = some p → p.state = .enrolling →
    ((s.rfldN .furzeEnrolTimeout : Int) ≤ diff32 (s.at_ t).furzeSf p.joinSf →
      ∃ s', exec (.enrolTimeout t id) s = .next s' ∧ (p.back = .free → s'.part id = none) ∧
        (p.back ≠ .free → ∃ q, s'.part id = some q ∧ q.state = p.back ∧ q.up = [] ∧ q.grants = []) ∧
        (∀ i ∈ s'.frz.down, i.dst ≠ id) ∧ (∀ j, j ≠ id → s'.part j = s.part j) ∧ sameStage s s' ∧ sameSward s s' ∧ sameAon s s' ∧
        sameLog s s' ∧ sameMgmt s s' ∧ sameStore s s' ∧ s'.ccd = s.ccd) ∧
    (diff32 (s.at_ t).furzeSf p.joinSf < s.rfldN .furzeEnrolTimeout → exec (.enrolTimeout t id) s = .next (s.at_ t))) ∧
  (∀ (s : State) (t : Time) (id : Nat) (p : Partner), s.inRst .htlFrz = false → s.frz.speaking = true → s.part id = some p →
    p.state = .silent → p.silentAt + s.rfldN .furzeLapse * 1000000000 ≤ max s.now t →
    ∃ s' q, exec (.silentLapse t id) s = .next s' ∧ s'.part id = some q ∧ q.state = .heldId ∧ q.up = [] ∧ q.down = [] ∧
      q.heldAt = max s.now t ∧ s'.ids.rotationOwed = true ∧ s'.frz.event.getLsbD 4 = true ∧ sameStage s s' ∧ sameAon s s' ∧
      sameLog s s' ∧ sameStore s s' ∧ s'.cfg = s.cfg ∧ s'.mbx = s.mbx ∧ s'.swd = s.swd ∧ s'.swm = s.swm) ∧
  (∀ (s : State) (t : Time) (id : Nat) (p : Partner), s.inRst .htlFrz = false → s.part id = some p →
    p.state = .heldId ∨ p.state = .revoked →
    (p.heldAt + s.rfldN .furzeIdHold * 1000000000 ≤ max s.now t →
      ∃ s', exec (.idHoldExpiry t id) s = .next s' ∧ s'.part id = none ∧ (∀ j, j ≠ id → s'.part j = s.part j) ∧ sameStage s s' ∧
        sameSward s s' ∧ sameAon s s' ∧ sameLog s s' ∧ sameMgmt s s' ∧ sameStore s s' ∧ s'.ccd = s.ccd) ∧
    (max s.now t < p.heldAt + s.rfldN .furzeIdHold * 1000000000 → exec (.idHoldExpiry t id) s = .next (s.at_ t))) ∧
  (∀ (s : State) (t : Time) (id : Nat) (p : Partner), s.inRst .htlFrz = false → s.frz.speaking = true → s.part id = some p →
    p.state = .active → p.rekeying = false → 0xF000 ≤ p.high →
    exec (.rekeyTimeout t id) s = .next { s.at_ t with
      ids := { s.ids with draws := s.ids.draws + 1 }
      frz := { s.frz with
        parts := updKey s.frz.parts id (fun p => { p with rekeying := true, ephemeral := Config.randomKey s.ids.draws, parts := [] })
        down := s.frz.down ++ keyxItems id (Config.p256Pub (Config.randomKey s.ids.draws)) true .down } }) ∧
  (∀ (s : State) (t : Time) (id : Nat) (p : Partner) (o : OldEpoch), s.part id = some p → p.old = some o →
    (s.rfldN .furzeEpochGrace : Int) < diff32 (s.at_ t).furzeSf o.since →
    exec (.epochGraceExpiry t id) s = .next { s.at_ t with frz := { s.frz with
      parts := updKey s.frz.parts id (fun p => match p.old with
        | none => p
        | some o => if (s.rfldN .furzeEpochGrace : Int) < diff32 (s.at_ t).furzeSf o.since then { p with old := none } else p) } }) ∧
  (∀ (s : State) (t : Time), exec (.strangerExpiry t) s = .next { s.at_ t with frz := { s.frz with
    strangers := s.frz.strangers.filter (fun x => decide (max s.now t < x.2 + 10000000000)) } }))

/-- The speaker: an eligible conductor alone on its segment becomes speaker at a boundary and beacons from the next; a record of the
election, and of the speaker's state, is kept by a listener; the speaker's superframe carries a beacon under the broadcast key,
the superframes whose number is its member's modulo 64 apart (R330 to R335).
START_REQ: one whose PEAK alone exceeds the allowance gets ADMIT with REFUSED; another is booked in the superframe found for it and
answered with ADMIT, or kept while ADMIT_OPEN is 0; the superframe found is free of other starts and within the allowance throughout
(R362, R363). -/
def Obligations.SpeakerAndStarts : Prop :=
  ((∀ (s : State) (t : Time), s.inRst .htlFrz = false → s.core.bringup = false → s.inForce = true → s.aon.locks.getLsbD 8 = true →
    s.frz.elect = [] → s.frz.speaker = none → s.frz.speaking = false → s.frz.yielding = false →
    s.frz.electSf ≠ some (s.at_ t).furzeSf → s.frz.parts = [] →
    ∃ s', exec (.superframeBoundary t .furze) s = .next s' ∧ s'.frz.speaking = true ∧ s'.frz.speaker = some s.member ∧
      s'.frz.speakFrom = ((s.at_ t).furzeSf + 1) % 2 ^ 32 ∧ s'.ids.rotationOwed = true ∧ s'.frz.event.getLsbD 0 = true ∧
      sameStage s s' ∧ sameSward s s' ∧ sameAon s s' ∧ sameLog s s' ∧ sameStore s s' ∧ s'.ccd = s.ccd) ∧
  (∀ (s : State) (t : Time) (x : ElectIn), s.inRst .htlFrz = false → x.segment = s.lfldN .topologySegment → x.member ≠ s.member →
    ∃ l, exec (.election t x) s = .next { (s.at_ t).takeInbox 2 with frz := { s.frz with elect := x :: l } } ∧
      ∀ e ∈ l, e ∈ s.frz.elect ∧ ¬(e.member = x.member ∧ e.sf = x.sf)) ∧
  (∀ (s : State) (t : Time) (x : ElectIn), s.inRst .htlFrz = false → x.segment ≠ s.lfldN .topologySegment →
    exec (.election t x) s = .next (s.at_ t)) ∧
  (∀ (s : State) (t : Time), s.inRst .htlFrz = false → s.frz.speaking = false →
    (∀ id p, exec (.speakerState t (.partner id p false)) s =
      .next { (s.at_ t).takeInbox 3 with frz := { s.frz with parts := insertKey s.frz.parts id p } }) ∧
    (∀ id, exec (.speakerState t (.gone id)) s =
      .next { (s.at_ t).takeInbox 3 with frz := { s.frz with parts := eraseKey s.frz.parts id } }) ∧
    (∀ v h, exec (.speakerState t (.map v h)) s =
      .next { (s.at_ t).takeInbox 3 with frz := { s.frz with mapVersion := v, period := h, mapPending := [] } }) ∧
    (∀ l, exec (.speakerState t (.bookings l)) s = .next { (s.at_ t).takeInbox 3 with frz := { s.frz with bookings := l } }) ∧
    (∀ n k, exec (.speakerState t (.key n k)) s =
      .next { (s.at_ t).takeInbox 3 with ids := { s.ids with kbcPrev := s.ids.kbc, kbc := some k, kbcNum := n } })) ∧
  (∀ (s : State) (t : Time) (key : List Byte), s.inRst .htlFrz = false → s.frz.sf ≠ some (s.at_ t).furzeSf → s.frz.speaking = true →
    0 ≤ diff32 (s.at_ t).furzeSf s.frz.speakFrom → (s.at_ t).furzeSf % 64 ≠ s.member → s.ids.kbc = some key →
    ∃ s' c, exec (.furzeSuperframe t) s = .next s' ∧ s'.frz.sf = some (s.at_ t).furzeSf ∧
      ((s.at_ t).furzeSf, 0, c) ∈ s'.frz.sent ∧ c.verb = 0x20 ∧ c.addressee = 255 ∧ tagOk key c = true ∧ s'.frz.ackDue = [] ∧
      sameStage s s' ∧ sameAon s s' ∧ sameStore s s' ∧ s'.cfg = s.cfg ∧ s'.ids = s.ids) ∧
  (∀ (s : State) (t : Time), s.frz.sf = some (s.at_ t).furzeSf → exec (.furzeSuperframe t) s = .next (s.at_ t))) ∧
  ((∀ (s : State) (t : Time) (a : Acc) (rest : List Acc), s.hears a rest → a.c.verb = 0x08 → s.frz.speaking = true →
    let peak := objN a.c 3 2
    let dur := objN a.c 5 2
    let b : Booking := ⟨a.c.subject, a.c.seq, peak, dur, a.c.tref, a.sf, 0, none, false, false⟩
    (s.inrush < peak → exec (.startReq t) s = .next { s.heardOne t rest with frz := { s.frz with
      accepted := rest, down := s.frz.down ++ [admitItem a.c.subject a.c.tref a.c.seq peak dur false true] } }) ∧
    (∀ base n, peak ≤ s.inrush → s.admitOpen = true → s.findStart s.frz.bookings b = (base, some n) →
      ∃ h, exec (.startReq t) s = .next { s.heardOne t rest with
        htl := h
        frz := { s.frz with
          accepted := rest, bookings := s.frz.bookings ++ [{ b with at_ := some n, base := base }]
          down := s.frz.down ++ [admitItem a.c.subject n a.c.seq peak dur false false] } }) ∧
    (peak ≤ s.inrush → s.admitOpen = false →
      ∃ h base, exec (.startReq t) s = .next { s.heardOne t rest with
        htl := h
        frz := { s.frz with accepted := rest, bookings := s.frz.bookings ++ [{ b with at_ := none, bridged := true, base := base }] } })) ∧
  (∀ (s : State) (t : Time) (a : Acc) (rest : List Acc), s.hears a rest → a.c.verb = 0x08 → s.frz.speaking = false →
    exec (.startReq t) s = .next (s.heardOne t rest)) ∧
  (∀ (s : State) (l : List Booking) (b : Booking) (base n : Nat), s.findStart l b = (base, some n) →
    (∀ x ∈ l, x.at_ ≠ some n) ∧ s.allows l b.peak b.duration n = true ∧ peakAt l n + b.peak + s.strangerShare ≤ s.inrush))

/-- A REQUEST record is kept, the newest of its member and tag; a DECISION takes effect where its group is local: an offer becomes the
round and asks every member anew, a commitment ends it and waits for its START, an emergency replaces both, and at another conductor
only its message is taken (R376, R382, R384, R385). Withdrawn governor and match requests go after their times and not before (R390,
R394).
Requests of one group combine into the highest cap index and the highest floor, each at least every request's (R388); the
action in force, the offers and the commitments come only from decisions, so a boundary at which nothing has ripened keeps the
action of a group (R376). -/
def Obligations.ConcordDecides : Prop :=
  ((∀ (s : State) (t : Time) (x : ReqRec), s.inRst .htlFrz = false → x.emergency = false →
    exec (.request t x) s = .next { (s.at_ t).takeInbox 0x11 with ccd := { s.ccd with
      reqs := (x, (s.at_ t).htlSf) :: s.ccd.reqs.filter (fun y => !(y.1.member == x.member && y.1.tag == x.tag)) } }) ∧
  (∀ (s : State) (t : Time) (d : DecRec), s.inRst .htlFrz = false → s.group d.tag = none →
    exec (.decision t d) s = .next ((s.at_ t).takeInbox 0x12)) ∧
  (∀ (s : State) (t : Time) (d : DecRec) (g : CGroup), s.inRst .htlFrz = false → s.group d.tag = some g →
    let a : Action := ⟨d.action, d.step, d.floor, d.reason, d.op == 3⟩
    let n := (s.at_ t).htlSf
    (d.op = 1 → ∃ s' g', exec (.decision t d) s = .next s' ∧ s'.group d.tag = some g' ∧
      g'.round = some ⟨a, d.tref, d.sf, d.start, n⟩ ∧ g'.act = g.act ∧ g'.commits = g.commits ∧
      (∀ p ∈ s'.members d.tag, p.acked = false) ∧ sameStage s s' ∧ sameSward s s' ∧ sameAon s s' ∧ sameLog s s' ∧ sameMgmt s s' ∧
      sameStore s s') ∧
    (d.op = 2 → ∃ s' g', exec (.decision t d) s = .next s' ∧ s'.group d.tag = some g' ∧ g'.round = none ∧ g'.act = g.act ∧
      g'.commits = g.commits ++ [⟨a, d.tref, d.sf, d.start, n⟩] ∧ s'.ccd.event.getLsbD 0 = true ∧ s'.frz = s.frz ∧
      sameStage s s' ∧ sameSward s s' ∧ sameAon s s' ∧ sameLog s s' ∧ sameMgmt s s' ∧ sameStore s s') ∧
    (d.op = 3 → ∃ s' g', exec (.decision t d) s = .next s' ∧ s'.group d.tag = some g' ∧ g'.round = none ∧ g'.commits = [] ∧
      g'.urgent = some (a, n) ∧ g'.act = g.act ∧ s'.ccd.event.getLsbD 1 = true ∧ s'.frz = s.frz ∧
      sameStage s s' ∧ sameSward s s' ∧ sameAon s s' ∧ sameLog s s' ∧ sameMgmt s s' ∧ sameStore s s')) ∧
  (∀ (s : State) (t : Time), s.inRst .fabric = false →
    ∃ l, exec (.governorRelease t) s = .next { s.at_ t with ccd := { s.ccd with gov := l } } ∧
      ∀ q ∈ s.ccd.gov, (q ∈ l ↔ ∀ t0, q.absent = some t0 → max s.now t < t0 + s.rfldN .concordReleaseTime * 100000000)) ∧
  (∀ (s : State) (t : Time) (id k : Nat) (t0 : Time), s.inRst .fabric = false → (s.cpart id).matched = some (k, some t0) →
    (t0 + s.rfldN .concordMatchHold * 1000000000 ≤ max s.now t →
      exec (.matchRelease t id) s = .next ((s.at_ t).updCpart id (fun p => { p with matched := none }))) ∧
    (max s.now t < t0 + s.rfldN .concordMatchHold * 1000000000 → exec (.matchRelease t id) s = .next (s.at_ t)))) ∧
  ((∀ (l : List Action), (∀ a ∈ l, a.cap ≤ (combine l).cap ∧ a.floor ≤ (combine l).floor) ∧
    ((combine l).cap = 0 ∨ ∃ a ∈ l, a.cap = (combine l).cap) ∧ ((combine l).floor = 0 ∨ ∃ a ∈ l, a.floor = (combine l).floor)) ∧
  (∀ (s : State) (tag : Nat) (g : CGroup), s.group tag = some g → g.urgent = none → g.round = none →
    (∀ r ∈ g.commits, s.ringTime < r.start) → ∃ g', (s.ripen tag).group tag = some g' ∧ g'.act = g.act ∧ g'.commits = g.commits))

/-- A fitted port that the shape wires trains; a locked one checks; the far end's identity, when it is the one the shape gives, is
kept, and otherwise the port is REFUSED with event 3; keys agreed put it UP, in use unless it has been DOWN, then in use once the
rejoin hold is over; a REFUSED port checks again after 10 s; a key of 2^40 cells or 1 h is exchanged anew (R408, R411 to R413, R536,
R538).
No symbols for 2 µs, or a fault cell, stall a port with event 0, and 10 ms without symbols put it DOWN; presence lost puts it
DOWN at once: event 1, DOWNS counted, its key epoch ended, the cells held for it discarded and counted; symbols that return train it
again; a port under test that loses its symbols trains again with event 7 (R413, R426, R434). -/
def Obligations.LinksComeAndGo : Prop :=
  ((∀ (s : State) (t : Time) (p : Port), s.htlUp = true → p.num < s.htl.ports.length →
    (s.port p).state = .absent ∨ (s.port p).state = .down → (s.shape.wire s.member p).isSome = true →
    ∃ s', exec (.portPresenceFitted t p) s = .next s' ∧ (s'.port p).state = .training ∧ (s'.port p).since = max s.now t ∧
      s'.portFitted p = true ∧ otherPorts s s' p ∧ offLinks s s' ∧ s'.ids = s.ids ∧ s'.htl.event = s.htl.event) ∧
  (∀ (s : State) (t : Time) (p : Port), s.htlUp = true → (s.port p).state = .training →
    ∃ s', exec (.trainingLock t p) s = .next s' ∧ (s'.port p).state = .checking ∧ (s'.port p).checked = false ∧ otherPorts s s' p ∧
      offLinks s s' ∧ s'.ids = s.ids ∧ s'.pin = s.pin ∧ s'.htl.event = s.htl.event) ∧
  (∀ (s : State) (t : Time) (p : Port) (domain member port shape n : Nat), s.htlUp = true → (s.port p).state = .checking →
    (domain = s.lfldN .topologyDomainId → shape = s.shape.code → (∃ o : Port, s.shape.wire s.member p = some (member, o) ∧ o.num = port) →
      ∃ s', exec (.linkCell t p (.identity domain member port shape n true)) s = .next s' ∧
        s'.port p = { s.port p with neighbour := some member, farPort := port % 4, checked := true } ∧ otherPorts s s' p ∧
        offLinks s s' ∧ sameAon s s' ∧ sameLog s s' ∧ s'.ids = s.ids ∧ s'.htl.event = s.htl.event) ∧
    (¬(domain = s.lfldN .topologyDomainId ∧ shape = s.shape.code ∧
        ∃ o : Port, s.shape.wire s.member p = some (member, o) ∧ o.num = port) →
      ∃ s', exec (.linkCell t p (.identity domain member port shape n true)) s = .next s' ∧ (s'.port p).state = .refused ∧
        (s'.port p).inUse = false ∧ s'.htl.event.getLsbD 3 = true ∧ otherStates s s' p ∧ offLinks s s' ∧ s'.pin = s.pin)) ∧
  (∀ (s : State) (t : Time) (p : Port), s.htlUp = true → s.idsOk = true → (s.port p).state = .checking → (s.port p).checked = true →
    (∃ s', exec (.linkCell t p (.key true true true)) s = .next s' ∧ (s'.port p).state = .up ∧
      (s'.port p).inUse = ((s.port p).inUse || !(s.port p).wasDown) ∧
      s'.ids = { s.ids with hop := upd s.ids.hop p.num (fun h => (true, h.2 + 1)) } ∧ otherPorts s s' p ∧ offLinks s s' ∧
      s'.pin = s.pin) ∧
    (∀ a b c : Bool, (a && b && c) = false →
      ∃ s', exec (.linkCell t p (.key a b c)) s = .next s' ∧ (s'.port p).state = .refused ∧ (s'.port p).inUse = false ∧
        sameStage s s' ∧ otherStates s s' p)) ∧
  (∀ (s : State) (t : Time) (p : Port), s.htlUp = true → (s.port p).state = .up →
    exec (.hopRekey t p) s = .next ((s.at_ t).updPort p (fun q => { q with rekeying := true })) ∧
    exec (.linkCell t p .switch) s = .next { s.at_ t with ids := { s.ids with event := setBit s.ids.event 6 } } ∧
    (s.idsOk = true → (s.port p).rekeying = true →
      ∃ s', exec (.linkCell t p (.key true true true)) s = .next s' ∧ s'.port p = { s.port p with rekeying := false, keyAt := max s.now t } ∧
        s'.ids.event = setBit s.ids.event 6 ∧ otherPorts s s' p ∧ offLinks s s' ∧ sameAon s s' ∧ sameLog s s') ∧
    ((s.port p).inUse = false → (s.port p).since + s.rfldN .heathlineRejoinHold * 10000000 ≤ max s.now t →
      ∃ s', exec (.rejoinHoldExpiry t p) s = .next s' ∧ (s'.port p).state = .up ∧ (s'.port p).inUse = true ∧
        s'.htl.event.getLsbD 2 = true ∧ otherPorts s s' p ∧ offLinks s s' ∧ s'.ids = s.ids ∧ s'.pin = s.pin) ∧
    (max s.now t < (s.port p).since + s.rfldN .heathlineRejoinHold * 10000000 →
      exec (.rejoinHoldExpiry t p) s = .next (s.at_ t))) ∧
  (∀ (s : State) (t : Time) (p : Port), s.htlUp = true → (s.port p).state = .refused →
    ((s.port p).since + 10000000000 ≤ max s.now t →
      ∃ s', exec (.refusedRetry t p) s = .next s' ∧ (s'.port p).state = .checking ∧ (s'.port p).checked = false ∧ otherPorts s s' p ∧
        offLinks s s' ∧ s'.ids = s.ids ∧ s'.pin = s.pin) ∧
    (max s.now t < (s.port p).since + 10000000000 → exec (.refusedRetry t p) s = .next (s.at_ t)))) ∧
  ((∀ (s : State) (t : Time) (p : Port), s.htlUp = true → (s.port p).state = .up → ∀ c ∈ [Instr.linkStall t p, .faultCell t p],
    ∃ s', exec c s = .next s' ∧ (s'.port p).state = .stalled ∧ (s'.port p).since = max s.now t ∧ (s'.port p).rekeying = false ∧
      (s'.port p).inUse = (s.port p).inUse ∧ s'.htl.event.getLsbD 0 = true ∧ otherStates s s' p ∧ offLinks s s' ∧ s'.ids = s.ids ∧
      s'.pin = s.pin) ∧
  (∀ (s : State) (t : Time) (p : Port), s.htlUp = true → (s.port p).state = .test →
    ∃ s', exec (.linkStall t p) s = .next s' ∧ (s'.port p).state = .training ∧ s'.htl.bert = none ∧
      s'.htl.event.getLsbD 7 = true ∧ otherPorts s s' p ∧ offLinks s s' ∧ s'.ids = s.ids ∧ s'.pin = s.pin) ∧
  (∀ (s : State) (t : Time) (p : Port) (c : Instr), s.htlUp = true →
    (c = .linkDown t p ∧ (s.port p).state = .stalled ∧ (s.port p).since + 9998000 ≤ max s.now t) ∨
      (c = .portPresenceLost t p ∧ (s.port p).state ≠ .absent ∧ (s.port p).state ≠ .down) →
    ∃ s', exec c s = .next s' ∧ (s'.port p).state = .down ∧ (s'.port p).inUse = false ∧ (s'.port p).wasDown = true ∧
      (s'.port p).downs = min 65535 ((s.port p).downs + 1) ∧ (s'.port p).held = [] ∧ s'.htl.event.getLsbD 1 = true ∧
      s'.htl.drops = { s.htl.drops with link := s.htl.drops.link + (s.port p).held.length } ∧
      s'.ids = { s.ids with hop := upd s.ids.hop p.num (fun h => (false, h.2)) } ∧ otherStates s s' p ∧ offLinks s s') ∧
  (∀ (s : State) (t : Time) (p : Port), s.htlUp = true → (s.port p).state = .stalled → max s.now t < (s.port p).since + 9998000 →
    exec (.linkDown t p) s = .next (s.at_ t)) ∧
  (∀ (s : State) (t : Time) (p : Port), (s.port p).state = .absent →
    exec (.portPresenceLost t p) s = .next ((s.at_ t).setFitted p false)) ∧
  (∀ (s : State) (t : Time) (p : Port), s.htlUp = true → p.num < s.htl.ports.length →
    (s.port p).state = .stalled ∨ ((s.port p).state = .down ∧ s.portFitted p = true) →
    ∃ s', exec (.linkSymbolsReturn t p) s = .next s' ∧ (s'.port p).state = .training ∧ (s'.port p).wasDown = (s.port p).wasDown ∧
      otherPorts s s' p ∧ offLinks s s' ∧ s'.ids = s.ids ∧ s'.pin = s.pin))

/-- A TIME cell of the parent steers the counter: forward by the whole offset, or held still for at most 8 ns; 64 in a row within
±2 ns from a synchronised parent synchronise, one beyond ±4 ns or from an unsynchronised parent ends it; one from another port leaves
all but the latest time heard of a HOLDING member; no TIME cell for 5 µs ends synchronisation and the islands' copies enter holdover
(R67, R430 to R432). -/
def Obligations.RingTimeFollowsParent : Prop :=
  (∀ (s : State) (t : Time) (p : Port) (x : TimeIn), s.htlUp = true → (s.port p).state = .up → s.htl.parent ≠ some p →
    x.holding = false → exec (.timeCell t p x) s = .next (s.at_ t)) ∧
  (∀ (s : State) (t : Time) (p : Port) (x : TimeIn), s.htlUp = true → (s.port p).state = .up → s.htl.parent = some p →
    x.holding = false → x.hops + 1 ≤ 64 → (∀ r ∈ s.parentPorts (s.htl.master.getD s.member), x.hops + 1 ≤ r.2) →
    let own := (s.at_ t).ringTime
    let d : Rat := ((own + x.sub - x.t1) + (x.t4 - x.t3)) / 2 + (s.rfld .heathlineAsymPs p.num : Rat) / 1000
    let o : Rat := own + x.sub - (x.t1 + d)
    ∃ s', exec (.timeCell t p x) s = .next s' ∧ s'.htl.offset = o ∧
      (roundEven o < 0 → s'.htl.counter = ⟨own + (roundEven o).natAbs, max s.now t, s.htl.counter.holdover⟩) ∧
      (0 ≤ roundEven o → s'.htl.counter = ⟨own, max s.now t + min 8 (roundEven o).natAbs, s.htl.counter.holdover⟩) ∧
      (x.sync = true → -2 ≤ o → o ≤ 2 → s'.htl.good = s.htl.good + 1 ∧
        s'.htl.sync = (s.htl.sync || decide (64 ≤ s.htl.good + 1)) ∧ s'.rings = s.rings ∧ s'.aon = s.aon) ∧
      (x.sync = false ∨ o < -4 ∨ 4 < o → s'.htl.sync = false ∧ s'.htl.good = 0 ∧
        (s.htl.sync = true → s'.rings.fabric.holdover = true ∧ s'.aon.ringHoldover = true)) ∧
      s'.htl.timeAt = max s.now t ∧ s'.htl.parent = s.htl.parent ∧ s'.htl.master = s.htl.master ∧ s'.htl.ports = s.htl.ports ∧
      offLinks s s' ∧ sameLog s s' ∧ s'.ids = s.ids ∧ s'.pin = s.pin) ∧
  (∀ (s : State) (t : Time) (p : Port), s.htlUp = true → s.htl.parent = some p →
    (s.htl.timeAt + 5000 ≤ max s.now t →
      ∃ s', exec (.parentTimeout t) s = .next s' ∧ s'.htl = { s.htl with sync := false, good := 0 } ∧
        (s.htl.sync = true → s'.rings.fabric.holdover = true ∧ s'.rings.lanes.holdover = true ∧ s'.aon.ringHoldover = true) ∧
        (s.htl.sync = false → sameAon s s') ∧ offLinks s s' ∧ sameLog s s' ∧ s'.ids = s.ids) ∧
    (max s.now t < s.htl.timeAt + 5000 → exec (.parentTimeout t) s = .next (s.at_ t))) ∧
  (∀ (s : State) (t : Time) (fec : List (Nat × Nat)), s.htlUp = true → s.htl.ports.length = 4 →
    (∀ p : Port, (fec.getD p.num (0, 0)).2 = 0 ∧ (s.port p).tagErrs = [] ∧ (s.port p).uncErrs = []) →
    ∃ l, exec (.timeCellSend t fec) s = .next { s.at_ t with htl := { s.htl with ports := l } } ∧
      ∀ p : Port, l.getD p.num HPort.reset = (if (s.port p).state = .up then
        { s.port p with timeSent := max s.now t, corrMs := (fec.getD p.num (0, 0)).1 } else s.port p)) ∧
  (∀ (s : State) (t : Time) (fec : List (Nat × Nat)) (p : Port), s.htlUp = true → (s.port p).state = .up →
    16 < (fec.getD p.num (0, 0)).2 →
    ∃ s', exec (.timeCellSend t fec) s = .next s' ∧ (s'.port p).state = .down ∧ s'.htl.event.getLsbD 1 = true ∧ offLinks s s')

/-- A cell that is inverted is discarded; one whose tag fails is counted and the seventeenth in 1 ms puts the port DOWN; a cell older
than its class allows is counted as stale; another goes on by each of its onward ports with HOPS less 1, and at HOPS 0 not at all; one
for this conductor waits in the queue until bring-up has ended, 256 at most, and afterwards a message of one cell reaches its
consumer once (R410, R416 to R419, R424, R425, R435). -/
def Obligations.CellsForwarded : Prop :=
  (∀ (s : State) (t : Time) (p : Port) (c : Cell), exec (.cellArrival t p c .inverted) s = .next (s.at_ t)) ∧
  (∀ (s : State) (t : Time) (p : Port) (c : Cell), s.htlUp = true → (s.port p).state = .up → 1 ≤ c.cls → c.cls ≤ 5 →
    (s.port p).uncErrs = [] → (∀ e ∈ (s.port p).tagErrs, max s.now t < e + 1000000) →
    ∃ s', exec (.cellArrival t p c .bad) s = .next s' ∧ s'.htl.drops.tag = s.htl.drops.tag + 1 ∧ offLinks s s' ∧
      ((s.port p).tagErrs.length < 16 → (s'.port p).state = .up ∧ (s'.port p).tagErrs = max s.now t :: (s.port p).tagErrs ∧
        otherPorts s s' p) ∧
      (16 ≤ (s.port p).tagErrs.length → (s'.port p).state = .down ∧ s'.htl.event.getLsbD 1 = true)) ∧
  (∀ (s : State) (t : Time) (p : Port) (c : Cell), s.htlUp = true → (s.port p).state = .up → 1 ≤ c.cls → c.cls ≤ 5 →
    let s1 := s.at_ t
    (s1.staleCell c = true →
      exec (.cellArrival t p c .ok) s = .next { s1 with htl := { s.htl with drops := { s.htl.drops with stale := s.htl.drops.stale + 1 } } }) ∧
    (s1.staleCell c = false → s.columns p c = [] →
      (s.addressed c = false → c.hops = 0 → exec (.cellArrival t p c .ok) s = .next s1) ∧
      (s.addressed c = false → 0 < c.hops → (∀ o ∈ s.forwards p c, (s.port o.1).state = .up ∧ (s.port o.1).inUse = true) →
        exec (.cellArrival t p c .ok) s = .next { s1 with htl := { s.htl with out := s.htl.out ++ (s.forwards p c).map (fun o =>
          (o.1, putFlag { c with hops := c.hops - 1 } flagVc (o.1 == oppositePort p && (hasFlag c flagVc || s.shape.dateline s.member p)))) } }) ∧
      (s.addressed c = true → c.hops = 0 → s.core.bringup = true → s.htl.queue.length < 256 →
        exec (.cellArrival t p c .ok) s = .next { s1 with htl := { s.htl with queue := s.htl.queue ++ [c] } }) ∧
      (s.addressed c = true → c.hops = 0 → s.core.bringup = true → 256 ≤ s.htl.queue.length →
        exec (.cellArrival t p c .ok) s =
          .next { s1 with htl := { s.htl with drops := { s.htl.drops with local_ := s.htl.drops.local_ + 1 } } }) ∧
      (s.addressed c = true → c.hops = 0 → s.core.bringup = false → c.cls = 1 → c.service = 1 → c.cell = 0 → hasFlag c flagLast = true →
        ofBe (c.payload.take 1) = 0x02 → s.htl.parts = [] → (∀ k ∈ s.htl.seen, k.1 ≠ c.src) →
        exec (.cellArrival t p c .ok) s = .next { s1 with htl := { s.htl with
          seen := (c.src, c.cls, c.seq, c.sf) :: s.htl.seen
          inbox := s.htl.inbox ++ [⟨c.src, c.cls, c.service, c.sf, c.segment, c.payload⟩] } }) ∧
      (s.addressed c = true → c.hops = 0 → s.core.bringup = false → (∃ k ∈ s.htl.seen, k.1 = c.src ∧ k.2.1 = c.cls ∧ k.2.2.1 = c.seq) →
        exec (.cellArrival t p c .ok) s = .next s1)))

/-- A LINK_STATE record of another member is kept, one of this conductor is not; the head is member 0 while present, else member 1, and
member 0 takes it back after `heathline.head_return`, with event 4; mirror blocks go to both neighbours once for each 8 µs and a
neighbour's enters its ring unless frozen; subscribers are served up to `heathline.sub_max`, and a refusal sets event 6 (R421 to
R423, R429).
A write to HTL_BERT keeps its PORT; with START it begins a test on a port that is UP from the lower-numbered end, and is otherwise
reported out of range; the far end joins; the head tests a domain owed an installation test; at the end of `heathline.bert_time` the
result is kept and the link trains (R433, R434, R439). -/
def Obligations.HeadAndTests : Prop :=
  ((∀ (s : State) (t : Time) (x : LinkRec), s.htlUp = true →
    (x.member = s.member → exec (.linkState t x) s = .next (s.at_ t)) ∧
    (x.member ≠ s.member → ∃ s', exec (.linkState t x) s = .next s' ∧ x ∈ s'.htl.recs ∧
      (∀ r ∈ s.htl.recs, r.member ≠ x.member → r ∈ s'.htl.recs) ∧ s'.htl.ports = s.htl.ports ∧ s'.htl.event = s.htl.event ∧
      offLinks s s' ∧ s'.ids = s.ids ∧ s'.pin = s.pin)) ∧
  (∀ (s : State) (t : Time) (n : Option Nat), s.htlUp = true →
    (0 ∈ s.htl.present ∧ n = some 0 ∧ (s.htl.head ≠ some 1 ∨ 1 ∉ s.htl.present)) ∨
      (0 ∉ s.htl.present ∧ 1 ∈ s.htl.present ∧ n = some 1) ∨ (0 ∉ s.htl.present ∧ 1 ∉ s.htl.present ∧ n = none) ∨
      (0 ∈ s.htl.present ∧ 1 ∈ s.htl.present ∧ s.htl.head = some 1 ∧ ∃ t0, s.htl.zeroSince = some t0 ∧
        n = (if t0 + s.rfldN .heathlineHeadReturn * 1000000000 ≤ max s.now t then some 0 else some 1)) →
    (n = s.htl.head → exec (.headChange t) s = .next (s.at_ t)) ∧
    (n ≠ s.htl.head → ∃ s', exec (.headChange t) s = .next s' ∧
      s'.htl = { s.htl with head := n, event := setBit s.htl.event 4 } ∧ sameStage s s' ∧ sameSward s s' ∧ s'.frz = s.frz ∧
      s'.ccd = s.ccd ∧ sameAon s s' ∧ sameLog s s' ∧ s'.cfg = s.cfg ∧ s'.ids = s.ids ∧ sameStore s s' ∧
      (n ≠ some s.member → s'.mbx = s.mbx))) ∧
  (∀ (s : State) (t : Time) (fr : List Byte), s.htlUp = true → 0 < s.rings.fabric.now (max s.now t) / 8000 →
    let n := s.rings.fabric.now (max s.now t) / 8000
    (s.htl.mirrors ≠ 0 → n ≤ s.htl.mirrorAt → exec (.mirrorSend t fr) s = .next (s.at_ t)) ∧
    (s.htl.mirrors = 0 ∨ s.htl.mirrorAt < n →
      ∃ s', exec (.mirrorSend t fr) s = .next s' ∧ s'.htl.mirrors = s.htl.mirrors + 1 ∧ s'.htl.mirrorAt = n ∧
        (∀ (p : Port) (m : Nat) (o : Port), p = .e ∨ p = .w → s.shape.wire s.member p = some (m, o) → (s.port p).inUse = true →
          ∃ y ∈ s'.htl.sent, y.cls = 3 ∧ y.service = 3 ∧ y.dst = m ∧ y.payload.length = 3664 ∧
            y.payload.take 8 = leBytes 8 ((n - 1) * 8000)) ∧
        (∀ x ∈ s.htl.subs, ∃ y ∈ s'.htl.sent, y.cls = 5 ∧ y.service = 6 ∧ y.dst = x.1) ∧
        sameStage s s' ∧ sameSward s s' ∧ s'.frz = s.frz ∧ s'.ccd = s.ccd ∧ sameAon s s' ∧ sameLog s s' ∧ sameMgmt s s' ∧
        sameStore s s')) ∧
  (∀ (s : State) (t : Time) (b : List Byte), s.inRst .htlFrz = false →
    (∃ i, exec (.mirror t .e b) s = .next { s.at_ t with htl := { s.htl with
        inbox := i, ringE := if s.htl.frozenE.isSome then s.htl.ringE else (b :: s.htl.ringE).take 1172199 } }) ∧
    (∃ i, exec (.mirror t .w b) s = .next { s.at_ t with htl := { s.htl with
        inbox := i, ringW := if s.htl.frozenW.isSome then s.htl.ringW else (b :: s.htl.ringW).take 1172199 } })) ∧
  (∀ (s : State) (t : Time) (m k : Nat), s.htlUp = true →
    (∃ i, exec (.subscriptionRequest t (.refused m)) s =
      .next { s.at_ t with htl := { s.htl with inbox := i, event := setBit s.htl.event 6 } }) ∧
    ((s.htl.subs.filter (fun y => y != (m, k))).length < s.rfldN .heathlineSubMax →
      ∃ i, exec (.subscriptionRequest t (.request m k)) s = .next { s.at_ t with htl := { s.htl with
        inbox := i, subs := s.htl.subs.filter (fun y => y != (m, k)) ++ [(m, k)] } }) ∧
    (s.rfldN .heathlineSubMax ≤ (s.htl.subs.filter (fun y => y != (m, k))).length →
      ∃ s', exec (.subscriptionRequest t (.request m k)) s = .next s' ∧ s'.htl.subs = s.htl.subs ∧
        (∃ y ∈ s'.htl.sent, y.cls = 1 ∧ y.dst = m ∧ y.payload = [0x05, 0xFE, BitVec.ofNat 8 k])))) ∧
  ((∀ (s : State) (t : Time) (v : Word), s.inRst .htlFrz = false →
    let k := field v 29 28
    let p := portOf k
    let lower : Prop := ∃ m o, s.shape.wire s.member p = some (m, o) ∧ s.member ≤ m
    (v.getLsbD 31 = false → exec (.bertStart t (.hand v)) s = .next { s.at_ t with htl := { s.htl with bertPort := k } }) ∧
    (v.getLsbD 31 = true → (s.port p).state ≠ .up ∨ ¬lower →
      exec (.bertStart t (.hand v)) s =
        .next ({ s.at_ t with htl := { s.htl with bertPort := k } }.report 0x200 0x02 0x00800020)) ∧
    (v.getLsbD 31 = true → (s.port p).state = .up → lower →
      ∃ s', exec (.bertStart t (.hand v)) s = .next s' ∧ (s'.port p).state = .test ∧ (s'.port p).inUse = false ∧
        (s'.port p).wasDown = false ∧ s'.htl.bertPort = k ∧ otherStates s s' p ∧ offLinks s s' ∧ s'.ids = s.ids ∧ s'.pin = s.pin)) ∧
  (∀ (s : State) (t : Time) (v : Word), s.inRst .htlFrz = true →
    exec (.bertStart t (.hand v)) s = .next ((s.at_ t).report 0x200 0x01 0x00800020 3)) ∧
  (∀ (s : State) (t : Time) (p : Port), s.inRst .htlFrz = false → (s.port p).state = .up →
    ∃ s', exec (.bertStart t (.joined p)) s = .next s' ∧ (s'.port p).state = .test ∧ (s'.port p).inUse = false ∧
      otherStates s s' p ∧ offLinks s s' ∧ s'.ids = s.ids ∧ s'.pin = s.pin) ∧
  (∀ (s : State) (t : Time), s.htlUp = true →
    (s.htl.head ≠ some s.member → exec (.bertPeriodic t) s = .next (s.at_ t)) ∧
    (s.htl.head = some s.member → s.htl.bert = none → s.htl.bertQueue = [] →
      (s.htl.bertOwed = false → 16 < s.shape.n → exec (.bertPeriodic t) s = .next (s.at_ t)) ∧
      (s.htl.bertOwed = true → ∃ s', exec (.bertPeriodic t) s = .next s' ∧ s'.htl.bertOwed = false ∧
        s'.htl.bertLast = (s.at_ t).opMs ∧ offLinks s s' ∧ s'.ids = s.ids ∧
        ((∃ x ∈ s.shape.links, s.linkUsed x = false) → s'.htl.bert = none ∧ s'.htl.event.getLsbD 7 = true ∧
          s'.htl.ports = s.htl.ports)))) ∧
  (∀ (s : State) (t : Time) (p : Port) (e0 e1 : Nat), s.htlUp = true → (s.port p).state = .test →
    (max s.now t < (s.port p).since + s.rfldN .heathlineBertTime * 1000000000 →
      exec (.bertEnd t p e0 e1) s = .next (s.at_ t)) ∧
    ((s.port p).since + s.rfldN .heathlineBertTime * 1000000000 ≤ max s.now t →
      ∃ s', exec (.bertEnd t p e0 e1) s = .next s' ∧ (s'.port p).state = .training ∧ (s'.port p).wasDown = false ∧
        s'.htl.bert = none ∧ (∃ b, (s'.port p).bert = some b ∧ b.at_ = (s.at_ t).opMs ∧
          (e0 = 0 → e1 = 0 → b.pass = true ∧ b.mant0 = 0 ∧ b.exp0 = 15 ∧ b.mant1 = 0 ∧ b.exp1 = 15)) ∧
        otherPorts s s' p ∧ offLinks s s' ∧ s'.ids = s.ids ∧ s'.pin = s.pin)))

/-- The Heathline island takes each superframe's boundary once, on its own counter; at the lanes' the mean grid power of the
superframe is taken and its sum starts again (R165, R587). -/
def Obligations.BoundariesOnce : Prop :=
  (∀ (s : State) (t : Time), s.htl.sf = some (s.at_ t).htlSf → exec (.superframeBoundary t .heathline) s = .next (s.at_ t)) ∧
  (∀ (s : State) (t : Time), s.htlUp = true → s.htl.stepTo = none → s.htl.sf ≠ some (s.at_ t).htlSf →
    ∃ s', exec (.superframeBoundary t .heathline) s = .next s' ∧ s'.htl.sf = some (s.at_ t).htlSf ∧
      s'.pending = s.pending ∧ s'.ddr = s.ddr) ∧
  (∀ (s : State) (t : Time),
    let n := sfOf (s.rings.lanes.now (max s.now t))
    (s.htl.sfLanes = some n → exec (.superframeBoundary t .lanes) s = .next (s.at_ t)) ∧
    (s.htl.sfLanes ≠ some n → s.fes.count = 0 → exec (.superframeBoundary t .lanes) s =
      .next { s.at_ t with htl := { s.htl with sfLanes := some n } }) ∧
    (s.htl.sfLanes ≠ some n → s.fes.count ≠ 0 →
      exec (.superframeBoundary t .lanes) s = .next { s.at_ t with
        htl := { s.htl with sfLanes := some n }
        fes := { s.fes with pg := s.fes.sum / s.fes.count, flat := (s.fes.sum / s.fes.count :: s.fes.flat).take 1000, sum := 0, count := 0 } }))

/-- Every step keeps every memory in canonical form and the four ports of Heathline. -/
def Obligations.StepKeepsForm : Prop :=
  ∀ s s' : State, s.memOk → s.htl.ports.length = 4 → step s = .next s' → s'.memOk ∧ s'.htl.ports.length = 4

/-- The form holds at reset. -/
def Obligations.ResetForm : Prop :=
 State.reset.memOk ∧ State.reset.htl.ports.length = 4

/-- Time never runs back in a step. -/
def Obligations.ClockNeverTurnsBack : Prop := ∀ s s' : State, step s = .next s' → s.now ≤ s'.now
end

