-- ==== Sys2Proof/Laws/State.lean ====
section
/-! SUPPORT. Field by field, what the named updates of the state leave and give: the clock, free values, lanes, ports, legs,
strings, tussocks, managers. -/
namespace Sys2Proof.Machine

/-! ### Lists -/

@[simp] theorem upd_length {α : Type} (l : List α) (i : Nat) (f : α → α) : (upd l i f).length = l.length := by
  induction l generalizing i with
  | nil => rfl
  | cons a l ih => cases i <;> simp [upd, ih]

theorem upd_getElem?_self {α : Type} (l : List α) (i : Nat) (f : α → α) : (upd l i f)[i]? = (l[i]?).map f := by
  induction l generalizing i with
  | nil => rfl
  | cons a l ih => cases i <;> simp [upd, ih]

theorem upd_getElem?_other {α : Type} (l : List α) (i j : Nat) (f : α → α) (h : j ≠ i) : (upd l i f)[j]? = l[j]? := by
  induction l generalizing i j with
  | nil => rfl
  | cons a l ih =>
    cases i <;> cases j
    · exact absurd rfl h
    · rfl
    · rfl
    · simp only [upd, List.getElem?_cons_succ]; exact ih _ _ (fun e => h (by rw [e]))

theorem upd_getD_self {α : Type} (l : List α) (i : Nat) (f : α → α) (d : α) (h : i < l.length) :
    (upd l i f).getD i d = f (l.getD i d) := by
  simp [List.getD, upd_getElem?_self, List.getElem?_eq_getElem h]

theorem upd_getD_other {α : Type} (l : List α) (i j : Nat) (f : α → α) (d : α) (h : j ≠ i) :
    (upd l i f).getD j d = l.getD j d := by
  simp [List.getD, upd_getElem?_other l i j f h]

/-- The update of an element to itself. -/
theorem upd_id {α : Type} (l : List α) (i : Nat) (f : α → α) (h : ∀ a, l[i]? = some a → f a = a) : upd l i f = l := by
  induction l generalizing i with
  | nil => rfl
  | cons a l ih =>
    cases i with
    | zero => simp [upd, h a rfl]
    | succ i => simp only [upd]; rw [ih i (fun b hb => h b (by simpa using hb))]

/-! ### The clock and free values -/

@[simp] theorem at_now (s : State) (t : Time) : (s.at_ t).now = max s.now t := rfl
@[simp] theorem at_inRst (s : State) (t : Time) (d : Dom) : (s.at_ t).inRst d = s.inRst d := rfl
@[simp] theorem at_lane (s : State) (t : Time) (x : Lane) : (s.at_ t).lane x = s.lane x := by cases x <;> rfl
@[simp] theorem at_port (s : State) (t : Time) (p : Port) : (s.at_ t).port p = s.port p := rfl
@[simp] theorem at_tus (s : State) (t : Time) (i : Nat) : (s.at_ t).tus i = s.tus i := rfl
@[simp] theorem at_leg (s : State) (t : Time) (k : Nat) : (s.at_ t).leg k = s.leg k := rfl
@[simp] theorem at_part (s : State) (t : Time) (id : Nat) : (s.at_ t).part id = s.part id := rfl
@[simp] theorem at_member (s : State) (t : Time) : (s.at_ t).member = s.member := rfl
@[simp] theorem at_fld (s : State) (t : Time) (f : Fld) (i : Nat) : (s.at_ t).fld f i = s.fld f i := rfl
@[simp] theorem at_lfld (s : State) (t : Time) (f : Fld) (i : Nat) : (s.at_ t).lfld f i = s.lfld f i := rfl
@[simp] theorem at_rfld (s : State) (t : Time) (f : Fld) (i : Nat) : (s.at_ t).rfld f i = s.rfld f i := rfl
@[simp] theorem takeFree_free (s : State) (w : Nat) : (s.takeFree w).2.free = s.free + 1 := rfl
@[simp] theorem takeFree_value (s : State) (w : Nat) : (s.takeFree w).1 = Config.freeBits w s.free := rfl

/-- The clock never turns back when a command arrives. -/
theorem at_le (s : State) (t : Time) : s.now ≤ (s.at_ t).now := Nat.le_max_left _ _

/-! ### Lanes -/

@[simp] theorem updLane_self (s : State) (x : Lane) (f : LaneSt → LaneSt) : (s.updLane x f).lane x = f (s.lane x) := by
  cases x <;> rfl
theorem updLane_other (s : State) (x y : Lane) (f : LaneSt → LaneSt) (h : y ≠ x) : (s.updLane x f).lane y = s.lane y := by
  cases x <;> cases y <;> first | rfl | exact absurd rfl h
@[simp] theorem updLanes_lane (s : State) (f : LaneSt → LaneSt) (x : Lane) : (s.updLanes f).lane x = f (s.lane x) := by
  cases x <;> rfl
@[simp] theorem updLanes_laneA (s : State) (f : LaneSt → LaneSt) : (s.updLanes f).laneA = f s.laneA := rfl
@[simp] theorem updLanes_laneB (s : State) (f : LaneSt → LaneSt) : (s.updLanes f).laneB = f s.laneB := rfl
@[simp] theorem updLanes_laneC (s : State) (f : LaneSt → LaneSt) : (s.updLanes f).laneC = f s.laneC := rfl

/-! ### Elements of the lists the blocks hold -/

@[simp] theorem updPort_ports (s : State) (p : Port) (f : HPort → HPort) :
    (s.updPort p f).htl.ports = upd s.htl.ports p.num f := rfl
theorem updPort_self (s : State) (p : Port) (f : HPort → HPort) (h : p.num < s.htl.ports.length) :
    (s.updPort p f).port p = f (s.port p) := upd_getD_self _ _ _ _ h
theorem updPort_other (s : State) (p q : Port) (f : HPort → HPort) (h : q ≠ p) : (s.updPort p f).port q = s.port q :=
  upd_getD_other _ _ _ _ _ (fun e => h (by cases p <;> cases q <;> simp_all [Port.num]))
@[simp] theorem updLeg_legs (s : State) (k : Nat) (f : Leg → Leg) : (s.updLeg k f).pool.legs = upd s.pool.legs k f := rfl
@[simp] theorem updStr_strs (s : State) (j : Nat) (f : Str → Str) : (s.updStr j f).fes.strs = upd s.fes.strs j f := rfl
@[simp] theorem updRect_rects (s : State) (k : Nat) (f : Rect → Rect) : (s.updRect k f).fes.rects = upd s.fes.rects k f := rfl
@[simp] theorem updTus_tus (s : State) (i : Nat) (f : Tus → Tus) : (s.updTus i f).swd.tus = upd s.swd.tus i f := rfl
theorem updTus_self (s : State) (i : Nat) (f : Tus → Tus) (h : i < s.swd.tus.length) : (s.updTus i f).tus i = f (s.tus i) :=
  upd_getD_self _ _ _ _ h
theorem updTus_other (s : State) (i j : Nat) (f : Tus → Tus) (h : j ≠ i) : (s.updTus i f).tus j = s.tus j :=
  upd_getD_other _ _ _ _ _ h
@[simp] theorem updMgr_self (m : Mbx) (g : Mgr) (f : MgrState → MgrState) : (m.updMgr g f).mgr g = f (m.mgr g) := by
  cases g <;> rfl
theorem updMgr_other (m : Mbx) (g g' : Mgr) (f : MgrState → MgrState) (h : g' ≠ g) : (m.updMgr g f).mgr g' = m.mgr g' := by
  cases g <;> cases g' <;> first | rfl | exact absurd rfl h

/-! ### Time -/

theorem elapsed_iff (s : State) (t0 : Time) (d : Nat) : s.elapsed t0 d = true ↔ t0 + d ≤ s.now := by simp [State.elapsed]

/-! ### No word spells a command -/

@[simp] theorem withFetchWord_id (s : State) (nbits w : Nat) : s.withFetchWord nbits w = s := rfl

end Sys2Proof.Machine
end

