-- ==== Sys2Proof/Laws/Commands.lean ====
section
/-! SUPPORT. A manager's command that the fabric takes up: what State.takeCommand and State.runCommand then do. -/
namespace Sys2Proof.Machine

@[simp] theorem later_self (e : Nat) : later e e = false := by simp [later]; omega

/-- A command that may be executed is taken up: only the clock and its sender's last number change (R562, R566). -/
theorem takeCommand_ok (s : State) (t : Time) (h : CmdHdr) (code : Nat) (b : Bool) (hh : s.mayCommand h b) :
    (s.at_ t).takeCommand h code b = (true, s.begun t h) := by
  obtain ⟨h1, h2, h3, h4, h5, h6⟩ := hh
  have e1 : (s.at_ t).inRst .fabric = false := h1
  have e2 : (s.at_ t).mbx = s.mbx := rfl
  have e3 : (s.at_ t).takeEpoch h.mgr h.epoch = (true, s.at_ t) := by
    simp [State.takeEpoch, e2, h3, h4]
  unfold State.takeCommand
  rw [e3]
  simp only [e1, e2, h2]
  rcases hl : (s.mbx.mgr h.mgr).lastSeq with _ | n
  · cases b <;> simp_all [State.begun]
  · have hn : ¬ h.seq ≤ n := by have := h5 n hl; omega
    cases b <;> simp_all [State.begun]

/-- Its effect happens, it is answered, and what follows a DONE answer happens after it (R567). -/
theorem runCommand_ok (s : State) (t : Time) (h : CmdHdr) (code : Nat) (b : Bool)
    (f : State → (Nat × List Byte) × State) (a : State → State) (hh : s.mayCommand h b) :
    (s.at_ t).runCommand h code b f a =
      (let r := f (s.begun t h)
       let s' := r.2.complete h code r.1.1 r.1.2
       if r.1.1 = rDone then a s' else s') := by
  unfold State.runCommand
  rw [takeCommand_ok s t h code b hh]; rfl

/-- With the fabric in reset a command does nothing (R465). -/
theorem runCommand_held (s : State) (h : CmdHdr) (code : Nat) (b : Bool)
    (f : State → (Nat × List Byte) × State) (a : State → State) (hh : s.inRst .fabric = true) :
    s.runCommand h code b f a = s := by
  unfold State.runCommand State.takeCommand
  simp [hh]

/-! ### What the state of a command that has been taken up shows -/

@[simp] theorem begun_now (s : State) (t : Time) (h : CmdHdr) : (s.begun t h).now = max s.now t := rfl
@[simp] theorem begun_nv (s : State) (t : Time) (h : CmdHdr) : (s.begun t h).nv = s.nv := rfl
@[simp] theorem begun_core (s : State) (t : Time) (h : CmdHdr) : (s.begun t h).core = s.core := rfl
@[simp] theorem begun_aon (s : State) (t : Time) (h : CmdHdr) : (s.begun t h).aon = s.aon := rfl
@[simp] theorem begun_flt (s : State) (t : Time) (h : CmdHdr) : (s.begun t h).flt = s.flt := rfl
@[simp] theorem begun_brw (s : State) (t : Time) (h : CmdHdr) : (s.begun t h).brw = s.brw := rfl
@[simp] theorem begun_cfg (s : State) (t : Time) (h : CmdHdr) : (s.begun t h).cfg = s.cfg := rfl
@[simp] theorem begun_ids (s : State) (t : Time) (h : CmdHdr) : (s.begun t h).ids = s.ids := rfl
@[simp] theorem begun_vot (s : State) (t : Time) (h : CmdHdr) : (s.begun t h).vot = s.vot := rfl
@[simp] theorem begun_frz (s : State) (t : Time) (h : CmdHdr) : (s.begun t h).frz = s.frz := rfl
@[simp] theorem begun_ccd (s : State) (t : Time) (h : CmdHdr) : (s.begun t h).ccd = s.ccd := rfl
@[simp] theorem begun_htl (s : State) (t : Time) (h : CmdHdr) : (s.begun t h).htl = s.htl := rfl
@[simp] theorem begun_lane (s : State) (t : Time) (h : CmdHdr) (x : Lane) : (s.begun t h).lane x = s.lane x := by cases x <;> rfl
@[simp] theorem begun_member (s : State) (t : Time) (h : CmdHdr) : (s.begun t h).member = s.member := rfl
@[simp] theorem begun_held (s : State) (t : Time) (h : CmdHdr) : (s.begun t h).mbx.held = s.mbx.held := by
  simp only [State.begun, Mbx.updMgr]; split <;> rfl
@[simp] theorem begun_holdEpoch (s : State) (t : Time) (h : CmdHdr) : (s.begun t h).mbx.holdEpoch = s.mbx.holdEpoch := by
  simp only [State.begun, Mbx.updMgr]; split <;> rfl
@[simp] theorem begun_capEpoch (s : State) (t : Time) (h : CmdHdr) : (s.begun t h).mbx.capEpoch = s.mbx.capEpoch := by
  simp only [State.begun, Mbx.updMgr]; split <;> rfl

end Sys2Proof.Machine
end

