-- ==== Sys2Proof/Laws/Keeps1.lean ====
section
/-! SUPPORT. Frames of shared operations: what the operations every block shares leave unchanged: the clock, reports, records, notifications, cells and ports. Each lemma lists fields of State that the operation does not touch. -/
namespace Sys2Proof.Machine
set_option linter.all false
theorem foldl_keeps {α β γ : Type} (p : β → γ) (f : β → α → β) (h : ∀ b a, p (f b a) = p b) (l : List α) (b : β) :
    p (l.foldl f b) = p b := by
  induction l generalizing b with
  | nil => rfl
  | cons a l ih => simp [ih, h]
@[simp] theorem ite_snd {α : Type} (c : Prop) [Decidable c] (a b : α × State) : (if c then a else b).2 = if c then a.2 else b.2 := apply_ite Prod.snd c a b
@[simp] theorem foldl_now {α : Type} (f : State → α → State) (h : ∀ b a, (f b a).now = b.now) (l : List α) (b : State) :
    (l.foldl f b).now = b.now := foldl_keeps State.now f h l b
@[simp] theorem ite_now (c : Prop) [Decidable c] (a b : State) : (if c then a else b).now = if c then a.now else b.now := apply_ite State.now c a b
@[simp] theorem foldl_pending {α : Type} (f : State → α → State) (h : ∀ b a, (f b a).pending = b.pending) (l : List α) (b : State) :
    (l.foldl f b).pending = b.pending := foldl_keeps State.pending f h l b
@[simp] theorem ite_pending (c : Prop) [Decidable c] (a b : State) : (if c then a else b).pending = if c then a.pending else b.pending := apply_ite State.pending c a b
@[simp] theorem foldl_free {α : Type} (f : State → α → State) (h : ∀ b a, (f b a).free = b.free) (l : List α) (b : State) :
    (l.foldl f b).free = b.free := foldl_keeps State.free f h l b
@[simp] theorem ite_free (c : Prop) [Decidable c] (a b : State) : (if c then a else b).free = if c then a.free else b.free := apply_ite State.free c a b
@[simp] theorem foldl_nv {α : Type} (f : State → α → State) (h : ∀ b a, (f b a).nv = b.nv) (l : List α) (b : State) :
    (l.foldl f b).nv = b.nv := foldl_keeps State.nv f h l b
@[simp] theorem ite_nv (c : Prop) [Decidable c] (a b : State) : (if c then a else b).nv = if c then a.nv else b.nv := apply_ite State.nv c a b
@[simp] theorem foldl_core {α : Type} (f : State → α → State) (h : ∀ b a, (f b a).core = b.core) (l : List α) (b : State) :
    (l.foldl f b).core = b.core := foldl_keeps State.core f h l b
@[simp] theorem ite_core (c : Prop) [Decidable c] (a b : State) : (if c then a else b).core = if c then a.core else b.core := apply_ite State.core c a b
@[simp] theorem foldl_pin {α : Type} (f : State → α → State) (h : ∀ b a, (f b a).pin = b.pin) (l : List α) (b : State) :
    (l.foldl f b).pin = b.pin := foldl_keeps State.pin f h l b
@[simp] theorem ite_pin (c : Prop) [Decidable c] (a b : State) : (if c then a else b).pin = if c then a.pin else b.pin := apply_ite State.pin c a b
@[simp] theorem foldl_aon {α : Type} (f : State → α → State) (h : ∀ b a, (f b a).aon = b.aon) (l : List α) (b : State) :
    (l.foldl f b).aon = b.aon := foldl_keeps State.aon f h l b
@[simp] theorem ite_aon (c : Prop) [Decidable c] (a b : State) : (if c then a else b).aon = if c then a.aon else b.aon := apply_ite State.aon c a b
@[simp] theorem foldl_flt {α : Type} (f : State → α → State) (h : ∀ b a, (f b a).flt = b.flt) (l : List α) (b : State) :
    (l.foldl f b).flt = b.flt := foldl_keeps State.flt f h l b
@[simp] theorem ite_flt (c : Prop) [Decidable c] (a b : State) : (if c then a else b).flt = if c then a.flt else b.flt := apply_ite State.flt c a b
@[simp] theorem foldl_brw {α : Type} (f : State → α → State) (h : ∀ b a, (f b a).brw = b.brw) (l : List α) (b : State) :
    (l.foldl f b).brw = b.brw := foldl_keeps State.brw f h l b
@[simp] theorem ite_brw (c : Prop) [Decidable c] (a b : State) : (if c then a else b).brw = if c then a.brw else b.brw := apply_ite State.brw c a b
@[simp] theorem foldl_cfg {α : Type} (f : State → α → State) (h : ∀ b a, (f b a).cfg = b.cfg) (l : List α) (b : State) :
    (l.foldl f b).cfg = b.cfg := foldl_keeps State.cfg f h l b
@[simp] theorem ite_cfg (c : Prop) [Decidable c] (a b : State) : (if c then a else b).cfg = if c then a.cfg else b.cfg := apply_ite State.cfg c a b
@[simp] theorem foldl_ids {α : Type} (f : State → α → State) (h : ∀ b a, (f b a).ids = b.ids) (l : List α) (b : State) :
    (l.foldl f b).ids = b.ids := foldl_keeps State.ids f h l b
@[simp] theorem ite_ids (c : Prop) [Decidable c] (a b : State) : (if c then a else b).ids = if c then a.ids else b.ids := apply_ite State.ids c a b
@[simp] theorem foldl_mbx {α : Type} (f : State → α → State) (h : ∀ b a, (f b a).mbx = b.mbx) (l : List α) (b : State) :
    (l.foldl f b).mbx = b.mbx := foldl_keeps State.mbx f h l b
@[simp] theorem ite_mbx (c : Prop) [Decidable c] (a b : State) : (if c then a else b).mbx = if c then a.mbx else b.mbx := apply_ite State.mbx c a b
@[simp] theorem foldl_pool {α : Type} (f : State → α → State) (h : ∀ b a, (f b a).pool = b.pool) (l : List α) (b : State) :
    (l.foldl f b).pool = b.pool := foldl_keeps State.pool f h l b
@[simp] theorem ite_pool (c : Prop) [Decidable c] (a b : State) : (if c then a else b).pool = if c then a.pool else b.pool := apply_ite State.pool c a b
@[simp] theorem foldl_laneA {α : Type} (f : State → α → State) (h : ∀ b a, (f b a).laneA = b.laneA) (l : List α) (b : State) :
    (l.foldl f b).laneA = b.laneA := foldl_keeps State.laneA f h l b
@[simp] theorem ite_laneA (c : Prop) [Decidable c] (a b : State) : (if c then a else b).laneA = if c then a.laneA else b.laneA := apply_ite State.laneA c a b
@[simp] theorem foldl_laneB {α : Type} (f : State → α → State) (h : ∀ b a, (f b a).laneB = b.laneB) (l : List α) (b : State) :
    (l.foldl f b).laneB = b.laneB := foldl_keeps State.laneB f h l b
@[simp] theorem ite_laneB (c : Prop) [Decidable c] (a b : State) : (if c then a else b).laneB = if c then a.laneB else b.laneB := apply_ite State.laneB c a b
@[simp] theorem foldl_laneC {α : Type} (f : State → α → State) (h : ∀ b a, (f b a).laneC = b.laneC) (l : List α) (b : State) :
    (l.foldl f b).laneC = b.laneC := foldl_keeps State.laneC f h l b
@[simp] theorem ite_laneC (c : Prop) [Decidable c] (a b : State) : (if c then a else b).laneC = if c then a.laneC else b.laneC := apply_ite State.laneC c a b
@[simp] theorem foldl_vot {α : Type} (f : State → α → State) (h : ∀ b a, (f b a).vot = b.vot) (l : List α) (b : State) :
    (l.foldl f b).vot = b.vot := foldl_keeps State.vot f h l b
@[simp] theorem ite_vot (c : Prop) [Decidable c] (a b : State) : (if c then a else b).vot = if c then a.vot else b.vot := apply_ite State.vot c a b
@[simp] theorem foldl_fes {α : Type} (f : State → α → State) (h : ∀ b a, (f b a).fes = b.fes) (l : List α) (b : State) :
    (l.foldl f b).fes = b.fes := foldl_keeps State.fes f h l b
@[simp] theorem ite_fes (c : Prop) [Decidable c] (a b : State) : (if c then a else b).fes = if c then a.fes else b.fes := apply_ite State.fes c a b
@[simp] theorem foldl_plan {α : Type} (f : State → α → State) (h : ∀ b a, (f b a).plan = b.plan) (l : List α) (b : State) :
    (l.foldl f b).plan = b.plan := foldl_keeps State.plan f h l b
@[simp] theorem ite_plan (c : Prop) [Decidable c] (a b : State) : (if c then a else b).plan = if c then a.plan else b.plan := apply_ite State.plan c a b
@[simp] theorem foldl_emit {α : Type} (f : State → α → State) (h : ∀ b a, (f b a).emit = b.emit) (l : List α) (b : State) :
    (l.foldl f b).emit = b.emit := foldl_keeps State.emit f h l b
@[simp] theorem ite_emit (c : Prop) [Decidable c] (a b : State) : (if c then a else b).emit = if c then a.emit else b.emit := apply_ite State.emit c a b
@[simp] theorem foldl_lex {α : Type} (f : State → α → State) (h : ∀ b a, (f b a).lex = b.lex) (l : List α) (b : State) :
    (l.foldl f b).lex = b.lex := foldl_keeps State.lex f h l b
@[simp] theorem ite_lex (c : Prop) [Decidable c] (a b : State) : (if c then a else b).lex = if c then a.lex else b.lex := apply_ite State.lex c a b
@[simp] theorem foldl_swd {α : Type} (f : State → α → State) (h : ∀ b a, (f b a).swd = b.swd) (l : List α) (b : State) :
    (l.foldl f b).swd = b.swd := foldl_keeps State.swd f h l b
@[simp] theorem ite_swd (c : Prop) [Decidable c] (a b : State) : (if c then a else b).swd = if c then a.swd else b.swd := apply_ite State.swd c a b
@[simp] theorem foldl_swm {α : Type} (f : State → α → State) (h : ∀ b a, (f b a).swm = b.swm) (l : List α) (b : State) :
    (l.foldl f b).swm = b.swm := foldl_keeps State.swm f h l b
@[simp] theorem ite_swm (c : Prop) [Decidable c] (a b : State) : (if c then a else b).swm = if c then a.swm else b.swm := apply_ite State.swm c a b
@[simp] theorem foldl_frz {α : Type} (f : State → α → State) (h : ∀ b a, (f b a).frz = b.frz) (l : List α) (b : State) :
    (l.foldl f b).frz = b.frz := foldl_keeps State.frz f h l b
@[simp] theorem ite_frz (c : Prop) [Decidable c] (a b : State) : (if c then a else b).frz = if c then a.frz else b.frz := apply_ite State.frz c a b
@[simp] theorem foldl_ccd {α : Type} (f : State → α → State) (h : ∀ b a, (f b a).ccd = b.ccd) (l : List α) (b : State) :
    (l.foldl f b).ccd = b.ccd := foldl_keeps State.ccd f h l b
@[simp] theorem ite_ccd (c : Prop) [Decidable c] (a b : State) : (if c then a else b).ccd = if c then a.ccd else b.ccd := apply_ite State.ccd c a b
@[simp] theorem foldl_htl {α : Type} (f : State → α → State) (h : ∀ b a, (f b a).htl = b.htl) (l : List α) (b : State) :
    (l.foldl f b).htl = b.htl := foldl_keeps State.htl f h l b
@[simp] theorem ite_htl (c : Prop) [Decidable c] (a b : State) : (if c then a else b).htl = if c then a.htl else b.htl := apply_ite State.htl c a b
@[simp] theorem foldl_rings {α : Type} (f : State → α → State) (h : ∀ b a, (f b a).rings = b.rings) (l : List α) (b : State) :
    (l.foldl f b).rings = b.rings := foldl_keeps State.rings f h l b
@[simp] theorem ite_rings (c : Prop) [Decidable c] (a b : State) : (if c then a else b).rings = if c then a.rings else b.rings := apply_ite State.rings c a b
@[simp] theorem foldl_latches {α : Type} (f : State → α → State) (h : ∀ b a, (f b a).latches = b.latches) (l : List α) (b : State) :
    (l.foldl f b).latches = b.latches := foldl_keeps State.latches f h l b
@[simp] theorem ite_latches (c : Prop) [Decidable c] (a b : State) : (if c then a else b).latches = if c then a.latches else b.latches := apply_ite State.latches c a b
@[simp] theorem foldl_closed {α : Type} (f : State → α → State) (h : ∀ b a, (f b a).closed = b.closed) (l : List α) (b : State) :
    (l.foldl f b).closed = b.closed := foldl_keeps State.closed f h l b
@[simp] theorem ite_closed (c : Prop) [Decidable c] (a b : State) : (if c then a else b).closed = if c then a.closed else b.closed := apply_ite State.closed c a b
@[simp] theorem foldl_closureReported {α : Type} (f : State → α → State) (h : ∀ b a, (f b a).closureReported = b.closureReported) (l : List α) (b : State) :
    (l.foldl f b).closureReported = b.closureReported := foldl_keeps State.closureReported f h l b
@[simp] theorem ite_closureReported (c : Prop) [Decidable c] (a b : State) : (if c then a else b).closureReported = if c then a.closureReported else b.closureReported := apply_ite State.closureReported c a b
@[simp] theorem foldl_ddr {α : Type} (f : State → α → State) (h : ∀ b a, (f b a).ddr = b.ddr) (l : List α) (b : State) :
    (l.foldl f b).ddr = b.ddr := foldl_keeps State.ddr f h l b
@[simp] theorem ite_ddr (c : Prop) [Decidable c] (a b : State) : (if c then a else b).ddr = if c then a.ddr else b.ddr := apply_ite State.ddr c a b
@[simp] theorem foldl_busRead {α : Type} (f : State → α → State) (h : ∀ b a, (f b a).busRead = b.busRead) (l : List α) (b : State) :
    (l.foldl f b).busRead = b.busRead := foldl_keeps State.busRead f h l b
@[simp] theorem ite_busRead (c : Prop) [Decidable c] (a b : State) : (if c then a else b).busRead = if c then a.busRead else b.busRead := apply_ite State.busRead c a b

@[simp] theorem State.at__keeps (s : State) (t : Time) :
    (State.at_ s t).pending = s.pending ∧ (State.at_ s t).free = s.free ∧ (State.at_ s t).nv = s.nv ∧
    (State.at_ s t).core = s.core ∧ (State.at_ s t).pin = s.pin ∧ (State.at_ s t).aon = s.aon ∧ (State.at_ s t).flt = s.flt ∧
    (State.at_ s t).brw = s.brw ∧ (State.at_ s t).cfg = s.cfg ∧ (State.at_ s t).ids = s.ids ∧ (State.at_ s t).mbx = s.mbx ∧
    (State.at_ s t).pool = s.pool ∧ (State.at_ s t).laneA = s.laneA ∧ (State.at_ s t).laneB = s.laneB ∧
    (State.at_ s t).laneC = s.laneC ∧ (State.at_ s t).vot = s.vot ∧ (State.at_ s t).fes = s.fes ∧
    (State.at_ s t).plan = s.plan ∧ (State.at_ s t).emit = s.emit ∧ (State.at_ s t).lex = s.lex ∧
    (State.at_ s t).swd = s.swd ∧ (State.at_ s t).swm = s.swm ∧ (State.at_ s t).frz = s.frz ∧ (State.at_ s t).ccd = s.ccd ∧
    (State.at_ s t).htl = s.htl ∧ (State.at_ s t).rings = s.rings ∧ (State.at_ s t).latches = s.latches ∧
    (State.at_ s t).closed = s.closed ∧ (State.at_ s t).closureReported = s.closureReported ∧ (State.at_ s t).ddr = s.ddr ∧
    (State.at_ s t).busRead = s.busRead := by
  simp [State.at_]
@[simp] theorem State.takeFree_keeps (s : State) (w : Nat) :
    (State.takeFree s w).2.now = s.now ∧ (State.takeFree s w).2.pending = s.pending ∧ (State.takeFree s w).2.nv = s.nv ∧
    (State.takeFree s w).2.core = s.core ∧ (State.takeFree s w).2.pin = s.pin ∧ (State.takeFree s w).2.aon = s.aon ∧
    (State.takeFree s w).2.flt = s.flt ∧ (State.takeFree s w).2.brw = s.brw ∧ (State.takeFree s w).2.cfg = s.cfg ∧
    (State.takeFree s w).2.ids = s.ids ∧ (State.takeFree s w).2.mbx = s.mbx ∧ (State.takeFree s w).2.pool = s.pool ∧
    (State.takeFree s w).2.laneA = s.laneA ∧ (State.takeFree s w).2.laneB = s.laneB ∧
    (State.takeFree s w).2.laneC = s.laneC ∧ (State.takeFree s w).2.vot = s.vot ∧ (State.takeFree s w).2.fes = s.fes ∧
    (State.takeFree s w).2.plan = s.plan ∧ (State.takeFree s w).2.emit = s.emit ∧ (State.takeFree s w).2.lex = s.lex ∧
    (State.takeFree s w).2.swd = s.swd ∧ (State.takeFree s w).2.swm = s.swm ∧ (State.takeFree s w).2.frz = s.frz ∧
    (State.takeFree s w).2.ccd = s.ccd ∧ (State.takeFree s w).2.htl = s.htl ∧ (State.takeFree s w).2.rings = s.rings ∧
    (State.takeFree s w).2.latches = s.latches ∧ (State.takeFree s w).2.closed = s.closed ∧
    (State.takeFree s w).2.closureReported = s.closureReported ∧ (State.takeFree s w).2.ddr = s.ddr ∧
    (State.takeFree s w).2.busRead = s.busRead := by
  simp [State.takeFree]
@[simp] theorem State.updLane_keeps (s : State) (x : Lane) (f : LaneSt → LaneSt) :
    (State.updLane s x f).now = s.now ∧ (State.updLane s x f).pending = s.pending ∧ (State.updLane s x f).free = s.free ∧
    (State.updLane s x f).nv = s.nv ∧ (State.updLane s x f).core = s.core ∧ (State.updLane s x f).pin = s.pin ∧
    (State.updLane s x f).aon = s.aon ∧ (State.updLane s x f).flt = s.flt ∧ (State.updLane s x f).brw = s.brw ∧
    (State.updLane s x f).cfg = s.cfg ∧ (State.updLane s x f).ids = s.ids ∧ (State.updLane s x f).mbx = s.mbx ∧
    (State.updLane s x f).pool = s.pool ∧ (State.updLane s x f).vot = s.vot ∧ (State.updLane s x f).fes = s.fes ∧
    (State.updLane s x f).plan = s.plan ∧ (State.updLane s x f).emit = s.emit ∧ (State.updLane s x f).lex = s.lex ∧
    (State.updLane s x f).swd = s.swd ∧ (State.updLane s x f).swm = s.swm ∧ (State.updLane s x f).frz = s.frz ∧
    (State.updLane s x f).ccd = s.ccd ∧ (State.updLane s x f).htl = s.htl ∧ (State.updLane s x f).rings = s.rings ∧
    (State.updLane s x f).latches = s.latches ∧ (State.updLane s x f).closed = s.closed ∧
    (State.updLane s x f).closureReported = s.closureReported ∧ (State.updLane s x f).ddr = s.ddr ∧
    (State.updLane s x f).busRead = s.busRead := by
  simp only [State.updLane]
  (repeat' split) <;> simp_all
@[simp] theorem State.updLanes_keeps (s : State) (f : LaneSt → LaneSt) :
    (State.updLanes s f).now = s.now ∧ (State.updLanes s f).pending = s.pending ∧ (State.updLanes s f).free = s.free ∧
    (State.updLanes s f).nv = s.nv ∧ (State.updLanes s f).core = s.core ∧ (State.updLanes s f).pin = s.pin ∧
    (State.updLanes s f).aon = s.aon ∧ (State.updLanes s f).flt = s.flt ∧ (State.updLanes s f).brw = s.brw ∧
    (State.updLanes s f).cfg = s.cfg ∧ (State.updLanes s f).ids = s.ids ∧ (State.updLanes s f).mbx = s.mbx ∧
    (State.updLanes s f).pool = s.pool ∧ (State.updLanes s f).vot = s.vot ∧ (State.updLanes s f).fes = s.fes ∧
    (State.updLanes s f).plan = s.plan ∧ (State.updLanes s f).emit = s.emit ∧ (State.updLanes s f).lex = s.lex ∧
    (State.updLanes s f).swd = s.swd ∧ (State.updLanes s f).swm = s.swm ∧ (State.updLanes s f).frz = s.frz ∧
    (State.updLanes s f).ccd = s.ccd ∧ (State.updLanes s f).htl = s.htl ∧ (State.updLanes s f).rings = s.rings ∧
    (State.updLanes s f).latches = s.latches ∧ (State.updLanes s f).closed = s.closed ∧
    (State.updLanes s f).closureReported = s.closureReported ∧ (State.updLanes s f).ddr = s.ddr ∧
    (State.updLanes s f).busRead = s.busRead := by
  simp [State.updLanes]
@[simp] theorem State.report_keeps (s : State) (source kind inst : Nat) (detail : Nat) (voted : Bool) :
    (State.report s source kind inst detail voted).now = s.now ∧
    (State.report s source kind inst detail voted).pending = s.pending ∧
    (State.report s source kind inst detail voted).free = s.free ∧ (State.report s source kind inst detail voted).nv = s.nv ∧
    (State.report s source kind inst detail voted).core = s.core ∧
    (State.report s source kind inst detail voted).pin = s.pin ∧ (State.report s source kind inst detail voted).aon = s.aon ∧
    (State.report s source kind inst detail voted).brw = s.brw ∧ (State.report s source kind inst detail voted).cfg = s.cfg ∧
    (State.report s source kind inst detail voted).ids = s.ids ∧ (State.report s source kind inst detail voted).mbx = s.mbx ∧
    (State.report s source kind inst detail voted).pool = s.pool ∧
    (State.report s source kind inst detail voted).laneA = s.laneA ∧
    (State.report s source kind inst detail voted).laneB = s.laneB ∧
    (State.report s source kind inst detail voted).laneC = s.laneC ∧
    (State.report s source kind inst detail voted).vot = s.vot ∧ (State.report s source kind inst detail voted).fes = s.fes ∧
    (State.report s source kind inst detail voted).plan = s.plan ∧
    (State.report s source kind inst detail voted).emit = s.emit ∧
    (State.report s source kind inst detail voted).lex = s.lex ∧ (State.report s source kind inst detail voted).swd = s.swd ∧
    (State.report s source kind inst detail voted).swm = s.swm ∧ (State.report s source kind inst detail voted).frz = s.frz ∧
    (State.report s source kind inst detail voted).ccd = s.ccd ∧ (State.report s source kind inst detail voted).htl = s.htl ∧
    (State.report s source kind inst detail voted).rings = s.rings ∧
    (State.report s source kind inst detail voted).latches = s.latches ∧
    (State.report s source kind inst detail voted).closed = s.closed ∧
    (State.report s source kind inst detail voted).closureReported = s.closureReported ∧
    (State.report s source kind inst detail voted).ddr = s.ddr ∧
    (State.report s source kind inst detail voted).busRead = s.busRead := by
  simp [State.report]
@[simp] theorem State.updPort_keeps (s : State) (p : Port) (f : HPort → HPort) :
    (State.updPort s p f).now = s.now ∧ (State.updPort s p f).pending = s.pending ∧ (State.updPort s p f).free = s.free ∧
    (State.updPort s p f).nv = s.nv ∧ (State.updPort s p f).core = s.core ∧ (State.updPort s p f).pin = s.pin ∧
    (State.updPort s p f).aon = s.aon ∧ (State.updPort s p f).flt = s.flt ∧ (State.updPort s p f).brw = s.brw ∧
    (State.updPort s p f).cfg = s.cfg ∧ (State.updPort s p f).ids = s.ids ∧ (State.updPort s p f).mbx = s.mbx ∧
    (State.updPort s p f).pool = s.pool ∧ (State.updPort s p f).laneA = s.laneA ∧ (State.updPort s p f).laneB = s.laneB ∧
    (State.updPort s p f).laneC = s.laneC ∧ (State.updPort s p f).vot = s.vot ∧ (State.updPort s p f).fes = s.fes ∧
    (State.updPort s p f).plan = s.plan ∧ (State.updPort s p f).emit = s.emit ∧ (State.updPort s p f).lex = s.lex ∧
    (State.updPort s p f).swd = s.swd ∧ (State.updPort s p f).swm = s.swm ∧ (State.updPort s p f).frz = s.frz ∧
    (State.updPort s p f).ccd = s.ccd ∧ (State.updPort s p f).rings = s.rings ∧ (State.updPort s p f).latches = s.latches ∧
    (State.updPort s p f).closed = s.closed ∧ (State.updPort s p f).closureReported = s.closureReported ∧
    (State.updPort s p f).ddr = s.ddr ∧ (State.updPort s p f).busRead = s.busRead := by
  simp [State.updPort]
@[simp] theorem State.emitCell_keeps (s : State) (p : Port) (c : Cell) :
    (State.emitCell s p c).now = s.now ∧ (State.emitCell s p c).pending = s.pending ∧ (State.emitCell s p c).free = s.free ∧
    (State.emitCell s p c).nv = s.nv ∧ (State.emitCell s p c).core = s.core ∧ (State.emitCell s p c).pin = s.pin ∧
    (State.emitCell s p c).aon = s.aon ∧ (State.emitCell s p c).flt = s.flt ∧ (State.emitCell s p c).brw = s.brw ∧
    (State.emitCell s p c).cfg = s.cfg ∧ (State.emitCell s p c).ids = s.ids ∧ (State.emitCell s p c).mbx = s.mbx ∧
    (State.emitCell s p c).pool = s.pool ∧ (State.emitCell s p c).laneA = s.laneA ∧ (State.emitCell s p c).laneB = s.laneB ∧
    (State.emitCell s p c).laneC = s.laneC ∧ (State.emitCell s p c).vot = s.vot ∧ (State.emitCell s p c).fes = s.fes ∧
    (State.emitCell s p c).plan = s.plan ∧ (State.emitCell s p c).emit = s.emit ∧ (State.emitCell s p c).lex = s.lex ∧
    (State.emitCell s p c).swd = s.swd ∧ (State.emitCell s p c).swm = s.swm ∧ (State.emitCell s p c).frz = s.frz ∧
    (State.emitCell s p c).ccd = s.ccd ∧ (State.emitCell s p c).rings = s.rings ∧
    (State.emitCell s p c).latches = s.latches ∧ (State.emitCell s p c).closed = s.closed ∧
    (State.emitCell s p c).closureReported = s.closureReported ∧ (State.emitCell s p c).ddr = s.ddr ∧
    (State.emitCell s p c).busRead = s.busRead := by
  simp [State.emitCell]
@[simp] theorem State.emitAll_keeps (s : State) (l : List Cell) (flags : Nat) (r : Port × Nat) :
    (State.emitAll s l flags r).now = s.now ∧ (State.emitAll s l flags r).pending = s.pending ∧
    (State.emitAll s l flags r).free = s.free ∧ (State.emitAll s l flags r).nv = s.nv ∧
    (State.emitAll s l flags r).core = s.core ∧ (State.emitAll s l flags r).pin = s.pin ∧
    (State.emitAll s l flags r).aon = s.aon ∧ (State.emitAll s l flags r).flt = s.flt ∧
    (State.emitAll s l flags r).brw = s.brw ∧ (State.emitAll s l flags r).cfg = s.cfg ∧
    (State.emitAll s l flags r).ids = s.ids ∧ (State.emitAll s l flags r).mbx = s.mbx ∧
    (State.emitAll s l flags r).pool = s.pool ∧ (State.emitAll s l flags r).laneA = s.laneA ∧
    (State.emitAll s l flags r).laneB = s.laneB ∧ (State.emitAll s l flags r).laneC = s.laneC ∧
    (State.emitAll s l flags r).vot = s.vot ∧ (State.emitAll s l flags r).fes = s.fes ∧
    (State.emitAll s l flags r).plan = s.plan ∧ (State.emitAll s l flags r).emit = s.emit ∧
    (State.emitAll s l flags r).lex = s.lex ∧ (State.emitAll s l flags r).swd = s.swd ∧
    (State.emitAll s l flags r).swm = s.swm ∧ (State.emitAll s l flags r).frz = s.frz ∧
    (State.emitAll s l flags r).ccd = s.ccd ∧ (State.emitAll s l flags r).rings = s.rings ∧
    (State.emitAll s l flags r).latches = s.latches ∧ (State.emitAll s l flags r).closed = s.closed ∧
    (State.emitAll s l flags r).closureReported = s.closureReported ∧ (State.emitAll s l flags r).ddr = s.ddr ∧
    (State.emitAll s l flags r).busRead = s.busRead := by
  simp [State.emitAll]
@[simp] theorem State.broadcast_keeps (s : State) (l : List Cell) (dst cls seq : Nat) :
    (State.broadcast s l dst cls seq).now = s.now ∧ (State.broadcast s l dst cls seq).pending = s.pending ∧
    (State.broadcast s l dst cls seq).free = s.free ∧ (State.broadcast s l dst cls seq).nv = s.nv ∧
    (State.broadcast s l dst cls seq).core = s.core ∧ (State.broadcast s l dst cls seq).pin = s.pin ∧
    (State.broadcast s l dst cls seq).aon = s.aon ∧ (State.broadcast s l dst cls seq).flt = s.flt ∧
    (State.broadcast s l dst cls seq).brw = s.brw ∧ (State.broadcast s l dst cls seq).cfg = s.cfg ∧
    (State.broadcast s l dst cls seq).ids = s.ids ∧ (State.broadcast s l dst cls seq).mbx = s.mbx ∧
    (State.broadcast s l dst cls seq).pool = s.pool ∧ (State.broadcast s l dst cls seq).laneA = s.laneA ∧
    (State.broadcast s l dst cls seq).laneB = s.laneB ∧ (State.broadcast s l dst cls seq).laneC = s.laneC ∧
    (State.broadcast s l dst cls seq).vot = s.vot ∧ (State.broadcast s l dst cls seq).fes = s.fes ∧
    (State.broadcast s l dst cls seq).plan = s.plan ∧ (State.broadcast s l dst cls seq).emit = s.emit ∧
    (State.broadcast s l dst cls seq).lex = s.lex ∧ (State.broadcast s l dst cls seq).swd = s.swd ∧
    (State.broadcast s l dst cls seq).swm = s.swm ∧ (State.broadcast s l dst cls seq).frz = s.frz ∧
    (State.broadcast s l dst cls seq).ccd = s.ccd ∧ (State.broadcast s l dst cls seq).rings = s.rings ∧
    (State.broadcast s l dst cls seq).latches = s.latches ∧ (State.broadcast s l dst cls seq).closed = s.closed ∧
    (State.broadcast s l dst cls seq).closureReported = s.closureReported ∧ (State.broadcast s l dst cls seq).ddr = s.ddr ∧
    (State.broadcast s l dst cls seq).busRead = s.busRead := by
  simp only [State.broadcast]
  (repeat' split) <;> simp_all
@[simp] theorem State.htlTake_keeps (s : State) (cls service dst : Nat) (payload : List Byte) :
    (State.htlTake s cls service dst payload).2.2.now = s.now ∧
    (State.htlTake s cls service dst payload).2.2.pending = s.pending ∧
    (State.htlTake s cls service dst payload).2.2.free = s.free ∧ (State.htlTake s cls service dst payload).2.2.nv = s.nv ∧
    (State.htlTake s cls service dst payload).2.2.core = s.core ∧ (State.htlTake s cls service dst payload).2.2.pin = s.pin ∧
    (State.htlTake s cls service dst payload).2.2.aon = s.aon ∧ (State.htlTake s cls service dst payload).2.2.flt = s.flt ∧
    (State.htlTake s cls service dst payload).2.2.brw = s.brw ∧ (State.htlTake s cls service dst payload).2.2.cfg = s.cfg ∧
    (State.htlTake s cls service dst payload).2.2.ids = s.ids ∧ (State.htlTake s cls service dst payload).2.2.mbx = s.mbx ∧
    (State.htlTake s cls service dst payload).2.2.pool = s.pool ∧
    (State.htlTake s cls service dst payload).2.2.laneA = s.laneA ∧
    (State.htlTake s cls service dst payload).2.2.laneB = s.laneB ∧
    (State.htlTake s cls service dst payload).2.2.laneC = s.laneC ∧
    (State.htlTake s cls service dst payload).2.2.vot = s.vot ∧ (State.htlTake s cls service dst payload).2.2.fes = s.fes ∧
    (State.htlTake s cls service dst payload).2.2.plan = s.plan ∧
    (State.htlTake s cls service dst payload).2.2.emit = s.emit ∧ (State.htlTake s cls service dst payload).2.2.lex = s.lex ∧
    (State.htlTake s cls service dst payload).2.2.swd = s.swd ∧ (State.htlTake s cls service dst payload).2.2.swm = s.swm ∧
    (State.htlTake s cls service dst payload).2.2.frz = s.frz ∧ (State.htlTake s cls service dst payload).2.2.ccd = s.ccd ∧
    (State.htlTake s cls service dst payload).2.2.rings = s.rings ∧
    (State.htlTake s cls service dst payload).2.2.latches = s.latches ∧
    (State.htlTake s cls service dst payload).2.2.closed = s.closed ∧
    (State.htlTake s cls service dst payload).2.2.closureReported = s.closureReported ∧
    (State.htlTake s cls service dst payload).2.2.ddr = s.ddr ∧
    (State.htlTake s cls service dst payload).2.2.busRead = s.busRead := by
  simp [State.htlTake]
@[simp] theorem State.htlSend_keeps (s : State) (cls service dst : Nat) (payload : List Byte) :
    (State.htlSend s cls service dst payload).now = s.now ∧ (State.htlSend s cls service dst payload).pending = s.pending ∧
    (State.htlSend s cls service dst payload).free = s.free ∧ (State.htlSend s cls service dst payload).nv = s.nv ∧
    (State.htlSend s cls service dst payload).core = s.core ∧ (State.htlSend s cls service dst payload).pin = s.pin ∧
    (State.htlSend s cls service dst payload).aon = s.aon ∧ (State.htlSend s cls service dst payload).flt = s.flt ∧
    (State.htlSend s cls service dst payload).brw = s.brw ∧ (State.htlSend s cls service dst payload).cfg = s.cfg ∧
    (State.htlSend s cls service dst payload).ids = s.ids ∧ (State.htlSend s cls service dst payload).mbx = s.mbx ∧
    (State.htlSend s cls service dst payload).pool = s.pool ∧ (State.htlSend s cls service dst payload).laneA = s.laneA ∧
    (State.htlSend s cls service dst payload).laneB = s.laneB ∧ (State.htlSend s cls service dst payload).laneC = s.laneC ∧
    (State.htlSend s cls service dst payload).vot = s.vot ∧ (State.htlSend s cls service dst payload).fes = s.fes ∧
    (State.htlSend s cls service dst payload).plan = s.plan ∧ (State.htlSend s cls service dst payload).emit = s.emit ∧
    (State.htlSend s cls service dst payload).lex = s.lex ∧ (State.htlSend s cls service dst payload).swd = s.swd ∧
    (State.htlSend s cls service dst payload).swm = s.swm ∧ (State.htlSend s cls service dst payload).frz = s.frz ∧
    (State.htlSend s cls service dst payload).ccd = s.ccd ∧ (State.htlSend s cls service dst payload).rings = s.rings ∧
    (State.htlSend s cls service dst payload).latches = s.latches ∧
    (State.htlSend s cls service dst payload).closed = s.closed ∧
    (State.htlSend s cls service dst payload).closureReported = s.closureReported ∧
    (State.htlSend s cls service dst payload).ddr = s.ddr ∧
    (State.htlSend s cls service dst payload).busRead = s.busRead := by
  simp [State.htlSend]
@[simp] theorem State.htlNext_keeps (s : State) (service : Nat) (p : Port) (payload : List Byte) :
    (State.htlNext s service p payload).now = s.now ∧ (State.htlNext s service p payload).pending = s.pending ∧
    (State.htlNext s service p payload).free = s.free ∧ (State.htlNext s service p payload).nv = s.nv ∧
    (State.htlNext s service p payload).core = s.core ∧ (State.htlNext s service p payload).pin = s.pin ∧
    (State.htlNext s service p payload).aon = s.aon ∧ (State.htlNext s service p payload).flt = s.flt ∧
    (State.htlNext s service p payload).brw = s.brw ∧ (State.htlNext s service p payload).cfg = s.cfg ∧
    (State.htlNext s service p payload).ids = s.ids ∧ (State.htlNext s service p payload).mbx = s.mbx ∧
    (State.htlNext s service p payload).pool = s.pool ∧ (State.htlNext s service p payload).laneA = s.laneA ∧
    (State.htlNext s service p payload).laneB = s.laneB ∧ (State.htlNext s service p payload).laneC = s.laneC ∧
    (State.htlNext s service p payload).vot = s.vot ∧ (State.htlNext s service p payload).fes = s.fes ∧
    (State.htlNext s service p payload).plan = s.plan ∧ (State.htlNext s service p payload).emit = s.emit ∧
    (State.htlNext s service p payload).lex = s.lex ∧ (State.htlNext s service p payload).swd = s.swd ∧
    (State.htlNext s service p payload).swm = s.swm ∧ (State.htlNext s service p payload).frz = s.frz ∧
    (State.htlNext s service p payload).ccd = s.ccd ∧ (State.htlNext s service p payload).rings = s.rings ∧
    (State.htlNext s service p payload).latches = s.latches ∧ (State.htlNext s service p payload).closed = s.closed ∧
    (State.htlNext s service p payload).closureReported = s.closureReported ∧
    (State.htlNext s service p payload).ddr = s.ddr ∧ (State.htlNext s service p payload).busRead = s.busRead := by
  simp only [State.htlNext]
  (repeat' split) <;> simp_all
@[simp] theorem State.brwSend_keeps (s : State) (p : Port) (payload : List Byte) :
    (State.brwSend s p payload).now = s.now ∧ (State.brwSend s p payload).pending = s.pending ∧
    (State.brwSend s p payload).free = s.free ∧ (State.brwSend s p payload).nv = s.nv ∧
    (State.brwSend s p payload).core = s.core ∧ (State.brwSend s p payload).pin = s.pin ∧
    (State.brwSend s p payload).aon = s.aon ∧ (State.brwSend s p payload).flt = s.flt ∧
    (State.brwSend s p payload).cfg = s.cfg ∧ (State.brwSend s p payload).ids = s.ids ∧
    (State.brwSend s p payload).mbx = s.mbx ∧ (State.brwSend s p payload).pool = s.pool ∧
    (State.brwSend s p payload).laneA = s.laneA ∧ (State.brwSend s p payload).laneB = s.laneB ∧
    (State.brwSend s p payload).laneC = s.laneC ∧ (State.brwSend s p payload).vot = s.vot ∧
    (State.brwSend s p payload).fes = s.fes ∧ (State.brwSend s p payload).plan = s.plan ∧
    (State.brwSend s p payload).emit = s.emit ∧ (State.brwSend s p payload).lex = s.lex ∧
    (State.brwSend s p payload).swd = s.swd ∧ (State.brwSend s p payload).swm = s.swm ∧
    (State.brwSend s p payload).frz = s.frz ∧ (State.brwSend s p payload).ccd = s.ccd ∧
    (State.brwSend s p payload).rings = s.rings ∧ (State.brwSend s p payload).latches = s.latches ∧
    (State.brwSend s p payload).closed = s.closed ∧ (State.brwSend s p payload).closureReported = s.closureReported ∧
    (State.brwSend s p payload).ddr = s.ddr ∧ (State.brwSend s p payload).busRead = s.busRead := by
  simp [State.brwSend]
@[simp] theorem State.toNeighbours_keeps (s : State) (payload : List Byte) :
    (State.toNeighbours s payload).now = s.now ∧ (State.toNeighbours s payload).pending = s.pending ∧
    (State.toNeighbours s payload).free = s.free ∧ (State.toNeighbours s payload).nv = s.nv ∧
    (State.toNeighbours s payload).core = s.core ∧ (State.toNeighbours s payload).pin = s.pin ∧
    (State.toNeighbours s payload).aon = s.aon ∧ (State.toNeighbours s payload).flt = s.flt ∧
    (State.toNeighbours s payload).cfg = s.cfg ∧ (State.toNeighbours s payload).ids = s.ids ∧
    (State.toNeighbours s payload).mbx = s.mbx ∧ (State.toNeighbours s payload).pool = s.pool ∧
    (State.toNeighbours s payload).laneA = s.laneA ∧ (State.toNeighbours s payload).laneB = s.laneB ∧
    (State.toNeighbours s payload).laneC = s.laneC ∧ (State.toNeighbours s payload).vot = s.vot ∧
    (State.toNeighbours s payload).fes = s.fes ∧ (State.toNeighbours s payload).plan = s.plan ∧
    (State.toNeighbours s payload).emit = s.emit ∧ (State.toNeighbours s payload).lex = s.lex ∧
    (State.toNeighbours s payload).swd = s.swd ∧ (State.toNeighbours s payload).swm = s.swm ∧
    (State.toNeighbours s payload).frz = s.frz ∧ (State.toNeighbours s payload).ccd = s.ccd ∧
    (State.toNeighbours s payload).rings = s.rings ∧ (State.toNeighbours s payload).latches = s.latches ∧
    (State.toNeighbours s payload).closed = s.closed ∧ (State.toNeighbours s payload).closureReported = s.closureReported ∧
    (State.toNeighbours s payload).ddr = s.ddr ∧ (State.toNeighbours s payload).busRead = s.busRead := by
  simp [State.toNeighbours]
@[simp] theorem State.appendRec_keeps (s : State) (r : BRec) :
    (State.appendRec s r).now = s.now ∧ (State.appendRec s r).pending = s.pending ∧ (State.appendRec s r).free = s.free ∧
    (State.appendRec s r).nv = s.nv ∧ (State.appendRec s r).core = s.core ∧ (State.appendRec s r).pin = s.pin ∧
    (State.appendRec s r).aon = s.aon ∧ (State.appendRec s r).flt = s.flt ∧ (State.appendRec s r).cfg = s.cfg ∧
    (State.appendRec s r).ids = s.ids ∧ (State.appendRec s r).mbx = s.mbx ∧ (State.appendRec s r).pool = s.pool ∧
    (State.appendRec s r).laneA = s.laneA ∧ (State.appendRec s r).laneB = s.laneB ∧ (State.appendRec s r).laneC = s.laneC ∧
    (State.appendRec s r).vot = s.vot ∧ (State.appendRec s r).fes = s.fes ∧ (State.appendRec s r).plan = s.plan ∧
    (State.appendRec s r).emit = s.emit ∧ (State.appendRec s r).lex = s.lex ∧ (State.appendRec s r).swd = s.swd ∧
    (State.appendRec s r).swm = s.swm ∧ (State.appendRec s r).frz = s.frz ∧ (State.appendRec s r).ccd = s.ccd ∧
    (State.appendRec s r).rings = s.rings ∧ (State.appendRec s r).latches = s.latches ∧
    (State.appendRec s r).closed = s.closed ∧ (State.appendRec s r).closureReported = s.closureReported ∧
    (State.appendRec s r).ddr = s.ddr ∧ (State.appendRec s r).busRead = s.busRead := by
  simp [State.appendRec]
@[simp] theorem State.stageRec_keeps (s : State) (r : BRec) :
    (State.stageRec s r).now = s.now ∧ (State.stageRec s r).pending = s.pending ∧ (State.stageRec s r).free = s.free ∧
    (State.stageRec s r).nv = s.nv ∧ (State.stageRec s r).core = s.core ∧ (State.stageRec s r).pin = s.pin ∧
    (State.stageRec s r).aon = s.aon ∧ (State.stageRec s r).cfg = s.cfg ∧ (State.stageRec s r).ids = s.ids ∧
    (State.stageRec s r).mbx = s.mbx ∧ (State.stageRec s r).pool = s.pool ∧ (State.stageRec s r).laneA = s.laneA ∧
    (State.stageRec s r).laneB = s.laneB ∧ (State.stageRec s r).laneC = s.laneC ∧ (State.stageRec s r).vot = s.vot ∧
    (State.stageRec s r).fes = s.fes ∧ (State.stageRec s r).plan = s.plan ∧ (State.stageRec s r).emit = s.emit ∧
    (State.stageRec s r).lex = s.lex ∧ (State.stageRec s r).swd = s.swd ∧ (State.stageRec s r).swm = s.swm ∧
    (State.stageRec s r).frz = s.frz ∧ (State.stageRec s r).ccd = s.ccd ∧ (State.stageRec s r).rings = s.rings ∧
    (State.stageRec s r).latches = s.latches ∧ (State.stageRec s r).closed = s.closed ∧
    (State.stageRec s r).closureReported = s.closureReported ∧ (State.stageRec s r).ddr = s.ddr ∧
    (State.stageRec s r).busRead = s.busRead := by
  simp [State.stageRec]
@[simp] theorem State.stage_keeps (s : State) (type sub : Nat) (payload : List Byte) (flush : Bool) :
    (State.stage s type sub payload flush).now = s.now ∧ (State.stage s type sub payload flush).pending = s.pending ∧
    (State.stage s type sub payload flush).free = s.free ∧ (State.stage s type sub payload flush).nv = s.nv ∧
    (State.stage s type sub payload flush).core = s.core ∧ (State.stage s type sub payload flush).pin = s.pin ∧
    (State.stage s type sub payload flush).aon = s.aon ∧ (State.stage s type sub payload flush).cfg = s.cfg ∧
    (State.stage s type sub payload flush).ids = s.ids ∧ (State.stage s type sub payload flush).mbx = s.mbx ∧
    (State.stage s type sub payload flush).pool = s.pool ∧ (State.stage s type sub payload flush).laneA = s.laneA ∧
    (State.stage s type sub payload flush).laneB = s.laneB ∧ (State.stage s type sub payload flush).laneC = s.laneC ∧
    (State.stage s type sub payload flush).vot = s.vot ∧ (State.stage s type sub payload flush).fes = s.fes ∧
    (State.stage s type sub payload flush).plan = s.plan ∧ (State.stage s type sub payload flush).emit = s.emit ∧
    (State.stage s type sub payload flush).lex = s.lex ∧ (State.stage s type sub payload flush).swd = s.swd ∧
    (State.stage s type sub payload flush).swm = s.swm ∧ (State.stage s type sub payload flush).frz = s.frz ∧
    (State.stage s type sub payload flush).ccd = s.ccd ∧ (State.stage s type sub payload flush).rings = s.rings ∧
    (State.stage s type sub payload flush).latches = s.latches ∧ (State.stage s type sub payload flush).closed = s.closed ∧
    (State.stage s type sub payload flush).closureReported = s.closureReported ∧
    (State.stage s type sub payload flush).ddr = s.ddr ∧ (State.stage s type sub payload flush).busRead = s.busRead := by
  simp [State.stage]
@[simp] theorem State.takeInbox_keeps (s : State) (type : Nat) :
    (State.takeInbox s type).now = s.now ∧ (State.takeInbox s type).pending = s.pending ∧
    (State.takeInbox s type).free = s.free ∧ (State.takeInbox s type).nv = s.nv ∧ (State.takeInbox s type).core = s.core ∧
    (State.takeInbox s type).pin = s.pin ∧ (State.takeInbox s type).aon = s.aon ∧ (State.takeInbox s type).flt = s.flt ∧
    (State.takeInbox s type).brw = s.brw ∧ (State.takeInbox s type).cfg = s.cfg ∧ (State.takeInbox s type).ids = s.ids ∧
    (State.takeInbox s type).mbx = s.mbx ∧ (State.takeInbox s type).pool = s.pool ∧
    (State.takeInbox s type).laneA = s.laneA ∧ (State.takeInbox s type).laneB = s.laneB ∧
    (State.takeInbox s type).laneC = s.laneC ∧ (State.takeInbox s type).vot = s.vot ∧ (State.takeInbox s type).fes = s.fes ∧
    (State.takeInbox s type).plan = s.plan ∧ (State.takeInbox s type).emit = s.emit ∧ (State.takeInbox s type).lex = s.lex ∧
    (State.takeInbox s type).swd = s.swd ∧ (State.takeInbox s type).swm = s.swm ∧ (State.takeInbox s type).frz = s.frz ∧
    (State.takeInbox s type).ccd = s.ccd ∧ (State.takeInbox s type).rings = s.rings ∧
    (State.takeInbox s type).latches = s.latches ∧ (State.takeInbox s type).closed = s.closed ∧
    (State.takeInbox s type).closureReported = s.closureReported ∧ (State.takeInbox s type).ddr = s.ddr ∧
    (State.takeInbox s type).busRead = s.busRead := by
  simp only [State.takeInbox]
  (repeat' split) <;> simp_all
@[simp] theorem State.takeMsg_keeps (s : State) (service : Nat) :
    (State.takeMsg s service).now = s.now ∧ (State.takeMsg s service).pending = s.pending ∧
    (State.takeMsg s service).free = s.free ∧ (State.takeMsg s service).nv = s.nv ∧ (State.takeMsg s service).core = s.core ∧
    (State.takeMsg s service).pin = s.pin ∧ (State.takeMsg s service).aon = s.aon ∧ (State.takeMsg s service).flt = s.flt ∧
    (State.takeMsg s service).brw = s.brw ∧ (State.takeMsg s service).cfg = s.cfg ∧ (State.takeMsg s service).ids = s.ids ∧
    (State.takeMsg s service).mbx = s.mbx ∧ (State.takeMsg s service).pool = s.pool ∧
    (State.takeMsg s service).laneA = s.laneA ∧ (State.takeMsg s service).laneB = s.laneB ∧
    (State.takeMsg s service).laneC = s.laneC ∧ (State.takeMsg s service).vot = s.vot ∧
    (State.takeMsg s service).fes = s.fes ∧ (State.takeMsg s service).plan = s.plan ∧
    (State.takeMsg s service).emit = s.emit ∧ (State.takeMsg s service).lex = s.lex ∧ (State.takeMsg s service).swd = s.swd ∧
    (State.takeMsg s service).swm = s.swm ∧ (State.takeMsg s service).frz = s.frz ∧ (State.takeMsg s service).ccd = s.ccd ∧
    (State.takeMsg s service).rings = s.rings ∧ (State.takeMsg s service).latches = s.latches ∧
    (State.takeMsg s service).closed = s.closed ∧ (State.takeMsg s service).closureReported = s.closureReported ∧
    (State.takeMsg s service).ddr = s.ddr ∧ (State.takeMsg s service).busRead = s.busRead := by
  simp only [State.takeMsg]
  (repeat' split) <;> simp_all
@[simp] theorem State.sendMsg_keeps (s : State) (m : MsgType) (dest : Mgr) (code ref result : Nat) (payload : List Byte) :
    (State.sendMsg s m dest code ref result payload).now = s.now ∧
    (State.sendMsg s m dest code ref result payload).pending = s.pending ∧
    (State.sendMsg s m dest code ref result payload).free = s.free ∧
    (State.sendMsg s m dest code ref result payload).nv = s.nv ∧
    (State.sendMsg s m dest code ref result payload).core = s.core ∧
    (State.sendMsg s m dest code ref result payload).pin = s.pin ∧
    (State.sendMsg s m dest code ref result payload).aon = s.aon ∧
    (State.sendMsg s m dest code ref result payload).flt = s.flt ∧
    (State.sendMsg s m dest code ref result payload).brw = s.brw ∧
    (State.sendMsg s m dest code ref result payload).cfg = s.cfg ∧
    (State.sendMsg s m dest code ref result payload).ids = s.ids ∧
    (State.sendMsg s m dest code ref result payload).pool = s.pool ∧
    (State.sendMsg s m dest code ref result payload).laneA = s.laneA ∧
    (State.sendMsg s m dest code ref result payload).laneB = s.laneB ∧
    (State.sendMsg s m dest code ref result payload).laneC = s.laneC ∧
    (State.sendMsg s m dest code ref result payload).vot = s.vot ∧
    (State.sendMsg s m dest code ref result payload).fes = s.fes ∧
    (State.sendMsg s m dest code ref result payload).plan = s.plan ∧
    (State.sendMsg s m dest code ref result payload).emit = s.emit ∧
    (State.sendMsg s m dest code ref result payload).lex = s.lex ∧
    (State.sendMsg s m dest code ref result payload).swd = s.swd ∧
    (State.sendMsg s m dest code ref result payload).swm = s.swm ∧
    (State.sendMsg s m dest code ref result payload).frz = s.frz ∧
    (State.sendMsg s m dest code ref result payload).ccd = s.ccd ∧
    (State.sendMsg s m dest code ref result payload).htl = s.htl ∧
    (State.sendMsg s m dest code ref result payload).rings = s.rings ∧
    (State.sendMsg s m dest code ref result payload).latches = s.latches ∧
    (State.sendMsg s m dest code ref result payload).closed = s.closed ∧
    (State.sendMsg s m dest code ref result payload).closureReported = s.closureReported ∧
    (State.sendMsg s m dest code ref result payload).ddr = s.ddr ∧
    (State.sendMsg s m dest code ref result payload).busRead = s.busRead := by
  simp [State.sendMsg]
@[simp] theorem State.item_keeps (s : State) (type : Nat) (content : List Byte) :
    (State.item s type content).now = s.now ∧ (State.item s type content).pending = s.pending ∧
    (State.item s type content).free = s.free ∧ (State.item s type content).nv = s.nv ∧
    (State.item s type content).core = s.core ∧ (State.item s type content).pin = s.pin ∧
    (State.item s type content).aon = s.aon ∧ (State.item s type content).flt = s.flt ∧
    (State.item s type content).brw = s.brw ∧ (State.item s type content).cfg = s.cfg ∧
    (State.item s type content).ids = s.ids ∧ (State.item s type content).pool = s.pool ∧
    (State.item s type content).laneA = s.laneA ∧ (State.item s type content).laneB = s.laneB ∧
    (State.item s type content).laneC = s.laneC ∧ (State.item s type content).vot = s.vot ∧
    (State.item s type content).fes = s.fes ∧ (State.item s type content).plan = s.plan ∧
    (State.item s type content).emit = s.emit ∧ (State.item s type content).lex = s.lex ∧
    (State.item s type content).swd = s.swd ∧ (State.item s type content).swm = s.swm ∧
    (State.item s type content).frz = s.frz ∧ (State.item s type content).ccd = s.ccd ∧
    (State.item s type content).rings = s.rings ∧ (State.item s type content).latches = s.latches ∧
    (State.item s type content).closed = s.closed ∧ (State.item s type content).closureReported = s.closureReported ∧
    (State.item s type content).ddr = s.ddr ∧ (State.item s type content).busRead = s.busRead := by
  simp only [State.item]
  (repeat' split) <;> simp_all
@[simp] theorem State.notify_keeps (s : State) (code : Nat) (content : List Byte) :
    (State.notify s code content).now = s.now ∧ (State.notify s code content).pending = s.pending ∧
    (State.notify s code content).free = s.free ∧ (State.notify s code content).nv = s.nv ∧
    (State.notify s code content).core = s.core ∧ (State.notify s code content).pin = s.pin ∧
    (State.notify s code content).aon = s.aon ∧ (State.notify s code content).flt = s.flt ∧
    (State.notify s code content).brw = s.brw ∧ (State.notify s code content).cfg = s.cfg ∧
    (State.notify s code content).ids = s.ids ∧ (State.notify s code content).pool = s.pool ∧
    (State.notify s code content).laneA = s.laneA ∧ (State.notify s code content).laneB = s.laneB ∧
    (State.notify s code content).laneC = s.laneC ∧ (State.notify s code content).vot = s.vot ∧
    (State.notify s code content).fes = s.fes ∧ (State.notify s code content).plan = s.plan ∧
    (State.notify s code content).emit = s.emit ∧ (State.notify s code content).lex = s.lex ∧
    (State.notify s code content).swd = s.swd ∧ (State.notify s code content).swm = s.swm ∧
    (State.notify s code content).frz = s.frz ∧ (State.notify s code content).ccd = s.ccd ∧
    (State.notify s code content).rings = s.rings ∧ (State.notify s code content).latches = s.latches ∧
    (State.notify s code content).closed = s.closed ∧ (State.notify s code content).closureReported = s.closureReported ∧
    (State.notify s code content).ddr = s.ddr ∧ (State.notify s code content).busRead = s.busRead := by
  simp [State.notify]
@[simp] theorem State.ledgerRecord_keeps (s : State) (e : LedgerEntry) (closing : Bool) :
    (State.ledgerRecord s e closing).now = s.now ∧ (State.ledgerRecord s e closing).pending = s.pending ∧
    (State.ledgerRecord s e closing).free = s.free ∧ (State.ledgerRecord s e closing).nv = s.nv ∧
    (State.ledgerRecord s e closing).core = s.core ∧ (State.ledgerRecord s e closing).pin = s.pin ∧
    (State.ledgerRecord s e closing).aon = s.aon ∧ (State.ledgerRecord s e closing).cfg = s.cfg ∧
    (State.ledgerRecord s e closing).ids = s.ids ∧ (State.ledgerRecord s e closing).pool = s.pool ∧
    (State.ledgerRecord s e closing).laneA = s.laneA ∧ (State.ledgerRecord s e closing).laneB = s.laneB ∧
    (State.ledgerRecord s e closing).laneC = s.laneC ∧ (State.ledgerRecord s e closing).vot = s.vot ∧
    (State.ledgerRecord s e closing).fes = s.fes ∧ (State.ledgerRecord s e closing).plan = s.plan ∧
    (State.ledgerRecord s e closing).emit = s.emit ∧ (State.ledgerRecord s e closing).lex = s.lex ∧
    (State.ledgerRecord s e closing).swd = s.swd ∧ (State.ledgerRecord s e closing).swm = s.swm ∧
    (State.ledgerRecord s e closing).frz = s.frz ∧ (State.ledgerRecord s e closing).ccd = s.ccd ∧
    (State.ledgerRecord s e closing).rings = s.rings ∧ (State.ledgerRecord s e closing).latches = s.latches ∧
    (State.ledgerRecord s e closing).closed = s.closed ∧
    (State.ledgerRecord s e closing).closureReported = s.closureReported ∧ (State.ledgerRecord s e closing).ddr = s.ddr ∧
    (State.ledgerRecord s e closing).busRead = s.busRead := by
  simp [State.ledgerRecord]
@[simp] theorem State.openLedger_keeps (s : State) (e : LedgerEntry) :
    (State.openLedger s e).now = s.now ∧ (State.openLedger s e).pending = s.pending ∧ (State.openLedger s e).free = s.free ∧
    (State.openLedger s e).nv = s.nv ∧ (State.openLedger s e).core = s.core ∧ (State.openLedger s e).pin = s.pin ∧
    (State.openLedger s e).aon = s.aon ∧ (State.openLedger s e).cfg = s.cfg ∧ (State.openLedger s e).ids = s.ids ∧
    (State.openLedger s e).pool = s.pool ∧ (State.openLedger s e).laneA = s.laneA ∧ (State.openLedger s e).laneB = s.laneB ∧
    (State.openLedger s e).laneC = s.laneC ∧ (State.openLedger s e).vot = s.vot ∧ (State.openLedger s e).fes = s.fes ∧
    (State.openLedger s e).plan = s.plan ∧ (State.openLedger s e).emit = s.emit ∧ (State.openLedger s e).lex = s.lex ∧
    (State.openLedger s e).swd = s.swd ∧ (State.openLedger s e).swm = s.swm ∧ (State.openLedger s e).frz = s.frz ∧
    (State.openLedger s e).rings = s.rings ∧ (State.openLedger s e).latches = s.latches ∧
    (State.openLedger s e).closed = s.closed ∧ (State.openLedger s e).closureReported = s.closureReported ∧
    (State.openLedger s e).ddr = s.ddr ∧ (State.openLedger s e).busRead = s.busRead := by
  simp [State.openLedger]
@[simp] theorem State.closeLedger_keeps (s : State) (e : LedgerEntry) :
    (State.closeLedger s e).now = s.now ∧ (State.closeLedger s e).pending = s.pending ∧
    (State.closeLedger s e).free = s.free ∧ (State.closeLedger s e).nv = s.nv ∧ (State.closeLedger s e).core = s.core ∧
    (State.closeLedger s e).pin = s.pin ∧ (State.closeLedger s e).aon = s.aon ∧ (State.closeLedger s e).cfg = s.cfg ∧
    (State.closeLedger s e).ids = s.ids ∧ (State.closeLedger s e).pool = s.pool ∧ (State.closeLedger s e).laneA = s.laneA ∧
    (State.closeLedger s e).laneB = s.laneB ∧ (State.closeLedger s e).laneC = s.laneC ∧ (State.closeLedger s e).vot = s.vot ∧
    (State.closeLedger s e).fes = s.fes ∧ (State.closeLedger s e).plan = s.plan ∧ (State.closeLedger s e).emit = s.emit ∧
    (State.closeLedger s e).lex = s.lex ∧ (State.closeLedger s e).swd = s.swd ∧ (State.closeLedger s e).swm = s.swm ∧
    (State.closeLedger s e).frz = s.frz ∧ (State.closeLedger s e).rings = s.rings ∧
    (State.closeLedger s e).latches = s.latches ∧ (State.closeLedger s e).closed = s.closed ∧
    (State.closeLedger s e).closureReported = s.closureReported ∧ (State.closeLedger s e).ddr = s.ddr ∧
    (State.closeLedger s e).busRead = s.busRead := by
  simp only [State.closeLedger]
  (repeat' split) <;> simp_all
@[simp] theorem State.closeLedgers_keeps (s : State) (p : LedgerEntry → Bool) :
    (State.closeLedgers s p).now = s.now ∧ (State.closeLedgers s p).pending = s.pending ∧
    (State.closeLedgers s p).free = s.free ∧ (State.closeLedgers s p).nv = s.nv ∧ (State.closeLedgers s p).core = s.core ∧
    (State.closeLedgers s p).pin = s.pin ∧ (State.closeLedgers s p).aon = s.aon ∧ (State.closeLedgers s p).cfg = s.cfg ∧
    (State.closeLedgers s p).ids = s.ids ∧ (State.closeLedgers s p).pool = s.pool ∧
    (State.closeLedgers s p).laneA = s.laneA ∧ (State.closeLedgers s p).laneB = s.laneB ∧
    (State.closeLedgers s p).laneC = s.laneC ∧ (State.closeLedgers s p).vot = s.vot ∧ (State.closeLedgers s p).fes = s.fes ∧
    (State.closeLedgers s p).plan = s.plan ∧ (State.closeLedgers s p).emit = s.emit ∧ (State.closeLedgers s p).lex = s.lex ∧
    (State.closeLedgers s p).swd = s.swd ∧ (State.closeLedgers s p).swm = s.swm ∧ (State.closeLedgers s p).frz = s.frz ∧
    (State.closeLedgers s p).rings = s.rings ∧ (State.closeLedgers s p).latches = s.latches ∧
    (State.closeLedgers s p).closed = s.closed ∧ (State.closeLedgers s p).closureReported = s.closureReported ∧
    (State.closeLedgers s p).ddr = s.ddr ∧ (State.closeLedgers s p).busRead = s.busRead := by
  simp [State.closeLedgers]
@[simp] theorem State.limitWhile_keeps (s : State) (reason : Nat) (on : Bool) :
    (State.limitWhile s reason on).now = s.now ∧ (State.limitWhile s reason on).pending = s.pending ∧
    (State.limitWhile s reason on).free = s.free ∧ (State.limitWhile s reason on).nv = s.nv ∧
    (State.limitWhile s reason on).core = s.core ∧ (State.limitWhile s reason on).pin = s.pin ∧
    (State.limitWhile s reason on).aon = s.aon ∧ (State.limitWhile s reason on).cfg = s.cfg ∧
    (State.limitWhile s reason on).ids = s.ids ∧ (State.limitWhile s reason on).pool = s.pool ∧
    (State.limitWhile s reason on).laneA = s.laneA ∧ (State.limitWhile s reason on).laneB = s.laneB ∧
    (State.limitWhile s reason on).laneC = s.laneC ∧ (State.limitWhile s reason on).vot = s.vot ∧
    (State.limitWhile s reason on).fes = s.fes ∧ (State.limitWhile s reason on).plan = s.plan ∧
    (State.limitWhile s reason on).emit = s.emit ∧ (State.limitWhile s reason on).lex = s.lex ∧
    (State.limitWhile s reason on).swd = s.swd ∧ (State.limitWhile s reason on).swm = s.swm ∧
    (State.limitWhile s reason on).frz = s.frz ∧ (State.limitWhile s reason on).rings = s.rings ∧
    (State.limitWhile s reason on).latches = s.latches ∧ (State.limitWhile s reason on).closed = s.closed ∧
    (State.limitWhile s reason on).closureReported = s.closureReported ∧ (State.limitWhile s reason on).ddr = s.ddr ∧
    (State.limitWhile s reason on).busRead = s.busRead := by
  simp [State.limitWhile]
@[simp] theorem State.gatesLow_keeps (s : State) :
    (State.gatesLow s).now = s.now ∧ (State.gatesLow s).pending = s.pending ∧ (State.gatesLow s).free = s.free ∧
    (State.gatesLow s).nv = s.nv ∧ (State.gatesLow s).core = s.core ∧ (State.gatesLow s).pin = s.pin ∧
    (State.gatesLow s).aon = s.aon ∧ (State.gatesLow s).flt = s.flt ∧ (State.gatesLow s).brw = s.brw ∧
    (State.gatesLow s).cfg = s.cfg ∧ (State.gatesLow s).ids = s.ids ∧ (State.gatesLow s).mbx = s.mbx ∧
    (State.gatesLow s).laneA = s.laneA ∧ (State.gatesLow s).laneB = s.laneB ∧ (State.gatesLow s).laneC = s.laneC ∧
    (State.gatesLow s).vot = s.vot ∧ (State.gatesLow s).fes = s.fes ∧ (State.gatesLow s).plan = s.plan ∧
    (State.gatesLow s).emit = s.emit ∧ (State.gatesLow s).lex = s.lex ∧ (State.gatesLow s).swd = s.swd ∧
    (State.gatesLow s).swm = s.swm ∧ (State.gatesLow s).frz = s.frz ∧ (State.gatesLow s).ccd = s.ccd ∧
    (State.gatesLow s).htl = s.htl ∧ (State.gatesLow s).rings = s.rings ∧ (State.gatesLow s).latches = s.latches ∧
    (State.gatesLow s).closed = s.closed ∧ (State.gatesLow s).closureReported = s.closureReported ∧
    (State.gatesLow s).ddr = s.ddr ∧ (State.gatesLow s).busRead = s.busRead := by
  simp [State.gatesLow]
@[simp] theorem State.votEvent_keeps (s : State) (i : Nat) :
    (State.votEvent s i).now = s.now ∧ (State.votEvent s i).pending = s.pending ∧ (State.votEvent s i).free = s.free ∧
    (State.votEvent s i).nv = s.nv ∧ (State.votEvent s i).core = s.core ∧ (State.votEvent s i).pin = s.pin ∧
    (State.votEvent s i).aon = s.aon ∧ (State.votEvent s i).flt = s.flt ∧ (State.votEvent s i).brw = s.brw ∧
    (State.votEvent s i).cfg = s.cfg ∧ (State.votEvent s i).ids = s.ids ∧ (State.votEvent s i).mbx = s.mbx ∧
    (State.votEvent s i).pool = s.pool ∧ (State.votEvent s i).laneA = s.laneA ∧ (State.votEvent s i).laneB = s.laneB ∧
    (State.votEvent s i).laneC = s.laneC ∧ (State.votEvent s i).fes = s.fes ∧ (State.votEvent s i).plan = s.plan ∧
    (State.votEvent s i).emit = s.emit ∧ (State.votEvent s i).lex = s.lex ∧ (State.votEvent s i).swd = s.swd ∧
    (State.votEvent s i).swm = s.swm ∧ (State.votEvent s i).frz = s.frz ∧ (State.votEvent s i).ccd = s.ccd ∧
    (State.votEvent s i).htl = s.htl ∧ (State.votEvent s i).rings = s.rings ∧ (State.votEvent s i).latches = s.latches ∧
    (State.votEvent s i).closed = s.closed ∧ (State.votEvent s i).closureReported = s.closureReported ∧
    (State.votEvent s i).ddr = s.ddr ∧ (State.votEvent s i).busRead = s.busRead := by
  simp [State.votEvent]
@[simp] theorem State.laneRecord_keeps (s : State) (sub : Nat) (x : Lane) (kind : Nat) :
    (State.laneRecord s sub x kind).now = s.now ∧ (State.laneRecord s sub x kind).pending = s.pending ∧
    (State.laneRecord s sub x kind).free = s.free ∧ (State.laneRecord s sub x kind).nv = s.nv ∧
    (State.laneRecord s sub x kind).core = s.core ∧ (State.laneRecord s sub x kind).pin = s.pin ∧
    (State.laneRecord s sub x kind).aon = s.aon ∧ (State.laneRecord s sub x kind).cfg = s.cfg ∧
    (State.laneRecord s sub x kind).ids = s.ids ∧ (State.laneRecord s sub x kind).mbx = s.mbx ∧
    (State.laneRecord s sub x kind).pool = s.pool ∧ (State.laneRecord s sub x kind).laneA = s.laneA ∧
    (State.laneRecord s sub x kind).laneB = s.laneB ∧ (State.laneRecord s sub x kind).laneC = s.laneC ∧
    (State.laneRecord s sub x kind).vot = s.vot ∧ (State.laneRecord s sub x kind).fes = s.fes ∧
    (State.laneRecord s sub x kind).plan = s.plan ∧ (State.laneRecord s sub x kind).emit = s.emit ∧
    (State.laneRecord s sub x kind).lex = s.lex ∧ (State.laneRecord s sub x kind).swd = s.swd ∧
    (State.laneRecord s sub x kind).swm = s.swm ∧ (State.laneRecord s sub x kind).frz = s.frz ∧
    (State.laneRecord s sub x kind).ccd = s.ccd ∧ (State.laneRecord s sub x kind).rings = s.rings ∧
    (State.laneRecord s sub x kind).latches = s.latches ∧ (State.laneRecord s sub x kind).closed = s.closed ∧
    (State.laneRecord s sub x kind).closureReported = s.closureReported ∧ (State.laneRecord s sub x kind).ddr = s.ddr ∧
    (State.laneRecord s sub x kind).busRead = s.busRead := by
  simp [State.laneRecord]
@[simp] theorem State.disagreeStop_keeps (s : State) (detail : Nat) :
    (State.disagreeStop s detail).now = s.now ∧ (State.disagreeStop s detail).pending = s.pending ∧
    (State.disagreeStop s detail).free = s.free ∧ (State.disagreeStop s detail).nv = s.nv ∧
    (State.disagreeStop s detail).core = s.core ∧ (State.disagreeStop s detail).pin = s.pin ∧
    (State.disagreeStop s detail).aon = s.aon ∧ (State.disagreeStop s detail).brw = s.brw ∧
    (State.disagreeStop s detail).cfg = s.cfg ∧ (State.disagreeStop s detail).ids = s.ids ∧
    (State.disagreeStop s detail).mbx = s.mbx ∧ (State.disagreeStop s detail).laneA = s.laneA ∧
    (State.disagreeStop s detail).laneB = s.laneB ∧ (State.disagreeStop s detail).laneC = s.laneC ∧
    (State.disagreeStop s detail).plan = s.plan ∧ (State.disagreeStop s detail).emit = s.emit ∧
    (State.disagreeStop s detail).lex = s.lex ∧ (State.disagreeStop s detail).swd = s.swd ∧
    (State.disagreeStop s detail).swm = s.swm ∧ (State.disagreeStop s detail).frz = s.frz ∧
    (State.disagreeStop s detail).ccd = s.ccd ∧ (State.disagreeStop s detail).htl = s.htl ∧
    (State.disagreeStop s detail).rings = s.rings ∧ (State.disagreeStop s detail).latches = s.latches ∧
    (State.disagreeStop s detail).closed = s.closed ∧ (State.disagreeStop s detail).closureReported = s.closureReported ∧
    (State.disagreeStop s detail).ddr = s.ddr ∧ (State.disagreeStop s detail).busRead = s.busRead := by
  simp [State.disagreeStop]
@[simp] theorem State.fence_keeps (s : State) (x : Lane) (kind : Nat) :
    (State.fence s x kind).now = s.now ∧ (State.fence s x kind).pending = s.pending ∧ (State.fence s x kind).free = s.free ∧
    (State.fence s x kind).nv = s.nv ∧ (State.fence s x kind).core = s.core ∧ (State.fence s x kind).pin = s.pin ∧
    (State.fence s x kind).aon = s.aon ∧ (State.fence s x kind).cfg = s.cfg ∧ (State.fence s x kind).ids = s.ids ∧
    (State.fence s x kind).mbx = s.mbx ∧ (State.fence s x kind).plan = s.plan ∧ (State.fence s x kind).emit = s.emit ∧
    (State.fence s x kind).lex = s.lex ∧ (State.fence s x kind).swd = s.swd ∧ (State.fence s x kind).swm = s.swm ∧
    (State.fence s x kind).frz = s.frz ∧ (State.fence s x kind).ccd = s.ccd ∧ (State.fence s x kind).rings = s.rings ∧
    (State.fence s x kind).latches = s.latches ∧ (State.fence s x kind).closed = s.closed ∧
    (State.fence s x kind).closureReported = s.closureReported ∧ (State.fence s x kind).ddr = s.ddr ∧
    (State.fence s x kind).busRead = s.busRead := by
  simp [State.fence]
@[simp] theorem State.fenceNow_keeps (s : State) (x : Lane) :
    (State.fenceNow s x).now = s.now ∧ (State.fenceNow s x).pending = s.pending ∧ (State.fenceNow s x).free = s.free ∧
    (State.fenceNow s x).nv = s.nv ∧ (State.fenceNow s x).core = s.core ∧ (State.fenceNow s x).pin = s.pin ∧
    (State.fenceNow s x).aon = s.aon ∧ (State.fenceNow s x).cfg = s.cfg ∧ (State.fenceNow s x).ids = s.ids ∧
    (State.fenceNow s x).mbx = s.mbx ∧ (State.fenceNow s x).plan = s.plan ∧ (State.fenceNow s x).emit = s.emit ∧
    (State.fenceNow s x).lex = s.lex ∧ (State.fenceNow s x).swd = s.swd ∧ (State.fenceNow s x).swm = s.swm ∧
    (State.fenceNow s x).frz = s.frz ∧ (State.fenceNow s x).ccd = s.ccd ∧ (State.fenceNow s x).rings = s.rings ∧
    (State.fenceNow s x).latches = s.latches ∧ (State.fenceNow s x).closed = s.closed ∧
    (State.fenceNow s x).closureReported = s.closureReported ∧ (State.fenceNow s x).ddr = s.ddr ∧
    (State.fenceNow s x).busRead = s.busRead := by
  simp [State.fenceNow]
@[simp] theorem State.disagree_keeps (s : State) (x : Lane) (kind gate sect : Nat) :
    (State.disagree s x kind gate sect).now = s.now ∧ (State.disagree s x kind gate sect).pending = s.pending ∧
    (State.disagree s x kind gate sect).free = s.free ∧ (State.disagree s x kind gate sect).nv = s.nv ∧
    (State.disagree s x kind gate sect).core = s.core ∧ (State.disagree s x kind gate sect).pin = s.pin ∧
    (State.disagree s x kind gate sect).aon = s.aon ∧ (State.disagree s x kind gate sect).cfg = s.cfg ∧
    (State.disagree s x kind gate sect).ids = s.ids ∧ (State.disagree s x kind gate sect).mbx = s.mbx ∧
    (State.disagree s x kind gate sect).plan = s.plan ∧ (State.disagree s x kind gate sect).emit = s.emit ∧
    (State.disagree s x kind gate sect).lex = s.lex ∧ (State.disagree s x kind gate sect).swd = s.swd ∧
    (State.disagree s x kind gate sect).swm = s.swm ∧ (State.disagree s x kind gate sect).frz = s.frz ∧
    (State.disagree s x kind gate sect).ccd = s.ccd ∧ (State.disagree s x kind gate sect).rings = s.rings ∧
    (State.disagree s x kind gate sect).latches = s.latches ∧ (State.disagree s x kind gate sect).closed = s.closed ∧
    (State.disagree s x kind gate sect).closureReported = s.closureReported ∧
    (State.disagree s x kind gate sect).ddr = s.ddr ∧ (State.disagree s x kind gate sect).busRead = s.busRead := by
  simp [State.disagree]
@[simp] theorem State.driveKill_keeps (s : State) :
    (State.driveKill s).now = s.now ∧ (State.driveKill s).pending = s.pending ∧ (State.driveKill s).free = s.free ∧
    (State.driveKill s).nv = s.nv ∧ (State.driveKill s).core = s.core ∧ (State.driveKill s).pin = s.pin ∧
    (State.driveKill s).aon = s.aon ∧ (State.driveKill s).flt = s.flt ∧ (State.driveKill s).brw = s.brw ∧
    (State.driveKill s).cfg = s.cfg ∧ (State.driveKill s).ids = s.ids ∧ (State.driveKill s).mbx = s.mbx ∧
    (State.driveKill s).laneA = s.laneA ∧ (State.driveKill s).laneB = s.laneB ∧ (State.driveKill s).laneC = s.laneC ∧
    (State.driveKill s).fes = s.fes ∧ (State.driveKill s).plan = s.plan ∧ (State.driveKill s).emit = s.emit ∧
    (State.driveKill s).lex = s.lex ∧ (State.driveKill s).swd = s.swd ∧ (State.driveKill s).swm = s.swm ∧
    (State.driveKill s).frz = s.frz ∧ (State.driveKill s).ccd = s.ccd ∧ (State.driveKill s).htl = s.htl ∧
    (State.driveKill s).rings = s.rings ∧ (State.driveKill s).latches = s.latches ∧ (State.driveKill s).closed = s.closed ∧
    (State.driveKill s).closureReported = s.closureReported ∧ (State.driveKill s).ddr = s.ddr ∧
    (State.driveKill s).busRead = s.busRead := by
  simp [State.driveKill]
@[simp] theorem State.closeChans_keeps (s : State) (d : Dom) :
    (State.closeChans s d).now = s.now ∧ (State.closeChans s d).pending = s.pending ∧ (State.closeChans s d).free = s.free ∧
    (State.closeChans s d).nv = s.nv ∧ (State.closeChans s d).core = s.core ∧ (State.closeChans s d).pin = s.pin ∧
    (State.closeChans s d).aon = s.aon ∧ (State.closeChans s d).flt = s.flt ∧ (State.closeChans s d).brw = s.brw ∧
    (State.closeChans s d).cfg = s.cfg ∧ (State.closeChans s d).ids = s.ids ∧ (State.closeChans s d).mbx = s.mbx ∧
    (State.closeChans s d).pool = s.pool ∧ (State.closeChans s d).laneA = s.laneA ∧ (State.closeChans s d).laneB = s.laneB ∧
    (State.closeChans s d).laneC = s.laneC ∧ (State.closeChans s d).vot = s.vot ∧ (State.closeChans s d).fes = s.fes ∧
    (State.closeChans s d).plan = s.plan ∧ (State.closeChans s d).emit = s.emit ∧ (State.closeChans s d).lex = s.lex ∧
    (State.closeChans s d).swd = s.swd ∧ (State.closeChans s d).swm = s.swm ∧ (State.closeChans s d).frz = s.frz ∧
    (State.closeChans s d).ccd = s.ccd ∧ (State.closeChans s d).htl = s.htl ∧ (State.closeChans s d).rings = s.rings ∧
    (State.closeChans s d).latches = s.latches ∧ (State.closeChans s d).closureReported = s.closureReported ∧
    (State.closeChans s d).ddr = s.ddr ∧ (State.closeChans s d).busRead = s.busRead := by
  simp [State.closeChans]
@[simp] theorem State.loseDomain_keeps (s : State) (d : Dom) :
    (State.loseDomain s d).now = s.now ∧ (State.loseDomain s d).pending = s.pending ∧ (State.loseDomain s d).free = s.free ∧
    (State.loseDomain s d).nv = s.nv ∧ (State.loseDomain s d).core = s.core ∧ (State.loseDomain s d).pin = s.pin ∧
    (State.loseDomain s d).aon = s.aon ∧ (State.loseDomain s d).flt = s.flt ∧ (State.loseDomain s d).brw = s.brw ∧
    (State.loseDomain s d).cfg = s.cfg ∧ (State.loseDomain s d).ids = s.ids ∧ (State.loseDomain s d).mbx = s.mbx ∧
    (State.loseDomain s d).pool = s.pool ∧ (State.loseDomain s d).vot = s.vot ∧ (State.loseDomain s d).fes = s.fes ∧
    (State.loseDomain s d).swm = s.swm ∧ (State.loseDomain s d).frz = s.frz ∧ (State.loseDomain s d).ccd = s.ccd ∧
    (State.loseDomain s d).htl = s.htl ∧ (State.loseDomain s d).rings = s.rings ∧ (State.loseDomain s d).closed = s.closed ∧
    (State.loseDomain s d).closureReported = s.closureReported ∧ (State.loseDomain s d).ddr = s.ddr ∧
    (State.loseDomain s d).busRead = s.busRead := by
  simp only [State.loseDomain]
  (repeat' split) <;> simp_all
@[simp] theorem State.enterDomain_keeps (s : State) (d : Dom) :
    (State.enterDomain s d).now = s.now ∧ (State.enterDomain s d).pending = s.pending ∧
    (State.enterDomain s d).free = s.free ∧ (State.enterDomain s d).nv = s.nv ∧ (State.enterDomain s d).pin = s.pin ∧
    (State.enterDomain s d).aon = s.aon ∧ (State.enterDomain s d).cfg = s.cfg ∧ (State.enterDomain s d).ids = s.ids ∧
    (State.enterDomain s d).mbx = s.mbx ∧ (State.enterDomain s d).swm = s.swm ∧ (State.enterDomain s d).frz = s.frz ∧
    (State.enterDomain s d).ccd = s.ccd ∧ (State.enterDomain s d).rings = s.rings ∧
    (State.enterDomain s d).closureReported = s.closureReported ∧ (State.enterDomain s d).ddr = s.ddr ∧
    (State.enterDomain s d).busRead = s.busRead := by
  simp only [State.enterDomain]
  (repeat' split) <;> simp_all
@[simp] theorem State.enterFull_keeps (s : State) :
    (State.enterFull s).now = s.now ∧ (State.enterFull s).pending = s.pending ∧ (State.enterFull s).free = s.free ∧
    (State.enterFull s).nv = s.nv ∧ (State.enterFull s).pin = s.pin := by
  simp [State.enterFull]
@[simp] theorem State.flushStart_keeps (s : State) (level : Nat) :
    (State.flushStart s level).now = s.now ∧ (State.flushStart s level).pending = s.pending ∧
    (State.flushStart s level).free = s.free ∧ (State.flushStart s level).nv = s.nv ∧
    (State.flushStart s level).core = s.core ∧ (State.flushStart s level).pin = s.pin ∧
    (State.flushStart s level).aon = s.aon ∧ (State.flushStart s level).cfg = s.cfg ∧
    (State.flushStart s level).ids = s.ids ∧ (State.flushStart s level).mbx = s.mbx ∧
    (State.flushStart s level).pool = s.pool ∧ (State.flushStart s level).laneA = s.laneA ∧
    (State.flushStart s level).laneB = s.laneB ∧ (State.flushStart s level).laneC = s.laneC ∧
    (State.flushStart s level).vot = s.vot ∧ (State.flushStart s level).fes = s.fes ∧
    (State.flushStart s level).plan = s.plan ∧ (State.flushStart s level).emit = s.emit ∧
    (State.flushStart s level).lex = s.lex ∧ (State.flushStart s level).swd = s.swd ∧
    (State.flushStart s level).swm = s.swm ∧ (State.flushStart s level).frz = s.frz ∧
    (State.flushStart s level).ccd = s.ccd ∧ (State.flushStart s level).rings = s.rings ∧
    (State.flushStart s level).latches = s.latches ∧ (State.flushStart s level).closed = s.closed ∧
    (State.flushStart s level).closureReported = s.closureReported ∧ (State.flushStart s level).ddr = s.ddr ∧
    (State.flushStart s level).busRead = s.busRead := by
  simp [State.flushStart]
@[simp] theorem State.assertSource_keeps (s : State) (src : Src) (level : Nat) (lanes : List Lane) (hold : Bool) :
    (State.assertSource s src level lanes hold).now = s.now ∧
    (State.assertSource s src level lanes hold).pending = s.pending ∧
    (State.assertSource s src level lanes hold).free = s.free ∧ (State.assertSource s src level lanes hold).nv = s.nv := by
  simp [State.assertSource]
@[simp] theorem State.holdLatched_keeps (s : State) :
    (State.holdLatched s).now = s.now ∧ (State.holdLatched s).pending = s.pending ∧ (State.holdLatched s).free = s.free ∧
    (State.holdLatched s).nv = s.nv := by
  simp [State.holdLatched]
@[simp] theorem State.assertReset_keeps (s : State) (src : Src) (level : Nat) (lanes : List Lane) :
    (State.assertReset s src level lanes).now = s.now ∧ (State.assertReset s src level lanes).pending = s.pending ∧
    (State.assertReset s src level lanes).free = s.free ∧ (State.assertReset s src level lanes).nv = s.nv := by
  simp [State.assertReset]
@[simp] theorem State.releaseSrc_keeps (s : State) (src : Src) :
    (State.releaseSrc s src).now = s.now ∧ (State.releaseSrc s src).pending = s.pending ∧
    (State.releaseSrc s src).free = s.free ∧ (State.releaseSrc s src).nv = s.nv ∧ (State.releaseSrc s src).pin = s.pin ∧
    (State.releaseSrc s src).aon = s.aon ∧ (State.releaseSrc s src).flt = s.flt ∧ (State.releaseSrc s src).brw = s.brw ∧
    (State.releaseSrc s src).cfg = s.cfg ∧ (State.releaseSrc s src).ids = s.ids ∧ (State.releaseSrc s src).mbx = s.mbx ∧
    (State.releaseSrc s src).pool = s.pool ∧ (State.releaseSrc s src).laneA = s.laneA ∧
    (State.releaseSrc s src).laneB = s.laneB ∧ (State.releaseSrc s src).laneC = s.laneC ∧
    (State.releaseSrc s src).vot = s.vot ∧ (State.releaseSrc s src).fes = s.fes ∧ (State.releaseSrc s src).plan = s.plan ∧
    (State.releaseSrc s src).emit = s.emit ∧ (State.releaseSrc s src).lex = s.lex ∧ (State.releaseSrc s src).swd = s.swd ∧
    (State.releaseSrc s src).swm = s.swm ∧ (State.releaseSrc s src).frz = s.frz ∧ (State.releaseSrc s src).ccd = s.ccd ∧
    (State.releaseSrc s src).htl = s.htl ∧ (State.releaseSrc s src).rings = s.rings ∧
    (State.releaseSrc s src).latches = s.latches ∧ (State.releaseSrc s src).closed = s.closed ∧
    (State.releaseSrc s src).closureReported = s.closureReported ∧ (State.releaseSrc s src).ddr = s.ddr ∧
    (State.releaseSrc s src).busRead = s.busRead := by
  simp [State.releaseSrc]
@[simp] theorem State.writeCkpt_keeps (s : State) :
    (State.writeCkpt s).now = s.now ∧ (State.writeCkpt s).pending = s.pending ∧ (State.writeCkpt s).free = s.free ∧
    (State.writeCkpt s).core = s.core ∧ (State.writeCkpt s).pin = s.pin ∧ (State.writeCkpt s).aon = s.aon ∧
    (State.writeCkpt s).flt = s.flt ∧ (State.writeCkpt s).cfg = s.cfg ∧ (State.writeCkpt s).ids = s.ids ∧
    (State.writeCkpt s).mbx = s.mbx ∧ (State.writeCkpt s).pool = s.pool ∧ (State.writeCkpt s).laneA = s.laneA ∧
    (State.writeCkpt s).laneB = s.laneB ∧ (State.writeCkpt s).laneC = s.laneC ∧ (State.writeCkpt s).vot = s.vot ∧
    (State.writeCkpt s).fes = s.fes ∧ (State.writeCkpt s).plan = s.plan ∧ (State.writeCkpt s).emit = s.emit ∧
    (State.writeCkpt s).lex = s.lex ∧ (State.writeCkpt s).swd = s.swd ∧ (State.writeCkpt s).swm = s.swm ∧
    (State.writeCkpt s).frz = s.frz ∧ (State.writeCkpt s).ccd = s.ccd ∧ (State.writeCkpt s).htl = s.htl ∧
    (State.writeCkpt s).rings = s.rings ∧ (State.writeCkpt s).latches = s.latches ∧ (State.writeCkpt s).closed = s.closed ∧
    (State.writeCkpt s).closureReported = s.closureReported ∧ (State.writeCkpt s).ddr = s.ddr ∧
    (State.writeCkpt s).busRead = s.busRead := by
  simp [State.writeCkpt]
@[simp] theorem State.commit_keeps (s : State) (n : Nat) :
    (State.commit s n).now = s.now ∧ (State.commit s n).pending = s.pending ∧ (State.commit s n).free = s.free ∧
    (State.commit s n).core = s.core ∧ (State.commit s n).pin = s.pin ∧ (State.commit s n).aon = s.aon ∧
    (State.commit s n).flt = s.flt ∧ (State.commit s n).cfg = s.cfg ∧ (State.commit s n).ids = s.ids ∧
    (State.commit s n).pool = s.pool ∧ (State.commit s n).laneA = s.laneA ∧ (State.commit s n).laneB = s.laneB ∧
    (State.commit s n).laneC = s.laneC ∧ (State.commit s n).vot = s.vot ∧ (State.commit s n).fes = s.fes ∧
    (State.commit s n).plan = s.plan ∧ (State.commit s n).emit = s.emit ∧ (State.commit s n).lex = s.lex ∧
    (State.commit s n).swd = s.swd ∧ (State.commit s n).swm = s.swm ∧ (State.commit s n).frz = s.frz ∧
    (State.commit s n).ccd = s.ccd ∧ (State.commit s n).rings = s.rings ∧ (State.commit s n).latches = s.latches ∧
    (State.commit s n).closed = s.closed ∧ (State.commit s n).closureReported = s.closureReported ∧
    (State.commit s n).ddr = s.ddr ∧ (State.commit s n).busRead = s.busRead := by
  simp only [State.commit]
  (repeat' split) <;> simp_all
@[simp] theorem State.stageLoss_keeps (s : State) :
    (State.stageLoss s).now = s.now ∧ (State.stageLoss s).pending = s.pending ∧ (State.stageLoss s).free = s.free ∧
    (State.stageLoss s).nv = s.nv ∧ (State.stageLoss s).core = s.core ∧ (State.stageLoss s).pin = s.pin ∧
    (State.stageLoss s).aon = s.aon ∧ (State.stageLoss s).flt = s.flt ∧ (State.stageLoss s).cfg = s.cfg ∧
    (State.stageLoss s).ids = s.ids ∧ (State.stageLoss s).mbx = s.mbx ∧ (State.stageLoss s).pool = s.pool ∧
    (State.stageLoss s).laneA = s.laneA ∧ (State.stageLoss s).laneB = s.laneB ∧ (State.stageLoss s).laneC = s.laneC ∧
    (State.stageLoss s).vot = s.vot ∧ (State.stageLoss s).fes = s.fes ∧ (State.stageLoss s).plan = s.plan ∧
    (State.stageLoss s).emit = s.emit ∧ (State.stageLoss s).lex = s.lex ∧ (State.stageLoss s).swd = s.swd ∧
    (State.stageLoss s).swm = s.swm ∧ (State.stageLoss s).frz = s.frz ∧ (State.stageLoss s).ccd = s.ccd ∧
    (State.stageLoss s).rings = s.rings ∧ (State.stageLoss s).latches = s.latches ∧ (State.stageLoss s).closed = s.closed ∧
    (State.stageLoss s).closureReported = s.closureReported ∧ (State.stageLoss s).ddr = s.ddr ∧
    (State.stageLoss s).busRead = s.busRead := by
  simp [State.stageLoss]
@[simp] theorem State.barrowIo_keeps (s : State) (area detail : Nat) :
    (State.barrowIo s area detail).now = s.now ∧ (State.barrowIo s area detail).pending = s.pending ∧
    (State.barrowIo s area detail).free = s.free ∧ (State.barrowIo s area detail).nv = s.nv ∧
    (State.barrowIo s area detail).core = s.core ∧ (State.barrowIo s area detail).pin = s.pin ∧
    (State.barrowIo s area detail).aon = s.aon ∧ (State.barrowIo s area detail).brw = s.brw ∧
    (State.barrowIo s area detail).cfg = s.cfg ∧ (State.barrowIo s area detail).ids = s.ids ∧
    (State.barrowIo s area detail).mbx = s.mbx ∧ (State.barrowIo s area detail).pool = s.pool ∧
    (State.barrowIo s area detail).laneA = s.laneA ∧ (State.barrowIo s area detail).laneB = s.laneB ∧
    (State.barrowIo s area detail).laneC = s.laneC ∧ (State.barrowIo s area detail).vot = s.vot ∧
    (State.barrowIo s area detail).fes = s.fes ∧ (State.barrowIo s area detail).plan = s.plan ∧
    (State.barrowIo s area detail).emit = s.emit ∧ (State.barrowIo s area detail).lex = s.lex ∧
    (State.barrowIo s area detail).swd = s.swd ∧ (State.barrowIo s area detail).swm = s.swm ∧
    (State.barrowIo s area detail).frz = s.frz ∧ (State.barrowIo s area detail).ccd = s.ccd ∧
    (State.barrowIo s area detail).htl = s.htl ∧ (State.barrowIo s area detail).rings = s.rings ∧
    (State.barrowIo s area detail).latches = s.latches ∧ (State.barrowIo s area detail).closed = s.closed ∧
    (State.barrowIo s area detail).closureReported = s.closureReported ∧ (State.barrowIo s area detail).ddr = s.ddr ∧
    (State.barrowIo s area detail).busRead = s.busRead := by
  simp [State.barrowIo]
@[simp] theorem State.mirrorStaged_keeps (s : State) :
    (State.mirrorStaged s).now = s.now ∧ (State.mirrorStaged s).pending = s.pending ∧ (State.mirrorStaged s).free = s.free ∧
    (State.mirrorStaged s).nv = s.nv ∧ (State.mirrorStaged s).core = s.core ∧ (State.mirrorStaged s).pin = s.pin ∧
    (State.mirrorStaged s).aon = s.aon ∧ (State.mirrorStaged s).flt = s.flt ∧ (State.mirrorStaged s).cfg = s.cfg ∧
    (State.mirrorStaged s).ids = s.ids ∧ (State.mirrorStaged s).pool = s.pool ∧ (State.mirrorStaged s).laneA = s.laneA ∧
    (State.mirrorStaged s).laneB = s.laneB ∧ (State.mirrorStaged s).laneC = s.laneC ∧ (State.mirrorStaged s).vot = s.vot ∧
    (State.mirrorStaged s).fes = s.fes ∧ (State.mirrorStaged s).plan = s.plan ∧ (State.mirrorStaged s).emit = s.emit ∧
    (State.mirrorStaged s).lex = s.lex ∧ (State.mirrorStaged s).swd = s.swd ∧ (State.mirrorStaged s).swm = s.swm ∧
    (State.mirrorStaged s).frz = s.frz ∧ (State.mirrorStaged s).ccd = s.ccd ∧ (State.mirrorStaged s).rings = s.rings ∧
    (State.mirrorStaged s).latches = s.latches ∧ (State.mirrorStaged s).closed = s.closed ∧
    (State.mirrorStaged s).closureReported = s.closureReported ∧ (State.mirrorStaged s).ddr = s.ddr ∧
    (State.mirrorStaged s).busRead = s.busRead := by
  simp [State.mirrorStaged]
@[simp] theorem State.addOp_keeps (s : State) (b : Nat) :
    (State.addOp s b).now = s.now ∧ (State.addOp s b).pending = s.pending ∧ (State.addOp s b).free = s.free ∧
    (State.addOp s b).nv = s.nv ∧ (State.addOp s b).pin = s.pin ∧ (State.addOp s b).brw = s.brw ∧
    (State.addOp s b).cfg = s.cfg ∧ (State.addOp s b).pool = s.pool ∧ (State.addOp s b).vot = s.vot ∧
    (State.addOp s b).fes = s.fes ∧ (State.addOp s b).plan = s.plan ∧ (State.addOp s b).emit = s.emit ∧
    (State.addOp s b).lex = s.lex ∧ (State.addOp s b).swd = s.swd ∧ (State.addOp s b).swm = s.swm ∧
    (State.addOp s b).frz = s.frz ∧ (State.addOp s b).htl = s.htl ∧ (State.addOp s b).rings = s.rings ∧
    (State.addOp s b).latches = s.latches ∧ (State.addOp s b).closed = s.closed ∧
    (State.addOp s b).closureReported = s.closureReported ∧ (State.addOp s b).ddr = s.ddr ∧
    (State.addOp s b).busRead = s.busRead := by
  simp [State.addOp]
@[simp] theorem State.anchor_keeps (s : State) (b pccBefore pcc source : Nat) (next : Nat) (writable : Bool) :
    (State.anchor s b pccBefore pcc source next writable).now = s.now ∧
    (State.anchor s b pccBefore pcc source next writable).pending = s.pending ∧
    (State.anchor s b pccBefore pcc source next writable).free = s.free ∧
    (State.anchor s b pccBefore pcc source next writable).pin = s.pin ∧
    (State.anchor s b pccBefore pcc source next writable).cfg = s.cfg ∧
    (State.anchor s b pccBefore pcc source next writable).pool = s.pool ∧
    (State.anchor s b pccBefore pcc source next writable).vot = s.vot ∧
    (State.anchor s b pccBefore pcc source next writable).fes = s.fes ∧
    (State.anchor s b pccBefore pcc source next writable).plan = s.plan ∧
    (State.anchor s b pccBefore pcc source next writable).emit = s.emit ∧
    (State.anchor s b pccBefore pcc source next writable).lex = s.lex ∧
    (State.anchor s b pccBefore pcc source next writable).swd = s.swd ∧
    (State.anchor s b pccBefore pcc source next writable).swm = s.swm ∧
    (State.anchor s b pccBefore pcc source next writable).frz = s.frz ∧
    (State.anchor s b pccBefore pcc source next writable).rings = s.rings ∧
    (State.anchor s b pccBefore pcc source next writable).latches = s.latches ∧
    (State.anchor s b pccBefore pcc source next writable).closed = s.closed ∧
    (State.anchor s b pccBefore pcc source next writable).closureReported = s.closureReported ∧
    (State.anchor s b pccBefore pcc source next writable).ddr = s.ddr ∧
    (State.anchor s b pccBefore pcc source next writable).busRead = s.busRead := by
  simp [State.anchor]
@[simp] theorem State.anchorQuery_keeps (s : State) :
    (State.anchorQuery s).now = s.now ∧ (State.anchorQuery s).pending = s.pending ∧ (State.anchorQuery s).free = s.free ∧
    (State.anchorQuery s).nv = s.nv ∧ (State.anchorQuery s).core = s.core ∧ (State.anchorQuery s).pin = s.pin ∧
    (State.anchorQuery s).aon = s.aon ∧ (State.anchorQuery s).flt = s.flt ∧ (State.anchorQuery s).cfg = s.cfg ∧
    (State.anchorQuery s).ids = s.ids ∧ (State.anchorQuery s).mbx = s.mbx ∧ (State.anchorQuery s).pool = s.pool ∧
    (State.anchorQuery s).laneA = s.laneA ∧ (State.anchorQuery s).laneB = s.laneB ∧ (State.anchorQuery s).laneC = s.laneC ∧
    (State.anchorQuery s).vot = s.vot ∧ (State.anchorQuery s).fes = s.fes ∧ (State.anchorQuery s).plan = s.plan ∧
    (State.anchorQuery s).emit = s.emit ∧ (State.anchorQuery s).lex = s.lex ∧ (State.anchorQuery s).swd = s.swd ∧
    (State.anchorQuery s).swm = s.swm ∧ (State.anchorQuery s).frz = s.frz ∧ (State.anchorQuery s).ccd = s.ccd ∧
    (State.anchorQuery s).rings = s.rings ∧ (State.anchorQuery s).latches = s.latches ∧
    (State.anchorQuery s).closed = s.closed ∧ (State.anchorQuery s).closureReported = s.closureReported ∧
    (State.anchorQuery s).ddr = s.ddr ∧ (State.anchorQuery s).busRead = s.busRead := by
  simp [State.anchorQuery]
@[simp] theorem State.afterReplay_keeps (s : State) :
    (State.afterReplay s).now = s.now ∧ (State.afterReplay s).pending = s.pending ∧ (State.afterReplay s).free = s.free ∧
    (State.afterReplay s).core = s.core ∧ (State.afterReplay s).pin = s.pin ∧ (State.afterReplay s).aon = s.aon ∧
    (State.afterReplay s).flt = s.flt ∧ (State.afterReplay s).cfg = s.cfg ∧ (State.afterReplay s).ids = s.ids ∧
    (State.afterReplay s).mbx = s.mbx ∧ (State.afterReplay s).pool = s.pool ∧ (State.afterReplay s).laneA = s.laneA ∧
    (State.afterReplay s).laneB = s.laneB ∧ (State.afterReplay s).laneC = s.laneC ∧ (State.afterReplay s).vot = s.vot ∧
    (State.afterReplay s).fes = s.fes ∧ (State.afterReplay s).plan = s.plan ∧ (State.afterReplay s).emit = s.emit ∧
    (State.afterReplay s).lex = s.lex ∧ (State.afterReplay s).swd = s.swd ∧ (State.afterReplay s).swm = s.swm ∧
    (State.afterReplay s).frz = s.frz ∧ (State.afterReplay s).ccd = s.ccd ∧ (State.afterReplay s).htl = s.htl ∧
    (State.afterReplay s).rings = s.rings ∧ (State.afterReplay s).latches = s.latches ∧
    (State.afterReplay s).closed = s.closed ∧ (State.afterReplay s).closureReported = s.closureReported ∧
    (State.afterReplay s).ddr = s.ddr ∧ (State.afterReplay s).busRead = s.busRead := by
  simp [State.afterReplay]
@[simp] theorem State.anchorFromReplies_keeps (s : State) :
    (State.anchorFromReplies s).now = s.now ∧ (State.anchorFromReplies s).pending = s.pending ∧
    (State.anchorFromReplies s).pin = s.pin ∧ (State.anchorFromReplies s).cfg = s.cfg ∧
    (State.anchorFromReplies s).pool = s.pool ∧ (State.anchorFromReplies s).vot = s.vot ∧
    (State.anchorFromReplies s).fes = s.fes ∧ (State.anchorFromReplies s).plan = s.plan ∧
    (State.anchorFromReplies s).emit = s.emit ∧ (State.anchorFromReplies s).lex = s.lex ∧
    (State.anchorFromReplies s).swd = s.swd ∧ (State.anchorFromReplies s).swm = s.swm ∧
    (State.anchorFromReplies s).frz = s.frz ∧ (State.anchorFromReplies s).rings = s.rings ∧
    (State.anchorFromReplies s).latches = s.latches ∧ (State.anchorFromReplies s).closed = s.closed ∧
    (State.anchorFromReplies s).closureReported = s.closureReported ∧ (State.anchorFromReplies s).ddr = s.ddr ∧
    (State.anchorFromReplies s).busRead = s.busRead := by
  simp only [State.anchorFromReplies]
  (repeat' split) <;> simp_all
@[simp] theorem State.brwCommand_keeps (s : State) (op : BrwOp) (a : BrwArea) :
    (State.brwCommand s op a).now = s.now ∧ (State.brwCommand s op a).pending = s.pending ∧
    (State.brwCommand s op a).free = s.free ∧ (State.brwCommand s op a).nv = s.nv ∧ (State.brwCommand s op a).core = s.core ∧
    (State.brwCommand s op a).pin = s.pin ∧ (State.brwCommand s op a).aon = s.aon ∧ (State.brwCommand s op a).cfg = s.cfg ∧
    (State.brwCommand s op a).ids = s.ids ∧ (State.brwCommand s op a).mbx = s.mbx ∧ (State.brwCommand s op a).pool = s.pool ∧
    (State.brwCommand s op a).laneA = s.laneA ∧ (State.brwCommand s op a).laneB = s.laneB ∧
    (State.brwCommand s op a).laneC = s.laneC ∧ (State.brwCommand s op a).vot = s.vot ∧
    (State.brwCommand s op a).fes = s.fes ∧ (State.brwCommand s op a).plan = s.plan ∧
    (State.brwCommand s op a).emit = s.emit ∧ (State.brwCommand s op a).lex = s.lex ∧ (State.brwCommand s op a).swd = s.swd ∧
    (State.brwCommand s op a).swm = s.swm ∧ (State.brwCommand s op a).frz = s.frz ∧ (State.brwCommand s op a).ccd = s.ccd ∧
    (State.brwCommand s op a).htl = s.htl ∧ (State.brwCommand s op a).rings = s.rings ∧
    (State.brwCommand s op a).latches = s.latches ∧ (State.brwCommand s op a).closed = s.closed ∧
    (State.brwCommand s op a).closureReported = s.closureReported ∧ (State.brwCommand s op a).ddr = s.ddr ∧
    (State.brwCommand s op a).busRead = s.busRead := by
  simp [State.brwCommand]
@[simp] theorem State.barrowClear_keeps (s : State) (targets epoch : Nat) (digest : List Byte) :
    (State.barrowClear s targets epoch digest).now = s.now ∧ (State.barrowClear s targets epoch digest).pending = s.pending ∧
    (State.barrowClear s targets epoch digest).free = s.free ∧ (State.barrowClear s targets epoch digest).core = s.core ∧
    (State.barrowClear s targets epoch digest).pin = s.pin ∧ (State.barrowClear s targets epoch digest).aon = s.aon ∧
    (State.barrowClear s targets epoch digest).cfg = s.cfg ∧ (State.barrowClear s targets epoch digest).ids = s.ids ∧
    (State.barrowClear s targets epoch digest).pool = s.pool ∧ (State.barrowClear s targets epoch digest).laneA = s.laneA ∧
    (State.barrowClear s targets epoch digest).laneB = s.laneB ∧ (State.barrowClear s targets epoch digest).laneC = s.laneC ∧
    (State.barrowClear s targets epoch digest).vot = s.vot ∧ (State.barrowClear s targets epoch digest).fes = s.fes ∧
    (State.barrowClear s targets epoch digest).plan = s.plan ∧ (State.barrowClear s targets epoch digest).emit = s.emit ∧
    (State.barrowClear s targets epoch digest).lex = s.lex ∧ (State.barrowClear s targets epoch digest).swd = s.swd ∧
    (State.barrowClear s targets epoch digest).swm = s.swm ∧ (State.barrowClear s targets epoch digest).frz = s.frz ∧
    (State.barrowClear s targets epoch digest).ccd = s.ccd ∧ (State.barrowClear s targets epoch digest).rings = s.rings ∧
    (State.barrowClear s targets epoch digest).latches = s.latches ∧
    (State.barrowClear s targets epoch digest).closed = s.closed ∧
    (State.barrowClear s targets epoch digest).closureReported = s.closureReported ∧
    (State.barrowClear s targets epoch digest).ddr = s.ddr ∧
    (State.barrowClear s targets epoch digest).busRead = s.busRead := by
  simp [State.barrowClear]
@[simp] theorem State.writeBrw_keeps (s : State) (o : Nat) (v : Word) :
    (State.writeBrw s o v).now = s.now ∧ (State.writeBrw s o v).pending = s.pending ∧ (State.writeBrw s o v).free = s.free ∧
    (State.writeBrw s o v).nv = s.nv ∧ (State.writeBrw s o v).core = s.core ∧ (State.writeBrw s o v).pin = s.pin ∧
    (State.writeBrw s o v).aon = s.aon ∧ (State.writeBrw s o v).flt = s.flt ∧ (State.writeBrw s o v).cfg = s.cfg ∧
    (State.writeBrw s o v).ids = s.ids ∧ (State.writeBrw s o v).mbx = s.mbx ∧ (State.writeBrw s o v).pool = s.pool ∧
    (State.writeBrw s o v).laneA = s.laneA ∧ (State.writeBrw s o v).laneB = s.laneB ∧
    (State.writeBrw s o v).laneC = s.laneC ∧ (State.writeBrw s o v).vot = s.vot ∧ (State.writeBrw s o v).fes = s.fes ∧
    (State.writeBrw s o v).plan = s.plan ∧ (State.writeBrw s o v).emit = s.emit ∧ (State.writeBrw s o v).lex = s.lex ∧
    (State.writeBrw s o v).swd = s.swd ∧ (State.writeBrw s o v).swm = s.swm ∧ (State.writeBrw s o v).frz = s.frz ∧
    (State.writeBrw s o v).ccd = s.ccd ∧ (State.writeBrw s o v).htl = s.htl ∧ (State.writeBrw s o v).rings = s.rings ∧
    (State.writeBrw s o v).closed = s.closed ∧ (State.writeBrw s o v).closureReported = s.closureReported ∧
    (State.writeBrw s o v).ddr = s.ddr ∧ (State.writeBrw s o v).busRead = s.busRead := by
  simp only [State.writeBrw]
  (repeat' split) <;> simp_all
@[simp] theorem State.clkFail_keeps (s : State) (c : Clk) (detail : Nat) :
    (State.clkFail s c detail).now = s.now ∧ (State.clkFail s c detail).pending = s.pending ∧
    (State.clkFail s c detail).free = s.free ∧ (State.clkFail s c detail).nv = s.nv ∧
    (State.clkFail s c detail).core = s.core ∧ (State.clkFail s c detail).pin = s.pin ∧
    (State.clkFail s c detail).cfg = s.cfg ∧ (State.clkFail s c detail).ids = s.ids ∧
    (State.clkFail s c detail).mbx = s.mbx ∧ (State.clkFail s c detail).plan = s.plan ∧
    (State.clkFail s c detail).emit = s.emit ∧ (State.clkFail s c detail).lex = s.lex ∧
    (State.clkFail s c detail).swd = s.swd ∧ (State.clkFail s c detail).swm = s.swm ∧
    (State.clkFail s c detail).frz = s.frz ∧ (State.clkFail s c detail).ccd = s.ccd ∧
    (State.clkFail s c detail).rings = s.rings ∧ (State.clkFail s c detail).latches = s.latches ∧
    (State.clkFail s c detail).closed = s.closed ∧ (State.clkFail s c detail).closureReported = s.closureReported ∧
    (State.clkFail s c detail).ddr = s.ddr ∧ (State.clkFail s c detail).busRead = s.busRead := by
  simp only [State.clkFail]
  (repeat' split) <;> simp_all
@[simp] theorem State.holdoverBit_keeps (s : State) :
    (State.holdoverBit s).now = s.now ∧ (State.holdoverBit s).pending = s.pending ∧ (State.holdoverBit s).free = s.free ∧
    (State.holdoverBit s).nv = s.nv ∧ (State.holdoverBit s).core = s.core ∧ (State.holdoverBit s).pin = s.pin ∧
    (State.holdoverBit s).flt = s.flt ∧ (State.holdoverBit s).brw = s.brw ∧ (State.holdoverBit s).cfg = s.cfg ∧
    (State.holdoverBit s).ids = s.ids ∧ (State.holdoverBit s).mbx = s.mbx ∧ (State.holdoverBit s).pool = s.pool ∧
    (State.holdoverBit s).laneA = s.laneA ∧ (State.holdoverBit s).laneB = s.laneB ∧ (State.holdoverBit s).laneC = s.laneC ∧
    (State.holdoverBit s).vot = s.vot ∧ (State.holdoverBit s).fes = s.fes ∧ (State.holdoverBit s).plan = s.plan ∧
    (State.holdoverBit s).emit = s.emit ∧ (State.holdoverBit s).lex = s.lex ∧ (State.holdoverBit s).swd = s.swd ∧
    (State.holdoverBit s).swm = s.swm ∧ (State.holdoverBit s).frz = s.frz ∧ (State.holdoverBit s).ccd = s.ccd ∧
    (State.holdoverBit s).htl = s.htl ∧ (State.holdoverBit s).rings = s.rings ∧ (State.holdoverBit s).latches = s.latches ∧
    (State.holdoverBit s).closed = s.closed ∧ (State.holdoverBit s).closureReported = s.closureReported ∧
    (State.holdoverBit s).ddr = s.ddr ∧ (State.holdoverBit s).busRead = s.busRead := by
  simp [State.holdoverBit]
@[simp] theorem State.enterHoldover_keeps (s : State) :
    (State.enterHoldover s).now = s.now ∧ (State.enterHoldover s).pending = s.pending ∧
    (State.enterHoldover s).free = s.free ∧ (State.enterHoldover s).nv = s.nv ∧ (State.enterHoldover s).core = s.core ∧
    (State.enterHoldover s).pin = s.pin ∧ (State.enterHoldover s).flt = s.flt ∧ (State.enterHoldover s).brw = s.brw ∧
    (State.enterHoldover s).cfg = s.cfg ∧ (State.enterHoldover s).ids = s.ids ∧ (State.enterHoldover s).mbx = s.mbx ∧
    (State.enterHoldover s).pool = s.pool ∧ (State.enterHoldover s).laneA = s.laneA ∧
    (State.enterHoldover s).laneB = s.laneB ∧ (State.enterHoldover s).laneC = s.laneC ∧ (State.enterHoldover s).vot = s.vot ∧
    (State.enterHoldover s).fes = s.fes ∧ (State.enterHoldover s).plan = s.plan ∧ (State.enterHoldover s).emit = s.emit ∧
    (State.enterHoldover s).lex = s.lex ∧ (State.enterHoldover s).swd = s.swd ∧ (State.enterHoldover s).swm = s.swm ∧
    (State.enterHoldover s).frz = s.frz ∧ (State.enterHoldover s).ccd = s.ccd ∧ (State.enterHoldover s).htl = s.htl ∧
    (State.enterHoldover s).latches = s.latches ∧ (State.enterHoldover s).closed = s.closed ∧
    (State.enterHoldover s).closureReported = s.closureReported ∧ (State.enterHoldover s).ddr = s.ddr ∧
    (State.enterHoldover s).busRead = s.busRead := by
  simp [State.enterHoldover]
@[simp] theorem State.writeClosed_keeps (s : State) (ch : Chan) (recv send : Nat) :
    (State.writeClosed s ch recv send).now = s.now ∧ (State.writeClosed s ch recv send).pending = s.pending ∧
    (State.writeClosed s ch recv send).free = s.free ∧ (State.writeClosed s ch recv send).nv = s.nv ∧
    (State.writeClosed s ch recv send).core = s.core ∧ (State.writeClosed s ch recv send).pin = s.pin ∧
    (State.writeClosed s ch recv send).aon = s.aon ∧ (State.writeClosed s ch recv send).brw = s.brw ∧
    (State.writeClosed s ch recv send).cfg = s.cfg ∧ (State.writeClosed s ch recv send).ids = s.ids ∧
    (State.writeClosed s ch recv send).mbx = s.mbx ∧ (State.writeClosed s ch recv send).pool = s.pool ∧
    (State.writeClosed s ch recv send).laneA = s.laneA ∧ (State.writeClosed s ch recv send).laneB = s.laneB ∧
    (State.writeClosed s ch recv send).laneC = s.laneC ∧ (State.writeClosed s ch recv send).vot = s.vot ∧
    (State.writeClosed s ch recv send).fes = s.fes ∧ (State.writeClosed s ch recv send).plan = s.plan ∧
    (State.writeClosed s ch recv send).emit = s.emit ∧ (State.writeClosed s ch recv send).lex = s.lex ∧
    (State.writeClosed s ch recv send).swd = s.swd ∧ (State.writeClosed s ch recv send).swm = s.swm ∧
    (State.writeClosed s ch recv send).frz = s.frz ∧ (State.writeClosed s ch recv send).ccd = s.ccd ∧
    (State.writeClosed s ch recv send).htl = s.htl ∧ (State.writeClosed s ch recv send).rings = s.rings ∧
    (State.writeClosed s ch recv send).latches = s.latches ∧ (State.writeClosed s ch recv send).closed = s.closed ∧
    (State.writeClosed s ch recv send).ddr = s.ddr ∧ (State.writeClosed s ch recv send).busRead = s.busRead := by
  simp [State.writeClosed]
@[simp] theorem State.updTus_keeps (s : State) (t : Nat) (f : Tus → Tus) :
    (State.updTus s t f).now = s.now ∧ (State.updTus s t f).pending = s.pending ∧ (State.updTus s t f).free = s.free ∧
    (State.updTus s t f).nv = s.nv ∧ (State.updTus s t f).core = s.core ∧ (State.updTus s t f).pin = s.pin ∧
    (State.updTus s t f).aon = s.aon ∧ (State.updTus s t f).flt = s.flt ∧ (State.updTus s t f).brw = s.brw ∧
    (State.updTus s t f).cfg = s.cfg ∧ (State.updTus s t f).ids = s.ids ∧ (State.updTus s t f).mbx = s.mbx ∧
    (State.updTus s t f).pool = s.pool ∧ (State.updTus s t f).laneA = s.laneA ∧ (State.updTus s t f).laneB = s.laneB ∧
    (State.updTus s t f).laneC = s.laneC ∧ (State.updTus s t f).vot = s.vot ∧ (State.updTus s t f).fes = s.fes ∧
    (State.updTus s t f).plan = s.plan ∧ (State.updTus s t f).emit = s.emit ∧ (State.updTus s t f).lex = s.lex ∧
    (State.updTus s t f).swm = s.swm ∧ (State.updTus s t f).frz = s.frz ∧ (State.updTus s t f).ccd = s.ccd ∧
    (State.updTus s t f).htl = s.htl ∧ (State.updTus s t f).rings = s.rings ∧ (State.updTus s t f).latches = s.latches ∧
    (State.updTus s t f).closed = s.closed ∧ (State.updTus s t f).closureReported = s.closureReported ∧
    (State.updTus s t f).ddr = s.ddr ∧ (State.updTus s t f).busRead = s.busRead := by
  simp [State.updTus]
@[simp] theorem State.tusReport_keeps (s : State) (t kind detail : Nat) :
    (State.tusReport s t kind detail).now = s.now ∧ (State.tusReport s t kind detail).pending = s.pending ∧
    (State.tusReport s t kind detail).free = s.free ∧ (State.tusReport s t kind detail).nv = s.nv ∧
    (State.tusReport s t kind detail).core = s.core ∧ (State.tusReport s t kind detail).pin = s.pin ∧
    (State.tusReport s t kind detail).aon = s.aon ∧ (State.tusReport s t kind detail).brw = s.brw ∧
    (State.tusReport s t kind detail).cfg = s.cfg ∧ (State.tusReport s t kind detail).ids = s.ids ∧
    (State.tusReport s t kind detail).mbx = s.mbx ∧ (State.tusReport s t kind detail).pool = s.pool ∧
    (State.tusReport s t kind detail).laneA = s.laneA ∧ (State.tusReport s t kind detail).laneB = s.laneB ∧
    (State.tusReport s t kind detail).laneC = s.laneC ∧ (State.tusReport s t kind detail).vot = s.vot ∧
    (State.tusReport s t kind detail).fes = s.fes ∧ (State.tusReport s t kind detail).plan = s.plan ∧
    (State.tusReport s t kind detail).emit = s.emit ∧ (State.tusReport s t kind detail).lex = s.lex ∧
    (State.tusReport s t kind detail).swd = s.swd ∧ (State.tusReport s t kind detail).swm = s.swm ∧
    (State.tusReport s t kind detail).frz = s.frz ∧ (State.tusReport s t kind detail).ccd = s.ccd ∧
    (State.tusReport s t kind detail).htl = s.htl ∧ (State.tusReport s t kind detail).rings = s.rings ∧
    (State.tusReport s t kind detail).latches = s.latches ∧ (State.tusReport s t kind detail).closed = s.closed ∧
    (State.tusReport s t kind detail).closureReported = s.closureReported ∧ (State.tusReport s t kind detail).ddr = s.ddr ∧
    (State.tusReport s t kind detail).busRead = s.busRead := by
  simp [State.tusReport]
@[simp] theorem State.inject_keeps (s : State) (f : Flit) (row col : Nat) (via : Via) (src : Nat) :
    (State.inject s f row col via src).now = s.now ∧ (State.inject s f row col via src).pending = s.pending ∧
    (State.inject s f row col via src).free = s.free ∧ (State.inject s f row col via src).nv = s.nv ∧
    (State.inject s f row col via src).core = s.core ∧ (State.inject s f row col via src).pin = s.pin ∧
    (State.inject s f row col via src).aon = s.aon ∧ (State.inject s f row col via src).flt = s.flt ∧
    (State.inject s f row col via src).brw = s.brw ∧ (State.inject s f row col via src).cfg = s.cfg ∧
    (State.inject s f row col via src).ids = s.ids ∧ (State.inject s f row col via src).mbx = s.mbx ∧
    (State.inject s f row col via src).pool = s.pool ∧ (State.inject s f row col via src).laneA = s.laneA ∧
    (State.inject s f row col via src).laneB = s.laneB ∧ (State.inject s f row col via src).laneC = s.laneC ∧
    (State.inject s f row col via src).vot = s.vot ∧ (State.inject s f row col via src).fes = s.fes ∧
    (State.inject s f row col via src).plan = s.plan ∧ (State.inject s f row col via src).emit = s.emit ∧
    (State.inject s f row col via src).lex = s.lex ∧ (State.inject s f row col via src).swm = s.swm ∧
    (State.inject s f row col via src).frz = s.frz ∧ (State.inject s f row col via src).ccd = s.ccd ∧
    (State.inject s f row col via src).htl = s.htl ∧ (State.inject s f row col via src).rings = s.rings ∧
    (State.inject s f row col via src).latches = s.latches ∧ (State.inject s f row col via src).closed = s.closed ∧
    (State.inject s f row col via src).closureReported = s.closureReported ∧ (State.inject s f row col via src).ddr = s.ddr ∧
    (State.inject s f row col via src).busRead = s.busRead := by
  simp [State.inject]
@[simp] theorem State.insn_keeps (s : State) (x : TIns) (f : Ctx → Tus → TOut) :
    (State.insn s x f).now = s.now ∧ (State.insn s x f).pending = s.pending ∧ (State.insn s x f).nv = s.nv ∧
    (State.insn s x f).core = s.core ∧ (State.insn s x f).pin = s.pin ∧ (State.insn s x f).aon = s.aon ∧
    (State.insn s x f).brw = s.brw ∧ (State.insn s x f).cfg = s.cfg ∧ (State.insn s x f).ids = s.ids ∧
    (State.insn s x f).mbx = s.mbx ∧ (State.insn s x f).pool = s.pool ∧ (State.insn s x f).laneA = s.laneA ∧
    (State.insn s x f).laneB = s.laneB ∧ (State.insn s x f).laneC = s.laneC ∧ (State.insn s x f).vot = s.vot ∧
    (State.insn s x f).fes = s.fes ∧ (State.insn s x f).plan = s.plan ∧ (State.insn s x f).emit = s.emit ∧
    (State.insn s x f).lex = s.lex ∧ (State.insn s x f).swm = s.swm ∧ (State.insn s x f).frz = s.frz ∧
    (State.insn s x f).ccd = s.ccd ∧ (State.insn s x f).htl = s.htl ∧ (State.insn s x f).rings = s.rings ∧
    (State.insn s x f).latches = s.latches ∧ (State.insn s x f).closed = s.closed ∧
    (State.insn s x f).closureReported = s.closureReported ∧ (State.insn s x f).ddr = s.ddr ∧
    (State.insn s x f).busRead = s.busRead := by
  simp [State.insn]
@[simp] theorem State.flitLost_keeps (s : State) (src dst : Nat) :
    (State.flitLost s src dst).now = s.now ∧ (State.flitLost s src dst).pending = s.pending ∧
    (State.flitLost s src dst).free = s.free ∧ (State.flitLost s src dst).nv = s.nv ∧
    (State.flitLost s src dst).core = s.core ∧ (State.flitLost s src dst).pin = s.pin ∧
    (State.flitLost s src dst).aon = s.aon ∧ (State.flitLost s src dst).brw = s.brw ∧
    (State.flitLost s src dst).cfg = s.cfg ∧ (State.flitLost s src dst).ids = s.ids ∧
    (State.flitLost s src dst).mbx = s.mbx ∧ (State.flitLost s src dst).pool = s.pool ∧
    (State.flitLost s src dst).laneA = s.laneA ∧ (State.flitLost s src dst).laneB = s.laneB ∧
    (State.flitLost s src dst).laneC = s.laneC ∧ (State.flitLost s src dst).vot = s.vot ∧
    (State.flitLost s src dst).fes = s.fes ∧ (State.flitLost s src dst).plan = s.plan ∧
    (State.flitLost s src dst).emit = s.emit ∧ (State.flitLost s src dst).lex = s.lex ∧
    (State.flitLost s src dst).swm = s.swm ∧ (State.flitLost s src dst).frz = s.frz ∧
    (State.flitLost s src dst).ccd = s.ccd ∧ (State.flitLost s src dst).htl = s.htl ∧
    (State.flitLost s src dst).rings = s.rings ∧ (State.flitLost s src dst).latches = s.latches ∧
    (State.flitLost s src dst).closed = s.closed ∧ (State.flitLost s src dst).closureReported = s.closureReported ∧
    (State.flitLost s src dst).ddr = s.ddr ∧ (State.flitLost s src dst).busRead = s.busRead := by
  simp [State.flitLost]
end Sys2Proof.Machine
end

