-- ==== Sys2Proof/Laws/Keeps2.lean ====
section
/-! SUPPORT. Frames of shared operations: what the operations of the collector, the recorder, the modes and the supply leave unchanged. Each lemma lists fields of State that the operation does not touch. -/
namespace Sys2Proof.Machine
set_option linter.all false
@[simp] theorem State.flitLands_keeps (s : State) (x : Nat) (f : Flit) (n : List (Nat × NAcc)) (ev : List (Nat × WordEv)) :
    (State.flitLands s x f n ev).now = s.now ∧ (State.flitLands s x f n ev).pending = s.pending ∧
    (State.flitLands s x f n ev).nv = s.nv ∧ (State.flitLands s x f n ev).core = s.core ∧
    (State.flitLands s x f n ev).pin = s.pin ∧ (State.flitLands s x f n ev).aon = s.aon ∧
    (State.flitLands s x f n ev).brw = s.brw ∧ (State.flitLands s x f n ev).cfg = s.cfg ∧
    (State.flitLands s x f n ev).ids = s.ids ∧ (State.flitLands s x f n ev).mbx = s.mbx ∧
    (State.flitLands s x f n ev).pool = s.pool ∧ (State.flitLands s x f n ev).laneA = s.laneA ∧
    (State.flitLands s x f n ev).laneB = s.laneB ∧ (State.flitLands s x f n ev).laneC = s.laneC ∧
    (State.flitLands s x f n ev).vot = s.vot ∧ (State.flitLands s x f n ev).fes = s.fes ∧
    (State.flitLands s x f n ev).plan = s.plan ∧ (State.flitLands s x f n ev).emit = s.emit ∧
    (State.flitLands s x f n ev).lex = s.lex ∧ (State.flitLands s x f n ev).swm = s.swm ∧
    (State.flitLands s x f n ev).frz = s.frz ∧ (State.flitLands s x f n ev).ccd = s.ccd ∧
    (State.flitLands s x f n ev).htl = s.htl ∧ (State.flitLands s x f n ev).rings = s.rings ∧
    (State.flitLands s x f n ev).latches = s.latches ∧ (State.flitLands s x f n ev).closed = s.closed ∧
    (State.flitLands s x f n ev).closureReported = s.closureReported ∧ (State.flitLands s x f n ev).ddr = s.ddr ∧
    (State.flitLands s x f n ev).busRead = s.busRead := by
  simp [State.flitLands]
  (repeat' split) <;> simp_all [Prod.ext_iff]
@[simp] theorem State.lemFree_keeps (s : State) (slot : Nat) :
    (State.lemFree s slot).now = s.now ∧ (State.lemFree s slot).pending = s.pending ∧ (State.lemFree s slot).free = s.free ∧
    (State.lemFree s slot).nv = s.nv ∧ (State.lemFree s slot).core = s.core ∧ (State.lemFree s slot).pin = s.pin ∧
    (State.lemFree s slot).aon = s.aon ∧ (State.lemFree s slot).flt = s.flt ∧ (State.lemFree s slot).brw = s.brw ∧
    (State.lemFree s slot).cfg = s.cfg ∧ (State.lemFree s slot).ids = s.ids ∧ (State.lemFree s slot).mbx = s.mbx ∧
    (State.lemFree s slot).pool = s.pool ∧ (State.lemFree s slot).laneA = s.laneA ∧ (State.lemFree s slot).laneB = s.laneB ∧
    (State.lemFree s slot).laneC = s.laneC ∧ (State.lemFree s slot).vot = s.vot ∧ (State.lemFree s slot).fes = s.fes ∧
    (State.lemFree s slot).plan = s.plan ∧ (State.lemFree s slot).emit = s.emit ∧ (State.lemFree s slot).swd = s.swd ∧
    (State.lemFree s slot).frz = s.frz ∧ (State.lemFree s slot).ccd = s.ccd ∧ (State.lemFree s slot).htl = s.htl ∧
    (State.lemFree s slot).rings = s.rings ∧ (State.lemFree s slot).latches = s.latches ∧
    (State.lemFree s slot).closed = s.closed ∧ (State.lemFree s slot).closureReported = s.closureReported ∧
    (State.lemFree s slot).ddr = s.ddr ∧ (State.lemFree s slot).busRead = s.busRead := by
  simp [State.lemFree]
@[simp] theorem State.lemCheck_keeps (s : State) (slot : Nat) :
    (State.lemCheck s slot).now = s.now ∧ (State.lemCheck s slot).pending = s.pending ∧
    (State.lemCheck s slot).free = s.free ∧ (State.lemCheck s slot).nv = s.nv ∧ (State.lemCheck s slot).core = s.core ∧
    (State.lemCheck s slot).pin = s.pin ∧ (State.lemCheck s slot).aon = s.aon ∧ (State.lemCheck s slot).flt = s.flt ∧
    (State.lemCheck s slot).brw = s.brw ∧ (State.lemCheck s slot).cfg = s.cfg ∧ (State.lemCheck s slot).ids = s.ids ∧
    (State.lemCheck s slot).mbx = s.mbx ∧ (State.lemCheck s slot).pool = s.pool ∧ (State.lemCheck s slot).laneA = s.laneA ∧
    (State.lemCheck s slot).laneB = s.laneB ∧ (State.lemCheck s slot).laneC = s.laneC ∧ (State.lemCheck s slot).vot = s.vot ∧
    (State.lemCheck s slot).fes = s.fes ∧ (State.lemCheck s slot).plan = s.plan ∧ (State.lemCheck s slot).emit = s.emit ∧
    (State.lemCheck s slot).swd = s.swd ∧ (State.lemCheck s slot).frz = s.frz ∧ (State.lemCheck s slot).ccd = s.ccd ∧
    (State.lemCheck s slot).htl = s.htl ∧ (State.lemCheck s slot).rings = s.rings ∧
    (State.lemCheck s slot).latches = s.latches ∧ (State.lemCheck s slot).closed = s.closed ∧
    (State.lemCheck s slot).closureReported = s.closureReported ∧ (State.lemCheck s slot).ddr = s.ddr ∧
    (State.lemCheck s slot).busRead = s.busRead := by
  simp [State.lemCheck]
@[simp] theorem State.lemFind_keeps (s : State) (key : Nat) :
    (State.lemFind s key).2.now = s.now ∧ (State.lemFind s key).2.pending = s.pending ∧
    (State.lemFind s key).2.free = s.free ∧ (State.lemFind s key).2.nv = s.nv ∧ (State.lemFind s key).2.core = s.core ∧
    (State.lemFind s key).2.pin = s.pin ∧ (State.lemFind s key).2.aon = s.aon ∧ (State.lemFind s key).2.flt = s.flt ∧
    (State.lemFind s key).2.brw = s.brw ∧ (State.lemFind s key).2.cfg = s.cfg ∧ (State.lemFind s key).2.ids = s.ids ∧
    (State.lemFind s key).2.mbx = s.mbx ∧ (State.lemFind s key).2.pool = s.pool ∧ (State.lemFind s key).2.laneA = s.laneA ∧
    (State.lemFind s key).2.laneB = s.laneB ∧ (State.lemFind s key).2.laneC = s.laneC ∧ (State.lemFind s key).2.vot = s.vot ∧
    (State.lemFind s key).2.fes = s.fes ∧ (State.lemFind s key).2.plan = s.plan ∧ (State.lemFind s key).2.emit = s.emit ∧
    (State.lemFind s key).2.swd = s.swd ∧ (State.lemFind s key).2.frz = s.frz ∧ (State.lemFind s key).2.ccd = s.ccd ∧
    (State.lemFind s key).2.htl = s.htl ∧ (State.lemFind s key).2.rings = s.rings ∧
    (State.lemFind s key).2.latches = s.latches ∧ (State.lemFind s key).2.closed = s.closed ∧
    (State.lemFind s key).2.closureReported = s.closureReported ∧ (State.lemFind s key).2.ddr = s.ddr ∧
    (State.lemFind s key).2.busRead = s.busRead := by
  simp only [State.lemFind]
  (repeat' split) <;> simp_all
@[simp] theorem State.bring_keeps (s : State) (slot : Nat) :
    (State.bring s slot).now = s.now ∧ (State.bring s slot).pending = s.pending ∧ (State.bring s slot).free = s.free ∧
    (State.bring s slot).nv = s.nv ∧ (State.bring s slot).core = s.core ∧ (State.bring s slot).pin = s.pin ∧
    (State.bring s slot).aon = s.aon ∧ (State.bring s slot).flt = s.flt ∧ (State.bring s slot).brw = s.brw ∧
    (State.bring s slot).cfg = s.cfg ∧ (State.bring s slot).ids = s.ids ∧ (State.bring s slot).mbx = s.mbx ∧
    (State.bring s slot).pool = s.pool ∧ (State.bring s slot).laneA = s.laneA ∧ (State.bring s slot).laneB = s.laneB ∧
    (State.bring s slot).laneC = s.laneC ∧ (State.bring s slot).vot = s.vot ∧ (State.bring s slot).fes = s.fes ∧
    (State.bring s slot).plan = s.plan ∧ (State.bring s slot).emit = s.emit ∧ (State.bring s slot).swd = s.swd ∧
    (State.bring s slot).swm = s.swm ∧ (State.bring s slot).frz = s.frz ∧ (State.bring s slot).ccd = s.ccd ∧
    (State.bring s slot).htl = s.htl ∧ (State.bring s slot).rings = s.rings ∧ (State.bring s slot).latches = s.latches ∧
    (State.bring s slot).closed = s.closed ∧ (State.bring s slot).closureReported = s.closureReported ∧
    (State.bring s slot).ddr = s.ddr ∧ (State.bring s slot).busRead = s.busRead := by
  simp only [State.bring]
  (repeat' split) <;> simp_all
@[simp] theorem State.recache_keeps (s : State) :
    (State.recache s).now = s.now ∧ (State.recache s).pending = s.pending ∧ (State.recache s).free = s.free ∧
    (State.recache s).nv = s.nv ∧ (State.recache s).core = s.core ∧ (State.recache s).pin = s.pin ∧
    (State.recache s).aon = s.aon ∧ (State.recache s).flt = s.flt ∧ (State.recache s).brw = s.brw ∧
    (State.recache s).cfg = s.cfg ∧ (State.recache s).ids = s.ids ∧ (State.recache s).mbx = s.mbx ∧
    (State.recache s).pool = s.pool ∧ (State.recache s).laneA = s.laneA ∧ (State.recache s).laneB = s.laneB ∧
    (State.recache s).laneC = s.laneC ∧ (State.recache s).vot = s.vot ∧ (State.recache s).fes = s.fes ∧
    (State.recache s).plan = s.plan ∧ (State.recache s).emit = s.emit ∧ (State.recache s).swd = s.swd ∧
    (State.recache s).swm = s.swm ∧ (State.recache s).frz = s.frz ∧ (State.recache s).ccd = s.ccd ∧
    (State.recache s).htl = s.htl ∧ (State.recache s).rings = s.rings ∧ (State.recache s).latches = s.latches ∧
    (State.recache s).closed = s.closed ∧ (State.recache s).closureReported = s.closureReported ∧
    (State.recache s).ddr = s.ddr ∧ (State.recache s).busRead = s.busRead := by
  simp [State.recache]
@[simp] theorem State.lookupCount_keeps (s : State) (slot : Nat) :
    (State.lookupCount s slot).now = s.now ∧ (State.lookupCount s slot).pending = s.pending ∧
    (State.lookupCount s slot).free = s.free ∧ (State.lookupCount s slot).nv = s.nv ∧
    (State.lookupCount s slot).core = s.core ∧ (State.lookupCount s slot).pin = s.pin ∧
    (State.lookupCount s slot).aon = s.aon ∧ (State.lookupCount s slot).flt = s.flt ∧
    (State.lookupCount s slot).brw = s.brw ∧ (State.lookupCount s slot).cfg = s.cfg ∧
    (State.lookupCount s slot).ids = s.ids ∧ (State.lookupCount s slot).mbx = s.mbx ∧
    (State.lookupCount s slot).pool = s.pool ∧ (State.lookupCount s slot).laneA = s.laneA ∧
    (State.lookupCount s slot).laneB = s.laneB ∧ (State.lookupCount s slot).laneC = s.laneC ∧
    (State.lookupCount s slot).vot = s.vot ∧ (State.lookupCount s slot).fes = s.fes ∧
    (State.lookupCount s slot).plan = s.plan ∧ (State.lookupCount s slot).emit = s.emit ∧
    (State.lookupCount s slot).swd = s.swd ∧ (State.lookupCount s slot).swm = s.swm ∧
    (State.lookupCount s slot).frz = s.frz ∧ (State.lookupCount s slot).ccd = s.ccd ∧
    (State.lookupCount s slot).htl = s.htl ∧ (State.lookupCount s slot).rings = s.rings ∧
    (State.lookupCount s slot).latches = s.latches ∧ (State.lookupCount s slot).closed = s.closed ∧
    (State.lookupCount s slot).closureReported = s.closureReported ∧ (State.lookupCount s slot).ddr = s.ddr ∧
    (State.lookupCount s slot).busRead = s.busRead := by
  simp [State.lookupCount]
@[simp] theorem State.lemRefuse_keeps (s : State) :
    (State.lemRefuse s).now = s.now ∧ (State.lemRefuse s).pending = s.pending ∧ (State.lemRefuse s).free = s.free ∧
    (State.lemRefuse s).nv = s.nv ∧ (State.lemRefuse s).core = s.core ∧ (State.lemRefuse s).pin = s.pin ∧
    (State.lemRefuse s).aon = s.aon ∧ (State.lemRefuse s).brw = s.brw ∧ (State.lemRefuse s).cfg = s.cfg ∧
    (State.lemRefuse s).ids = s.ids ∧ (State.lemRefuse s).mbx = s.mbx ∧ (State.lemRefuse s).pool = s.pool ∧
    (State.lemRefuse s).laneA = s.laneA ∧ (State.lemRefuse s).laneB = s.laneB ∧ (State.lemRefuse s).laneC = s.laneC ∧
    (State.lemRefuse s).vot = s.vot ∧ (State.lemRefuse s).fes = s.fes ∧ (State.lemRefuse s).plan = s.plan ∧
    (State.lemRefuse s).emit = s.emit ∧ (State.lemRefuse s).swd = s.swd ∧ (State.lemRefuse s).swm = s.swm ∧
    (State.lemRefuse s).frz = s.frz ∧ (State.lemRefuse s).ccd = s.ccd ∧ (State.lemRefuse s).htl = s.htl ∧
    (State.lemRefuse s).rings = s.rings ∧ (State.lemRefuse s).latches = s.latches ∧ (State.lemRefuse s).closed = s.closed ∧
    (State.lemRefuse s).closureReported = s.closureReported ∧ (State.lemRefuse s).ddr = s.ddr ∧
    (State.lemRefuse s).busRead = s.busRead := by
  simp [State.lemRefuse]
@[simp] theorem State.lemPlace_keeps (s : State) (slot key start : Nat) :
    (State.lemPlace s slot key start).now = s.now ∧ (State.lemPlace s slot key start).pending = s.pending ∧
    (State.lemPlace s slot key start).free = s.free ∧ (State.lemPlace s slot key start).nv = s.nv ∧
    (State.lemPlace s slot key start).core = s.core ∧ (State.lemPlace s slot key start).pin = s.pin ∧
    (State.lemPlace s slot key start).aon = s.aon ∧ (State.lemPlace s slot key start).flt = s.flt ∧
    (State.lemPlace s slot key start).brw = s.brw ∧ (State.lemPlace s slot key start).cfg = s.cfg ∧
    (State.lemPlace s slot key start).ids = s.ids ∧ (State.lemPlace s slot key start).mbx = s.mbx ∧
    (State.lemPlace s slot key start).pool = s.pool ∧ (State.lemPlace s slot key start).laneA = s.laneA ∧
    (State.lemPlace s slot key start).laneB = s.laneB ∧ (State.lemPlace s slot key start).laneC = s.laneC ∧
    (State.lemPlace s slot key start).vot = s.vot ∧ (State.lemPlace s slot key start).fes = s.fes ∧
    (State.lemPlace s slot key start).plan = s.plan ∧ (State.lemPlace s slot key start).emit = s.emit ∧
    (State.lemPlace s slot key start).swd = s.swd ∧ (State.lemPlace s slot key start).frz = s.frz ∧
    (State.lemPlace s slot key start).ccd = s.ccd ∧ (State.lemPlace s slot key start).htl = s.htl ∧
    (State.lemPlace s slot key start).rings = s.rings ∧ (State.lemPlace s slot key start).latches = s.latches ∧
    (State.lemPlace s slot key start).closed = s.closed ∧
    (State.lemPlace s slot key start).closureReported = s.closureReported ∧ (State.lemPlace s slot key start).ddr = s.ddr ∧
    (State.lemPlace s slot key start).busRead = s.busRead := by
  simp [State.lemPlace]
@[simp] theorem State.lemAlloc_keeps (s : State) (key start : Nat) :
    (State.lemAlloc s key start).now = s.now ∧ (State.lemAlloc s key start).pending = s.pending ∧
    (State.lemAlloc s key start).free = s.free ∧ (State.lemAlloc s key start).nv = s.nv ∧
    (State.lemAlloc s key start).core = s.core ∧ (State.lemAlloc s key start).pin = s.pin ∧
    (State.lemAlloc s key start).aon = s.aon ∧ (State.lemAlloc s key start).brw = s.brw ∧
    (State.lemAlloc s key start).cfg = s.cfg ∧ (State.lemAlloc s key start).ids = s.ids ∧
    (State.lemAlloc s key start).mbx = s.mbx ∧ (State.lemAlloc s key start).pool = s.pool ∧
    (State.lemAlloc s key start).laneA = s.laneA ∧ (State.lemAlloc s key start).laneB = s.laneB ∧
    (State.lemAlloc s key start).laneC = s.laneC ∧ (State.lemAlloc s key start).vot = s.vot ∧
    (State.lemAlloc s key start).fes = s.fes ∧ (State.lemAlloc s key start).plan = s.plan ∧
    (State.lemAlloc s key start).emit = s.emit ∧ (State.lemAlloc s key start).swd = s.swd ∧
    (State.lemAlloc s key start).frz = s.frz ∧ (State.lemAlloc s key start).ccd = s.ccd ∧
    (State.lemAlloc s key start).htl = s.htl ∧ (State.lemAlloc s key start).rings = s.rings ∧
    (State.lemAlloc s key start).latches = s.latches ∧ (State.lemAlloc s key start).closed = s.closed ∧
    (State.lemAlloc s key start).closureReported = s.closureReported ∧ (State.lemAlloc s key start).ddr = s.ddr ∧
    (State.lemAlloc s key start).busRead = s.busRead := by
  simp only [State.lemAlloc]
  (repeat' split) <;> simp_all
@[simp] theorem State.obsEnd_keeps (s : State) (p : LPair) (b : Nat) (next : Option (Nat × Nat)) :
    (State.obsEnd s p b next).2.now = s.now ∧ (State.obsEnd s p b next).2.pending = s.pending ∧
    (State.obsEnd s p b next).2.free = s.free ∧ (State.obsEnd s p b next).2.nv = s.nv ∧
    (State.obsEnd s p b next).2.core = s.core ∧ (State.obsEnd s p b next).2.pin = s.pin ∧
    (State.obsEnd s p b next).2.aon = s.aon ∧ (State.obsEnd s p b next).2.flt = s.flt ∧
    (State.obsEnd s p b next).2.brw = s.brw ∧ (State.obsEnd s p b next).2.cfg = s.cfg ∧
    (State.obsEnd s p b next).2.ids = s.ids ∧ (State.obsEnd s p b next).2.mbx = s.mbx ∧
    (State.obsEnd s p b next).2.pool = s.pool ∧ (State.obsEnd s p b next).2.laneA = s.laneA ∧
    (State.obsEnd s p b next).2.laneB = s.laneB ∧ (State.obsEnd s p b next).2.laneC = s.laneC ∧
    (State.obsEnd s p b next).2.vot = s.vot ∧ (State.obsEnd s p b next).2.fes = s.fes ∧
    (State.obsEnd s p b next).2.plan = s.plan ∧ (State.obsEnd s p b next).2.emit = s.emit ∧
    (State.obsEnd s p b next).2.swd = s.swd ∧ (State.obsEnd s p b next).2.frz = s.frz ∧
    (State.obsEnd s p b next).2.ccd = s.ccd ∧ (State.obsEnd s p b next).2.htl = s.htl ∧
    (State.obsEnd s p b next).2.rings = s.rings ∧ (State.obsEnd s p b next).2.latches = s.latches ∧
    (State.obsEnd s p b next).2.closed = s.closed ∧ (State.obsEnd s p b next).2.closureReported = s.closureReported ∧
    (State.obsEnd s p b next).2.ddr = s.ddr ∧ (State.obsEnd s p b next).2.busRead = s.busRead := by
  simp only [State.obsEnd]
  (repeat' split) <;> simp_all
@[simp] theorem State.phaseForget_keeps (s : State) (partner : Nat) (job : Option Nat) :
    (State.phaseForget s partner job).now = s.now ∧ (State.phaseForget s partner job).pending = s.pending ∧
    (State.phaseForget s partner job).free = s.free ∧ (State.phaseForget s partner job).nv = s.nv ∧
    (State.phaseForget s partner job).core = s.core ∧ (State.phaseForget s partner job).pin = s.pin ∧
    (State.phaseForget s partner job).aon = s.aon ∧ (State.phaseForget s partner job).flt = s.flt ∧
    (State.phaseForget s partner job).brw = s.brw ∧ (State.phaseForget s partner job).cfg = s.cfg ∧
    (State.phaseForget s partner job).ids = s.ids ∧ (State.phaseForget s partner job).mbx = s.mbx ∧
    (State.phaseForget s partner job).pool = s.pool ∧ (State.phaseForget s partner job).laneA = s.laneA ∧
    (State.phaseForget s partner job).laneB = s.laneB ∧ (State.phaseForget s partner job).laneC = s.laneC ∧
    (State.phaseForget s partner job).vot = s.vot ∧ (State.phaseForget s partner job).fes = s.fes ∧
    (State.phaseForget s partner job).plan = s.plan ∧ (State.phaseForget s partner job).emit = s.emit ∧
    (State.phaseForget s partner job).swd = s.swd ∧ (State.phaseForget s partner job).swm = s.swm ∧
    (State.phaseForget s partner job).frz = s.frz ∧ (State.phaseForget s partner job).ccd = s.ccd ∧
    (State.phaseForget s partner job).htl = s.htl ∧ (State.phaseForget s partner job).rings = s.rings ∧
    (State.phaseForget s partner job).latches = s.latches ∧ (State.phaseForget s partner job).closed = s.closed ∧
    (State.phaseForget s partner job).closureReported = s.closureReported ∧ (State.phaseForget s partner job).ddr = s.ddr ∧
    (State.phaseForget s partner job).busRead = s.busRead := by
  simp [State.phaseForget]
@[simp] theorem State.pairEnd_keeps (s : State) (p : LPair) :
    (State.pairEnd s p).now = s.now ∧ (State.pairEnd s p).pending = s.pending ∧ (State.pairEnd s p).free = s.free ∧
    (State.pairEnd s p).nv = s.nv ∧ (State.pairEnd s p).core = s.core ∧ (State.pairEnd s p).pin = s.pin ∧
    (State.pairEnd s p).aon = s.aon ∧ (State.pairEnd s p).flt = s.flt ∧ (State.pairEnd s p).brw = s.brw ∧
    (State.pairEnd s p).cfg = s.cfg ∧ (State.pairEnd s p).ids = s.ids ∧ (State.pairEnd s p).mbx = s.mbx ∧
    (State.pairEnd s p).pool = s.pool ∧ (State.pairEnd s p).laneA = s.laneA ∧ (State.pairEnd s p).laneB = s.laneB ∧
    (State.pairEnd s p).laneC = s.laneC ∧ (State.pairEnd s p).vot = s.vot ∧ (State.pairEnd s p).fes = s.fes ∧
    (State.pairEnd s p).plan = s.plan ∧ (State.pairEnd s p).emit = s.emit ∧ (State.pairEnd s p).swd = s.swd ∧
    (State.pairEnd s p).frz = s.frz ∧ (State.pairEnd s p).ccd = s.ccd ∧ (State.pairEnd s p).htl = s.htl ∧
    (State.pairEnd s p).rings = s.rings ∧ (State.pairEnd s p).latches = s.latches ∧ (State.pairEnd s p).closed = s.closed ∧
    (State.pairEnd s p).closureReported = s.closureReported ∧ (State.pairEnd s p).ddr = s.ddr ∧
    (State.pairEnd s p).busRead = s.busRead := by
  simp [State.pairEnd]
@[simp] theorem State.query_keeps (s : State) (op key off : Nat) :
    (State.query s op key off).2.now = s.now ∧ (State.query s op key off).2.pending = s.pending ∧
    (State.query s op key off).2.free = s.free ∧ (State.query s op key off).2.nv = s.nv ∧
    (State.query s op key off).2.core = s.core ∧ (State.query s op key off).2.pin = s.pin ∧
    (State.query s op key off).2.aon = s.aon ∧ (State.query s op key off).2.flt = s.flt ∧
    (State.query s op key off).2.brw = s.brw ∧ (State.query s op key off).2.cfg = s.cfg ∧
    (State.query s op key off).2.ids = s.ids ∧ (State.query s op key off).2.mbx = s.mbx ∧
    (State.query s op key off).2.pool = s.pool ∧ (State.query s op key off).2.laneA = s.laneA ∧
    (State.query s op key off).2.laneB = s.laneB ∧ (State.query s op key off).2.laneC = s.laneC ∧
    (State.query s op key off).2.vot = s.vot ∧ (State.query s op key off).2.fes = s.fes ∧
    (State.query s op key off).2.plan = s.plan ∧ (State.query s op key off).2.emit = s.emit ∧
    (State.query s op key off).2.swd = s.swd ∧ (State.query s op key off).2.frz = s.frz ∧
    (State.query s op key off).2.ccd = s.ccd ∧ (State.query s op key off).2.htl = s.htl ∧
    (State.query s op key off).2.rings = s.rings ∧ (State.query s op key off).2.latches = s.latches ∧
    (State.query s op key off).2.closed = s.closed ∧ (State.query s op key off).2.closureReported = s.closureReported ∧
    (State.query s op key off).2.ddr = s.ddr ∧ (State.query s op key off).2.busRead = s.busRead := by
  simp only [State.query]
  (repeat' split) <;> simp_all
@[simp] theorem State.lexStart_keeps (s : State) :
    (State.lexStart s).now = s.now ∧ (State.lexStart s).pending = s.pending ∧ (State.lexStart s).free = s.free ∧
    (State.lexStart s).nv = s.nv ∧ (State.lexStart s).core = s.core ∧ (State.lexStart s).pin = s.pin ∧
    (State.lexStart s).aon = s.aon ∧ (State.lexStart s).flt = s.flt ∧ (State.lexStart s).brw = s.brw ∧
    (State.lexStart s).cfg = s.cfg ∧ (State.lexStart s).ids = s.ids ∧ (State.lexStart s).mbx = s.mbx ∧
    (State.lexStart s).pool = s.pool ∧ (State.lexStart s).laneA = s.laneA ∧ (State.lexStart s).laneB = s.laneB ∧
    (State.lexStart s).laneC = s.laneC ∧ (State.lexStart s).vot = s.vot ∧ (State.lexStart s).fes = s.fes ∧
    (State.lexStart s).plan = s.plan ∧ (State.lexStart s).emit = s.emit ∧ (State.lexStart s).swd = s.swd ∧
    (State.lexStart s).frz = s.frz ∧ (State.lexStart s).ccd = s.ccd ∧ (State.lexStart s).htl = s.htl ∧
    (State.lexStart s).rings = s.rings ∧ (State.lexStart s).latches = s.latches ∧ (State.lexStart s).closed = s.closed ∧
    (State.lexStart s).closureReported = s.closureReported ∧ (State.lexStart s).ddr = s.ddr ∧
    (State.lexStart s).busRead = s.busRead := by
  simp [State.lexStart]
@[simp] theorem State.planStart_keeps (s : State) :
    (State.planStart s).now = s.now ∧ (State.planStart s).pending = s.pending ∧ (State.planStart s).free = s.free ∧
    (State.planStart s).nv = s.nv ∧ (State.planStart s).core = s.core ∧ (State.planStart s).pin = s.pin ∧
    (State.planStart s).aon = s.aon ∧ (State.planStart s).flt = s.flt ∧ (State.planStart s).brw = s.brw ∧
    (State.planStart s).cfg = s.cfg ∧ (State.planStart s).mbx = s.mbx ∧ (State.planStart s).pool = s.pool ∧
    (State.planStart s).laneA = s.laneA ∧ (State.planStart s).laneB = s.laneB ∧ (State.planStart s).laneC = s.laneC ∧
    (State.planStart s).vot = s.vot ∧ (State.planStart s).fes = s.fes ∧ (State.planStart s).plan = s.plan ∧
    (State.planStart s).emit = s.emit ∧ (State.planStart s).swm = s.swm ∧ (State.planStart s).frz = s.frz ∧
    (State.planStart s).ccd = s.ccd ∧ (State.planStart s).htl = s.htl ∧ (State.planStart s).rings = s.rings ∧
    (State.planStart s).latches = s.latches ∧ (State.planStart s).closed = s.closed ∧
    (State.planStart s).closureReported = s.closureReported ∧ (State.planStart s).ddr = s.ddr ∧
    (State.planStart s).busRead = s.busRead := by
  simp [State.planStart]
@[simp] theorem State.lexCmd_keeps (s : State) (op off : Nat) :
    (State.lexCmd s op off).now = s.now ∧ (State.lexCmd s op off).pending = s.pending ∧
    (State.lexCmd s op off).free = s.free ∧ (State.lexCmd s op off).nv = s.nv ∧ (State.lexCmd s op off).core = s.core ∧
    (State.lexCmd s op off).pin = s.pin ∧ (State.lexCmd s op off).aon = s.aon ∧ (State.lexCmd s op off).brw = s.brw ∧
    (State.lexCmd s op off).cfg = s.cfg ∧ (State.lexCmd s op off).ids = s.ids ∧ (State.lexCmd s op off).mbx = s.mbx ∧
    (State.lexCmd s op off).pool = s.pool ∧ (State.lexCmd s op off).laneA = s.laneA ∧
    (State.lexCmd s op off).laneB = s.laneB ∧ (State.lexCmd s op off).laneC = s.laneC ∧ (State.lexCmd s op off).vot = s.vot ∧
    (State.lexCmd s op off).fes = s.fes ∧ (State.lexCmd s op off).plan = s.plan ∧ (State.lexCmd s op off).emit = s.emit ∧
    (State.lexCmd s op off).swd = s.swd ∧ (State.lexCmd s op off).swm = s.swm ∧ (State.lexCmd s op off).frz = s.frz ∧
    (State.lexCmd s op off).ccd = s.ccd ∧ (State.lexCmd s op off).htl = s.htl ∧ (State.lexCmd s op off).rings = s.rings ∧
    (State.lexCmd s op off).latches = s.latches ∧ (State.lexCmd s op off).closed = s.closed ∧
    (State.lexCmd s op off).closureReported = s.closureReported ∧ (State.lexCmd s op off).ddr = s.ddr ∧
    (State.lexCmd s op off).busRead = s.busRead := by
  simp [State.lexCmd]
@[simp] theorem State.writeLex_keeps (s : State) (o : Nat) (v : Word) :
    (State.writeLex s o v).now = s.now ∧ (State.writeLex s o v).pending = s.pending ∧ (State.writeLex s o v).free = s.free ∧
    (State.writeLex s o v).nv = s.nv ∧ (State.writeLex s o v).core = s.core ∧ (State.writeLex s o v).pin = s.pin ∧
    (State.writeLex s o v).aon = s.aon ∧ (State.writeLex s o v).brw = s.brw ∧ (State.writeLex s o v).cfg = s.cfg ∧
    (State.writeLex s o v).ids = s.ids ∧ (State.writeLex s o v).mbx = s.mbx ∧ (State.writeLex s o v).pool = s.pool ∧
    (State.writeLex s o v).laneA = s.laneA ∧ (State.writeLex s o v).laneB = s.laneB ∧
    (State.writeLex s o v).laneC = s.laneC ∧ (State.writeLex s o v).vot = s.vot ∧ (State.writeLex s o v).fes = s.fes ∧
    (State.writeLex s o v).plan = s.plan ∧ (State.writeLex s o v).emit = s.emit ∧ (State.writeLex s o v).swd = s.swd ∧
    (State.writeLex s o v).swm = s.swm ∧ (State.writeLex s o v).frz = s.frz ∧ (State.writeLex s o v).ccd = s.ccd ∧
    (State.writeLex s o v).htl = s.htl ∧ (State.writeLex s o v).rings = s.rings ∧ (State.writeLex s o v).closed = s.closed ∧
    (State.writeLex s o v).closureReported = s.closureReported ∧ (State.writeLex s o v).ddr = s.ddr ∧
    (State.writeLex s o v).busRead = s.busRead := by
  simp only [State.writeLex]
  (repeat' split) <;> simp_all
@[simp] theorem State.updLeg_keeps (s : State) (k : Nat) (f : Leg → Leg) :
    (State.updLeg s k f).now = s.now ∧ (State.updLeg s k f).pending = s.pending ∧ (State.updLeg s k f).free = s.free ∧
    (State.updLeg s k f).nv = s.nv ∧ (State.updLeg s k f).core = s.core ∧ (State.updLeg s k f).pin = s.pin ∧
    (State.updLeg s k f).aon = s.aon ∧ (State.updLeg s k f).flt = s.flt ∧ (State.updLeg s k f).brw = s.brw ∧
    (State.updLeg s k f).cfg = s.cfg ∧ (State.updLeg s k f).ids = s.ids ∧ (State.updLeg s k f).mbx = s.mbx ∧
    (State.updLeg s k f).laneA = s.laneA ∧ (State.updLeg s k f).laneB = s.laneB ∧ (State.updLeg s k f).laneC = s.laneC ∧
    (State.updLeg s k f).vot = s.vot ∧ (State.updLeg s k f).fes = s.fes ∧ (State.updLeg s k f).plan = s.plan ∧
    (State.updLeg s k f).emit = s.emit ∧ (State.updLeg s k f).lex = s.lex ∧ (State.updLeg s k f).swd = s.swd ∧
    (State.updLeg s k f).swm = s.swm ∧ (State.updLeg s k f).frz = s.frz ∧ (State.updLeg s k f).ccd = s.ccd ∧
    (State.updLeg s k f).htl = s.htl ∧ (State.updLeg s k f).rings = s.rings ∧ (State.updLeg s k f).latches = s.latches ∧
    (State.updLeg s k f).closed = s.closed ∧ (State.updLeg s k f).closureReported = s.closureReported ∧
    (State.updLeg s k f).ddr = s.ddr ∧ (State.updLeg s k f).busRead = s.busRead := by
  simp [State.updLeg]
@[simp] theorem State.legEvent_keeps (s : State) (i : Nat) :
    (State.legEvent s i).now = s.now ∧ (State.legEvent s i).pending = s.pending ∧ (State.legEvent s i).free = s.free ∧
    (State.legEvent s i).nv = s.nv ∧ (State.legEvent s i).core = s.core ∧ (State.legEvent s i).pin = s.pin ∧
    (State.legEvent s i).aon = s.aon ∧ (State.legEvent s i).flt = s.flt ∧ (State.legEvent s i).brw = s.brw ∧
    (State.legEvent s i).cfg = s.cfg ∧ (State.legEvent s i).ids = s.ids ∧ (State.legEvent s i).mbx = s.mbx ∧
    (State.legEvent s i).laneA = s.laneA ∧ (State.legEvent s i).laneB = s.laneB ∧ (State.legEvent s i).laneC = s.laneC ∧
    (State.legEvent s i).vot = s.vot ∧ (State.legEvent s i).fes = s.fes ∧ (State.legEvent s i).plan = s.plan ∧
    (State.legEvent s i).emit = s.emit ∧ (State.legEvent s i).lex = s.lex ∧ (State.legEvent s i).swd = s.swd ∧
    (State.legEvent s i).swm = s.swm ∧ (State.legEvent s i).frz = s.frz ∧ (State.legEvent s i).ccd = s.ccd ∧
    (State.legEvent s i).htl = s.htl ∧ (State.legEvent s i).rings = s.rings ∧ (State.legEvent s i).latches = s.latches ∧
    (State.legEvent s i).closed = s.closed ∧ (State.legEvent s i).closureReported = s.closureReported ∧
    (State.legEvent s i).ddr = s.ddr ∧ (State.legEvent s i).busRead = s.busRead := by
  simp [State.legEvent]
@[simp] theorem State.legState_keeps (s : State) (k : Nat) (st : LegState) (f : Leg → Leg) :
    (State.legState s k st f).now = s.now ∧ (State.legState s k st f).pending = s.pending ∧
    (State.legState s k st f).free = s.free ∧ (State.legState s k st f).nv = s.nv ∧ (State.legState s k st f).core = s.core ∧
    (State.legState s k st f).pin = s.pin ∧ (State.legState s k st f).aon = s.aon ∧ (State.legState s k st f).cfg = s.cfg ∧
    (State.legState s k st f).ids = s.ids ∧ (State.legState s k st f).mbx = s.mbx ∧
    (State.legState s k st f).laneA = s.laneA ∧ (State.legState s k st f).laneB = s.laneB ∧
    (State.legState s k st f).laneC = s.laneC ∧ (State.legState s k st f).vot = s.vot ∧
    (State.legState s k st f).fes = s.fes ∧ (State.legState s k st f).plan = s.plan ∧
    (State.legState s k st f).emit = s.emit ∧ (State.legState s k st f).lex = s.lex ∧ (State.legState s k st f).swd = s.swd ∧
    (State.legState s k st f).swm = s.swm ∧ (State.legState s k st f).frz = s.frz ∧ (State.legState s k st f).ccd = s.ccd ∧
    (State.legState s k st f).rings = s.rings ∧ (State.legState s k st f).latches = s.latches ∧
    (State.legState s k st f).closed = s.closed ∧ (State.legState s k st f).closureReported = s.closureReported ∧
    (State.legState s k st f).ddr = s.ddr ∧ (State.legState s k st f).busRead = s.busRead := by
  simp [State.legState]
@[simp] theorem State.estimates_keeps (s : State) :
    (State.estimates s).now = s.now ∧ (State.estimates s).pending = s.pending ∧ (State.estimates s).free = s.free ∧
    (State.estimates s).nv = s.nv ∧ (State.estimates s).core = s.core ∧ (State.estimates s).pin = s.pin ∧
    (State.estimates s).aon = s.aon ∧ (State.estimates s).flt = s.flt ∧ (State.estimates s).brw = s.brw ∧
    (State.estimates s).cfg = s.cfg ∧ (State.estimates s).ids = s.ids ∧ (State.estimates s).mbx = s.mbx ∧
    (State.estimates s).laneA = s.laneA ∧ (State.estimates s).laneB = s.laneB ∧ (State.estimates s).laneC = s.laneC ∧
    (State.estimates s).vot = s.vot ∧ (State.estimates s).fes = s.fes ∧ (State.estimates s).plan = s.plan ∧
    (State.estimates s).emit = s.emit ∧ (State.estimates s).lex = s.lex ∧ (State.estimates s).swd = s.swd ∧
    (State.estimates s).swm = s.swm ∧ (State.estimates s).frz = s.frz ∧ (State.estimates s).ccd = s.ccd ∧
    (State.estimates s).htl = s.htl ∧ (State.estimates s).rings = s.rings ∧ (State.estimates s).latches = s.latches ∧
    (State.estimates s).closed = s.closed ∧ (State.estimates s).closureReported = s.closureReported ∧
    (State.estimates s).ddr = s.ddr ∧ (State.estimates s).busRead = s.busRead := by
  simp [State.estimates]
@[simp] theorem State.endNextFreewheel_keeps (s : State) (g : Group) :
    (State.endNextFreewheel s g).now = s.now ∧ (State.endNextFreewheel s g).pending = s.pending ∧
    (State.endNextFreewheel s g).free = s.free ∧ (State.endNextFreewheel s g).nv = s.nv ∧
    (State.endNextFreewheel s g).core = s.core ∧ (State.endNextFreewheel s g).pin = s.pin ∧
    (State.endNextFreewheel s g).aon = s.aon ∧ (State.endNextFreewheel s g).flt = s.flt ∧
    (State.endNextFreewheel s g).brw = s.brw ∧ (State.endNextFreewheel s g).cfg = s.cfg ∧
    (State.endNextFreewheel s g).ids = s.ids ∧ (State.endNextFreewheel s g).mbx = s.mbx ∧
    (State.endNextFreewheel s g).laneA = s.laneA ∧ (State.endNextFreewheel s g).laneB = s.laneB ∧
    (State.endNextFreewheel s g).laneC = s.laneC ∧ (State.endNextFreewheel s g).vot = s.vot ∧
    (State.endNextFreewheel s g).fes = s.fes ∧ (State.endNextFreewheel s g).plan = s.plan ∧
    (State.endNextFreewheel s g).emit = s.emit ∧ (State.endNextFreewheel s g).lex = s.lex ∧
    (State.endNextFreewheel s g).swd = s.swd ∧ (State.endNextFreewheel s g).swm = s.swm ∧
    (State.endNextFreewheel s g).frz = s.frz ∧ (State.endNextFreewheel s g).ccd = s.ccd ∧
    (State.endNextFreewheel s g).htl = s.htl ∧ (State.endNextFreewheel s g).rings = s.rings ∧
    (State.endNextFreewheel s g).latches = s.latches ∧ (State.endNextFreewheel s g).closed = s.closed ∧
    (State.endNextFreewheel s g).closureReported = s.closureReported ∧ (State.endNextFreewheel s g).ddr = s.ddr ∧
    (State.endNextFreewheel s g).busRead = s.busRead := by
  simp only [State.endNextFreewheel]
  (repeat' split) <;> simp_all
@[simp] theorem State.launch_keeps (s : State) (g : Group) (d : Dir) (k : Nat) :
    (State.launch s g d k).now = s.now ∧ (State.launch s g d k).pending = s.pending ∧ (State.launch s g d k).free = s.free ∧
    (State.launch s g d k).nv = s.nv ∧ (State.launch s g d k).core = s.core ∧ (State.launch s g d k).pin = s.pin ∧
    (State.launch s g d k).aon = s.aon ∧ (State.launch s g d k).flt = s.flt ∧ (State.launch s g d k).brw = s.brw ∧
    (State.launch s g d k).cfg = s.cfg ∧ (State.launch s g d k).ids = s.ids ∧ (State.launch s g d k).mbx = s.mbx ∧
    (State.launch s g d k).laneA = s.laneA ∧ (State.launch s g d k).laneB = s.laneB ∧
    (State.launch s g d k).laneC = s.laneC ∧ (State.launch s g d k).vot = s.vot ∧ (State.launch s g d k).fes = s.fes ∧
    (State.launch s g d k).plan = s.plan ∧ (State.launch s g d k).emit = s.emit ∧ (State.launch s g d k).lex = s.lex ∧
    (State.launch s g d k).swd = s.swd ∧ (State.launch s g d k).swm = s.swm ∧ (State.launch s g d k).frz = s.frz ∧
    (State.launch s g d k).ccd = s.ccd ∧ (State.launch s g d k).htl = s.htl ∧ (State.launch s g d k).rings = s.rings ∧
    (State.launch s g d k).latches = s.latches ∧ (State.launch s g d k).closed = s.closed ∧
    (State.launch s g d k).closureReported = s.closureReported ∧ (State.launch s g d k).ddr = s.ddr ∧
    (State.launch s g d k).busRead = s.busRead := by
  simp [State.launch]
@[simp] theorem State.trip_keeps (s : State) (d : Dir) :
    (State.trip s d).now = s.now ∧ (State.trip s d).pending = s.pending ∧ (State.trip s d).free = s.free ∧
    (State.trip s d).nv = s.nv ∧ (State.trip s d).core = s.core ∧ (State.trip s d).pin = s.pin ∧
    (State.trip s d).aon = s.aon ∧ (State.trip s d).flt = s.flt ∧ (State.trip s d).brw = s.brw ∧
    (State.trip s d).cfg = s.cfg ∧ (State.trip s d).ids = s.ids ∧ (State.trip s d).mbx = s.mbx ∧
    (State.trip s d).vot = s.vot ∧ (State.trip s d).fes = s.fes ∧ (State.trip s d).plan = s.plan ∧
    (State.trip s d).emit = s.emit ∧ (State.trip s d).lex = s.lex ∧ (State.trip s d).swd = s.swd ∧
    (State.trip s d).swm = s.swm ∧ (State.trip s d).frz = s.frz ∧ (State.trip s d).ccd = s.ccd ∧
    (State.trip s d).htl = s.htl ∧ (State.trip s d).rings = s.rings ∧ (State.trip s d).latches = s.latches ∧
    (State.trip s d).closed = s.closed ∧ (State.trip s d).closureReported = s.closureReported ∧
    (State.trip s d).ddr = s.ddr ∧ (State.trip s d).busRead = s.busRead := by
  simp only [State.trip]
  (repeat' split) <;> simp_all
@[simp] theorem State.dualTrip_keeps (s : State) :
    (State.dualTrip s).now = s.now ∧ (State.dualTrip s).pending = s.pending ∧ (State.dualTrip s).free = s.free ∧
    (State.dualTrip s).nv = s.nv ∧ (State.dualTrip s).core = s.core ∧ (State.dualTrip s).pin = s.pin ∧
    (State.dualTrip s).aon = s.aon ∧ (State.dualTrip s).brw = s.brw ∧ (State.dualTrip s).cfg = s.cfg ∧
    (State.dualTrip s).ids = s.ids ∧ (State.dualTrip s).mbx = s.mbx ∧ (State.dualTrip s).laneA = s.laneA ∧
    (State.dualTrip s).laneB = s.laneB ∧ (State.dualTrip s).laneC = s.laneC ∧ (State.dualTrip s).vot = s.vot ∧
    (State.dualTrip s).fes = s.fes ∧ (State.dualTrip s).plan = s.plan ∧ (State.dualTrip s).emit = s.emit ∧
    (State.dualTrip s).lex = s.lex ∧ (State.dualTrip s).swd = s.swd ∧ (State.dualTrip s).swm = s.swm ∧
    (State.dualTrip s).frz = s.frz ∧ (State.dualTrip s).ccd = s.ccd ∧ (State.dualTrip s).htl = s.htl ∧
    (State.dualTrip s).rings = s.rings ∧ (State.dualTrip s).latches = s.latches ∧ (State.dualTrip s).closed = s.closed ∧
    (State.dualTrip s).closureReported = s.closureReported ∧ (State.dualTrip s).ddr = s.ddr ∧
    (State.dualTrip s).busRead = s.busRead := by
  simp [State.dualTrip]
@[simp] theorem State.trips_keeps (s : State) (lower upper : Bool) :
    (State.trips s lower upper).now = s.now ∧ (State.trips s lower upper).pending = s.pending ∧
    (State.trips s lower upper).free = s.free ∧ (State.trips s lower upper).nv = s.nv ∧
    (State.trips s lower upper).core = s.core ∧ (State.trips s lower upper).pin = s.pin ∧
    (State.trips s lower upper).aon = s.aon ∧ (State.trips s lower upper).brw = s.brw ∧
    (State.trips s lower upper).cfg = s.cfg ∧ (State.trips s lower upper).ids = s.ids ∧
    (State.trips s lower upper).mbx = s.mbx ∧ (State.trips s lower upper).vot = s.vot ∧
    (State.trips s lower upper).fes = s.fes ∧ (State.trips s lower upper).plan = s.plan ∧
    (State.trips s lower upper).emit = s.emit ∧ (State.trips s lower upper).lex = s.lex ∧
    (State.trips s lower upper).swd = s.swd ∧ (State.trips s lower upper).swm = s.swm ∧
    (State.trips s lower upper).frz = s.frz ∧ (State.trips s lower upper).ccd = s.ccd ∧
    (State.trips s lower upper).htl = s.htl ∧ (State.trips s lower upper).rings = s.rings ∧
    (State.trips s lower upper).latches = s.latches ∧ (State.trips s lower upper).closed = s.closed ∧
    (State.trips s lower upper).closureReported = s.closureReported ∧ (State.trips s lower upper).ddr = s.ddr ∧
    (State.trips s lower upper).busRead = s.busRead := by
  simp [State.trips]
@[simp] theorem State.legLoss_keeps (s : State) (leg : Nat) (g : Group) :
    (State.legLoss s leg g).now = s.now ∧ (State.legLoss s leg g).pending = s.pending ∧
    (State.legLoss s leg g).free = s.free ∧ (State.legLoss s leg g).nv = s.nv ∧ (State.legLoss s leg g).core = s.core ∧
    (State.legLoss s leg g).pin = s.pin ∧ (State.legLoss s leg g).aon = s.aon ∧ (State.legLoss s leg g).cfg = s.cfg ∧
    (State.legLoss s leg g).ids = s.ids ∧ (State.legLoss s leg g).laneA = s.laneA ∧ (State.legLoss s leg g).laneB = s.laneB ∧
    (State.legLoss s leg g).laneC = s.laneC ∧ (State.legLoss s leg g).vot = s.vot ∧ (State.legLoss s leg g).fes = s.fes ∧
    (State.legLoss s leg g).plan = s.plan ∧ (State.legLoss s leg g).emit = s.emit ∧ (State.legLoss s leg g).lex = s.lex ∧
    (State.legLoss s leg g).swd = s.swd ∧ (State.legLoss s leg g).swm = s.swm ∧ (State.legLoss s leg g).frz = s.frz ∧
    (State.legLoss s leg g).rings = s.rings ∧ (State.legLoss s leg g).latches = s.latches ∧
    (State.legLoss s leg g).closed = s.closed ∧ (State.legLoss s leg g).closureReported = s.closureReported ∧
    (State.legLoss s leg g).ddr = s.ddr ∧ (State.legLoss s leg g).busRead = s.busRead := by
  simp [State.legLoss]
@[simp] theorem State.departs_keeps (s : State) (k : Nat) (st : LegState) :
    (State.departs s k st).now = s.now ∧ (State.departs s k st).pending = s.pending ∧ (State.departs s k st).free = s.free ∧
    (State.departs s k st).nv = s.nv ∧ (State.departs s k st).core = s.core ∧ (State.departs s k st).pin = s.pin ∧
    (State.departs s k st).aon = s.aon ∧ (State.departs s k st).cfg = s.cfg ∧ (State.departs s k st).ids = s.ids ∧
    (State.departs s k st).laneA = s.laneA ∧ (State.departs s k st).laneB = s.laneB ∧
    (State.departs s k st).laneC = s.laneC ∧ (State.departs s k st).vot = s.vot ∧ (State.departs s k st).fes = s.fes ∧
    (State.departs s k st).plan = s.plan ∧ (State.departs s k st).emit = s.emit ∧ (State.departs s k st).lex = s.lex ∧
    (State.departs s k st).swd = s.swd ∧ (State.departs s k st).swm = s.swm ∧ (State.departs s k st).frz = s.frz ∧
    (State.departs s k st).rings = s.rings ∧ (State.departs s k st).latches = s.latches ∧
    (State.departs s k st).closed = s.closed ∧ (State.departs s k st).closureReported = s.closureReported ∧
    (State.departs s k st).ddr = s.ddr ∧ (State.departs s k st).busRead = s.busRead := by
  simp [State.departs]
@[simp] theorem State.startRecheck_keeps (s : State) :
    (State.startRecheck s).now = s.now ∧ (State.startRecheck s).pending = s.pending ∧ (State.startRecheck s).free = s.free ∧
    (State.startRecheck s).nv = s.nv ∧ (State.startRecheck s).core = s.core ∧ (State.startRecheck s).pin = s.pin ∧
    (State.startRecheck s).aon = s.aon ∧ (State.startRecheck s).flt = s.flt ∧ (State.startRecheck s).brw = s.brw ∧
    (State.startRecheck s).cfg = s.cfg ∧ (State.startRecheck s).ids = s.ids ∧ (State.startRecheck s).mbx = s.mbx ∧
    (State.startRecheck s).laneA = s.laneA ∧ (State.startRecheck s).laneB = s.laneB ∧
    (State.startRecheck s).laneC = s.laneC ∧ (State.startRecheck s).vot = s.vot ∧ (State.startRecheck s).fes = s.fes ∧
    (State.startRecheck s).plan = s.plan ∧ (State.startRecheck s).emit = s.emit ∧ (State.startRecheck s).lex = s.lex ∧
    (State.startRecheck s).swd = s.swd ∧ (State.startRecheck s).swm = s.swm ∧ (State.startRecheck s).frz = s.frz ∧
    (State.startRecheck s).ccd = s.ccd ∧ (State.startRecheck s).htl = s.htl ∧ (State.startRecheck s).rings = s.rings ∧
    (State.startRecheck s).latches = s.latches ∧ (State.startRecheck s).closed = s.closed ∧
    (State.startRecheck s).closureReported = s.closureReported ∧ (State.startRecheck s).ddr = s.ddr ∧
    (State.startRecheck s).busRead = s.busRead := by
  simp only [State.startRecheck]
  (repeat' split) <;> simp_all
@[simp] theorem State.joinSpare_keeps (s : State) (k : Nat) (d : Departure) :
    (State.joinSpare s k d).now = s.now ∧ (State.joinSpare s k d).pending = s.pending ∧
    (State.joinSpare s k d).free = s.free ∧ (State.joinSpare s k d).nv = s.nv ∧ (State.joinSpare s k d).core = s.core ∧
    (State.joinSpare s k d).pin = s.pin ∧ (State.joinSpare s k d).aon = s.aon ∧ (State.joinSpare s k d).cfg = s.cfg ∧
    (State.joinSpare s k d).ids = s.ids ∧ (State.joinSpare s k d).mbx = s.mbx ∧ (State.joinSpare s k d).laneA = s.laneA ∧
    (State.joinSpare s k d).laneB = s.laneB ∧ (State.joinSpare s k d).laneC = s.laneC ∧ (State.joinSpare s k d).vot = s.vot ∧
    (State.joinSpare s k d).fes = s.fes ∧ (State.joinSpare s k d).plan = s.plan ∧ (State.joinSpare s k d).emit = s.emit ∧
    (State.joinSpare s k d).lex = s.lex ∧ (State.joinSpare s k d).swd = s.swd ∧ (State.joinSpare s k d).swm = s.swm ∧
    (State.joinSpare s k d).frz = s.frz ∧ (State.joinSpare s k d).ccd = s.ccd ∧ (State.joinSpare s k d).rings = s.rings ∧
    (State.joinSpare s k d).latches = s.latches ∧ (State.joinSpare s k d).closed = s.closed ∧
    (State.joinSpare s k d).closureReported = s.closureReported ∧ (State.joinSpare s k d).ddr = s.ddr ∧
    (State.joinSpare s k d).busRead = s.busRead := by
  simp [State.joinSpare]
@[simp] theorem State.countLimited_keeps (s : State) (k : Nat) :
    (State.countLimited s k).now = s.now ∧ (State.countLimited s k).pending = s.pending ∧
    (State.countLimited s k).free = s.free ∧ (State.countLimited s k).nv = s.nv ∧ (State.countLimited s k).core = s.core ∧
    (State.countLimited s k).pin = s.pin ∧ (State.countLimited s k).aon = s.aon ∧ (State.countLimited s k).cfg = s.cfg ∧
    (State.countLimited s k).ids = s.ids ∧ (State.countLimited s k).laneA = s.laneA ∧
    (State.countLimited s k).laneB = s.laneB ∧ (State.countLimited s k).laneC = s.laneC ∧
    (State.countLimited s k).vot = s.vot ∧ (State.countLimited s k).fes = s.fes ∧ (State.countLimited s k).plan = s.plan ∧
    (State.countLimited s k).emit = s.emit ∧ (State.countLimited s k).lex = s.lex ∧ (State.countLimited s k).swd = s.swd ∧
    (State.countLimited s k).swm = s.swm ∧ (State.countLimited s k).frz = s.frz ∧ (State.countLimited s k).rings = s.rings ∧
    (State.countLimited s k).latches = s.latches ∧ (State.countLimited s k).closed = s.closed ∧
    (State.countLimited s k).closureReported = s.closureReported ∧ (State.countLimited s k).ddr = s.ddr ∧
    (State.countLimited s k).busRead = s.busRead := by
  simp [State.countLimited]
@[simp] theorem State.classify_keeps (s : State) (k : Nat) (sensed est : Rat) :
    (State.classify s k sensed est).now = s.now ∧ (State.classify s k sensed est).pending = s.pending ∧
    (State.classify s k sensed est).free = s.free ∧ (State.classify s k sensed est).nv = s.nv ∧
    (State.classify s k sensed est).core = s.core ∧ (State.classify s k sensed est).pin = s.pin ∧
    (State.classify s k sensed est).aon = s.aon ∧ (State.classify s k sensed est).cfg = s.cfg ∧
    (State.classify s k sensed est).ids = s.ids ∧ (State.classify s k sensed est).laneA = s.laneA ∧
    (State.classify s k sensed est).laneB = s.laneB ∧ (State.classify s k sensed est).laneC = s.laneC ∧
    (State.classify s k sensed est).vot = s.vot ∧ (State.classify s k sensed est).fes = s.fes ∧
    (State.classify s k sensed est).plan = s.plan ∧ (State.classify s k sensed est).emit = s.emit ∧
    (State.classify s k sensed est).lex = s.lex ∧ (State.classify s k sensed est).swd = s.swd ∧
    (State.classify s k sensed est).swm = s.swm ∧ (State.classify s k sensed est).frz = s.frz ∧
    (State.classify s k sensed est).rings = s.rings ∧ (State.classify s k sensed est).latches = s.latches ∧
    (State.classify s k sensed est).closed = s.closed ∧ (State.classify s k sensed est).closureReported = s.closureReported ∧
    (State.classify s k sensed est).ddr = s.ddr ∧ (State.classify s k sensed est).busRead = s.busRead := by
  simp [State.classify]
@[simp] theorem State.endOnTime_keeps (s : State) (k : Nat) (d : Dir) (limited : Bool) (x : PulseIn) :
    (State.endOnTime s k d limited x).now = s.now ∧ (State.endOnTime s k d limited x).pending = s.pending ∧
    (State.endOnTime s k d limited x).free = s.free ∧ (State.endOnTime s k d limited x).nv = s.nv ∧
    (State.endOnTime s k d limited x).core = s.core ∧ (State.endOnTime s k d limited x).pin = s.pin ∧
    (State.endOnTime s k d limited x).aon = s.aon ∧ (State.endOnTime s k d limited x).cfg = s.cfg ∧
    (State.endOnTime s k d limited x).ids = s.ids ∧ (State.endOnTime s k d limited x).laneA = s.laneA ∧
    (State.endOnTime s k d limited x).laneB = s.laneB ∧ (State.endOnTime s k d limited x).laneC = s.laneC ∧
    (State.endOnTime s k d limited x).vot = s.vot ∧ (State.endOnTime s k d limited x).fes = s.fes ∧
    (State.endOnTime s k d limited x).plan = s.plan ∧ (State.endOnTime s k d limited x).emit = s.emit ∧
    (State.endOnTime s k d limited x).lex = s.lex ∧ (State.endOnTime s k d limited x).swd = s.swd ∧
    (State.endOnTime s k d limited x).swm = s.swm ∧ (State.endOnTime s k d limited x).frz = s.frz ∧
    (State.endOnTime s k d limited x).rings = s.rings ∧ (State.endOnTime s k d limited x).latches = s.latches ∧
    (State.endOnTime s k d limited x).closed = s.closed ∧
    (State.endOnTime s k d limited x).closureReported = s.closureReported ∧ (State.endOnTime s k d limited x).ddr = s.ddr ∧
    (State.endOnTime s k d limited x).busRead = s.busRead := by
  simp [State.endOnTime]
@[simp] theorem State.condemn_keeps (s : State) (k : Nat) (st : LegState) (x : TestIn) :
    (State.condemn s k st x).now = s.now ∧ (State.condemn s k st x).pending = s.pending ∧
    (State.condemn s k st x).free = s.free ∧ (State.condemn s k st x).nv = s.nv ∧ (State.condemn s k st x).core = s.core ∧
    (State.condemn s k st x).pin = s.pin ∧ (State.condemn s k st x).aon = s.aon ∧ (State.condemn s k st x).cfg = s.cfg ∧
    (State.condemn s k st x).ids = s.ids ∧ (State.condemn s k st x).mbx = s.mbx ∧ (State.condemn s k st x).laneA = s.laneA ∧
    (State.condemn s k st x).laneB = s.laneB ∧ (State.condemn s k st x).laneC = s.laneC ∧
    (State.condemn s k st x).vot = s.vot ∧ (State.condemn s k st x).fes = s.fes ∧ (State.condemn s k st x).plan = s.plan ∧
    (State.condemn s k st x).emit = s.emit ∧ (State.condemn s k st x).lex = s.lex ∧ (State.condemn s k st x).swd = s.swd ∧
    (State.condemn s k st x).swm = s.swm ∧ (State.condemn s k st x).frz = s.frz ∧ (State.condemn s k st x).ccd = s.ccd ∧
    (State.condemn s k st x).rings = s.rings ∧ (State.condemn s k st x).latches = s.latches ∧
    (State.condemn s k st x).closed = s.closed ∧ (State.condemn s k st x).closureReported = s.closureReported ∧
    (State.condemn s k st x).ddr = s.ddr ∧ (State.condemn s k st x).busRead = s.busRead := by
  simp [State.condemn]
@[simp] theorem State.judgeLeg_keeps (s : State) (x : TestIn) (last : Bool) (k : Nat) :
    (State.judgeLeg s x last k).now = s.now ∧ (State.judgeLeg s x last k).pending = s.pending ∧
    (State.judgeLeg s x last k).free = s.free ∧ (State.judgeLeg s x last k).nv = s.nv ∧
    (State.judgeLeg s x last k).core = s.core ∧ (State.judgeLeg s x last k).pin = s.pin ∧
    (State.judgeLeg s x last k).aon = s.aon ∧ (State.judgeLeg s x last k).cfg = s.cfg ∧
    (State.judgeLeg s x last k).ids = s.ids ∧ (State.judgeLeg s x last k).mbx = s.mbx ∧
    (State.judgeLeg s x last k).laneA = s.laneA ∧ (State.judgeLeg s x last k).laneB = s.laneB ∧
    (State.judgeLeg s x last k).laneC = s.laneC ∧ (State.judgeLeg s x last k).vot = s.vot ∧
    (State.judgeLeg s x last k).fes = s.fes ∧ (State.judgeLeg s x last k).plan = s.plan ∧
    (State.judgeLeg s x last k).emit = s.emit ∧ (State.judgeLeg s x last k).lex = s.lex ∧
    (State.judgeLeg s x last k).swd = s.swd ∧ (State.judgeLeg s x last k).swm = s.swm ∧
    (State.judgeLeg s x last k).frz = s.frz ∧ (State.judgeLeg s x last k).ccd = s.ccd ∧
    (State.judgeLeg s x last k).rings = s.rings ∧ (State.judgeLeg s x last k).latches = s.latches ∧
    (State.judgeLeg s x last k).closed = s.closed ∧ (State.judgeLeg s x last k).closureReported = s.closureReported ∧
    (State.judgeLeg s x last k).ddr = s.ddr ∧ (State.judgeLeg s x last k).busRead = s.busRead := by
  simp only [State.judgeLeg]
  (repeat' split) <;> simp_all
@[simp] theorem State.testStart_keeps (s : State) :
    (State.testStart s).now = s.now ∧ (State.testStart s).pending = s.pending ∧ (State.testStart s).free = s.free ∧
    (State.testStart s).nv = s.nv ∧ (State.testStart s).core = s.core ∧ (State.testStart s).pin = s.pin ∧
    (State.testStart s).aon = s.aon ∧ (State.testStart s).flt = s.flt ∧ (State.testStart s).brw = s.brw ∧
    (State.testStart s).cfg = s.cfg ∧ (State.testStart s).ids = s.ids ∧ (State.testStart s).mbx = s.mbx ∧
    (State.testStart s).laneA = s.laneA ∧ (State.testStart s).laneB = s.laneB ∧ (State.testStart s).laneC = s.laneC ∧
    (State.testStart s).vot = s.vot ∧ (State.testStart s).fes = s.fes ∧ (State.testStart s).plan = s.plan ∧
    (State.testStart s).emit = s.emit ∧ (State.testStart s).lex = s.lex ∧ (State.testStart s).swd = s.swd ∧
    (State.testStart s).swm = s.swm ∧ (State.testStart s).frz = s.frz ∧ (State.testStart s).ccd = s.ccd ∧
    (State.testStart s).htl = s.htl ∧ (State.testStart s).rings = s.rings ∧ (State.testStart s).latches = s.latches ∧
    (State.testStart s).closed = s.closed ∧ (State.testStart s).closureReported = s.closureReported ∧
    (State.testStart s).ddr = s.ddr ∧ (State.testStart s).busRead = s.busRead := by
  simp [State.testStart]
@[simp] theorem State.toUntested_keeps (s : State) :
    (State.toUntested s).now = s.now ∧ (State.toUntested s).pending = s.pending ∧ (State.toUntested s).free = s.free ∧
    (State.toUntested s).nv = s.nv ∧ (State.toUntested s).core = s.core ∧ (State.toUntested s).pin = s.pin ∧
    (State.toUntested s).aon = s.aon ∧ (State.toUntested s).cfg = s.cfg ∧ (State.toUntested s).ids = s.ids ∧
    (State.toUntested s).mbx = s.mbx ∧ (State.toUntested s).laneA = s.laneA ∧ (State.toUntested s).laneB = s.laneB ∧
    (State.toUntested s).laneC = s.laneC ∧ (State.toUntested s).vot = s.vot ∧ (State.toUntested s).fes = s.fes ∧
    (State.toUntested s).plan = s.plan ∧ (State.toUntested s).emit = s.emit ∧ (State.toUntested s).lex = s.lex ∧
    (State.toUntested s).swd = s.swd ∧ (State.toUntested s).swm = s.swm ∧ (State.toUntested s).frz = s.frz ∧
    (State.toUntested s).ccd = s.ccd ∧ (State.toUntested s).rings = s.rings ∧ (State.toUntested s).latches = s.latches ∧
    (State.toUntested s).closed = s.closed ∧ (State.toUntested s).closureReported = s.closureReported ∧
    (State.toUntested s).ddr = s.ddr ∧ (State.toUntested s).busRead = s.busRead := by
  simp [State.toUntested]
@[simp] theorem State.stageBegin_keeps (s : State) :
    (State.stageBegin s).now = s.now ∧ (State.stageBegin s).pending = s.pending ∧ (State.stageBegin s).free = s.free ∧
    (State.stageBegin s).nv = s.nv ∧ (State.stageBegin s).core = s.core ∧ (State.stageBegin s).pin = s.pin ∧
    (State.stageBegin s).aon = s.aon ∧ (State.stageBegin s).cfg = s.cfg ∧ (State.stageBegin s).ids = s.ids ∧
    (State.stageBegin s).mbx = s.mbx ∧ (State.stageBegin s).vot = s.vot ∧ (State.stageBegin s).fes = s.fes ∧
    (State.stageBegin s).plan = s.plan ∧ (State.stageBegin s).emit = s.emit ∧ (State.stageBegin s).lex = s.lex ∧
    (State.stageBegin s).swd = s.swd ∧ (State.stageBegin s).swm = s.swm ∧ (State.stageBegin s).frz = s.frz ∧
    (State.stageBegin s).ccd = s.ccd ∧ (State.stageBegin s).rings = s.rings ∧ (State.stageBegin s).latches = s.latches ∧
    (State.stageBegin s).closed = s.closed ∧ (State.stageBegin s).closureReported = s.closureReported ∧
    (State.stageBegin s).ddr = s.ddr ∧ (State.stageBegin s).busRead = s.busRead := by
  simp [State.stageBegin]
@[simp] theorem State.placeLegs_keeps (s : State) :
    (State.placeLegs s).now = s.now ∧ (State.placeLegs s).pending = s.pending ∧ (State.placeLegs s).free = s.free ∧
    (State.placeLegs s).nv = s.nv ∧ (State.placeLegs s).core = s.core ∧ (State.placeLegs s).pin = s.pin ∧
    (State.placeLegs s).aon = s.aon ∧ (State.placeLegs s).flt = s.flt ∧ (State.placeLegs s).brw = s.brw ∧
    (State.placeLegs s).cfg = s.cfg ∧ (State.placeLegs s).ids = s.ids ∧ (State.placeLegs s).mbx = s.mbx ∧
    (State.placeLegs s).laneA = s.laneA ∧ (State.placeLegs s).laneB = s.laneB ∧ (State.placeLegs s).laneC = s.laneC ∧
    (State.placeLegs s).vot = s.vot ∧ (State.placeLegs s).fes = s.fes ∧ (State.placeLegs s).plan = s.plan ∧
    (State.placeLegs s).emit = s.emit ∧ (State.placeLegs s).lex = s.lex ∧ (State.placeLegs s).swd = s.swd ∧
    (State.placeLegs s).swm = s.swm ∧ (State.placeLegs s).frz = s.frz ∧ (State.placeLegs s).ccd = s.ccd ∧
    (State.placeLegs s).htl = s.htl ∧ (State.placeLegs s).rings = s.rings ∧ (State.placeLegs s).latches = s.latches ∧
    (State.placeLegs s).closed = s.closed ∧ (State.placeLegs s).closureReported = s.closureReported ∧
    (State.placeLegs s).ddr = s.ddr ∧ (State.placeLegs s).busRead = s.busRead := by
  simp [State.placeLegs]
@[simp] theorem State.writeLeg_keeps (s : State) (o : Nat) (v : Word) :
    (State.writeLeg s o v).now = s.now ∧ (State.writeLeg s o v).pending = s.pending ∧ (State.writeLeg s o v).free = s.free ∧
    (State.writeLeg s o v).nv = s.nv ∧ (State.writeLeg s o v).core = s.core ∧ (State.writeLeg s o v).pin = s.pin ∧
    (State.writeLeg s o v).aon = s.aon ∧ (State.writeLeg s o v).flt = s.flt ∧ (State.writeLeg s o v).brw = s.brw ∧
    (State.writeLeg s o v).cfg = s.cfg ∧ (State.writeLeg s o v).ids = s.ids ∧ (State.writeLeg s o v).mbx = s.mbx ∧
    (State.writeLeg s o v).laneA = s.laneA ∧ (State.writeLeg s o v).laneB = s.laneB ∧
    (State.writeLeg s o v).laneC = s.laneC ∧ (State.writeLeg s o v).vot = s.vot ∧ (State.writeLeg s o v).fes = s.fes ∧
    (State.writeLeg s o v).plan = s.plan ∧ (State.writeLeg s o v).emit = s.emit ∧ (State.writeLeg s o v).lex = s.lex ∧
    (State.writeLeg s o v).swd = s.swd ∧ (State.writeLeg s o v).swm = s.swm ∧ (State.writeLeg s o v).frz = s.frz ∧
    (State.writeLeg s o v).ccd = s.ccd ∧ (State.writeLeg s o v).htl = s.htl ∧ (State.writeLeg s o v).rings = s.rings ∧
    (State.writeLeg s o v).latches = s.latches ∧ (State.writeLeg s o v).closed = s.closed ∧
    (State.writeLeg s o v).closureReported = s.closureReported ∧ (State.writeLeg s o v).ddr = s.ddr ∧
    (State.writeLeg s o v).busRead = s.busRead := by
  simp [State.writeLeg]
@[simp] theorem State.idsRecord_keeps (s : State) (sub : Nat) (payload : List Byte) :
    (State.idsRecord s sub payload).now = s.now ∧ (State.idsRecord s sub payload).pending = s.pending ∧
    (State.idsRecord s sub payload).free = s.free ∧ (State.idsRecord s sub payload).nv = s.nv ∧
    (State.idsRecord s sub payload).core = s.core ∧ (State.idsRecord s sub payload).pin = s.pin ∧
    (State.idsRecord s sub payload).aon = s.aon ∧ (State.idsRecord s sub payload).cfg = s.cfg ∧
    (State.idsRecord s sub payload).ids = s.ids ∧ (State.idsRecord s sub payload).mbx = s.mbx ∧
    (State.idsRecord s sub payload).pool = s.pool ∧ (State.idsRecord s sub payload).laneA = s.laneA ∧
    (State.idsRecord s sub payload).laneB = s.laneB ∧ (State.idsRecord s sub payload).laneC = s.laneC ∧
    (State.idsRecord s sub payload).vot = s.vot ∧ (State.idsRecord s sub payload).fes = s.fes ∧
    (State.idsRecord s sub payload).plan = s.plan ∧ (State.idsRecord s sub payload).emit = s.emit ∧
    (State.idsRecord s sub payload).lex = s.lex ∧ (State.idsRecord s sub payload).swd = s.swd ∧
    (State.idsRecord s sub payload).swm = s.swm ∧ (State.idsRecord s sub payload).frz = s.frz ∧
    (State.idsRecord s sub payload).ccd = s.ccd ∧ (State.idsRecord s sub payload).rings = s.rings ∧
    (State.idsRecord s sub payload).latches = s.latches ∧ (State.idsRecord s sub payload).closed = s.closed ∧
    (State.idsRecord s sub payload).closureReported = s.closureReported ∧ (State.idsRecord s sub payload).ddr = s.ddr ∧
    (State.idsRecord s sub payload).busRead = s.busRead := by
  simp [State.idsRecord]
@[simp] theorem State.verifyFail_keeps (s : State) (object detail : Nat) :
    (State.verifyFail s object detail).now = s.now ∧ (State.verifyFail s object detail).pending = s.pending ∧
    (State.verifyFail s object detail).free = s.free ∧ (State.verifyFail s object detail).nv = s.nv ∧
    (State.verifyFail s object detail).core = s.core ∧ (State.verifyFail s object detail).pin = s.pin ∧
    (State.verifyFail s object detail).aon = s.aon ∧ (State.verifyFail s object detail).cfg = s.cfg ∧
    (State.verifyFail s object detail).mbx = s.mbx ∧ (State.verifyFail s object detail).pool = s.pool ∧
    (State.verifyFail s object detail).laneA = s.laneA ∧ (State.verifyFail s object detail).laneB = s.laneB ∧
    (State.verifyFail s object detail).laneC = s.laneC ∧ (State.verifyFail s object detail).vot = s.vot ∧
    (State.verifyFail s object detail).fes = s.fes ∧ (State.verifyFail s object detail).plan = s.plan ∧
    (State.verifyFail s object detail).emit = s.emit ∧ (State.verifyFail s object detail).lex = s.lex ∧
    (State.verifyFail s object detail).swd = s.swd ∧ (State.verifyFail s object detail).swm = s.swm ∧
    (State.verifyFail s object detail).frz = s.frz ∧ (State.verifyFail s object detail).ccd = s.ccd ∧
    (State.verifyFail s object detail).rings = s.rings ∧ (State.verifyFail s object detail).latches = s.latches ∧
    (State.verifyFail s object detail).closed = s.closed ∧
    (State.verifyFail s object detail).closureReported = s.closureReported ∧ (State.verifyFail s object detail).ddr = s.ddr ∧
    (State.verifyFail s object detail).busRead = s.busRead := by
  simp [State.verifyFail]
@[simp] theorem State.verifyOk_keeps (s : State) :
    (State.verifyOk s).now = s.now ∧ (State.verifyOk s).pending = s.pending ∧ (State.verifyOk s).free = s.free ∧
    (State.verifyOk s).nv = s.nv ∧ (State.verifyOk s).core = s.core ∧ (State.verifyOk s).pin = s.pin ∧
    (State.verifyOk s).aon = s.aon ∧ (State.verifyOk s).flt = s.flt ∧ (State.verifyOk s).brw = s.brw ∧
    (State.verifyOk s).cfg = s.cfg ∧ (State.verifyOk s).mbx = s.mbx ∧ (State.verifyOk s).pool = s.pool ∧
    (State.verifyOk s).laneA = s.laneA ∧ (State.verifyOk s).laneB = s.laneB ∧ (State.verifyOk s).laneC = s.laneC ∧
    (State.verifyOk s).vot = s.vot ∧ (State.verifyOk s).fes = s.fes ∧ (State.verifyOk s).plan = s.plan ∧
    (State.verifyOk s).emit = s.emit ∧ (State.verifyOk s).lex = s.lex ∧ (State.verifyOk s).swd = s.swd ∧
    (State.verifyOk s).swm = s.swm ∧ (State.verifyOk s).frz = s.frz ∧ (State.verifyOk s).ccd = s.ccd ∧
    (State.verifyOk s).htl = s.htl ∧ (State.verifyOk s).rings = s.rings ∧ (State.verifyOk s).latches = s.latches ∧
    (State.verifyOk s).closed = s.closed ∧ (State.verifyOk s).closureReported = s.closureReported ∧
    (State.verifyOk s).ddr = s.ddr ∧ (State.verifyOk s).busRead = s.busRead := by
  simp [State.verifyOk]
@[simp] theorem State.verify_keeps (s : State) (object : Nat) (signer message signature : List Byte) (svn : Option Nat) :
    (State.verify s object signer message signature svn).2.now = s.now ∧
    (State.verify s object signer message signature svn).2.pending = s.pending ∧
    (State.verify s object signer message signature svn).2.free = s.free ∧
    (State.verify s object signer message signature svn).2.nv = s.nv ∧
    (State.verify s object signer message signature svn).2.core = s.core ∧
    (State.verify s object signer message signature svn).2.pin = s.pin ∧
    (State.verify s object signer message signature svn).2.aon = s.aon ∧
    (State.verify s object signer message signature svn).2.cfg = s.cfg ∧
    (State.verify s object signer message signature svn).2.mbx = s.mbx ∧
    (State.verify s object signer message signature svn).2.pool = s.pool ∧
    (State.verify s object signer message signature svn).2.laneA = s.laneA ∧
    (State.verify s object signer message signature svn).2.laneB = s.laneB ∧
    (State.verify s object signer message signature svn).2.laneC = s.laneC ∧
    (State.verify s object signer message signature svn).2.vot = s.vot ∧
    (State.verify s object signer message signature svn).2.fes = s.fes ∧
    (State.verify s object signer message signature svn).2.plan = s.plan ∧
    (State.verify s object signer message signature svn).2.emit = s.emit ∧
    (State.verify s object signer message signature svn).2.lex = s.lex ∧
    (State.verify s object signer message signature svn).2.swd = s.swd ∧
    (State.verify s object signer message signature svn).2.swm = s.swm ∧
    (State.verify s object signer message signature svn).2.frz = s.frz ∧
    (State.verify s object signer message signature svn).2.ccd = s.ccd ∧
    (State.verify s object signer message signature svn).2.rings = s.rings ∧
    (State.verify s object signer message signature svn).2.latches = s.latches ∧
    (State.verify s object signer message signature svn).2.closed = s.closed ∧
    (State.verify s object signer message signature svn).2.closureReported = s.closureReported ∧
    (State.verify s object signer message signature svn).2.ddr = s.ddr ∧
    (State.verify s object signer message signature svn).2.busRead = s.busRead := by
  simp only [State.verify]
  (repeat' split) <;> simp_all
@[simp] theorem State.verifyFile_keeps (s : State) (object : Nat) (file : List Byte) :
    (State.verifyFile s object file).2.now = s.now ∧ (State.verifyFile s object file).2.pending = s.pending ∧
    (State.verifyFile s object file).2.free = s.free ∧ (State.verifyFile s object file).2.nv = s.nv ∧
    (State.verifyFile s object file).2.core = s.core ∧ (State.verifyFile s object file).2.pin = s.pin ∧
    (State.verifyFile s object file).2.aon = s.aon ∧ (State.verifyFile s object file).2.cfg = s.cfg ∧
    (State.verifyFile s object file).2.mbx = s.mbx ∧ (State.verifyFile s object file).2.pool = s.pool ∧
    (State.verifyFile s object file).2.laneA = s.laneA ∧ (State.verifyFile s object file).2.laneB = s.laneB ∧
    (State.verifyFile s object file).2.laneC = s.laneC ∧ (State.verifyFile s object file).2.vot = s.vot ∧
    (State.verifyFile s object file).2.fes = s.fes ∧ (State.verifyFile s object file).2.plan = s.plan ∧
    (State.verifyFile s object file).2.emit = s.emit ∧ (State.verifyFile s object file).2.lex = s.lex ∧
    (State.verifyFile s object file).2.swd = s.swd ∧ (State.verifyFile s object file).2.swm = s.swm ∧
    (State.verifyFile s object file).2.frz = s.frz ∧ (State.verifyFile s object file).2.ccd = s.ccd ∧
    (State.verifyFile s object file).2.rings = s.rings ∧ (State.verifyFile s object file).2.latches = s.latches ∧
    (State.verifyFile s object file).2.closed = s.closed ∧
    (State.verifyFile s object file).2.closureReported = s.closureReported ∧ (State.verifyFile s object file).2.ddr = s.ddr ∧
    (State.verifyFile s object file).2.busRead = s.busRead := by
  simp only [State.verifyFile]
  (repeat' split) <;> simp_all
@[simp] theorem State.seal_keeps (s : State) (staged : Bool) :
    (State.seal s staged).now = s.now ∧ (State.seal s staged).pending = s.pending ∧ (State.seal s staged).free = s.free ∧
    (State.seal s staged).nv = s.nv ∧ (State.seal s staged).core = s.core ∧ (State.seal s staged).pin = s.pin ∧
    (State.seal s staged).aon = s.aon ∧ (State.seal s staged).cfg = s.cfg ∧ (State.seal s staged).mbx = s.mbx ∧
    (State.seal s staged).pool = s.pool ∧ (State.seal s staged).laneA = s.laneA ∧ (State.seal s staged).laneB = s.laneB ∧
    (State.seal s staged).laneC = s.laneC ∧ (State.seal s staged).vot = s.vot ∧ (State.seal s staged).fes = s.fes ∧
    (State.seal s staged).plan = s.plan ∧ (State.seal s staged).emit = s.emit ∧ (State.seal s staged).lex = s.lex ∧
    (State.seal s staged).swd = s.swd ∧ (State.seal s staged).swm = s.swm ∧ (State.seal s staged).frz = s.frz ∧
    (State.seal s staged).ccd = s.ccd ∧ (State.seal s staged).rings = s.rings ∧ (State.seal s staged).latches = s.latches ∧
    (State.seal s staged).closed = s.closed ∧ (State.seal s staged).closureReported = s.closureReported ∧
    (State.seal s staged).ddr = s.ddr ∧ (State.seal s staged).busRead = s.busRead := by
  simp only [State.seal]
  (repeat' split) <;> simp_all
@[simp] theorem State.judgeImage_keeps (s : State) (bs : List Byte) :
    (State.judgeImage s bs).2.now = s.now ∧ (State.judgeImage s bs).2.pending = s.pending ∧
    (State.judgeImage s bs).2.free = s.free ∧ (State.judgeImage s bs).2.nv = s.nv ∧ (State.judgeImage s bs).2.core = s.core ∧
    (State.judgeImage s bs).2.pin = s.pin ∧ (State.judgeImage s bs).2.aon = s.aon ∧ (State.judgeImage s bs).2.cfg = s.cfg ∧
    (State.judgeImage s bs).2.mbx = s.mbx ∧ (State.judgeImage s bs).2.pool = s.pool ∧
    (State.judgeImage s bs).2.laneA = s.laneA ∧ (State.judgeImage s bs).2.laneB = s.laneB ∧
    (State.judgeImage s bs).2.laneC = s.laneC ∧ (State.judgeImage s bs).2.vot = s.vot ∧
    (State.judgeImage s bs).2.fes = s.fes ∧ (State.judgeImage s bs).2.plan = s.plan ∧
    (State.judgeImage s bs).2.emit = s.emit ∧ (State.judgeImage s bs).2.lex = s.lex ∧ (State.judgeImage s bs).2.swd = s.swd ∧
    (State.judgeImage s bs).2.swm = s.swm ∧ (State.judgeImage s bs).2.frz = s.frz ∧ (State.judgeImage s bs).2.ccd = s.ccd ∧
    (State.judgeImage s bs).2.rings = s.rings ∧ (State.judgeImage s bs).2.latches = s.latches ∧
    (State.judgeImage s bs).2.closed = s.closed ∧ (State.judgeImage s bs).2.closureReported = s.closureReported ∧
    (State.judgeImage s bs).2.ddr = s.ddr ∧ (State.judgeImage s bs).2.busRead = s.busRead := by
  simp [State.judgeImage]
@[simp] theorem State.fesEvent_keeps (s : State) (i : Nat) :
    (State.fesEvent s i).now = s.now ∧ (State.fesEvent s i).pending = s.pending ∧ (State.fesEvent s i).free = s.free ∧
    (State.fesEvent s i).nv = s.nv ∧ (State.fesEvent s i).core = s.core ∧ (State.fesEvent s i).pin = s.pin ∧
    (State.fesEvent s i).aon = s.aon ∧ (State.fesEvent s i).flt = s.flt ∧ (State.fesEvent s i).brw = s.brw ∧
    (State.fesEvent s i).cfg = s.cfg ∧ (State.fesEvent s i).ids = s.ids ∧ (State.fesEvent s i).mbx = s.mbx ∧
    (State.fesEvent s i).pool = s.pool ∧ (State.fesEvent s i).laneA = s.laneA ∧ (State.fesEvent s i).laneB = s.laneB ∧
    (State.fesEvent s i).laneC = s.laneC ∧ (State.fesEvent s i).vot = s.vot ∧ (State.fesEvent s i).plan = s.plan ∧
    (State.fesEvent s i).emit = s.emit ∧ (State.fesEvent s i).lex = s.lex ∧ (State.fesEvent s i).swd = s.swd ∧
    (State.fesEvent s i).swm = s.swm ∧ (State.fesEvent s i).frz = s.frz ∧ (State.fesEvent s i).ccd = s.ccd ∧
    (State.fesEvent s i).htl = s.htl ∧ (State.fesEvent s i).rings = s.rings ∧ (State.fesEvent s i).latches = s.latches ∧
    (State.fesEvent s i).closed = s.closed ∧ (State.fesEvent s i).closureReported = s.closureReported ∧
    (State.fesEvent s i).ddr = s.ddr ∧ (State.fesEvent s i).busRead = s.busRead := by
  simp [State.fesEvent]
@[simp] theorem State.shortCheck_keeps (s : State) :
    (State.shortCheck s).now = s.now ∧ (State.shortCheck s).pending = s.pending ∧ (State.shortCheck s).free = s.free ∧
    (State.shortCheck s).nv = s.nv ∧ (State.shortCheck s).core = s.core ∧ (State.shortCheck s).pin = s.pin ∧
    (State.shortCheck s).aon = s.aon ∧ (State.shortCheck s).cfg = s.cfg ∧ (State.shortCheck s).ids = s.ids ∧
    (State.shortCheck s).pool = s.pool ∧ (State.shortCheck s).laneA = s.laneA ∧ (State.shortCheck s).laneB = s.laneB ∧
    (State.shortCheck s).laneC = s.laneC ∧ (State.shortCheck s).vot = s.vot ∧ (State.shortCheck s).plan = s.plan ∧
    (State.shortCheck s).emit = s.emit ∧ (State.shortCheck s).lex = s.lex ∧ (State.shortCheck s).swd = s.swd ∧
    (State.shortCheck s).swm = s.swm ∧ (State.shortCheck s).frz = s.frz ∧ (State.shortCheck s).rings = s.rings ∧
    (State.shortCheck s).latches = s.latches ∧ (State.shortCheck s).closed = s.closed ∧
    (State.shortCheck s).closureReported = s.closureReported ∧ (State.shortCheck s).ddr = s.ddr ∧
    (State.shortCheck s).busRead = s.busRead := by
  simp [State.shortCheck]
@[simp] theorem State.rampStep_keeps (s : State) :
    (State.rampStep s).now = s.now ∧ (State.rampStep s).pending = s.pending ∧ (State.rampStep s).free = s.free ∧
    (State.rampStep s).nv = s.nv ∧ (State.rampStep s).core = s.core ∧ (State.rampStep s).pin = s.pin ∧
    (State.rampStep s).aon = s.aon ∧ (State.rampStep s).flt = s.flt ∧ (State.rampStep s).brw = s.brw ∧
    (State.rampStep s).cfg = s.cfg ∧ (State.rampStep s).ids = s.ids ∧ (State.rampStep s).mbx = s.mbx ∧
    (State.rampStep s).pool = s.pool ∧ (State.rampStep s).laneA = s.laneA ∧ (State.rampStep s).laneB = s.laneB ∧
    (State.rampStep s).laneC = s.laneC ∧ (State.rampStep s).vot = s.vot ∧ (State.rampStep s).plan = s.plan ∧
    (State.rampStep s).emit = s.emit ∧ (State.rampStep s).lex = s.lex ∧ (State.rampStep s).swd = s.swd ∧
    (State.rampStep s).swm = s.swm ∧ (State.rampStep s).frz = s.frz ∧ (State.rampStep s).ccd = s.ccd ∧
    (State.rampStep s).htl = s.htl ∧ (State.rampStep s).rings = s.rings ∧ (State.rampStep s).latches = s.latches ∧
    (State.rampStep s).closed = s.closed ∧ (State.rampStep s).closureReported = s.closureReported ∧
    (State.rampStep s).ddr = s.ddr ∧ (State.rampStep s).busRead = s.busRead := by
  simp only [State.rampStep]
  (repeat' split) <;> simp_all
@[simp] theorem State.refStep_keeps (s : State) :
    (State.refStep s).now = s.now ∧ (State.refStep s).pending = s.pending ∧ (State.refStep s).free = s.free ∧
    (State.refStep s).nv = s.nv ∧ (State.refStep s).core = s.core ∧ (State.refStep s).pin = s.pin ∧
    (State.refStep s).aon = s.aon ∧ (State.refStep s).flt = s.flt ∧ (State.refStep s).brw = s.brw ∧
    (State.refStep s).cfg = s.cfg ∧ (State.refStep s).ids = s.ids ∧ (State.refStep s).mbx = s.mbx ∧
    (State.refStep s).pool = s.pool ∧ (State.refStep s).laneA = s.laneA ∧ (State.refStep s).laneB = s.laneB ∧
    (State.refStep s).laneC = s.laneC ∧ (State.refStep s).vot = s.vot ∧ (State.refStep s).plan = s.plan ∧
    (State.refStep s).emit = s.emit ∧ (State.refStep s).lex = s.lex ∧ (State.refStep s).swd = s.swd ∧
    (State.refStep s).swm = s.swm ∧ (State.refStep s).frz = s.frz ∧ (State.refStep s).ccd = s.ccd ∧
    (State.refStep s).htl = s.htl ∧ (State.refStep s).rings = s.rings ∧ (State.refStep s).latches = s.latches ∧
    (State.refStep s).closed = s.closed ∧ (State.refStep s).closureReported = s.closureReported ∧
    (State.refStep s).ddr = s.ddr ∧ (State.refStep s).busRead = s.busRead := by
  simp [State.refStep]
@[simp] theorem State.sendFrames_keeps (s : State) (type : Nat) :
    (State.sendFrames s type).now = s.now ∧ (State.sendFrames s type).pending = s.pending ∧
    (State.sendFrames s type).free = s.free ∧ (State.sendFrames s type).nv = s.nv ∧ (State.sendFrames s type).core = s.core ∧
    (State.sendFrames s type).pin = s.pin ∧ (State.sendFrames s type).aon = s.aon ∧ (State.sendFrames s type).flt = s.flt ∧
    (State.sendFrames s type).brw = s.brw ∧ (State.sendFrames s type).cfg = s.cfg ∧ (State.sendFrames s type).ids = s.ids ∧
    (State.sendFrames s type).mbx = s.mbx ∧ (State.sendFrames s type).pool = s.pool ∧
    (State.sendFrames s type).laneA = s.laneA ∧ (State.sendFrames s type).laneB = s.laneB ∧
    (State.sendFrames s type).laneC = s.laneC ∧ (State.sendFrames s type).vot = s.vot ∧
    (State.sendFrames s type).plan = s.plan ∧ (State.sendFrames s type).emit = s.emit ∧
    (State.sendFrames s type).lex = s.lex ∧ (State.sendFrames s type).swd = s.swd ∧ (State.sendFrames s type).swm = s.swm ∧
    (State.sendFrames s type).frz = s.frz ∧ (State.sendFrames s type).ccd = s.ccd ∧ (State.sendFrames s type).htl = s.htl ∧
    (State.sendFrames s type).rings = s.rings ∧ (State.sendFrames s type).latches = s.latches ∧
    (State.sendFrames s type).closed = s.closed ∧ (State.sendFrames s type).closureReported = s.closureReported ∧
    (State.sendFrames s type).ddr = s.ddr ∧ (State.sendFrames s type).busRead = s.busRead := by
  simp [State.sendFrames]
@[simp] theorem State.handover_keeps (s : State) (type : Nat) :
    (State.handover s type).now = s.now ∧ (State.handover s type).pending = s.pending ∧
    (State.handover s type).free = s.free ∧ (State.handover s type).nv = s.nv ∧ (State.handover s type).core = s.core ∧
    (State.handover s type).pin = s.pin ∧ (State.handover s type).aon = s.aon ∧ (State.handover s type).flt = s.flt ∧
    (State.handover s type).brw = s.brw ∧ (State.handover s type).cfg = s.cfg ∧ (State.handover s type).ids = s.ids ∧
    (State.handover s type).mbx = s.mbx ∧ (State.handover s type).pool = s.pool ∧ (State.handover s type).laneA = s.laneA ∧
    (State.handover s type).laneB = s.laneB ∧ (State.handover s type).laneC = s.laneC ∧ (State.handover s type).vot = s.vot ∧
    (State.handover s type).plan = s.plan ∧ (State.handover s type).emit = s.emit ∧ (State.handover s type).lex = s.lex ∧
    (State.handover s type).swd = s.swd ∧ (State.handover s type).swm = s.swm ∧ (State.handover s type).frz = s.frz ∧
    (State.handover s type).ccd = s.ccd ∧ (State.handover s type).htl = s.htl ∧ (State.handover s type).rings = s.rings ∧
    (State.handover s type).latches = s.latches ∧ (State.handover s type).closed = s.closed ∧
    (State.handover s type).closureReported = s.closureReported ∧ (State.handover s type).ddr = s.ddr ∧
    (State.handover s type).busRead = s.busRead := by
  simp [State.handover]
@[simp] theorem State.refLedger_keeps (s : State) :
    (State.refLedger s).pending = s.pending ∧ (State.refLedger s).free = s.free ∧ (State.refLedger s).nv = s.nv ∧
    (State.refLedger s).core = s.core ∧ (State.refLedger s).pin = s.pin ∧ (State.refLedger s).aon = s.aon ∧
    (State.refLedger s).cfg = s.cfg ∧ (State.refLedger s).ids = s.ids ∧ (State.refLedger s).pool = s.pool ∧
    (State.refLedger s).laneA = s.laneA ∧ (State.refLedger s).laneB = s.laneB ∧ (State.refLedger s).laneC = s.laneC ∧
    (State.refLedger s).vot = s.vot ∧ (State.refLedger s).fes = s.fes ∧ (State.refLedger s).plan = s.plan ∧
    (State.refLedger s).emit = s.emit ∧ (State.refLedger s).lex = s.lex ∧ (State.refLedger s).swd = s.swd ∧
    (State.refLedger s).swm = s.swm ∧ (State.refLedger s).frz = s.frz ∧ (State.refLedger s).rings = s.rings ∧
    (State.refLedger s).latches = s.latches ∧ (State.refLedger s).closed = s.closed ∧
    (State.refLedger s).closureReported = s.closureReported ∧ (State.refLedger s).ddr = s.ddr ∧
    (State.refLedger s).busRead = s.busRead := by
  simp [State.refLedger]
@[simp] theorem State.writeFes_keeps (s : State) (o : Nat) (v : Word) :
    (State.writeFes s o v).now = s.now ∧ (State.writeFes s o v).pending = s.pending ∧ (State.writeFes s o v).free = s.free ∧
    (State.writeFes s o v).nv = s.nv ∧ (State.writeFes s o v).core = s.core ∧ (State.writeFes s o v).pin = s.pin ∧
    (State.writeFes s o v).aon = s.aon ∧ (State.writeFes s o v).flt = s.flt ∧ (State.writeFes s o v).brw = s.brw ∧
    (State.writeFes s o v).cfg = s.cfg ∧ (State.writeFes s o v).ids = s.ids ∧ (State.writeFes s o v).mbx = s.mbx ∧
    (State.writeFes s o v).pool = s.pool ∧ (State.writeFes s o v).laneA = s.laneA ∧ (State.writeFes s o v).laneB = s.laneB ∧
    (State.writeFes s o v).laneC = s.laneC ∧ (State.writeFes s o v).vot = s.vot ∧ (State.writeFes s o v).plan = s.plan ∧
    (State.writeFes s o v).emit = s.emit ∧ (State.writeFes s o v).lex = s.lex ∧ (State.writeFes s o v).swd = s.swd ∧
    (State.writeFes s o v).swm = s.swm ∧ (State.writeFes s o v).frz = s.frz ∧ (State.writeFes s o v).ccd = s.ccd ∧
    (State.writeFes s o v).htl = s.htl ∧ (State.writeFes s o v).rings = s.rings ∧
    (State.writeFes s o v).latches = s.latches ∧ (State.writeFes s o v).closed = s.closed ∧
    (State.writeFes s o v).closureReported = s.closureReported ∧ (State.writeFes s o v).ddr = s.ddr ∧
    (State.writeFes s o v).busRead = s.busRead := by
  simp [State.writeFes]
@[simp] theorem State.handRequests_keeps (s : State) :
    (State.handRequests s).now = s.now ∧ (State.handRequests s).pending = s.pending ∧ (State.handRequests s).free = s.free ∧
    (State.handRequests s).nv = s.nv ∧ (State.handRequests s).core = s.core ∧ (State.handRequests s).pin = s.pin ∧
    (State.handRequests s).aon = s.aon ∧ (State.handRequests s).flt = s.flt ∧ (State.handRequests s).brw = s.brw ∧
    (State.handRequests s).cfg = s.cfg ∧ (State.handRequests s).ids = s.ids ∧ (State.handRequests s).mbx = s.mbx ∧
    (State.handRequests s).pool = s.pool ∧ (State.handRequests s).laneA = s.laneA ∧ (State.handRequests s).laneB = s.laneB ∧
    (State.handRequests s).laneC = s.laneC ∧ (State.handRequests s).vot = s.vot ∧ (State.handRequests s).fes = s.fes ∧
    (State.handRequests s).plan = s.plan ∧ (State.handRequests s).emit = s.emit ∧ (State.handRequests s).lex = s.lex ∧
    (State.handRequests s).swd = s.swd ∧ (State.handRequests s).swm = s.swm ∧ (State.handRequests s).frz = s.frz ∧
    (State.handRequests s).htl = s.htl ∧ (State.handRequests s).rings = s.rings ∧
    (State.handRequests s).latches = s.latches ∧ (State.handRequests s).closed = s.closed ∧
    (State.handRequests s).closureReported = s.closureReported ∧ (State.handRequests s).ddr = s.ddr ∧
    (State.handRequests s).busRead = s.busRead := by
  simp [State.handRequests]
@[simp] theorem State.withdraw_keeps (s : State) :
    (State.withdraw s).now = s.now ∧ (State.withdraw s).pending = s.pending ∧ (State.withdraw s).free = s.free ∧
    (State.withdraw s).nv = s.nv ∧ (State.withdraw s).core = s.core ∧ (State.withdraw s).pin = s.pin ∧
    (State.withdraw s).aon = s.aon ∧ (State.withdraw s).flt = s.flt ∧ (State.withdraw s).brw = s.brw ∧
    (State.withdraw s).cfg = s.cfg ∧ (State.withdraw s).ids = s.ids ∧ (State.withdraw s).mbx = s.mbx ∧
    (State.withdraw s).pool = s.pool ∧ (State.withdraw s).laneA = s.laneA ∧ (State.withdraw s).laneB = s.laneB ∧
    (State.withdraw s).laneC = s.laneC ∧ (State.withdraw s).vot = s.vot ∧ (State.withdraw s).fes = s.fes ∧
    (State.withdraw s).emit = s.emit ∧ (State.withdraw s).lex = s.lex ∧ (State.withdraw s).swd = s.swd ∧
    (State.withdraw s).swm = s.swm ∧ (State.withdraw s).frz = s.frz ∧ (State.withdraw s).htl = s.htl ∧
    (State.withdraw s).rings = s.rings ∧ (State.withdraw s).latches = s.latches ∧ (State.withdraw s).closed = s.closed ∧
    (State.withdraw s).closureReported = s.closureReported ∧ (State.withdraw s).ddr = s.ddr ∧
    (State.withdraw s).busRead = s.busRead := by
  simp [State.withdraw]
@[simp] theorem State.putInForce_keeps (s : State) (w : List Word) :
    (State.putInForce s w).now = s.now ∧ (State.putInForce s w).pending = s.pending ∧ (State.putInForce s w).free = s.free ∧
    (State.putInForce s w).nv = s.nv ∧ (State.putInForce s w).core = s.core ∧ (State.putInForce s w).pin = s.pin ∧
    (State.putInForce s w).aon = s.aon ∧ (State.putInForce s w).flt = s.flt ∧ (State.putInForce s w).brw = s.brw ∧
    (State.putInForce s w).cfg = s.cfg ∧ (State.putInForce s w).ids = s.ids ∧ (State.putInForce s w).mbx = s.mbx ∧
    (State.putInForce s w).pool = s.pool ∧ (State.putInForce s w).laneA = s.laneA ∧ (State.putInForce s w).laneB = s.laneB ∧
    (State.putInForce s w).laneC = s.laneC ∧ (State.putInForce s w).vot = s.vot ∧ (State.putInForce s w).fes = s.fes ∧
    (State.putInForce s w).emit = s.emit ∧ (State.putInForce s w).lex = s.lex ∧ (State.putInForce s w).swd = s.swd ∧
    (State.putInForce s w).swm = s.swm ∧ (State.putInForce s w).frz = s.frz ∧ (State.putInForce s w).htl = s.htl ∧
    (State.putInForce s w).rings = s.rings ∧ (State.putInForce s w).latches = s.latches ∧
    (State.putInForce s w).closed = s.closed ∧ (State.putInForce s w).closureReported = s.closureReported ∧
    (State.putInForce s w).ddr = s.ddr ∧ (State.putInForce s w).busRead = s.busRead := by
  simp [State.putInForce]
@[simp] theorem State.acceptVec_keeps (s : State) (w : List Word) :
    (State.acceptVec s w).now = s.now ∧ (State.acceptVec s w).pending = s.pending ∧ (State.acceptVec s w).free = s.free ∧
    (State.acceptVec s w).nv = s.nv ∧ (State.acceptVec s w).core = s.core ∧ (State.acceptVec s w).pin = s.pin ∧
    (State.acceptVec s w).aon = s.aon ∧ (State.acceptVec s w).flt = s.flt ∧ (State.acceptVec s w).brw = s.brw ∧
    (State.acceptVec s w).cfg = s.cfg ∧ (State.acceptVec s w).ids = s.ids ∧ (State.acceptVec s w).mbx = s.mbx ∧
    (State.acceptVec s w).pool = s.pool ∧ (State.acceptVec s w).laneA = s.laneA ∧ (State.acceptVec s w).laneB = s.laneB ∧
    (State.acceptVec s w).laneC = s.laneC ∧ (State.acceptVec s w).vot = s.vot ∧ (State.acceptVec s w).fes = s.fes ∧
    (State.acceptVec s w).emit = s.emit ∧ (State.acceptVec s w).lex = s.lex ∧ (State.acceptVec s w).swd = s.swd ∧
    (State.acceptVec s w).swm = s.swm ∧ (State.acceptVec s w).frz = s.frz ∧ (State.acceptVec s w).ccd = s.ccd ∧
    (State.acceptVec s w).htl = s.htl ∧ (State.acceptVec s w).rings = s.rings ∧ (State.acceptVec s w).latches = s.latches ∧
    (State.acceptVec s w).closed = s.closed ∧ (State.acceptVec s w).closureReported = s.closureReported ∧
    (State.acceptVec s w).ddr = s.ddr ∧ (State.acceptVec s w).busRead = s.busRead := by
  simp [State.acceptVec]
@[simp] theorem State.rejectVec_keeps (s : State) (w : List Word) (v : Nat) :
    (State.rejectVec s w v).now = s.now ∧ (State.rejectVec s w v).pending = s.pending ∧
    (State.rejectVec s w v).free = s.free ∧ (State.rejectVec s w v).nv = s.nv ∧ (State.rejectVec s w v).core = s.core ∧
    (State.rejectVec s w v).pin = s.pin ∧ (State.rejectVec s w v).aon = s.aon ∧ (State.rejectVec s w v).cfg = s.cfg ∧
    (State.rejectVec s w v).ids = s.ids ∧ (State.rejectVec s w v).mbx = s.mbx ∧ (State.rejectVec s w v).pool = s.pool ∧
    (State.rejectVec s w v).laneA = s.laneA ∧ (State.rejectVec s w v).laneB = s.laneB ∧
    (State.rejectVec s w v).laneC = s.laneC ∧ (State.rejectVec s w v).vot = s.vot ∧ (State.rejectVec s w v).fes = s.fes ∧
    (State.rejectVec s w v).emit = s.emit ∧ (State.rejectVec s w v).lex = s.lex ∧ (State.rejectVec s w v).swd = s.swd ∧
    (State.rejectVec s w v).swm = s.swm ∧ (State.rejectVec s w v).frz = s.frz ∧ (State.rejectVec s w v).ccd = s.ccd ∧
    (State.rejectVec s w v).rings = s.rings ∧ (State.rejectVec s w v).latches = s.latches ∧
    (State.rejectVec s w v).closed = s.closed ∧ (State.rejectVec s w v).closureReported = s.closureReported ∧
    (State.rejectVec s w v).ddr = s.ddr ∧ (State.rejectVec s w v).busRead = s.busRead := by
  simp [State.rejectVec]
@[simp] theorem State.judgeVec_keeps (s : State) :
    (State.judgeVec s).now = s.now ∧ (State.judgeVec s).pending = s.pending ∧ (State.judgeVec s).free = s.free ∧
    (State.judgeVec s).nv = s.nv ∧ (State.judgeVec s).core = s.core ∧ (State.judgeVec s).pin = s.pin ∧
    (State.judgeVec s).aon = s.aon ∧ (State.judgeVec s).cfg = s.cfg ∧ (State.judgeVec s).ids = s.ids ∧
    (State.judgeVec s).mbx = s.mbx ∧ (State.judgeVec s).pool = s.pool ∧ (State.judgeVec s).laneA = s.laneA ∧
    (State.judgeVec s).laneB = s.laneB ∧ (State.judgeVec s).laneC = s.laneC ∧ (State.judgeVec s).vot = s.vot ∧
    (State.judgeVec s).fes = s.fes ∧ (State.judgeVec s).emit = s.emit ∧ (State.judgeVec s).lex = s.lex ∧
    (State.judgeVec s).swd = s.swd ∧ (State.judgeVec s).swm = s.swm ∧ (State.judgeVec s).frz = s.frz ∧
    (State.judgeVec s).rings = s.rings ∧ (State.judgeVec s).latches = s.latches ∧ (State.judgeVec s).closed = s.closed ∧
    (State.judgeVec s).closureReported = s.closureReported ∧ (State.judgeVec s).ddr = s.ddr ∧
    (State.judgeVec s).busRead = s.busRead := by
  simp only [State.judgeVec]
  (repeat' split) <;> simp_all
@[simp] theorem State.endTick_keeps (s : State) :
    (State.endTick s).now = s.now ∧ (State.endTick s).pending = s.pending ∧ (State.endTick s).free = s.free ∧
    (State.endTick s).nv = s.nv ∧ (State.endTick s).core = s.core ∧ (State.endTick s).pin = s.pin ∧
    (State.endTick s).aon = s.aon ∧ (State.endTick s).flt = s.flt ∧ (State.endTick s).brw = s.brw ∧
    (State.endTick s).cfg = s.cfg ∧ (State.endTick s).ids = s.ids ∧ (State.endTick s).mbx = s.mbx ∧
    (State.endTick s).pool = s.pool ∧ (State.endTick s).laneA = s.laneA ∧ (State.endTick s).laneB = s.laneB ∧
    (State.endTick s).laneC = s.laneC ∧ (State.endTick s).vot = s.vot ∧ (State.endTick s).fes = s.fes ∧
    (State.endTick s).emit = s.emit ∧ (State.endTick s).lex = s.lex ∧ (State.endTick s).swd = s.swd ∧
    (State.endTick s).swm = s.swm ∧ (State.endTick s).frz = s.frz ∧ (State.endTick s).htl = s.htl ∧
    (State.endTick s).rings = s.rings ∧ (State.endTick s).latches = s.latches ∧ (State.endTick s).closed = s.closed ∧
    (State.endTick s).closureReported = s.closureReported ∧ (State.endTick s).ddr = s.ddr ∧
    (State.endTick s).busRead = s.busRead := by
  simp [State.endTick]
@[simp] theorem State.beginTick_keeps (s : State) :
    (State.beginTick s).now = s.now ∧ (State.beginTick s).pending = s.pending ∧ (State.beginTick s).free = s.free ∧
    (State.beginTick s).nv = s.nv ∧ (State.beginTick s).core = s.core ∧ (State.beginTick s).pin = s.pin ∧
    (State.beginTick s).aon = s.aon ∧ (State.beginTick s).flt = s.flt ∧ (State.beginTick s).brw = s.brw ∧
    (State.beginTick s).cfg = s.cfg ∧ (State.beginTick s).ids = s.ids ∧ (State.beginTick s).mbx = s.mbx ∧
    (State.beginTick s).pool = s.pool ∧ (State.beginTick s).laneA = s.laneA ∧ (State.beginTick s).laneB = s.laneB ∧
    (State.beginTick s).laneC = s.laneC ∧ (State.beginTick s).vot = s.vot ∧ (State.beginTick s).fes = s.fes ∧
    (State.beginTick s).emit = s.emit ∧ (State.beginTick s).lex = s.lex ∧ (State.beginTick s).swd = s.swd ∧
    (State.beginTick s).swm = s.swm ∧ (State.beginTick s).frz = s.frz ∧ (State.beginTick s).ccd = s.ccd ∧
    (State.beginTick s).htl = s.htl ∧ (State.beginTick s).rings = s.rings ∧ (State.beginTick s).latches = s.latches ∧
    (State.beginTick s).closed = s.closed ∧ (State.beginTick s).closureReported = s.closureReported ∧
    (State.beginTick s).ddr = s.ddr ∧ (State.beginTick s).busRead = s.busRead := by
  simp [State.beginTick]
@[simp] theorem State.emitVec_keeps (s : State) (w : List Word) :
    (State.emitVec s w).now = s.now ∧ (State.emitVec s w).pending = s.pending ∧ (State.emitVec s w).free = s.free ∧
    (State.emitVec s w).nv = s.nv ∧ (State.emitVec s w).core = s.core ∧ (State.emitVec s w).pin = s.pin ∧
    (State.emitVec s w).aon = s.aon ∧ (State.emitVec s w).flt = s.flt ∧ (State.emitVec s w).brw = s.brw ∧
    (State.emitVec s w).cfg = s.cfg ∧ (State.emitVec s w).ids = s.ids ∧ (State.emitVec s w).mbx = s.mbx ∧
    (State.emitVec s w).pool = s.pool ∧ (State.emitVec s w).laneA = s.laneA ∧ (State.emitVec s w).laneB = s.laneB ∧
    (State.emitVec s w).laneC = s.laneC ∧ (State.emitVec s w).vot = s.vot ∧ (State.emitVec s w).fes = s.fes ∧
    (State.emitVec s w).plan = s.plan ∧ (State.emitVec s w).lex = s.lex ∧ (State.emitVec s w).swd = s.swd ∧
    (State.emitVec s w).swm = s.swm ∧ (State.emitVec s w).frz = s.frz ∧ (State.emitVec s w).ccd = s.ccd ∧
    (State.emitVec s w).htl = s.htl ∧ (State.emitVec s w).rings = s.rings ∧ (State.emitVec s w).latches = s.latches ∧
    (State.emitVec s w).closed = s.closed ∧ (State.emitVec s w).closureReported = s.closureReported ∧
    (State.emitVec s w).ddr = s.ddr ∧ (State.emitVec s w).busRead = s.busRead := by
  simp [State.emitVec]
end Sys2Proof.Machine
end

