-- ==== Sys2Proof/Laws/Keeps3.lean ====
section
/-! SUPPORT. Frames of shared operations: what the operations of the sward, the lexicon engine and Furze leave unchanged. Each lemma lists fields of State that the operation does not touch. -/
namespace Sys2Proof.Machine
set_option linter.all false
@[simp] theorem State.emitMark_keeps (s : State) :
    (State.emitMark s).now = s.now ∧ (State.emitMark s).pending = s.pending ∧ (State.emitMark s).free = s.free ∧
    (State.emitMark s).nv = s.nv ∧ (State.emitMark s).core = s.core ∧ (State.emitMark s).pin = s.pin ∧
    (State.emitMark s).aon = s.aon ∧ (State.emitMark s).flt = s.flt ∧ (State.emitMark s).brw = s.brw ∧
    (State.emitMark s).cfg = s.cfg ∧ (State.emitMark s).ids = s.ids ∧ (State.emitMark s).mbx = s.mbx ∧
    (State.emitMark s).pool = s.pool ∧ (State.emitMark s).laneA = s.laneA ∧ (State.emitMark s).laneB = s.laneB ∧
    (State.emitMark s).laneC = s.laneC ∧ (State.emitMark s).vot = s.vot ∧ (State.emitMark s).fes = s.fes ∧
    (State.emitMark s).plan = s.plan ∧ (State.emitMark s).lex = s.lex ∧ (State.emitMark s).swd = s.swd ∧
    (State.emitMark s).swm = s.swm ∧ (State.emitMark s).frz = s.frz ∧ (State.emitMark s).ccd = s.ccd ∧
    (State.emitMark s).htl = s.htl ∧ (State.emitMark s).rings = s.rings ∧ (State.emitMark s).latches = s.latches ∧
    (State.emitMark s).closed = s.closed ∧ (State.emitMark s).closureReported = s.closureReported ∧
    (State.emitMark s).ddr = s.ddr ∧ (State.emitMark s).busRead = s.busRead := by
  simp [State.emitMark]
@[simp] theorem State.writeEmit_keeps (s : State) (o : Nat) (v : Word) :
    (State.writeEmit s o v).now = s.now ∧ (State.writeEmit s o v).pending = s.pending ∧
    (State.writeEmit s o v).free = s.free ∧ (State.writeEmit s o v).nv = s.nv ∧ (State.writeEmit s o v).core = s.core ∧
    (State.writeEmit s o v).pin = s.pin ∧ (State.writeEmit s o v).aon = s.aon ∧ (State.writeEmit s o v).flt = s.flt ∧
    (State.writeEmit s o v).brw = s.brw ∧ (State.writeEmit s o v).cfg = s.cfg ∧ (State.writeEmit s o v).ids = s.ids ∧
    (State.writeEmit s o v).mbx = s.mbx ∧ (State.writeEmit s o v).pool = s.pool ∧ (State.writeEmit s o v).laneA = s.laneA ∧
    (State.writeEmit s o v).laneB = s.laneB ∧ (State.writeEmit s o v).laneC = s.laneC ∧ (State.writeEmit s o v).vot = s.vot ∧
    (State.writeEmit s o v).fes = s.fes ∧ (State.writeEmit s o v).plan = s.plan ∧ (State.writeEmit s o v).lex = s.lex ∧
    (State.writeEmit s o v).swd = s.swd ∧ (State.writeEmit s o v).swm = s.swm ∧ (State.writeEmit s o v).frz = s.frz ∧
    (State.writeEmit s o v).ccd = s.ccd ∧ (State.writeEmit s o v).htl = s.htl ∧ (State.writeEmit s o v).rings = s.rings ∧
    (State.writeEmit s o v).latches = s.latches ∧ (State.writeEmit s o v).closed = s.closed ∧
    (State.writeEmit s o v).closureReported = s.closureReported ∧ (State.writeEmit s o v).ddr = s.ddr ∧
    (State.writeEmit s o v).busRead = s.busRead := by
  simp [State.writeEmit]
@[simp] theorem State.beginStep_keeps (s : State) (t : Nat) :
    (State.beginStep s t).now = s.now ∧ (State.beginStep s t).pending = s.pending ∧ (State.beginStep s t).nv = s.nv ∧
    (State.beginStep s t).core = s.core ∧ (State.beginStep s t).pin = s.pin ∧ (State.beginStep s t).aon = s.aon ∧
    (State.beginStep s t).flt = s.flt ∧ (State.beginStep s t).brw = s.brw ∧ (State.beginStep s t).cfg = s.cfg ∧
    (State.beginStep s t).ids = s.ids ∧ (State.beginStep s t).mbx = s.mbx ∧ (State.beginStep s t).pool = s.pool ∧
    (State.beginStep s t).laneA = s.laneA ∧ (State.beginStep s t).laneB = s.laneB ∧ (State.beginStep s t).laneC = s.laneC ∧
    (State.beginStep s t).vot = s.vot ∧ (State.beginStep s t).fes = s.fes ∧ (State.beginStep s t).plan = s.plan ∧
    (State.beginStep s t).emit = s.emit ∧ (State.beginStep s t).lex = s.lex ∧ (State.beginStep s t).swm = s.swm ∧
    (State.beginStep s t).frz = s.frz ∧ (State.beginStep s t).ccd = s.ccd ∧ (State.beginStep s t).htl = s.htl ∧
    (State.beginStep s t).rings = s.rings ∧ (State.beginStep s t).latches = s.latches ∧
    (State.beginStep s t).closed = s.closed ∧ (State.beginStep s t).closureReported = s.closureReported ∧
    (State.beginStep s t).ddr = s.ddr ∧ (State.beginStep s t).busRead = s.busRead := by
  simp [State.beginStep]
@[simp] theorem State.tusFail_keeps (s : State) (t detail : Nat) :
    (State.tusFail s t detail).now = s.now ∧ (State.tusFail s t detail).pending = s.pending ∧
    (State.tusFail s t detail).free = s.free ∧ (State.tusFail s t detail).nv = s.nv ∧
    (State.tusFail s t detail).core = s.core ∧ (State.tusFail s t detail).pin = s.pin ∧
    (State.tusFail s t detail).aon = s.aon ∧ (State.tusFail s t detail).brw = s.brw ∧
    (State.tusFail s t detail).cfg = s.cfg ∧ (State.tusFail s t detail).ids = s.ids ∧
    (State.tusFail s t detail).mbx = s.mbx ∧ (State.tusFail s t detail).pool = s.pool ∧
    (State.tusFail s t detail).laneA = s.laneA ∧ (State.tusFail s t detail).laneB = s.laneB ∧
    (State.tusFail s t detail).laneC = s.laneC ∧ (State.tusFail s t detail).vot = s.vot ∧
    (State.tusFail s t detail).fes = s.fes ∧ (State.tusFail s t detail).plan = s.plan ∧
    (State.tusFail s t detail).emit = s.emit ∧ (State.tusFail s t detail).swm = s.swm ∧
    (State.tusFail s t detail).frz = s.frz ∧ (State.tusFail s t detail).ccd = s.ccd ∧
    (State.tusFail s t detail).htl = s.htl ∧ (State.tusFail s t detail).rings = s.rings ∧
    (State.tusFail s t detail).latches = s.latches ∧ (State.tusFail s t detail).closed = s.closed ∧
    (State.tusFail s t detail).closureReported = s.closureReported ∧ (State.tusFail s t detail).ddr = s.ddr ∧
    (State.tusFail s t detail).busRead = s.busRead := by
  simp [State.tusFail]
@[simp] theorem State.fromPort_keeps (s : State) (f : Flit) :
    (State.fromPort s f).now = s.now ∧ (State.fromPort s f).pending = s.pending ∧ (State.fromPort s f).free = s.free ∧
    (State.fromPort s f).nv = s.nv ∧ (State.fromPort s f).core = s.core ∧ (State.fromPort s f).pin = s.pin ∧
    (State.fromPort s f).aon = s.aon ∧ (State.fromPort s f).flt = s.flt ∧ (State.fromPort s f).brw = s.brw ∧
    (State.fromPort s f).cfg = s.cfg ∧ (State.fromPort s f).ids = s.ids ∧ (State.fromPort s f).mbx = s.mbx ∧
    (State.fromPort s f).pool = s.pool ∧ (State.fromPort s f).laneA = s.laneA ∧ (State.fromPort s f).laneB = s.laneB ∧
    (State.fromPort s f).laneC = s.laneC ∧ (State.fromPort s f).vot = s.vot ∧ (State.fromPort s f).fes = s.fes ∧
    (State.fromPort s f).plan = s.plan ∧ (State.fromPort s f).emit = s.emit ∧ (State.fromPort s f).lex = s.lex ∧
    (State.fromPort s f).swm = s.swm ∧ (State.fromPort s f).frz = s.frz ∧ (State.fromPort s f).ccd = s.ccd ∧
    (State.fromPort s f).htl = s.htl ∧ (State.fromPort s f).rings = s.rings ∧ (State.fromPort s f).latches = s.latches ∧
    (State.fromPort s f).closed = s.closed ∧ (State.fromPort s f).closureReported = s.closureReported ∧
    (State.fromPort s f).ddr = s.ddr ∧ (State.fromPort s f).busRead = s.busRead := by
  simp [State.fromPort]
@[simp] theorem State.landRing_keeps (s : State) (l : Landing) (stream p : Nat) (bs : List Byte) :
    (State.landRing s l stream p bs).now = s.now ∧ (State.landRing s l stream p bs).pending = s.pending ∧
    (State.landRing s l stream p bs).free = s.free ∧ (State.landRing s l stream p bs).nv = s.nv ∧
    (State.landRing s l stream p bs).core = s.core ∧ (State.landRing s l stream p bs).pin = s.pin ∧
    (State.landRing s l stream p bs).aon = s.aon ∧ (State.landRing s l stream p bs).flt = s.flt ∧
    (State.landRing s l stream p bs).brw = s.brw ∧ (State.landRing s l stream p bs).cfg = s.cfg ∧
    (State.landRing s l stream p bs).ids = s.ids ∧ (State.landRing s l stream p bs).mbx = s.mbx ∧
    (State.landRing s l stream p bs).pool = s.pool ∧ (State.landRing s l stream p bs).laneA = s.laneA ∧
    (State.landRing s l stream p bs).laneB = s.laneB ∧ (State.landRing s l stream p bs).laneC = s.laneC ∧
    (State.landRing s l stream p bs).vot = s.vot ∧ (State.landRing s l stream p bs).fes = s.fes ∧
    (State.landRing s l stream p bs).plan = s.plan ∧ (State.landRing s l stream p bs).emit = s.emit ∧
    (State.landRing s l stream p bs).lex = s.lex ∧ (State.landRing s l stream p bs).swm = s.swm ∧
    (State.landRing s l stream p bs).frz = s.frz ∧ (State.landRing s l stream p bs).ccd = s.ccd ∧
    (State.landRing s l stream p bs).rings = s.rings ∧ (State.landRing s l stream p bs).latches = s.latches ∧
    (State.landRing s l stream p bs).closed = s.closed ∧
    (State.landRing s l stream p bs).closureReported = s.closureReported ∧ (State.landRing s l stream p bs).ddr = s.ddr ∧
    (State.landRing s l stream p bs).busRead = s.busRead := by
  simp [State.landRing]
@[simp] theorem State.deliver_keeps (s : State) (service : Nat) (bs : List Byte) (slot : Option Nat) :
    (State.deliver s service bs slot).now = s.now ∧ (State.deliver s service bs slot).pending = s.pending ∧
    (State.deliver s service bs slot).free = s.free ∧ (State.deliver s service bs slot).nv = s.nv ∧
    (State.deliver s service bs slot).core = s.core ∧ (State.deliver s service bs slot).pin = s.pin ∧
    (State.deliver s service bs slot).aon = s.aon ∧ (State.deliver s service bs slot).flt = s.flt ∧
    (State.deliver s service bs slot).brw = s.brw ∧ (State.deliver s service bs slot).cfg = s.cfg ∧
    (State.deliver s service bs slot).ids = s.ids ∧ (State.deliver s service bs slot).mbx = s.mbx ∧
    (State.deliver s service bs slot).pool = s.pool ∧ (State.deliver s service bs slot).laneA = s.laneA ∧
    (State.deliver s service bs slot).laneB = s.laneB ∧ (State.deliver s service bs slot).laneC = s.laneC ∧
    (State.deliver s service bs slot).vot = s.vot ∧ (State.deliver s service bs slot).fes = s.fes ∧
    (State.deliver s service bs slot).plan = s.plan ∧ (State.deliver s service bs slot).emit = s.emit ∧
    (State.deliver s service bs slot).lex = s.lex ∧ (State.deliver s service bs slot).swm = s.swm ∧
    (State.deliver s service bs slot).frz = s.frz ∧ (State.deliver s service bs slot).ccd = s.ccd ∧
    (State.deliver s service bs slot).rings = s.rings ∧ (State.deliver s service bs slot).latches = s.latches ∧
    (State.deliver s service bs slot).closed = s.closed ∧
    (State.deliver s service bs slot).closureReported = s.closureReported ∧ (State.deliver s service bs slot).ddr = s.ddr ∧
    (State.deliver s service bs slot).busRead = s.busRead := by
  simp [State.deliver]
@[simp] theorem State.svcReject_keeps (s : State) :
    (State.svcReject s).now = s.now ∧ (State.svcReject s).pending = s.pending ∧ (State.svcReject s).free = s.free ∧
    (State.svcReject s).nv = s.nv ∧ (State.svcReject s).core = s.core ∧ (State.svcReject s).pin = s.pin ∧
    (State.svcReject s).aon = s.aon ∧ (State.svcReject s).flt = s.flt ∧ (State.svcReject s).brw = s.brw ∧
    (State.svcReject s).cfg = s.cfg ∧ (State.svcReject s).ids = s.ids ∧ (State.svcReject s).mbx = s.mbx ∧
    (State.svcReject s).pool = s.pool ∧ (State.svcReject s).laneA = s.laneA ∧ (State.svcReject s).laneB = s.laneB ∧
    (State.svcReject s).laneC = s.laneC ∧ (State.svcReject s).vot = s.vot ∧ (State.svcReject s).fes = s.fes ∧
    (State.svcReject s).plan = s.plan ∧ (State.svcReject s).emit = s.emit ∧ (State.svcReject s).lex = s.lex ∧
    (State.svcReject s).swm = s.swm ∧ (State.svcReject s).frz = s.frz ∧ (State.svcReject s).ccd = s.ccd ∧
    (State.svcReject s).htl = s.htl ∧ (State.svcReject s).rings = s.rings ∧ (State.svcReject s).latches = s.latches ∧
    (State.svcReject s).closed = s.closed ∧ (State.svcReject s).closureReported = s.closureReported ∧
    (State.svcReject s).ddr = s.ddr ∧ (State.svcReject s).busRead = s.busRead := by
  simp [State.svcReject]
@[simp] theorem State.completion_keeps (s : State) (addr : Word) (stream : Nat) (v : Word) :
    (State.completion s addr stream v).now = s.now ∧ (State.completion s addr stream v).pending = s.pending ∧
    (State.completion s addr stream v).free = s.free ∧ (State.completion s addr stream v).nv = s.nv ∧
    (State.completion s addr stream v).core = s.core ∧ (State.completion s addr stream v).pin = s.pin ∧
    (State.completion s addr stream v).aon = s.aon ∧ (State.completion s addr stream v).flt = s.flt ∧
    (State.completion s addr stream v).brw = s.brw ∧ (State.completion s addr stream v).cfg = s.cfg ∧
    (State.completion s addr stream v).ids = s.ids ∧ (State.completion s addr stream v).mbx = s.mbx ∧
    (State.completion s addr stream v).pool = s.pool ∧ (State.completion s addr stream v).laneA = s.laneA ∧
    (State.completion s addr stream v).laneB = s.laneB ∧ (State.completion s addr stream v).laneC = s.laneC ∧
    (State.completion s addr stream v).vot = s.vot ∧ (State.completion s addr stream v).fes = s.fes ∧
    (State.completion s addr stream v).plan = s.plan ∧ (State.completion s addr stream v).emit = s.emit ∧
    (State.completion s addr stream v).lex = s.lex ∧ (State.completion s addr stream v).swm = s.swm ∧
    (State.completion s addr stream v).frz = s.frz ∧ (State.completion s addr stream v).ccd = s.ccd ∧
    (State.completion s addr stream v).htl = s.htl ∧ (State.completion s addr stream v).rings = s.rings ∧
    (State.completion s addr stream v).latches = s.latches ∧ (State.completion s addr stream v).closed = s.closed ∧
    (State.completion s addr stream v).closureReported = s.closureReported ∧ (State.completion s addr stream v).ddr = s.ddr ∧
    (State.completion s addr stream v).busRead = s.busRead := by
  simp [State.completion]
@[simp] theorem State.dmaLine_keeps (s : State) (d : Dma) (i : Nat) :
    (State.dmaLine s d i).now = s.now ∧ (State.dmaLine s d i).pending = s.pending ∧ (State.dmaLine s d i).free = s.free ∧
    (State.dmaLine s d i).nv = s.nv ∧ (State.dmaLine s d i).core = s.core ∧ (State.dmaLine s d i).pin = s.pin ∧
    (State.dmaLine s d i).aon = s.aon ∧ (State.dmaLine s d i).brw = s.brw ∧ (State.dmaLine s d i).cfg = s.cfg ∧
    (State.dmaLine s d i).ids = s.ids ∧ (State.dmaLine s d i).mbx = s.mbx ∧ (State.dmaLine s d i).pool = s.pool ∧
    (State.dmaLine s d i).laneA = s.laneA ∧ (State.dmaLine s d i).laneB = s.laneB ∧ (State.dmaLine s d i).laneC = s.laneC ∧
    (State.dmaLine s d i).vot = s.vot ∧ (State.dmaLine s d i).fes = s.fes ∧ (State.dmaLine s d i).plan = s.plan ∧
    (State.dmaLine s d i).emit = s.emit ∧ (State.dmaLine s d i).lex = s.lex ∧ (State.dmaLine s d i).frz = s.frz ∧
    (State.dmaLine s d i).ccd = s.ccd ∧ (State.dmaLine s d i).rings = s.rings ∧ (State.dmaLine s d i).latches = s.latches ∧
    (State.dmaLine s d i).closed = s.closed ∧ (State.dmaLine s d i).closureReported = s.closureReported ∧
    (State.dmaLine s d i).ddr = s.ddr ∧ (State.dmaLine s d i).busRead = s.busRead := by
  simp [State.dmaLine]
@[simp] theorem State.tusWrite_keeps (s : State) (t o : Nat) (f : Tus → Tus) :
    (State.tusWrite s t o f).now = s.now ∧ (State.tusWrite s t o f).pending = s.pending ∧
    (State.tusWrite s t o f).free = s.free ∧ (State.tusWrite s t o f).nv = s.nv ∧ (State.tusWrite s t o f).core = s.core ∧
    (State.tusWrite s t o f).pin = s.pin ∧ (State.tusWrite s t o f).aon = s.aon ∧ (State.tusWrite s t o f).brw = s.brw ∧
    (State.tusWrite s t o f).cfg = s.cfg ∧ (State.tusWrite s t o f).ids = s.ids ∧ (State.tusWrite s t o f).mbx = s.mbx ∧
    (State.tusWrite s t o f).pool = s.pool ∧ (State.tusWrite s t o f).laneA = s.laneA ∧
    (State.tusWrite s t o f).laneB = s.laneB ∧ (State.tusWrite s t o f).laneC = s.laneC ∧
    (State.tusWrite s t o f).vot = s.vot ∧ (State.tusWrite s t o f).fes = s.fes ∧ (State.tusWrite s t o f).plan = s.plan ∧
    (State.tusWrite s t o f).emit = s.emit ∧ (State.tusWrite s t o f).lex = s.lex ∧ (State.tusWrite s t o f).swm = s.swm ∧
    (State.tusWrite s t o f).frz = s.frz ∧ (State.tusWrite s t o f).ccd = s.ccd ∧ (State.tusWrite s t o f).htl = s.htl ∧
    (State.tusWrite s t o f).rings = s.rings ∧ (State.tusWrite s t o f).latches = s.latches ∧
    (State.tusWrite s t o f).closed = s.closed ∧ (State.tusWrite s t o f).closureReported = s.closureReported ∧
    (State.tusWrite s t o f).ddr = s.ddr ∧ (State.tusWrite s t o f).busRead = s.busRead := by
  simp [State.tusWrite]
@[simp] theorem State.writeTus_keeps (s : State) (t o : Nat) (v : Word) :
    (State.writeTus s t o v).now = s.now ∧ (State.writeTus s t o v).pending = s.pending ∧
    (State.writeTus s t o v).free = s.free ∧ (State.writeTus s t o v).nv = s.nv ∧ (State.writeTus s t o v).core = s.core ∧
    (State.writeTus s t o v).pin = s.pin ∧ (State.writeTus s t o v).aon = s.aon ∧ (State.writeTus s t o v).brw = s.brw ∧
    (State.writeTus s t o v).cfg = s.cfg ∧ (State.writeTus s t o v).ids = s.ids ∧ (State.writeTus s t o v).mbx = s.mbx ∧
    (State.writeTus s t o v).pool = s.pool ∧ (State.writeTus s t o v).laneA = s.laneA ∧
    (State.writeTus s t o v).laneB = s.laneB ∧ (State.writeTus s t o v).laneC = s.laneC ∧
    (State.writeTus s t o v).vot = s.vot ∧ (State.writeTus s t o v).fes = s.fes ∧ (State.writeTus s t o v).plan = s.plan ∧
    (State.writeTus s t o v).emit = s.emit ∧ (State.writeTus s t o v).lex = s.lex ∧ (State.writeTus s t o v).swm = s.swm ∧
    (State.writeTus s t o v).frz = s.frz ∧ (State.writeTus s t o v).ccd = s.ccd ∧ (State.writeTus s t o v).htl = s.htl ∧
    (State.writeTus s t o v).rings = s.rings ∧ (State.writeTus s t o v).closed = s.closed ∧
    (State.writeTus s t o v).closureReported = s.closureReported ∧ (State.writeTus s t o v).ddr = s.ddr ∧
    (State.writeTus s t o v).busRead = s.busRead := by
  simp only [State.writeTus]
  (repeat' split) <;> simp_all
@[simp] theorem State.writeCeil_keeps (s : State) (v : Word) :
    (State.writeCeil s v).now = s.now ∧ (State.writeCeil s v).pending = s.pending ∧ (State.writeCeil s v).free = s.free ∧
    (State.writeCeil s v).nv = s.nv ∧ (State.writeCeil s v).core = s.core ∧ (State.writeCeil s v).pin = s.pin ∧
    (State.writeCeil s v).aon = s.aon ∧ (State.writeCeil s v).brw = s.brw ∧ (State.writeCeil s v).cfg = s.cfg ∧
    (State.writeCeil s v).ids = s.ids ∧ (State.writeCeil s v).mbx = s.mbx ∧ (State.writeCeil s v).pool = s.pool ∧
    (State.writeCeil s v).laneA = s.laneA ∧ (State.writeCeil s v).laneB = s.laneB ∧ (State.writeCeil s v).laneC = s.laneC ∧
    (State.writeCeil s v).vot = s.vot ∧ (State.writeCeil s v).fes = s.fes ∧ (State.writeCeil s v).plan = s.plan ∧
    (State.writeCeil s v).emit = s.emit ∧ (State.writeCeil s v).lex = s.lex ∧ (State.writeCeil s v).swm = s.swm ∧
    (State.writeCeil s v).frz = s.frz ∧ (State.writeCeil s v).ccd = s.ccd ∧ (State.writeCeil s v).htl = s.htl ∧
    (State.writeCeil s v).rings = s.rings ∧ (State.writeCeil s v).latches = s.latches ∧
    (State.writeCeil s v).closed = s.closed ∧ (State.writeCeil s v).closureReported = s.closureReported ∧
    (State.writeCeil s v).ddr = s.ddr ∧ (State.writeCeil s v).busRead = s.busRead := by
  simp [State.writeCeil]
@[simp] theorem State.writeSwd_keeps (s : State) (o : Nat) (v : Word) :
    (State.writeSwd s o v).now = s.now ∧ (State.writeSwd s o v).pending = s.pending ∧ (State.writeSwd s o v).free = s.free ∧
    (State.writeSwd s o v).nv = s.nv ∧ (State.writeSwd s o v).core = s.core ∧ (State.writeSwd s o v).pin = s.pin ∧
    (State.writeSwd s o v).aon = s.aon ∧ (State.writeSwd s o v).brw = s.brw ∧ (State.writeSwd s o v).cfg = s.cfg ∧
    (State.writeSwd s o v).ids = s.ids ∧ (State.writeSwd s o v).mbx = s.mbx ∧ (State.writeSwd s o v).pool = s.pool ∧
    (State.writeSwd s o v).laneA = s.laneA ∧ (State.writeSwd s o v).laneB = s.laneB ∧
    (State.writeSwd s o v).laneC = s.laneC ∧ (State.writeSwd s o v).vot = s.vot ∧ (State.writeSwd s o v).fes = s.fes ∧
    (State.writeSwd s o v).plan = s.plan ∧ (State.writeSwd s o v).emit = s.emit ∧ (State.writeSwd s o v).lex = s.lex ∧
    (State.writeSwd s o v).swm = s.swm ∧ (State.writeSwd s o v).frz = s.frz ∧ (State.writeSwd s o v).ccd = s.ccd ∧
    (State.writeSwd s o v).htl = s.htl ∧ (State.writeSwd s o v).rings = s.rings ∧
    (State.writeSwd s o v).latches = s.latches ∧ (State.writeSwd s o v).closed = s.closed ∧
    (State.writeSwd s o v).closureReported = s.closureReported ∧ (State.writeSwd s o v).ddr = s.ddr ∧
    (State.writeSwd s o v).busRead = s.busRead := by
  simp [State.writeSwd]
@[simp] theorem State.frzEvent_keeps (s : State) (i : Nat) :
    (State.frzEvent s i).now = s.now ∧ (State.frzEvent s i).pending = s.pending ∧ (State.frzEvent s i).free = s.free ∧
    (State.frzEvent s i).nv = s.nv ∧ (State.frzEvent s i).core = s.core ∧ (State.frzEvent s i).pin = s.pin ∧
    (State.frzEvent s i).aon = s.aon ∧ (State.frzEvent s i).flt = s.flt ∧ (State.frzEvent s i).brw = s.brw ∧
    (State.frzEvent s i).cfg = s.cfg ∧ (State.frzEvent s i).ids = s.ids ∧ (State.frzEvent s i).mbx = s.mbx ∧
    (State.frzEvent s i).pool = s.pool ∧ (State.frzEvent s i).laneA = s.laneA ∧ (State.frzEvent s i).laneB = s.laneB ∧
    (State.frzEvent s i).laneC = s.laneC ∧ (State.frzEvent s i).vot = s.vot ∧ (State.frzEvent s i).fes = s.fes ∧
    (State.frzEvent s i).plan = s.plan ∧ (State.frzEvent s i).emit = s.emit ∧ (State.frzEvent s i).lex = s.lex ∧
    (State.frzEvent s i).swd = s.swd ∧ (State.frzEvent s i).swm = s.swm ∧ (State.frzEvent s i).ccd = s.ccd ∧
    (State.frzEvent s i).htl = s.htl ∧ (State.frzEvent s i).rings = s.rings ∧ (State.frzEvent s i).latches = s.latches ∧
    (State.frzEvent s i).closed = s.closed ∧ (State.frzEvent s i).closureReported = s.closureReported ∧
    (State.frzEvent s i).ddr = s.ddr ∧ (State.frzEvent s i).busRead = s.busRead := by
  simp [State.frzEvent]
@[simp] theorem State.shareBytes_keeps (s : State) (b : List Byte) :
    (State.shareBytes s b).now = s.now ∧ (State.shareBytes s b).pending = s.pending ∧ (State.shareBytes s b).free = s.free ∧
    (State.shareBytes s b).nv = s.nv ∧ (State.shareBytes s b).core = s.core ∧ (State.shareBytes s b).pin = s.pin ∧
    (State.shareBytes s b).aon = s.aon ∧ (State.shareBytes s b).flt = s.flt ∧ (State.shareBytes s b).brw = s.brw ∧
    (State.shareBytes s b).cfg = s.cfg ∧ (State.shareBytes s b).ids = s.ids ∧ (State.shareBytes s b).mbx = s.mbx ∧
    (State.shareBytes s b).pool = s.pool ∧ (State.shareBytes s b).laneA = s.laneA ∧ (State.shareBytes s b).laneB = s.laneB ∧
    (State.shareBytes s b).laneC = s.laneC ∧ (State.shareBytes s b).vot = s.vot ∧ (State.shareBytes s b).fes = s.fes ∧
    (State.shareBytes s b).plan = s.plan ∧ (State.shareBytes s b).emit = s.emit ∧ (State.shareBytes s b).lex = s.lex ∧
    (State.shareBytes s b).swd = s.swd ∧ (State.shareBytes s b).swm = s.swm ∧ (State.shareBytes s b).frz = s.frz ∧
    (State.shareBytes s b).ccd = s.ccd ∧ (State.shareBytes s b).rings = s.rings ∧
    (State.shareBytes s b).latches = s.latches ∧ (State.shareBytes s b).closed = s.closed ∧
    (State.shareBytes s b).closureReported = s.closureReported ∧ (State.shareBytes s b).ddr = s.ddr ∧
    (State.shareBytes s b).busRead = s.busRead := by
  simp [State.shareBytes]
@[simp] theorem State.updPart_keeps (s : State) (id : Nat) (f : Partner → Partner) :
    (State.updPart s id f).now = s.now ∧ (State.updPart s id f).pending = s.pending ∧ (State.updPart s id f).free = s.free ∧
    (State.updPart s id f).nv = s.nv ∧ (State.updPart s id f).core = s.core ∧ (State.updPart s id f).pin = s.pin ∧
    (State.updPart s id f).aon = s.aon ∧ (State.updPart s id f).flt = s.flt ∧ (State.updPart s id f).brw = s.brw ∧
    (State.updPart s id f).cfg = s.cfg ∧ (State.updPart s id f).ids = s.ids ∧ (State.updPart s id f).mbx = s.mbx ∧
    (State.updPart s id f).pool = s.pool ∧ (State.updPart s id f).laneA = s.laneA ∧ (State.updPart s id f).laneB = s.laneB ∧
    (State.updPart s id f).laneC = s.laneC ∧ (State.updPart s id f).vot = s.vot ∧ (State.updPart s id f).fes = s.fes ∧
    (State.updPart s id f).plan = s.plan ∧ (State.updPart s id f).emit = s.emit ∧ (State.updPart s id f).lex = s.lex ∧
    (State.updPart s id f).swd = s.swd ∧ (State.updPart s id f).swm = s.swm ∧ (State.updPart s id f).ccd = s.ccd ∧
    (State.updPart s id f).rings = s.rings ∧ (State.updPart s id f).latches = s.latches ∧
    (State.updPart s id f).closed = s.closed ∧ (State.updPart s id f).closureReported = s.closureReported ∧
    (State.updPart s id f).ddr = s.ddr ∧ (State.updPart s id f).busRead = s.busRead := by
  simp only [State.updPart]
  (repeat' split) <;> simp_all
@[simp] theorem State.setPart_keeps (s : State) (id : Nat) (p : Partner) :
    (State.setPart s id p).now = s.now ∧ (State.setPart s id p).pending = s.pending ∧ (State.setPart s id p).free = s.free ∧
    (State.setPart s id p).nv = s.nv ∧ (State.setPart s id p).core = s.core ∧ (State.setPart s id p).pin = s.pin ∧
    (State.setPart s id p).aon = s.aon ∧ (State.setPart s id p).flt = s.flt ∧ (State.setPart s id p).brw = s.brw ∧
    (State.setPart s id p).cfg = s.cfg ∧ (State.setPart s id p).ids = s.ids ∧ (State.setPart s id p).mbx = s.mbx ∧
    (State.setPart s id p).pool = s.pool ∧ (State.setPart s id p).laneA = s.laneA ∧ (State.setPart s id p).laneB = s.laneB ∧
    (State.setPart s id p).laneC = s.laneC ∧ (State.setPart s id p).vot = s.vot ∧ (State.setPart s id p).fes = s.fes ∧
    (State.setPart s id p).plan = s.plan ∧ (State.setPart s id p).emit = s.emit ∧ (State.setPart s id p).lex = s.lex ∧
    (State.setPart s id p).swd = s.swd ∧ (State.setPart s id p).swm = s.swm ∧ (State.setPart s id p).ccd = s.ccd ∧
    (State.setPart s id p).rings = s.rings ∧ (State.setPart s id p).latches = s.latches ∧
    (State.setPart s id p).closed = s.closed ∧ (State.setPart s id p).closureReported = s.closureReported ∧
    (State.setPart s id p).ddr = s.ddr ∧ (State.setPart s id p).busRead = s.busRead := by
  simp [State.setPart]
@[simp] theorem State.freePart_keeps (s : State) (id : Nat) :
    (State.freePart s id).now = s.now ∧ (State.freePart s id).pending = s.pending ∧ (State.freePart s id).free = s.free ∧
    (State.freePart s id).nv = s.nv ∧ (State.freePart s id).core = s.core ∧ (State.freePart s id).pin = s.pin ∧
    (State.freePart s id).aon = s.aon ∧ (State.freePart s id).flt = s.flt ∧ (State.freePart s id).brw = s.brw ∧
    (State.freePart s id).cfg = s.cfg ∧ (State.freePart s id).ids = s.ids ∧ (State.freePart s id).mbx = s.mbx ∧
    (State.freePart s id).pool = s.pool ∧ (State.freePart s id).laneA = s.laneA ∧ (State.freePart s id).laneB = s.laneB ∧
    (State.freePart s id).laneC = s.laneC ∧ (State.freePart s id).vot = s.vot ∧ (State.freePart s id).fes = s.fes ∧
    (State.freePart s id).plan = s.plan ∧ (State.freePart s id).emit = s.emit ∧ (State.freePart s id).lex = s.lex ∧
    (State.freePart s id).swd = s.swd ∧ (State.freePart s id).swm = s.swm ∧ (State.freePart s id).ccd = s.ccd ∧
    (State.freePart s id).rings = s.rings ∧ (State.freePart s id).latches = s.latches ∧
    (State.freePart s id).closed = s.closed ∧ (State.freePart s id).closureReported = s.closureReported ∧
    (State.freePart s id).ddr = s.ddr ∧ (State.freePart s id).busRead = s.busRead := by
  simp [State.freePart]
@[simp] theorem State.push_keeps (s : State) (l : List DownItem) :
    (State.push s l).now = s.now ∧ (State.push s l).pending = s.pending ∧ (State.push s l).free = s.free ∧
    (State.push s l).nv = s.nv ∧ (State.push s l).core = s.core ∧ (State.push s l).pin = s.pin ∧
    (State.push s l).aon = s.aon ∧ (State.push s l).flt = s.flt ∧ (State.push s l).brw = s.brw ∧
    (State.push s l).cfg = s.cfg ∧ (State.push s l).ids = s.ids ∧ (State.push s l).mbx = s.mbx ∧
    (State.push s l).pool = s.pool ∧ (State.push s l).laneA = s.laneA ∧ (State.push s l).laneB = s.laneB ∧
    (State.push s l).laneC = s.laneC ∧ (State.push s l).vot = s.vot ∧ (State.push s l).fes = s.fes ∧
    (State.push s l).plan = s.plan ∧ (State.push s l).emit = s.emit ∧ (State.push s l).lex = s.lex ∧
    (State.push s l).swd = s.swd ∧ (State.push s l).swm = s.swm ∧ (State.push s l).ccd = s.ccd ∧
    (State.push s l).htl = s.htl ∧ (State.push s l).rings = s.rings ∧ (State.push s l).latches = s.latches ∧
    (State.push s l).closed = s.closed ∧ (State.push s l).closureReported = s.closureReported ∧
    (State.push s l).ddr = s.ddr ∧ (State.push s l).busRead = s.busRead := by
  simp [State.push]
@[simp] theorem State.mapStep_keeps (s : State) (eff : Nat) :
    (State.mapStep s eff).now = s.now ∧ (State.mapStep s eff).pending = s.pending ∧ (State.mapStep s eff).free = s.free ∧
    (State.mapStep s eff).nv = s.nv ∧ (State.mapStep s eff).core = s.core ∧ (State.mapStep s eff).pin = s.pin ∧
    (State.mapStep s eff).aon = s.aon ∧ (State.mapStep s eff).flt = s.flt ∧ (State.mapStep s eff).brw = s.brw ∧
    (State.mapStep s eff).cfg = s.cfg ∧ (State.mapStep s eff).ids = s.ids ∧ (State.mapStep s eff).mbx = s.mbx ∧
    (State.mapStep s eff).pool = s.pool ∧ (State.mapStep s eff).laneA = s.laneA ∧ (State.mapStep s eff).laneB = s.laneB ∧
    (State.mapStep s eff).laneC = s.laneC ∧ (State.mapStep s eff).vot = s.vot ∧ (State.mapStep s eff).fes = s.fes ∧
    (State.mapStep s eff).plan = s.plan ∧ (State.mapStep s eff).emit = s.emit ∧ (State.mapStep s eff).lex = s.lex ∧
    (State.mapStep s eff).swd = s.swd ∧ (State.mapStep s eff).swm = s.swm ∧ (State.mapStep s eff).ccd = s.ccd ∧
    (State.mapStep s eff).rings = s.rings ∧ (State.mapStep s eff).latches = s.latches ∧
    (State.mapStep s eff).closed = s.closed ∧ (State.mapStep s eff).closureReported = s.closureReported ∧
    (State.mapStep s eff).ddr = s.ddr ∧ (State.mapStep s eff).busRead = s.busRead := by
  simp [State.mapStep]
@[simp] theorem State.concLeave_keeps (s : State) (id : Nat) :
    (State.concLeave s id).now = s.now ∧ (State.concLeave s id).pending = s.pending ∧ (State.concLeave s id).free = s.free ∧
    (State.concLeave s id).nv = s.nv ∧ (State.concLeave s id).core = s.core ∧ (State.concLeave s id).pin = s.pin ∧
    (State.concLeave s id).aon = s.aon ∧ (State.concLeave s id).flt = s.flt ∧ (State.concLeave s id).brw = s.brw ∧
    (State.concLeave s id).cfg = s.cfg ∧ (State.concLeave s id).ids = s.ids ∧ (State.concLeave s id).mbx = s.mbx ∧
    (State.concLeave s id).pool = s.pool ∧ (State.concLeave s id).laneA = s.laneA ∧ (State.concLeave s id).laneB = s.laneB ∧
    (State.concLeave s id).laneC = s.laneC ∧ (State.concLeave s id).vot = s.vot ∧ (State.concLeave s id).fes = s.fes ∧
    (State.concLeave s id).plan = s.plan ∧ (State.concLeave s id).emit = s.emit ∧ (State.concLeave s id).lex = s.lex ∧
    (State.concLeave s id).swd = s.swd ∧ (State.concLeave s id).swm = s.swm ∧ (State.concLeave s id).frz = s.frz ∧
    (State.concLeave s id).htl = s.htl ∧ (State.concLeave s id).rings = s.rings ∧
    (State.concLeave s id).latches = s.latches ∧ (State.concLeave s id).closed = s.closed ∧
    (State.concLeave s id).closureReported = s.closureReported ∧ (State.concLeave s id).ddr = s.ddr ∧
    (State.concLeave s id).busRead = s.busRead := by
  simp [State.concLeave]
@[simp] theorem State.shareBookings_keeps (s : State) :
    (State.shareBookings s).pending = s.pending ∧ (State.shareBookings s).free = s.free ∧ (State.shareBookings s).nv = s.nv ∧
    (State.shareBookings s).core = s.core ∧ (State.shareBookings s).pin = s.pin ∧ (State.shareBookings s).aon = s.aon ∧
    (State.shareBookings s).flt = s.flt ∧ (State.shareBookings s).brw = s.brw ∧ (State.shareBookings s).cfg = s.cfg ∧
    (State.shareBookings s).ids = s.ids ∧ (State.shareBookings s).mbx = s.mbx ∧ (State.shareBookings s).pool = s.pool ∧
    (State.shareBookings s).laneA = s.laneA ∧ (State.shareBookings s).laneB = s.laneB ∧
    (State.shareBookings s).laneC = s.laneC ∧ (State.shareBookings s).vot = s.vot ∧ (State.shareBookings s).fes = s.fes ∧
    (State.shareBookings s).plan = s.plan ∧ (State.shareBookings s).emit = s.emit ∧ (State.shareBookings s).lex = s.lex ∧
    (State.shareBookings s).swd = s.swd ∧ (State.shareBookings s).swm = s.swm ∧ (State.shareBookings s).frz = s.frz ∧
    (State.shareBookings s).ccd = s.ccd ∧ (State.shareBookings s).rings = s.rings ∧
    (State.shareBookings s).latches = s.latches ∧ (State.shareBookings s).closed = s.closed ∧
    (State.shareBookings s).closureReported = s.closureReported ∧ (State.shareBookings s).ddr = s.ddr ∧
    (State.shareBookings s).busRead = s.busRead := by
  simp [State.shareBookings]
@[simp] theorem State.book_keeps (s : State) (b : Booking) :
    (State.book s b).pending = s.pending ∧ (State.book s b).free = s.free ∧ (State.book s b).nv = s.nv ∧
    (State.book s b).core = s.core ∧ (State.book s b).pin = s.pin ∧ (State.book s b).aon = s.aon ∧
    (State.book s b).flt = s.flt ∧ (State.book s b).brw = s.brw ∧ (State.book s b).cfg = s.cfg ∧
    (State.book s b).ids = s.ids ∧ (State.book s b).mbx = s.mbx ∧ (State.book s b).pool = s.pool ∧
    (State.book s b).laneA = s.laneA ∧ (State.book s b).laneB = s.laneB ∧ (State.book s b).laneC = s.laneC ∧
    (State.book s b).vot = s.vot ∧ (State.book s b).fes = s.fes ∧ (State.book s b).plan = s.plan ∧
    (State.book s b).emit = s.emit ∧ (State.book s b).lex = s.lex ∧ (State.book s b).swd = s.swd ∧
    (State.book s b).swm = s.swm ∧ (State.book s b).ccd = s.ccd ∧ (State.book s b).htl = s.htl ∧
    (State.book s b).rings = s.rings ∧ (State.book s b).latches = s.latches ∧ (State.book s b).closed = s.closed ∧
    (State.book s b).closureReported = s.closureReported ∧ (State.book s b).ddr = s.ddr ∧
    (State.book s b).busRead = s.busRead := by
  simp only [State.book]
  (repeat' split) <;> simp_all
@[simp] theorem State.admitUpdate_keeps (s : State) :
    (State.admitUpdate s).pending = s.pending ∧ (State.admitUpdate s).free = s.free ∧ (State.admitUpdate s).nv = s.nv ∧
    (State.admitUpdate s).core = s.core ∧ (State.admitUpdate s).pin = s.pin ∧ (State.admitUpdate s).aon = s.aon ∧
    (State.admitUpdate s).flt = s.flt ∧ (State.admitUpdate s).brw = s.brw ∧ (State.admitUpdate s).cfg = s.cfg ∧
    (State.admitUpdate s).ids = s.ids ∧ (State.admitUpdate s).mbx = s.mbx ∧ (State.admitUpdate s).pool = s.pool ∧
    (State.admitUpdate s).laneA = s.laneA ∧ (State.admitUpdate s).laneB = s.laneB ∧ (State.admitUpdate s).laneC = s.laneC ∧
    (State.admitUpdate s).vot = s.vot ∧ (State.admitUpdate s).fes = s.fes ∧ (State.admitUpdate s).plan = s.plan ∧
    (State.admitUpdate s).emit = s.emit ∧ (State.admitUpdate s).lex = s.lex ∧ (State.admitUpdate s).swd = s.swd ∧
    (State.admitUpdate s).swm = s.swm ∧ (State.admitUpdate s).ccd = s.ccd ∧ (State.admitUpdate s).rings = s.rings ∧
    (State.admitUpdate s).latches = s.latches ∧ (State.admitUpdate s).closed = s.closed ∧
    (State.admitUpdate s).closureReported = s.closureReported ∧ (State.admitUpdate s).ddr = s.ddr ∧
    (State.admitUpdate s).busRead = s.busRead := by
  simp [State.admitUpdate]
@[simp] theorem State.delayLedger_keeps (s : State) (n : Nat) (b : Booking) :
    (State.delayLedger s n b).pending = s.pending ∧ (State.delayLedger s n b).free = s.free ∧
    (State.delayLedger s n b).nv = s.nv ∧ (State.delayLedger s n b).core = s.core ∧ (State.delayLedger s n b).pin = s.pin ∧
    (State.delayLedger s n b).aon = s.aon ∧ (State.delayLedger s n b).cfg = s.cfg ∧ (State.delayLedger s n b).ids = s.ids ∧
    (State.delayLedger s n b).pool = s.pool ∧ (State.delayLedger s n b).laneA = s.laneA ∧
    (State.delayLedger s n b).laneB = s.laneB ∧ (State.delayLedger s n b).laneC = s.laneC ∧
    (State.delayLedger s n b).vot = s.vot ∧ (State.delayLedger s n b).fes = s.fes ∧ (State.delayLedger s n b).plan = s.plan ∧
    (State.delayLedger s n b).emit = s.emit ∧ (State.delayLedger s n b).lex = s.lex ∧ (State.delayLedger s n b).swd = s.swd ∧
    (State.delayLedger s n b).swm = s.swm ∧ (State.delayLedger s n b).frz = s.frz ∧
    (State.delayLedger s n b).rings = s.rings ∧ (State.delayLedger s n b).latches = s.latches ∧
    (State.delayLedger s n b).closed = s.closed ∧ (State.delayLedger s n b).closureReported = s.closureReported ∧
    (State.delayLedger s n b).ddr = s.ddr ∧ (State.delayLedger s n b).busRead = s.busRead := by
  simp [State.delayLedger]
@[simp] theorem State.stranger_keeps (s : State) (token : Nat) :
    (State.stranger s token).now = s.now ∧ (State.stranger s token).pending = s.pending ∧
    (State.stranger s token).free = s.free ∧ (State.stranger s token).nv = s.nv ∧ (State.stranger s token).core = s.core ∧
    (State.stranger s token).pin = s.pin ∧ (State.stranger s token).aon = s.aon ∧ (State.stranger s token).flt = s.flt ∧
    (State.stranger s token).brw = s.brw ∧ (State.stranger s token).cfg = s.cfg ∧ (State.stranger s token).ids = s.ids ∧
    (State.stranger s token).mbx = s.mbx ∧ (State.stranger s token).pool = s.pool ∧
    (State.stranger s token).laneA = s.laneA ∧ (State.stranger s token).laneB = s.laneB ∧
    (State.stranger s token).laneC = s.laneC ∧ (State.stranger s token).vot = s.vot ∧ (State.stranger s token).fes = s.fes ∧
    (State.stranger s token).plan = s.plan ∧ (State.stranger s token).emit = s.emit ∧ (State.stranger s token).lex = s.lex ∧
    (State.stranger s token).swd = s.swd ∧ (State.stranger s token).swm = s.swm ∧ (State.stranger s token).ccd = s.ccd ∧
    (State.stranger s token).htl = s.htl ∧ (State.stranger s token).rings = s.rings ∧
    (State.stranger s token).latches = s.latches ∧ (State.stranger s token).closed = s.closed ∧
    (State.stranger s token).closureReported = s.closureReported ∧ (State.stranger s token).ddr = s.ddr ∧
    (State.stranger s token).busRead = s.busRead := by
  simp [State.stranger]
@[simp] theorem State.enqueueAcc_keeps (s : State) (a : Acc) :
    (State.enqueueAcc s a).now = s.now ∧ (State.enqueueAcc s a).pending = s.pending ∧ (State.enqueueAcc s a).free = s.free ∧
    (State.enqueueAcc s a).nv = s.nv ∧ (State.enqueueAcc s a).core = s.core ∧ (State.enqueueAcc s a).pin = s.pin ∧
    (State.enqueueAcc s a).aon = s.aon ∧ (State.enqueueAcc s a).brw = s.brw ∧ (State.enqueueAcc s a).cfg = s.cfg ∧
    (State.enqueueAcc s a).ids = s.ids ∧ (State.enqueueAcc s a).mbx = s.mbx ∧ (State.enqueueAcc s a).pool = s.pool ∧
    (State.enqueueAcc s a).laneA = s.laneA ∧ (State.enqueueAcc s a).laneB = s.laneB ∧
    (State.enqueueAcc s a).laneC = s.laneC ∧ (State.enqueueAcc s a).vot = s.vot ∧ (State.enqueueAcc s a).fes = s.fes ∧
    (State.enqueueAcc s a).plan = s.plan ∧ (State.enqueueAcc s a).emit = s.emit ∧ (State.enqueueAcc s a).lex = s.lex ∧
    (State.enqueueAcc s a).swd = s.swd ∧ (State.enqueueAcc s a).swm = s.swm ∧ (State.enqueueAcc s a).ccd = s.ccd ∧
    (State.enqueueAcc s a).htl = s.htl ∧ (State.enqueueAcc s a).rings = s.rings ∧
    (State.enqueueAcc s a).latches = s.latches ∧ (State.enqueueAcc s a).closed = s.closed ∧
    (State.enqueueAcc s a).closureReported = s.closureReported ∧ (State.enqueueAcc s a).ddr = s.ddr ∧
    (State.enqueueAcc s a).busRead = s.busRead := by
  simp [State.enqueueAcc]
@[simp] theorem State.outcome_keeps (s : State) (sf slot code : Nat) :
    (State.outcome s sf slot code).now = s.now ∧ (State.outcome s sf slot code).pending = s.pending ∧
    (State.outcome s sf slot code).free = s.free ∧ (State.outcome s sf slot code).nv = s.nv ∧
    (State.outcome s sf slot code).core = s.core ∧ (State.outcome s sf slot code).pin = s.pin ∧
    (State.outcome s sf slot code).aon = s.aon ∧ (State.outcome s sf slot code).flt = s.flt ∧
    (State.outcome s sf slot code).brw = s.brw ∧ (State.outcome s sf slot code).cfg = s.cfg ∧
    (State.outcome s sf slot code).ids = s.ids ∧ (State.outcome s sf slot code).mbx = s.mbx ∧
    (State.outcome s sf slot code).pool = s.pool ∧ (State.outcome s sf slot code).laneA = s.laneA ∧
    (State.outcome s sf slot code).laneB = s.laneB ∧ (State.outcome s sf slot code).laneC = s.laneC ∧
    (State.outcome s sf slot code).vot = s.vot ∧ (State.outcome s sf slot code).fes = s.fes ∧
    (State.outcome s sf slot code).plan = s.plan ∧ (State.outcome s sf slot code).emit = s.emit ∧
    (State.outcome s sf slot code).lex = s.lex ∧ (State.outcome s sf slot code).swd = s.swd ∧
    (State.outcome s sf slot code).swm = s.swm ∧ (State.outcome s sf slot code).ccd = s.ccd ∧
    (State.outcome s sf slot code).htl = s.htl ∧ (State.outcome s sf slot code).rings = s.rings ∧
    (State.outcome s sf slot code).latches = s.latches ∧ (State.outcome s sf slot code).closed = s.closed ∧
    (State.outcome s sf slot code).closureReported = s.closureReported ∧ (State.outcome s sf slot code).ddr = s.ddr ∧
    (State.outcome s sf slot code).busRead = s.busRead := by
  simp only [State.outcome]
  (repeat' split) <;> simp_all
@[simp] theorem State.heardPart_keeps (s : State) (id : Nat) :
    (State.heardPart s id).now = s.now ∧ (State.heardPart s id).pending = s.pending ∧ (State.heardPart s id).free = s.free ∧
    (State.heardPart s id).nv = s.nv ∧ (State.heardPart s id).core = s.core ∧ (State.heardPart s id).pin = s.pin ∧
    (State.heardPart s id).aon = s.aon ∧ (State.heardPart s id).flt = s.flt ∧ (State.heardPart s id).brw = s.brw ∧
    (State.heardPart s id).cfg = s.cfg ∧ (State.heardPart s id).ids = s.ids ∧ (State.heardPart s id).mbx = s.mbx ∧
    (State.heardPart s id).pool = s.pool ∧ (State.heardPart s id).laneA = s.laneA ∧ (State.heardPart s id).laneB = s.laneB ∧
    (State.heardPart s id).laneC = s.laneC ∧ (State.heardPart s id).vot = s.vot ∧ (State.heardPart s id).fes = s.fes ∧
    (State.heardPart s id).plan = s.plan ∧ (State.heardPart s id).emit = s.emit ∧ (State.heardPart s id).lex = s.lex ∧
    (State.heardPart s id).swd = s.swd ∧ (State.heardPart s id).swm = s.swm ∧ (State.heardPart s id).ccd = s.ccd ∧
    (State.heardPart s id).rings = s.rings ∧ (State.heardPart s id).latches = s.latches ∧
    (State.heardPart s id).closed = s.closed ∧ (State.heardPart s id).closureReported = s.closureReported ∧
    (State.heardPart s id).ddr = s.ddr ∧ (State.heardPart s id).busRead = s.busRead := by
  simp only [State.heardPart]
  (repeat' split) <;> simp_all
@[simp] theorem State.setScheme_keeps (s : State) (id m : Nat) :
    (State.setScheme s id m).now = s.now ∧ (State.setScheme s id m).pending = s.pending ∧
    (State.setScheme s id m).free = s.free ∧ (State.setScheme s id m).nv = s.nv ∧ (State.setScheme s id m).core = s.core ∧
    (State.setScheme s id m).pin = s.pin ∧ (State.setScheme s id m).aon = s.aon ∧ (State.setScheme s id m).flt = s.flt ∧
    (State.setScheme s id m).brw = s.brw ∧ (State.setScheme s id m).cfg = s.cfg ∧ (State.setScheme s id m).ids = s.ids ∧
    (State.setScheme s id m).mbx = s.mbx ∧ (State.setScheme s id m).pool = s.pool ∧
    (State.setScheme s id m).laneA = s.laneA ∧ (State.setScheme s id m).laneB = s.laneB ∧
    (State.setScheme s id m).laneC = s.laneC ∧ (State.setScheme s id m).vot = s.vot ∧ (State.setScheme s id m).fes = s.fes ∧
    (State.setScheme s id m).plan = s.plan ∧ (State.setScheme s id m).emit = s.emit ∧ (State.setScheme s id m).lex = s.lex ∧
    (State.setScheme s id m).swd = s.swd ∧ (State.setScheme s id m).swm = s.swm ∧ (State.setScheme s id m).ccd = s.ccd ∧
    (State.setScheme s id m).rings = s.rings ∧ (State.setScheme s id m).latches = s.latches ∧
    (State.setScheme s id m).closed = s.closed ∧ (State.setScheme s id m).closureReported = s.closureReported ∧
    (State.setScheme s id m).ddr = s.ddr ∧ (State.setScheme s id m).busRead = s.busRead := by
  simp only [State.setScheme]
  (repeat' split) <;> simp_all
@[simp] theorem State.snrTake_keeps (s : State) (id : Nat) (snr : Rat) :
    (State.snrTake s id snr).now = s.now ∧ (State.snrTake s id snr).pending = s.pending ∧
    (State.snrTake s id snr).free = s.free ∧ (State.snrTake s id snr).nv = s.nv ∧ (State.snrTake s id snr).core = s.core ∧
    (State.snrTake s id snr).pin = s.pin ∧ (State.snrTake s id snr).aon = s.aon ∧ (State.snrTake s id snr).flt = s.flt ∧
    (State.snrTake s id snr).brw = s.brw ∧ (State.snrTake s id snr).cfg = s.cfg ∧ (State.snrTake s id snr).ids = s.ids ∧
    (State.snrTake s id snr).mbx = s.mbx ∧ (State.snrTake s id snr).pool = s.pool ∧
    (State.snrTake s id snr).laneA = s.laneA ∧ (State.snrTake s id snr).laneB = s.laneB ∧
    (State.snrTake s id snr).laneC = s.laneC ∧ (State.snrTake s id snr).vot = s.vot ∧ (State.snrTake s id snr).fes = s.fes ∧
    (State.snrTake s id snr).plan = s.plan ∧ (State.snrTake s id snr).emit = s.emit ∧ (State.snrTake s id snr).lex = s.lex ∧
    (State.snrTake s id snr).swd = s.swd ∧ (State.snrTake s id snr).swm = s.swm ∧ (State.snrTake s id snr).ccd = s.ccd ∧
    (State.snrTake s id snr).rings = s.rings ∧ (State.snrTake s id snr).latches = s.latches ∧
    (State.snrTake s id snr).closed = s.closed ∧ (State.snrTake s id snr).closureReported = s.closureReported ∧
    (State.snrTake s id snr).ddr = s.ddr ∧ (State.snrTake s id snr).busRead = s.busRead := by
  simp only [State.snrTake]
  (repeat' split) <;> simp_all
@[simp] theorem State.burstFail_keeps (s : State) (id : Nat) :
    (State.burstFail s id).now = s.now ∧ (State.burstFail s id).pending = s.pending ∧ (State.burstFail s id).free = s.free ∧
    (State.burstFail s id).nv = s.nv ∧ (State.burstFail s id).core = s.core ∧ (State.burstFail s id).pin = s.pin ∧
    (State.burstFail s id).aon = s.aon ∧ (State.burstFail s id).flt = s.flt ∧ (State.burstFail s id).brw = s.brw ∧
    (State.burstFail s id).cfg = s.cfg ∧ (State.burstFail s id).ids = s.ids ∧ (State.burstFail s id).mbx = s.mbx ∧
    (State.burstFail s id).pool = s.pool ∧ (State.burstFail s id).laneA = s.laneA ∧ (State.burstFail s id).laneB = s.laneB ∧
    (State.burstFail s id).laneC = s.laneC ∧ (State.burstFail s id).vot = s.vot ∧ (State.burstFail s id).fes = s.fes ∧
    (State.burstFail s id).plan = s.plan ∧ (State.burstFail s id).emit = s.emit ∧ (State.burstFail s id).lex = s.lex ∧
    (State.burstFail s id).swd = s.swd ∧ (State.burstFail s id).swm = s.swm ∧ (State.burstFail s id).ccd = s.ccd ∧
    (State.burstFail s id).rings = s.rings ∧ (State.burstFail s id).latches = s.latches ∧
    (State.burstFail s id).closed = s.closed ∧ (State.burstFail s id).closureReported = s.closureReported ∧
    (State.burstFail s id).ddr = s.ddr ∧ (State.burstFail s id).busRead = s.busRead := by
  simp only [State.burstFail]
  (repeat' split) <;> simp_all
@[simp] theorem State.writeFrz_keeps (s : State) (o : Nat) (v : Word) :
    (State.writeFrz s o v).now = s.now ∧ (State.writeFrz s o v).pending = s.pending ∧ (State.writeFrz s o v).free = s.free ∧
    (State.writeFrz s o v).nv = s.nv ∧ (State.writeFrz s o v).core = s.core ∧ (State.writeFrz s o v).pin = s.pin ∧
    (State.writeFrz s o v).aon = s.aon ∧ (State.writeFrz s o v).flt = s.flt ∧ (State.writeFrz s o v).brw = s.brw ∧
    (State.writeFrz s o v).cfg = s.cfg ∧ (State.writeFrz s o v).ids = s.ids ∧ (State.writeFrz s o v).mbx = s.mbx ∧
    (State.writeFrz s o v).pool = s.pool ∧ (State.writeFrz s o v).laneA = s.laneA ∧ (State.writeFrz s o v).laneB = s.laneB ∧
    (State.writeFrz s o v).laneC = s.laneC ∧ (State.writeFrz s o v).vot = s.vot ∧ (State.writeFrz s o v).fes = s.fes ∧
    (State.writeFrz s o v).plan = s.plan ∧ (State.writeFrz s o v).emit = s.emit ∧ (State.writeFrz s o v).lex = s.lex ∧
    (State.writeFrz s o v).swd = s.swd ∧ (State.writeFrz s o v).swm = s.swm ∧ (State.writeFrz s o v).ccd = s.ccd ∧
    (State.writeFrz s o v).htl = s.htl ∧ (State.writeFrz s o v).rings = s.rings ∧
    (State.writeFrz s o v).latches = s.latches ∧ (State.writeFrz s o v).closed = s.closed ∧
    (State.writeFrz s o v).closureReported = s.closureReported ∧ (State.writeFrz s o v).ddr = s.ddr ∧
    (State.writeFrz s o v).busRead = s.busRead := by
  simp [State.writeFrz]
@[simp] theorem State.ccdEvent_keeps (s : State) (i : Nat) :
    (State.ccdEvent s i).now = s.now ∧ (State.ccdEvent s i).pending = s.pending ∧ (State.ccdEvent s i).free = s.free ∧
    (State.ccdEvent s i).nv = s.nv ∧ (State.ccdEvent s i).core = s.core ∧ (State.ccdEvent s i).pin = s.pin ∧
    (State.ccdEvent s i).aon = s.aon ∧ (State.ccdEvent s i).flt = s.flt ∧ (State.ccdEvent s i).brw = s.brw ∧
    (State.ccdEvent s i).cfg = s.cfg ∧ (State.ccdEvent s i).ids = s.ids ∧ (State.ccdEvent s i).mbx = s.mbx ∧
    (State.ccdEvent s i).pool = s.pool ∧ (State.ccdEvent s i).laneA = s.laneA ∧ (State.ccdEvent s i).laneB = s.laneB ∧
    (State.ccdEvent s i).laneC = s.laneC ∧ (State.ccdEvent s i).vot = s.vot ∧ (State.ccdEvent s i).fes = s.fes ∧
    (State.ccdEvent s i).plan = s.plan ∧ (State.ccdEvent s i).emit = s.emit ∧ (State.ccdEvent s i).lex = s.lex ∧
    (State.ccdEvent s i).swd = s.swd ∧ (State.ccdEvent s i).swm = s.swm ∧ (State.ccdEvent s i).frz = s.frz ∧
    (State.ccdEvent s i).htl = s.htl ∧ (State.ccdEvent s i).rings = s.rings ∧ (State.ccdEvent s i).latches = s.latches ∧
    (State.ccdEvent s i).closed = s.closed ∧ (State.ccdEvent s i).closureReported = s.closureReported ∧
    (State.ccdEvent s i).ddr = s.ddr ∧ (State.ccdEvent s i).busRead = s.busRead := by
  simp [State.ccdEvent]
@[simp] theorem State.updCpart_keeps (s : State) (id : Nat) (f : CPart → CPart) :
    (State.updCpart s id f).now = s.now ∧ (State.updCpart s id f).pending = s.pending ∧
    (State.updCpart s id f).free = s.free ∧ (State.updCpart s id f).nv = s.nv ∧ (State.updCpart s id f).core = s.core ∧
    (State.updCpart s id f).pin = s.pin ∧ (State.updCpart s id f).aon = s.aon ∧ (State.updCpart s id f).flt = s.flt ∧
    (State.updCpart s id f).brw = s.brw ∧ (State.updCpart s id f).cfg = s.cfg ∧ (State.updCpart s id f).ids = s.ids ∧
    (State.updCpart s id f).mbx = s.mbx ∧ (State.updCpart s id f).pool = s.pool ∧ (State.updCpart s id f).laneA = s.laneA ∧
    (State.updCpart s id f).laneB = s.laneB ∧ (State.updCpart s id f).laneC = s.laneC ∧ (State.updCpart s id f).vot = s.vot ∧
    (State.updCpart s id f).fes = s.fes ∧ (State.updCpart s id f).plan = s.plan ∧ (State.updCpart s id f).emit = s.emit ∧
    (State.updCpart s id f).lex = s.lex ∧ (State.updCpart s id f).swd = s.swd ∧ (State.updCpart s id f).swm = s.swm ∧
    (State.updCpart s id f).frz = s.frz ∧ (State.updCpart s id f).htl = s.htl ∧ (State.updCpart s id f).rings = s.rings ∧
    (State.updCpart s id f).latches = s.latches ∧ (State.updCpart s id f).closed = s.closed ∧
    (State.updCpart s id f).closureReported = s.closureReported ∧ (State.updCpart s id f).ddr = s.ddr ∧
    (State.updCpart s id f).busRead = s.busRead := by
  simp [State.updCpart]
@[simp] theorem State.updGroup_keeps (s : State) (tag : Nat) (f : CGroup → CGroup) :
    (State.updGroup s tag f).now = s.now ∧ (State.updGroup s tag f).pending = s.pending ∧
    (State.updGroup s tag f).free = s.free ∧ (State.updGroup s tag f).nv = s.nv ∧ (State.updGroup s tag f).core = s.core ∧
    (State.updGroup s tag f).pin = s.pin ∧ (State.updGroup s tag f).aon = s.aon ∧ (State.updGroup s tag f).flt = s.flt ∧
    (State.updGroup s tag f).brw = s.brw ∧ (State.updGroup s tag f).cfg = s.cfg ∧ (State.updGroup s tag f).ids = s.ids ∧
    (State.updGroup s tag f).mbx = s.mbx ∧ (State.updGroup s tag f).pool = s.pool ∧
    (State.updGroup s tag f).laneA = s.laneA ∧ (State.updGroup s tag f).laneB = s.laneB ∧
    (State.updGroup s tag f).laneC = s.laneC ∧ (State.updGroup s tag f).vot = s.vot ∧ (State.updGroup s tag f).fes = s.fes ∧
    (State.updGroup s tag f).plan = s.plan ∧ (State.updGroup s tag f).emit = s.emit ∧ (State.updGroup s tag f).lex = s.lex ∧
    (State.updGroup s tag f).swd = s.swd ∧ (State.updGroup s tag f).swm = s.swm ∧ (State.updGroup s tag f).frz = s.frz ∧
    (State.updGroup s tag f).htl = s.htl ∧ (State.updGroup s tag f).rings = s.rings ∧
    (State.updGroup s tag f).latches = s.latches ∧ (State.updGroup s tag f).closed = s.closed ∧
    (State.updGroup s tag f).closureReported = s.closureReported ∧ (State.updGroup s tag f).ddr = s.ddr ∧
    (State.updGroup s tag f).busRead = s.busRead := by
  simp [State.updGroup]
@[simp] theorem State.formGroup_keeps (s : State) (tag : Nat) :
    (State.formGroup s tag).now = s.now ∧ (State.formGroup s tag).pending = s.pending ∧
    (State.formGroup s tag).free = s.free ∧ (State.formGroup s tag).nv = s.nv ∧ (State.formGroup s tag).core = s.core ∧
    (State.formGroup s tag).pin = s.pin ∧ (State.formGroup s tag).aon = s.aon ∧ (State.formGroup s tag).brw = s.brw ∧
    (State.formGroup s tag).cfg = s.cfg ∧ (State.formGroup s tag).ids = s.ids ∧ (State.formGroup s tag).mbx = s.mbx ∧
    (State.formGroup s tag).pool = s.pool ∧ (State.formGroup s tag).laneA = s.laneA ∧
    (State.formGroup s tag).laneB = s.laneB ∧ (State.formGroup s tag).laneC = s.laneC ∧ (State.formGroup s tag).vot = s.vot ∧
    (State.formGroup s tag).fes = s.fes ∧ (State.formGroup s tag).plan = s.plan ∧ (State.formGroup s tag).emit = s.emit ∧
    (State.formGroup s tag).lex = s.lex ∧ (State.formGroup s tag).swd = s.swd ∧ (State.formGroup s tag).swm = s.swm ∧
    (State.formGroup s tag).frz = s.frz ∧ (State.formGroup s tag).htl = s.htl ∧ (State.formGroup s tag).rings = s.rings ∧
    (State.formGroup s tag).latches = s.latches ∧ (State.formGroup s tag).closed = s.closed ∧
    (State.formGroup s tag).closureReported = s.closureReported ∧ (State.formGroup s tag).ddr = s.ddr ∧
    (State.formGroup s tag).busRead = s.busRead := by
  simp [State.formGroup]
@[simp] theorem State.concReport_keeps (s : State) (id job : Nat) :
    (State.concReport s id job).now = s.now ∧ (State.concReport s id job).pending = s.pending ∧
    (State.concReport s id job).free = s.free ∧ (State.concReport s id job).nv = s.nv ∧
    (State.concReport s id job).core = s.core ∧ (State.concReport s id job).pin = s.pin ∧
    (State.concReport s id job).aon = s.aon ∧ (State.concReport s id job).brw = s.brw ∧
    (State.concReport s id job).cfg = s.cfg ∧ (State.concReport s id job).ids = s.ids ∧
    (State.concReport s id job).mbx = s.mbx ∧ (State.concReport s id job).pool = s.pool ∧
    (State.concReport s id job).laneA = s.laneA ∧ (State.concReport s id job).laneB = s.laneB ∧
    (State.concReport s id job).laneC = s.laneC ∧ (State.concReport s id job).vot = s.vot ∧
    (State.concReport s id job).fes = s.fes ∧ (State.concReport s id job).plan = s.plan ∧
    (State.concReport s id job).emit = s.emit ∧ (State.concReport s id job).lex = s.lex ∧
    (State.concReport s id job).swd = s.swd ∧ (State.concReport s id job).swm = s.swm ∧
    (State.concReport s id job).frz = s.frz ∧ (State.concReport s id job).htl = s.htl ∧
    (State.concReport s id job).rings = s.rings ∧ (State.concReport s id job).latches = s.latches ∧
    (State.concReport s id job).closed = s.closed ∧ (State.concReport s id job).closureReported = s.closureReported ∧
    (State.concReport s id job).ddr = s.ddr ∧ (State.concReport s id job).busRead = s.busRead := by
  simp [State.concReport]
@[simp] theorem State.note_keeps (s : State) (tag : Nat) (n : StepNote) :
    (State.note s tag n).now = s.now ∧ (State.note s tag n).pending = s.pending ∧ (State.note s tag n).free = s.free ∧
    (State.note s tag n).nv = s.nv ∧ (State.note s tag n).core = s.core ∧ (State.note s tag n).pin = s.pin ∧
    (State.note s tag n).aon = s.aon ∧ (State.note s tag n).flt = s.flt ∧ (State.note s tag n).brw = s.brw ∧
    (State.note s tag n).cfg = s.cfg ∧ (State.note s tag n).ids = s.ids ∧ (State.note s tag n).mbx = s.mbx ∧
    (State.note s tag n).pool = s.pool ∧ (State.note s tag n).laneA = s.laneA ∧ (State.note s tag n).laneB = s.laneB ∧
    (State.note s tag n).laneC = s.laneC ∧ (State.note s tag n).vot = s.vot ∧ (State.note s tag n).fes = s.fes ∧
    (State.note s tag n).plan = s.plan ∧ (State.note s tag n).emit = s.emit ∧ (State.note s tag n).lex = s.lex ∧
    (State.note s tag n).swd = s.swd ∧ (State.note s tag n).swm = s.swm ∧ (State.note s tag n).frz = s.frz ∧
    (State.note s tag n).htl = s.htl ∧ (State.note s tag n).rings = s.rings ∧ (State.note s tag n).latches = s.latches ∧
    (State.note s tag n).closed = s.closed ∧ (State.note s tag n).closureReported = s.closureReported ∧
    (State.note s tag n).ddr = s.ddr ∧ (State.note s tag n).busRead = s.busRead := by
  simp [State.note]
@[simp] theorem State.govStep_keeps (s : State) (c : Nat) :
    (State.govStep s c).now = s.now ∧ (State.govStep s c).pending = s.pending ∧ (State.govStep s c).free = s.free ∧
    (State.govStep s c).nv = s.nv ∧ (State.govStep s c).core = s.core ∧ (State.govStep s c).pin = s.pin ∧
    (State.govStep s c).aon = s.aon ∧ (State.govStep s c).flt = s.flt ∧ (State.govStep s c).brw = s.brw ∧
    (State.govStep s c).cfg = s.cfg ∧ (State.govStep s c).ids = s.ids ∧ (State.govStep s c).mbx = s.mbx ∧
    (State.govStep s c).pool = s.pool ∧ (State.govStep s c).laneA = s.laneA ∧ (State.govStep s c).laneB = s.laneB ∧
    (State.govStep s c).laneC = s.laneC ∧ (State.govStep s c).vot = s.vot ∧ (State.govStep s c).fes = s.fes ∧
    (State.govStep s c).plan = s.plan ∧ (State.govStep s c).emit = s.emit ∧ (State.govStep s c).lex = s.lex ∧
    (State.govStep s c).swd = s.swd ∧ (State.govStep s c).swm = s.swm ∧ (State.govStep s c).frz = s.frz ∧
    (State.govStep s c).htl = s.htl ∧ (State.govStep s c).rings = s.rings ∧ (State.govStep s c).latches = s.latches ∧
    (State.govStep s c).closed = s.closed ∧ (State.govStep s c).closureReported = s.closureReported ∧
    (State.govStep s c).ddr = s.ddr ∧ (State.govStep s c).busRead = s.busRead := by
  simp only [State.govStep]
  (repeat' split) <;> simp_all
@[simp] theorem State.govern_keeps (s : State) :
    (State.govern s).now = s.now ∧ (State.govern s).pending = s.pending ∧ (State.govern s).free = s.free ∧
    (State.govern s).nv = s.nv ∧ (State.govern s).core = s.core ∧ (State.govern s).pin = s.pin ∧
    (State.govern s).aon = s.aon ∧ (State.govern s).flt = s.flt ∧ (State.govern s).brw = s.brw ∧
    (State.govern s).cfg = s.cfg ∧ (State.govern s).ids = s.ids ∧ (State.govern s).mbx = s.mbx ∧
    (State.govern s).pool = s.pool ∧ (State.govern s).laneA = s.laneA ∧ (State.govern s).laneB = s.laneB ∧
    (State.govern s).laneC = s.laneC ∧ (State.govern s).vot = s.vot ∧ (State.govern s).fes = s.fes ∧
    (State.govern s).plan = s.plan ∧ (State.govern s).emit = s.emit ∧ (State.govern s).lex = s.lex ∧
    (State.govern s).swd = s.swd ∧ (State.govern s).swm = s.swm ∧ (State.govern s).frz = s.frz ∧
    (State.govern s).htl = s.htl ∧ (State.govern s).rings = s.rings ∧ (State.govern s).latches = s.latches ∧
    (State.govern s).closed = s.closed ∧ (State.govern s).closureReported = s.closureReported ∧
    (State.govern s).ddr = s.ddr ∧ (State.govern s).busRead = s.busRead := by
  simp [State.govern]
@[simp] theorem State.keepReq_keeps (s : State) (r : ReqRec) (sf : Nat) :
    (State.keepReq s r sf).now = s.now ∧ (State.keepReq s r sf).pending = s.pending ∧ (State.keepReq s r sf).free = s.free ∧
    (State.keepReq s r sf).nv = s.nv ∧ (State.keepReq s r sf).core = s.core ∧ (State.keepReq s r sf).pin = s.pin ∧
    (State.keepReq s r sf).aon = s.aon ∧ (State.keepReq s r sf).flt = s.flt ∧ (State.keepReq s r sf).brw = s.brw ∧
    (State.keepReq s r sf).cfg = s.cfg ∧ (State.keepReq s r sf).ids = s.ids ∧ (State.keepReq s r sf).mbx = s.mbx ∧
    (State.keepReq s r sf).pool = s.pool ∧ (State.keepReq s r sf).laneA = s.laneA ∧ (State.keepReq s r sf).laneB = s.laneB ∧
    (State.keepReq s r sf).laneC = s.laneC ∧ (State.keepReq s r sf).vot = s.vot ∧ (State.keepReq s r sf).fes = s.fes ∧
    (State.keepReq s r sf).plan = s.plan ∧ (State.keepReq s r sf).emit = s.emit ∧ (State.keepReq s r sf).lex = s.lex ∧
    (State.keepReq s r sf).swd = s.swd ∧ (State.keepReq s r sf).swm = s.swm ∧ (State.keepReq s r sf).frz = s.frz ∧
    (State.keepReq s r sf).htl = s.htl ∧ (State.keepReq s r sf).rings = s.rings ∧
    (State.keepReq s r sf).latches = s.latches ∧ (State.keepReq s r sf).closed = s.closed ∧
    (State.keepReq s r sf).closureReported = s.closureReported ∧ (State.keepReq s r sf).ddr = s.ddr ∧
    (State.keepReq s r sf).busRead = s.busRead := by
  simp [State.keepReq]
@[simp] theorem State.publishReq_keeps (s : State) (tag : Nat) :
    (State.publishReq s tag).now = s.now ∧ (State.publishReq s tag).pending = s.pending ∧
    (State.publishReq s tag).free = s.free ∧ (State.publishReq s tag).nv = s.nv ∧ (State.publishReq s tag).core = s.core ∧
    (State.publishReq s tag).pin = s.pin ∧ (State.publishReq s tag).aon = s.aon ∧ (State.publishReq s tag).flt = s.flt ∧
    (State.publishReq s tag).brw = s.brw ∧ (State.publishReq s tag).cfg = s.cfg ∧ (State.publishReq s tag).ids = s.ids ∧
    (State.publishReq s tag).mbx = s.mbx ∧ (State.publishReq s tag).pool = s.pool ∧
    (State.publishReq s tag).laneA = s.laneA ∧ (State.publishReq s tag).laneB = s.laneB ∧
    (State.publishReq s tag).laneC = s.laneC ∧ (State.publishReq s tag).vot = s.vot ∧ (State.publishReq s tag).fes = s.fes ∧
    (State.publishReq s tag).plan = s.plan ∧ (State.publishReq s tag).emit = s.emit ∧ (State.publishReq s tag).lex = s.lex ∧
    (State.publishReq s tag).swd = s.swd ∧ (State.publishReq s tag).swm = s.swm ∧ (State.publishReq s tag).frz = s.frz ∧
    (State.publishReq s tag).rings = s.rings ∧ (State.publishReq s tag).latches = s.latches ∧
    (State.publishReq s tag).closed = s.closed ∧ (State.publishReq s tag).closureReported = s.closureReported ∧
    (State.publishReq s tag).ddr = s.ddr ∧ (State.publishReq s tag).busRead = s.busRead := by
  simp only [State.publishReq]
  (repeat' split) <;> simp_all
@[simp] theorem State.groupLedger_keeps (s : State) (g : CGroup) :
    (State.groupLedger s g).now = s.now ∧ (State.groupLedger s g).pending = s.pending ∧
    (State.groupLedger s g).free = s.free ∧ (State.groupLedger s g).nv = s.nv ∧ (State.groupLedger s g).core = s.core ∧
    (State.groupLedger s g).pin = s.pin ∧ (State.groupLedger s g).aon = s.aon ∧ (State.groupLedger s g).cfg = s.cfg ∧
    (State.groupLedger s g).ids = s.ids ∧ (State.groupLedger s g).pool = s.pool ∧ (State.groupLedger s g).laneA = s.laneA ∧
    (State.groupLedger s g).laneB = s.laneB ∧ (State.groupLedger s g).laneC = s.laneC ∧ (State.groupLedger s g).vot = s.vot ∧
    (State.groupLedger s g).fes = s.fes ∧ (State.groupLedger s g).plan = s.plan ∧ (State.groupLedger s g).emit = s.emit ∧
    (State.groupLedger s g).lex = s.lex ∧ (State.groupLedger s g).swd = s.swd ∧ (State.groupLedger s g).swm = s.swm ∧
    (State.groupLedger s g).frz = s.frz ∧ (State.groupLedger s g).rings = s.rings ∧
    (State.groupLedger s g).latches = s.latches ∧ (State.groupLedger s g).closed = s.closed ∧
    (State.groupLedger s g).closureReported = s.closureReported ∧ (State.groupLedger s g).ddr = s.ddr ∧
    (State.groupLedger s g).busRead = s.busRead := by
  simp [State.groupLedger]
@[simp] theorem State.enforce_keeps (s : State) (tag : Nat) (a : Action) :
    (State.enforce s tag a).now = s.now ∧ (State.enforce s tag a).pending = s.pending ∧
    (State.enforce s tag a).free = s.free ∧ (State.enforce s tag a).nv = s.nv ∧ (State.enforce s tag a).core = s.core ∧
    (State.enforce s tag a).pin = s.pin ∧ (State.enforce s tag a).aon = s.aon ∧ (State.enforce s tag a).cfg = s.cfg ∧
    (State.enforce s tag a).ids = s.ids ∧ (State.enforce s tag a).pool = s.pool ∧ (State.enforce s tag a).laneA = s.laneA ∧
    (State.enforce s tag a).laneB = s.laneB ∧ (State.enforce s tag a).laneC = s.laneC ∧ (State.enforce s tag a).vot = s.vot ∧
    (State.enforce s tag a).fes = s.fes ∧ (State.enforce s tag a).plan = s.plan ∧ (State.enforce s tag a).emit = s.emit ∧
    (State.enforce s tag a).lex = s.lex ∧ (State.enforce s tag a).swd = s.swd ∧ (State.enforce s tag a).swm = s.swm ∧
    (State.enforce s tag a).frz = s.frz ∧ (State.enforce s tag a).rings = s.rings ∧
    (State.enforce s tag a).latches = s.latches ∧ (State.enforce s tag a).closed = s.closed ∧
    (State.enforce s tag a).closureReported = s.closureReported ∧ (State.enforce s tag a).ddr = s.ddr ∧
    (State.enforce s tag a).busRead = s.busRead := by
  simp only [State.enforce]
  (repeat' split) <;> simp_all
@[simp] theorem State.countDeferral_keeps (s : State) (tag : Nat) :
    (State.countDeferral s tag).now = s.now ∧ (State.countDeferral s tag).pending = s.pending ∧
    (State.countDeferral s tag).free = s.free ∧ (State.countDeferral s tag).nv = s.nv ∧
    (State.countDeferral s tag).core = s.core ∧ (State.countDeferral s tag).pin = s.pin ∧
    (State.countDeferral s tag).aon = s.aon ∧ (State.countDeferral s tag).flt = s.flt ∧
    (State.countDeferral s tag).brw = s.brw ∧ (State.countDeferral s tag).cfg = s.cfg ∧
    (State.countDeferral s tag).ids = s.ids ∧ (State.countDeferral s tag).mbx = s.mbx ∧
    (State.countDeferral s tag).pool = s.pool ∧ (State.countDeferral s tag).laneA = s.laneA ∧
    (State.countDeferral s tag).laneB = s.laneB ∧ (State.countDeferral s tag).laneC = s.laneC ∧
    (State.countDeferral s tag).vot = s.vot ∧ (State.countDeferral s tag).fes = s.fes ∧
    (State.countDeferral s tag).plan = s.plan ∧ (State.countDeferral s tag).emit = s.emit ∧
    (State.countDeferral s tag).lex = s.lex ∧ (State.countDeferral s tag).swd = s.swd ∧
    (State.countDeferral s tag).swm = s.swm ∧ (State.countDeferral s tag).frz = s.frz ∧
    (State.countDeferral s tag).htl = s.htl ∧ (State.countDeferral s tag).rings = s.rings ∧
    (State.countDeferral s tag).latches = s.latches ∧ (State.countDeferral s tag).closed = s.closed ∧
    (State.countDeferral s tag).closureReported = s.closureReported ∧ (State.countDeferral s tag).ddr = s.ddr ∧
    (State.countDeferral s tag).busRead = s.busRead := by
  simp [State.countDeferral]
@[simp] theorem State.sendOffer_keeps (s : State) (tag : Nat) (r : CRound) :
    (State.sendOffer s tag r).now = s.now ∧ (State.sendOffer s tag r).pending = s.pending ∧
    (State.sendOffer s tag r).free = s.free ∧ (State.sendOffer s tag r).nv = s.nv ∧ (State.sendOffer s tag r).core = s.core ∧
    (State.sendOffer s tag r).pin = s.pin ∧ (State.sendOffer s tag r).aon = s.aon ∧ (State.sendOffer s tag r).flt = s.flt ∧
    (State.sendOffer s tag r).brw = s.brw ∧ (State.sendOffer s tag r).cfg = s.cfg ∧ (State.sendOffer s tag r).ids = s.ids ∧
    (State.sendOffer s tag r).mbx = s.mbx ∧ (State.sendOffer s tag r).pool = s.pool ∧
    (State.sendOffer s tag r).laneA = s.laneA ∧ (State.sendOffer s tag r).laneB = s.laneB ∧
    (State.sendOffer s tag r).laneC = s.laneC ∧ (State.sendOffer s tag r).vot = s.vot ∧
    (State.sendOffer s tag r).fes = s.fes ∧ (State.sendOffer s tag r).plan = s.plan ∧
    (State.sendOffer s tag r).emit = s.emit ∧ (State.sendOffer s tag r).lex = s.lex ∧ (State.sendOffer s tag r).swd = s.swd ∧
    (State.sendOffer s tag r).swm = s.swm ∧ (State.sendOffer s tag r).ccd = s.ccd ∧ (State.sendOffer s tag r).htl = s.htl ∧
    (State.sendOffer s tag r).rings = s.rings ∧ (State.sendOffer s tag r).latches = s.latches ∧
    (State.sendOffer s tag r).closed = s.closed ∧ (State.sendOffer s tag r).closureReported = s.closureReported ∧
    (State.sendOffer s tag r).ddr = s.ddr ∧ (State.sendOffer s tag r).busRead = s.busRead := by
  simp [State.sendOffer]
@[simp] theorem State.takeDecision_keeps (s : State) (d : DecRec) :
    (State.takeDecision s d).now = s.now ∧ (State.takeDecision s d).pending = s.pending ∧
    (State.takeDecision s d).free = s.free ∧ (State.takeDecision s d).nv = s.nv ∧ (State.takeDecision s d).core = s.core ∧
    (State.takeDecision s d).pin = s.pin ∧ (State.takeDecision s d).aon = s.aon ∧ (State.takeDecision s d).cfg = s.cfg ∧
    (State.takeDecision s d).ids = s.ids ∧ (State.takeDecision s d).pool = s.pool ∧
    (State.takeDecision s d).laneA = s.laneA ∧ (State.takeDecision s d).laneB = s.laneB ∧
    (State.takeDecision s d).laneC = s.laneC ∧ (State.takeDecision s d).vot = s.vot ∧ (State.takeDecision s d).fes = s.fes ∧
    (State.takeDecision s d).plan = s.plan ∧ (State.takeDecision s d).emit = s.emit ∧ (State.takeDecision s d).lex = s.lex ∧
    (State.takeDecision s d).swd = s.swd ∧ (State.takeDecision s d).swm = s.swm ∧ (State.takeDecision s d).rings = s.rings ∧
    (State.takeDecision s d).latches = s.latches ∧ (State.takeDecision s d).closed = s.closed ∧
    (State.takeDecision s d).closureReported = s.closureReported ∧ (State.takeDecision s d).ddr = s.ddr ∧
    (State.takeDecision s d).busRead = s.busRead := by
  simp only [State.takeDecision]
  (repeat' split) <;> simp_all
@[simp] theorem State.decide__keeps (s : State) (d : DecRec) :
    (State.decide_ s d).now = s.now ∧ (State.decide_ s d).pending = s.pending ∧ (State.decide_ s d).free = s.free ∧
    (State.decide_ s d).nv = s.nv ∧ (State.decide_ s d).core = s.core ∧ (State.decide_ s d).pin = s.pin ∧
    (State.decide_ s d).aon = s.aon ∧ (State.decide_ s d).cfg = s.cfg ∧ (State.decide_ s d).ids = s.ids ∧
    (State.decide_ s d).pool = s.pool ∧ (State.decide_ s d).laneA = s.laneA ∧ (State.decide_ s d).laneB = s.laneB ∧
    (State.decide_ s d).laneC = s.laneC ∧ (State.decide_ s d).vot = s.vot ∧ (State.decide_ s d).fes = s.fes ∧
    (State.decide_ s d).plan = s.plan ∧ (State.decide_ s d).emit = s.emit ∧ (State.decide_ s d).lex = s.lex ∧
    (State.decide_ s d).swd = s.swd ∧ (State.decide_ s d).swm = s.swm ∧ (State.decide_ s d).rings = s.rings ∧
    (State.decide_ s d).latches = s.latches ∧ (State.decide_ s d).closed = s.closed ∧
    (State.decide_ s d).closureReported = s.closureReported ∧ (State.decide_ s d).ddr = s.ddr ∧
    (State.decide_ s d).busRead = s.busRead := by
  simp [State.decide_]
@[simp] theorem State.offer_keeps (s : State) (tag : Nat) (a : Action) :
    (State.offer s tag a).now = s.now ∧ (State.offer s tag a).pending = s.pending ∧ (State.offer s tag a).free = s.free ∧
    (State.offer s tag a).nv = s.nv ∧ (State.offer s tag a).core = s.core ∧ (State.offer s tag a).pin = s.pin ∧
    (State.offer s tag a).aon = s.aon ∧ (State.offer s tag a).cfg = s.cfg ∧ (State.offer s tag a).ids = s.ids ∧
    (State.offer s tag a).pool = s.pool ∧ (State.offer s tag a).laneA = s.laneA ∧ (State.offer s tag a).laneB = s.laneB ∧
    (State.offer s tag a).laneC = s.laneC ∧ (State.offer s tag a).vot = s.vot ∧ (State.offer s tag a).fes = s.fes ∧
    (State.offer s tag a).plan = s.plan ∧ (State.offer s tag a).emit = s.emit ∧ (State.offer s tag a).lex = s.lex ∧
    (State.offer s tag a).swd = s.swd ∧ (State.offer s tag a).swm = s.swm ∧ (State.offer s tag a).rings = s.rings ∧
    (State.offer s tag a).latches = s.latches ∧ (State.offer s tag a).closed = s.closed ∧
    (State.offer s tag a).closureReported = s.closureReported ∧ (State.offer s tag a).ddr = s.ddr ∧
    (State.offer s tag a).busRead = s.busRead := by
  simp only [State.offer]
  (repeat' split) <;> simp_all
@[simp] theorem State.steer_keeps (s : State) (tag : Nat) :
    (State.steer s tag).now = s.now ∧ (State.steer s tag).pending = s.pending ∧ (State.steer s tag).free = s.free ∧
    (State.steer s tag).nv = s.nv ∧ (State.steer s tag).core = s.core ∧ (State.steer s tag).pin = s.pin ∧
    (State.steer s tag).aon = s.aon ∧ (State.steer s tag).cfg = s.cfg ∧ (State.steer s tag).ids = s.ids ∧
    (State.steer s tag).pool = s.pool ∧ (State.steer s tag).laneA = s.laneA ∧ (State.steer s tag).laneB = s.laneB ∧
    (State.steer s tag).laneC = s.laneC ∧ (State.steer s tag).vot = s.vot ∧ (State.steer s tag).fes = s.fes ∧
    (State.steer s tag).plan = s.plan ∧ (State.steer s tag).emit = s.emit ∧ (State.steer s tag).lex = s.lex ∧
    (State.steer s tag).swd = s.swd ∧ (State.steer s tag).swm = s.swm ∧ (State.steer s tag).rings = s.rings ∧
    (State.steer s tag).latches = s.latches ∧ (State.steer s tag).closed = s.closed ∧
    (State.steer s tag).closureReported = s.closureReported ∧ (State.steer s tag).ddr = s.ddr ∧
    (State.steer s tag).busRead = s.busRead := by
  simp only [State.steer]
  (repeat' split) <;> simp_all
@[simp] theorem State.emergencyPath_keeps (s : State) (tag : Nat) :
    (State.emergencyPath s tag).now = s.now ∧ (State.emergencyPath s tag).pending = s.pending ∧
    (State.emergencyPath s tag).free = s.free ∧ (State.emergencyPath s tag).nv = s.nv ∧
    (State.emergencyPath s tag).core = s.core ∧ (State.emergencyPath s tag).pin = s.pin ∧
    (State.emergencyPath s tag).aon = s.aon ∧ (State.emergencyPath s tag).cfg = s.cfg ∧
    (State.emergencyPath s tag).ids = s.ids ∧ (State.emergencyPath s tag).pool = s.pool ∧
    (State.emergencyPath s tag).laneA = s.laneA ∧ (State.emergencyPath s tag).laneB = s.laneB ∧
    (State.emergencyPath s tag).laneC = s.laneC ∧ (State.emergencyPath s tag).vot = s.vot ∧
    (State.emergencyPath s tag).fes = s.fes ∧ (State.emergencyPath s tag).plan = s.plan ∧
    (State.emergencyPath s tag).emit = s.emit ∧ (State.emergencyPath s tag).lex = s.lex ∧
    (State.emergencyPath s tag).swd = s.swd ∧ (State.emergencyPath s tag).swm = s.swm ∧
    (State.emergencyPath s tag).rings = s.rings ∧ (State.emergencyPath s tag).latches = s.latches ∧
    (State.emergencyPath s tag).closed = s.closed ∧ (State.emergencyPath s tag).closureReported = s.closureReported ∧
    (State.emergencyPath s tag).ddr = s.ddr ∧ (State.emergencyPath s tag).busRead = s.busRead := by
  simp only [State.emergencyPath]
  (repeat' split) <;> simp_all
@[simp] theorem State.indexReport_keeps (s : State) (id k : Nat) :
    (State.indexReport s id k).now = s.now ∧ (State.indexReport s id k).pending = s.pending ∧
    (State.indexReport s id k).free = s.free ∧ (State.indexReport s id k).nv = s.nv ∧
    (State.indexReport s id k).core = s.core ∧ (State.indexReport s id k).pin = s.pin ∧
    (State.indexReport s id k).aon = s.aon ∧ (State.indexReport s id k).flt = s.flt ∧
    (State.indexReport s id k).brw = s.brw ∧ (State.indexReport s id k).cfg = s.cfg ∧
    (State.indexReport s id k).ids = s.ids ∧ (State.indexReport s id k).mbx = s.mbx ∧
    (State.indexReport s id k).pool = s.pool ∧ (State.indexReport s id k).laneA = s.laneA ∧
    (State.indexReport s id k).laneB = s.laneB ∧ (State.indexReport s id k).laneC = s.laneC ∧
    (State.indexReport s id k).vot = s.vot ∧ (State.indexReport s id k).fes = s.fes ∧
    (State.indexReport s id k).plan = s.plan ∧ (State.indexReport s id k).emit = s.emit ∧
    (State.indexReport s id k).lex = s.lex ∧ (State.indexReport s id k).swd = s.swd ∧
    (State.indexReport s id k).swm = s.swm ∧ (State.indexReport s id k).frz = s.frz ∧
    (State.indexReport s id k).htl = s.htl ∧ (State.indexReport s id k).rings = s.rings ∧
    (State.indexReport s id k).latches = s.latches ∧ (State.indexReport s id k).closed = s.closed ∧
    (State.indexReport s id k).closureReported = s.closureReported ∧ (State.indexReport s id k).ddr = s.ddr ∧
    (State.indexReport s id k).busRead = s.busRead := by
  simp [State.indexReport]
@[simp] theorem State.ripen_keeps (s : State) (tag : Nat) :
    (State.ripen s tag).now = s.now ∧ (State.ripen s tag).pending = s.pending ∧ (State.ripen s tag).free = s.free ∧
    (State.ripen s tag).nv = s.nv ∧ (State.ripen s tag).core = s.core ∧ (State.ripen s tag).pin = s.pin ∧
    (State.ripen s tag).aon = s.aon ∧ (State.ripen s tag).cfg = s.cfg ∧ (State.ripen s tag).ids = s.ids ∧
    (State.ripen s tag).pool = s.pool ∧ (State.ripen s tag).laneA = s.laneA ∧ (State.ripen s tag).laneB = s.laneB ∧
    (State.ripen s tag).laneC = s.laneC ∧ (State.ripen s tag).vot = s.vot ∧ (State.ripen s tag).fes = s.fes ∧
    (State.ripen s tag).plan = s.plan ∧ (State.ripen s tag).emit = s.emit ∧ (State.ripen s tag).lex = s.lex ∧
    (State.ripen s tag).swd = s.swd ∧ (State.ripen s tag).swm = s.swm ∧ (State.ripen s tag).frz = s.frz ∧
    (State.ripen s tag).rings = s.rings ∧ (State.ripen s tag).latches = s.latches ∧ (State.ripen s tag).closed = s.closed ∧
    (State.ripen s tag).closureReported = s.closureReported ∧ (State.ripen s tag).ddr = s.ddr ∧
    (State.ripen s tag).busRead = s.busRead := by
  simp only [State.ripen]
  (repeat' split) <;> simp_all
@[simp] theorem State.renewRecord_keeps (s : State) (tag : Nat) :
    (State.renewRecord s tag).now = s.now ∧ (State.renewRecord s tag).pending = s.pending ∧
    (State.renewRecord s tag).free = s.free ∧ (State.renewRecord s tag).nv = s.nv ∧ (State.renewRecord s tag).core = s.core ∧
    (State.renewRecord s tag).pin = s.pin ∧ (State.renewRecord s tag).aon = s.aon ∧ (State.renewRecord s tag).cfg = s.cfg ∧
    (State.renewRecord s tag).ids = s.ids ∧ (State.renewRecord s tag).pool = s.pool ∧
    (State.renewRecord s tag).laneA = s.laneA ∧ (State.renewRecord s tag).laneB = s.laneB ∧
    (State.renewRecord s tag).laneC = s.laneC ∧ (State.renewRecord s tag).vot = s.vot ∧
    (State.renewRecord s tag).fes = s.fes ∧ (State.renewRecord s tag).plan = s.plan ∧
    (State.renewRecord s tag).emit = s.emit ∧ (State.renewRecord s tag).lex = s.lex ∧ (State.renewRecord s tag).swd = s.swd ∧
    (State.renewRecord s tag).swm = s.swm ∧ (State.renewRecord s tag).rings = s.rings ∧
    (State.renewRecord s tag).latches = s.latches ∧ (State.renewRecord s tag).closed = s.closed ∧
    (State.renewRecord s tag).closureReported = s.closureReported ∧ (State.renewRecord s tag).ddr = s.ddr ∧
    (State.renewRecord s tag).busRead = s.busRead := by
  simp only [State.renewRecord]
  (repeat' split) <;> simp_all
@[simp] theorem State.capPath_keeps (s : State) (share : Rat) :
    (State.capPath s share).now = s.now ∧ (State.capPath s share).pending = s.pending ∧
    (State.capPath s share).free = s.free ∧ (State.capPath s share).nv = s.nv ∧ (State.capPath s share).core = s.core ∧
    (State.capPath s share).pin = s.pin ∧ (State.capPath s share).aon = s.aon ∧ (State.capPath s share).flt = s.flt ∧
    (State.capPath s share).brw = s.brw ∧ (State.capPath s share).cfg = s.cfg ∧ (State.capPath s share).ids = s.ids ∧
    (State.capPath s share).mbx = s.mbx ∧ (State.capPath s share).pool = s.pool ∧ (State.capPath s share).laneA = s.laneA ∧
    (State.capPath s share).laneB = s.laneB ∧ (State.capPath s share).laneC = s.laneC ∧ (State.capPath s share).vot = s.vot ∧
    (State.capPath s share).fes = s.fes ∧ (State.capPath s share).plan = s.plan ∧ (State.capPath s share).emit = s.emit ∧
    (State.capPath s share).lex = s.lex ∧ (State.capPath s share).swd = s.swd ∧ (State.capPath s share).swm = s.swm ∧
    (State.capPath s share).frz = s.frz ∧ (State.capPath s share).htl = s.htl ∧ (State.capPath s share).rings = s.rings ∧
    (State.capPath s share).latches = s.latches ∧ (State.capPath s share).closed = s.closed ∧
    (State.capPath s share).closureReported = s.closureReported ∧ (State.capPath s share).ddr = s.ddr ∧
    (State.capPath s share).busRead = s.busRead := by
  simp [State.capPath]
@[simp] theorem State.clipStep_keeps (s : State) :
    (State.clipStep s).now = s.now ∧ (State.clipStep s).pending = s.pending ∧ (State.clipStep s).free = s.free ∧
    (State.clipStep s).nv = s.nv ∧ (State.clipStep s).core = s.core ∧ (State.clipStep s).pin = s.pin ∧
    (State.clipStep s).aon = s.aon ∧ (State.clipStep s).cfg = s.cfg ∧ (State.clipStep s).ids = s.ids ∧
    (State.clipStep s).pool = s.pool ∧ (State.clipStep s).laneA = s.laneA ∧ (State.clipStep s).laneB = s.laneB ∧
    (State.clipStep s).laneC = s.laneC ∧ (State.clipStep s).vot = s.vot ∧ (State.clipStep s).fes = s.fes ∧
    (State.clipStep s).plan = s.plan ∧ (State.clipStep s).emit = s.emit ∧ (State.clipStep s).lex = s.lex ∧
    (State.clipStep s).swd = s.swd ∧ (State.clipStep s).swm = s.swm ∧ (State.clipStep s).frz = s.frz ∧
    (State.clipStep s).rings = s.rings ∧ (State.clipStep s).latches = s.latches ∧ (State.clipStep s).closed = s.closed ∧
    (State.clipStep s).closureReported = s.closureReported ∧ (State.clipStep s).ddr = s.ddr ∧
    (State.clipStep s).busRead = s.busRead := by
  simp only [State.clipStep]
  (repeat' split) <;> simp_all
@[simp] theorem State.capStep_keeps (s : State) :
    (State.capStep s).now = s.now ∧ (State.capStep s).pending = s.pending ∧ (State.capStep s).free = s.free ∧
    (State.capStep s).nv = s.nv ∧ (State.capStep s).core = s.core ∧ (State.capStep s).pin = s.pin ∧
    (State.capStep s).aon = s.aon ∧ (State.capStep s).flt = s.flt ∧ (State.capStep s).brw = s.brw ∧
    (State.capStep s).cfg = s.cfg ∧ (State.capStep s).ids = s.ids ∧ (State.capStep s).mbx = s.mbx ∧
    (State.capStep s).pool = s.pool ∧ (State.capStep s).laneA = s.laneA ∧ (State.capStep s).laneB = s.laneB ∧
    (State.capStep s).laneC = s.laneC ∧ (State.capStep s).vot = s.vot ∧ (State.capStep s).fes = s.fes ∧
    (State.capStep s).plan = s.plan ∧ (State.capStep s).emit = s.emit ∧ (State.capStep s).lex = s.lex ∧
    (State.capStep s).swd = s.swd ∧ (State.capStep s).swm = s.swm ∧ (State.capStep s).frz = s.frz ∧
    (State.capStep s).htl = s.htl ∧ (State.capStep s).rings = s.rings ∧ (State.capStep s).latches = s.latches ∧
    (State.capStep s).closed = s.closed ∧ (State.capStep s).closureReported = s.closureReported ∧
    (State.capStep s).ddr = s.ddr ∧ (State.capStep s).busRead = s.busRead := by
  simp only [State.capStep]
  (repeat' split) <;> simp_all
end Sys2Proof.Machine
end

