-- ==== Sys2Proof/Laws/Keeps4.lean ====
section
/-! SUPPORT. Frames of shared operations: what the operations of concord and Heathline leave unchanged. Each lemma lists fields of State that the operation does not touch. -/
namespace Sys2Proof.Machine
set_option linter.all false
@[simp] theorem State.writeCcd_keeps (s : State) (o : Nat) (v : Word) :
    (State.writeCcd s o v).now = s.now ∧ (State.writeCcd s o v).pending = s.pending ∧ (State.writeCcd s o v).free = s.free ∧
    (State.writeCcd s o v).nv = s.nv ∧ (State.writeCcd s o v).core = s.core ∧ (State.writeCcd s o v).pin = s.pin ∧
    (State.writeCcd s o v).aon = s.aon ∧ (State.writeCcd s o v).flt = s.flt ∧ (State.writeCcd s o v).brw = s.brw ∧
    (State.writeCcd s o v).cfg = s.cfg ∧ (State.writeCcd s o v).ids = s.ids ∧ (State.writeCcd s o v).mbx = s.mbx ∧
    (State.writeCcd s o v).pool = s.pool ∧ (State.writeCcd s o v).laneA = s.laneA ∧ (State.writeCcd s o v).laneB = s.laneB ∧
    (State.writeCcd s o v).laneC = s.laneC ∧ (State.writeCcd s o v).vot = s.vot ∧ (State.writeCcd s o v).fes = s.fes ∧
    (State.writeCcd s o v).plan = s.plan ∧ (State.writeCcd s o v).emit = s.emit ∧ (State.writeCcd s o v).lex = s.lex ∧
    (State.writeCcd s o v).swd = s.swd ∧ (State.writeCcd s o v).swm = s.swm ∧ (State.writeCcd s o v).frz = s.frz ∧
    (State.writeCcd s o v).htl = s.htl ∧ (State.writeCcd s o v).rings = s.rings ∧
    (State.writeCcd s o v).latches = s.latches ∧ (State.writeCcd s o v).closed = s.closed ∧
    (State.writeCcd s o v).closureReported = s.closureReported ∧ (State.writeCcd s o v).ddr = s.ddr ∧
    (State.writeCcd s o v).busRead = s.busRead := by
  simp only [State.writeCcd]
  (repeat' split) <;> simp_all
@[simp] theorem State.takeBeacon_keeps (s : State) (sf : Nat) (c : Clause) :
    (State.takeBeacon s sf c).now = s.now ∧ (State.takeBeacon s sf c).pending = s.pending ∧
    (State.takeBeacon s sf c).free = s.free ∧ (State.takeBeacon s sf c).nv = s.nv ∧ (State.takeBeacon s sf c).core = s.core ∧
    (State.takeBeacon s sf c).pin = s.pin ∧ (State.takeBeacon s sf c).aon = s.aon ∧ (State.takeBeacon s sf c).flt = s.flt ∧
    (State.takeBeacon s sf c).brw = s.brw ∧ (State.takeBeacon s sf c).cfg = s.cfg ∧ (State.takeBeacon s sf c).ids = s.ids ∧
    (State.takeBeacon s sf c).mbx = s.mbx ∧ (State.takeBeacon s sf c).pool = s.pool ∧
    (State.takeBeacon s sf c).laneA = s.laneA ∧ (State.takeBeacon s sf c).laneB = s.laneB ∧
    (State.takeBeacon s sf c).laneC = s.laneC ∧ (State.takeBeacon s sf c).vot = s.vot ∧
    (State.takeBeacon s sf c).fes = s.fes ∧ (State.takeBeacon s sf c).plan = s.plan ∧
    (State.takeBeacon s sf c).emit = s.emit ∧ (State.takeBeacon s sf c).lex = s.lex ∧ (State.takeBeacon s sf c).swd = s.swd ∧
    (State.takeBeacon s sf c).swm = s.swm ∧ (State.takeBeacon s sf c).ccd = s.ccd ∧ (State.takeBeacon s sf c).htl = s.htl ∧
    (State.takeBeacon s sf c).rings = s.rings ∧ (State.takeBeacon s sf c).latches = s.latches ∧
    (State.takeBeacon s sf c).closed = s.closed ∧ (State.takeBeacon s sf c).closureReported = s.closureReported ∧
    (State.takeBeacon s sf c).ddr = s.ddr ∧ (State.takeBeacon s sf c).busRead = s.busRead := by
  simp only [State.takeBeacon]
  (repeat' split) <;> simp_all
@[simp] theorem State.trayReport_keeps (s : State) (c : Clause) :
    (State.trayReport s c).now = s.now ∧ (State.trayReport s c).pending = s.pending ∧ (State.trayReport s c).free = s.free ∧
    (State.trayReport s c).nv = s.nv ∧ (State.trayReport s c).core = s.core ∧ (State.trayReport s c).pin = s.pin ∧
    (State.trayReport s c).aon = s.aon ∧ (State.trayReport s c).flt = s.flt ∧ (State.trayReport s c).brw = s.brw ∧
    (State.trayReport s c).cfg = s.cfg ∧ (State.trayReport s c).ids = s.ids ∧ (State.trayReport s c).mbx = s.mbx ∧
    (State.trayReport s c).pool = s.pool ∧ (State.trayReport s c).laneA = s.laneA ∧ (State.trayReport s c).laneB = s.laneB ∧
    (State.trayReport s c).laneC = s.laneC ∧ (State.trayReport s c).vot = s.vot ∧ (State.trayReport s c).fes = s.fes ∧
    (State.trayReport s c).plan = s.plan ∧ (State.trayReport s c).emit = s.emit ∧ (State.trayReport s c).swd = s.swd ∧
    (State.trayReport s c).swm = s.swm ∧ (State.trayReport s c).frz = s.frz ∧ (State.trayReport s c).ccd = s.ccd ∧
    (State.trayReport s c).htl = s.htl ∧ (State.trayReport s c).rings = s.rings ∧
    (State.trayReport s c).latches = s.latches ∧ (State.trayReport s c).closed = s.closed ∧
    (State.trayReport s c).closureReported = s.closureReported ∧ (State.trayReport s c).ddr = s.ddr ∧
    (State.trayReport s c).busRead = s.busRead := by
  simp [State.trayReport]
@[simp] theorem State.sendItem_keeps (s : State) (n slot : Nat) (i : DownItem) :
    (State.sendItem s n slot i).now = s.now ∧ (State.sendItem s n slot i).pending = s.pending ∧
    (State.sendItem s n slot i).free = s.free ∧ (State.sendItem s n slot i).nv = s.nv ∧
    (State.sendItem s n slot i).core = s.core ∧ (State.sendItem s n slot i).pin = s.pin ∧
    (State.sendItem s n slot i).aon = s.aon ∧ (State.sendItem s n slot i).flt = s.flt ∧
    (State.sendItem s n slot i).brw = s.brw ∧ (State.sendItem s n slot i).cfg = s.cfg ∧
    (State.sendItem s n slot i).ids = s.ids ∧ (State.sendItem s n slot i).mbx = s.mbx ∧
    (State.sendItem s n slot i).pool = s.pool ∧ (State.sendItem s n slot i).laneA = s.laneA ∧
    (State.sendItem s n slot i).laneB = s.laneB ∧ (State.sendItem s n slot i).laneC = s.laneC ∧
    (State.sendItem s n slot i).vot = s.vot ∧ (State.sendItem s n slot i).fes = s.fes ∧
    (State.sendItem s n slot i).plan = s.plan ∧ (State.sendItem s n slot i).emit = s.emit ∧
    (State.sendItem s n slot i).lex = s.lex ∧ (State.sendItem s n slot i).swd = s.swd ∧
    (State.sendItem s n slot i).swm = s.swm ∧ (State.sendItem s n slot i).ccd = s.ccd ∧
    (State.sendItem s n slot i).rings = s.rings ∧ (State.sendItem s n slot i).latches = s.latches ∧
    (State.sendItem s n slot i).closed = s.closed ∧ (State.sendItem s n slot i).closureReported = s.closureReported ∧
    (State.sendItem s n slot i).ddr = s.ddr ∧ (State.sendItem s n slot i).busRead = s.busRead := by
  simp only [State.sendItem]
  (repeat' split) <;> simp_all
@[simp] theorem State.judgeSlots_keeps (s : State) (n : Nat) :
    (State.judgeSlots s n).now = s.now ∧ (State.judgeSlots s n).pending = s.pending ∧ (State.judgeSlots s n).free = s.free ∧
    (State.judgeSlots s n).nv = s.nv ∧ (State.judgeSlots s n).core = s.core ∧ (State.judgeSlots s n).pin = s.pin ∧
    (State.judgeSlots s n).aon = s.aon ∧ (State.judgeSlots s n).flt = s.flt ∧ (State.judgeSlots s n).brw = s.brw ∧
    (State.judgeSlots s n).cfg = s.cfg ∧ (State.judgeSlots s n).ids = s.ids ∧ (State.judgeSlots s n).mbx = s.mbx ∧
    (State.judgeSlots s n).pool = s.pool ∧ (State.judgeSlots s n).laneA = s.laneA ∧ (State.judgeSlots s n).laneB = s.laneB ∧
    (State.judgeSlots s n).laneC = s.laneC ∧ (State.judgeSlots s n).vot = s.vot ∧ (State.judgeSlots s n).fes = s.fes ∧
    (State.judgeSlots s n).plan = s.plan ∧ (State.judgeSlots s n).emit = s.emit ∧ (State.judgeSlots s n).lex = s.lex ∧
    (State.judgeSlots s n).swd = s.swd ∧ (State.judgeSlots s n).swm = s.swm ∧ (State.judgeSlots s n).ccd = s.ccd ∧
    (State.judgeSlots s n).rings = s.rings ∧ (State.judgeSlots s n).latches = s.latches ∧
    (State.judgeSlots s n).closed = s.closed ∧ (State.judgeSlots s n).closureReported = s.closureReported ∧
    (State.judgeSlots s n).ddr = s.ddr ∧ (State.judgeSlots s n).busRead = s.busRead := by
  simp [State.judgeSlots]
@[simp] theorem State.bookingStep_keeps (s : State) (n : Nat) :
    (State.bookingStep s n).pending = s.pending ∧ (State.bookingStep s n).free = s.free ∧ (State.bookingStep s n).nv = s.nv ∧
    (State.bookingStep s n).core = s.core ∧ (State.bookingStep s n).pin = s.pin ∧ (State.bookingStep s n).aon = s.aon ∧
    (State.bookingStep s n).cfg = s.cfg ∧ (State.bookingStep s n).ids = s.ids ∧ (State.bookingStep s n).pool = s.pool ∧
    (State.bookingStep s n).laneA = s.laneA ∧ (State.bookingStep s n).laneB = s.laneB ∧
    (State.bookingStep s n).laneC = s.laneC ∧ (State.bookingStep s n).vot = s.vot ∧ (State.bookingStep s n).fes = s.fes ∧
    (State.bookingStep s n).plan = s.plan ∧ (State.bookingStep s n).emit = s.emit ∧ (State.bookingStep s n).lex = s.lex ∧
    (State.bookingStep s n).swd = s.swd ∧ (State.bookingStep s n).swm = s.swm ∧ (State.bookingStep s n).rings = s.rings ∧
    (State.bookingStep s n).latches = s.latches ∧ (State.bookingStep s n).closed = s.closed ∧
    (State.bookingStep s n).closureReported = s.closureReported ∧ (State.bookingStep s n).ddr = s.ddr ∧
    (State.bookingStep s n).busRead = s.busRead := by
  simp [State.bookingStep]
@[simp] theorem State.dropGroups_keeps (s : State) :
    (State.dropGroups s).now = s.now ∧ (State.dropGroups s).pending = s.pending ∧ (State.dropGroups s).free = s.free ∧
    (State.dropGroups s).nv = s.nv ∧ (State.dropGroups s).core = s.core ∧ (State.dropGroups s).pin = s.pin ∧
    (State.dropGroups s).aon = s.aon ∧ (State.dropGroups s).cfg = s.cfg ∧ (State.dropGroups s).ids = s.ids ∧
    (State.dropGroups s).pool = s.pool ∧ (State.dropGroups s).laneA = s.laneA ∧ (State.dropGroups s).laneB = s.laneB ∧
    (State.dropGroups s).laneC = s.laneC ∧ (State.dropGroups s).vot = s.vot ∧ (State.dropGroups s).fes = s.fes ∧
    (State.dropGroups s).plan = s.plan ∧ (State.dropGroups s).emit = s.emit ∧ (State.dropGroups s).lex = s.lex ∧
    (State.dropGroups s).swd = s.swd ∧ (State.dropGroups s).swm = s.swm ∧ (State.dropGroups s).frz = s.frz ∧
    (State.dropGroups s).rings = s.rings ∧ (State.dropGroups s).latches = s.latches ∧
    (State.dropGroups s).closed = s.closed ∧ (State.dropGroups s).closureReported = s.closureReported ∧
    (State.dropGroups s).ddr = s.ddr ∧ (State.dropGroups s).busRead = s.busRead := by
  simp [State.dropGroups]
@[simp] theorem State.reformGroups_keeps (s : State) :
    (State.reformGroups s).now = s.now ∧ (State.reformGroups s).pending = s.pending ∧ (State.reformGroups s).free = s.free ∧
    (State.reformGroups s).nv = s.nv ∧ (State.reformGroups s).core = s.core ∧ (State.reformGroups s).pin = s.pin ∧
    (State.reformGroups s).aon = s.aon ∧ (State.reformGroups s).brw = s.brw ∧ (State.reformGroups s).cfg = s.cfg ∧
    (State.reformGroups s).ids = s.ids ∧ (State.reformGroups s).mbx = s.mbx ∧ (State.reformGroups s).pool = s.pool ∧
    (State.reformGroups s).laneA = s.laneA ∧ (State.reformGroups s).laneB = s.laneB ∧
    (State.reformGroups s).laneC = s.laneC ∧ (State.reformGroups s).vot = s.vot ∧ (State.reformGroups s).fes = s.fes ∧
    (State.reformGroups s).plan = s.plan ∧ (State.reformGroups s).emit = s.emit ∧ (State.reformGroups s).lex = s.lex ∧
    (State.reformGroups s).swd = s.swd ∧ (State.reformGroups s).swm = s.swm ∧ (State.reformGroups s).frz = s.frz ∧
    (State.reformGroups s).htl = s.htl ∧ (State.reformGroups s).rings = s.rings ∧
    (State.reformGroups s).latches = s.latches ∧ (State.reformGroups s).closed = s.closed ∧
    (State.reformGroups s).closureReported = s.closureReported ∧ (State.reformGroups s).ddr = s.ddr ∧
    (State.reformGroups s).busRead = s.busRead := by
  simp [State.reformGroups]
@[simp] theorem State.ageReqs_keeps (s : State) :
    (State.ageReqs s).now = s.now ∧ (State.ageReqs s).pending = s.pending ∧ (State.ageReqs s).free = s.free ∧
    (State.ageReqs s).nv = s.nv ∧ (State.ageReqs s).core = s.core ∧ (State.ageReqs s).pin = s.pin ∧
    (State.ageReqs s).aon = s.aon ∧ (State.ageReqs s).flt = s.flt ∧ (State.ageReqs s).brw = s.brw ∧
    (State.ageReqs s).cfg = s.cfg ∧ (State.ageReqs s).ids = s.ids ∧ (State.ageReqs s).mbx = s.mbx ∧
    (State.ageReqs s).pool = s.pool ∧ (State.ageReqs s).laneA = s.laneA ∧ (State.ageReqs s).laneB = s.laneB ∧
    (State.ageReqs s).laneC = s.laneC ∧ (State.ageReqs s).vot = s.vot ∧ (State.ageReqs s).fes = s.fes ∧
    (State.ageReqs s).plan = s.plan ∧ (State.ageReqs s).emit = s.emit ∧ (State.ageReqs s).lex = s.lex ∧
    (State.ageReqs s).swd = s.swd ∧ (State.ageReqs s).swm = s.swm ∧ (State.ageReqs s).frz = s.frz ∧
    (State.ageReqs s).htl = s.htl ∧ (State.ageReqs s).rings = s.rings ∧ (State.ageReqs s).latches = s.latches ∧
    (State.ageReqs s).closed = s.closed ∧ (State.ageReqs s).closureReported = s.closureReported ∧
    (State.ageReqs s).ddr = s.ddr ∧ (State.ageReqs s).busRead = s.busRead := by
  simp [State.ageReqs]
@[simp] theorem State.outMean_keeps (s : State) :
    (State.outMean s).now = s.now ∧ (State.outMean s).pending = s.pending ∧ (State.outMean s).free = s.free ∧
    (State.outMean s).nv = s.nv ∧ (State.outMean s).core = s.core ∧ (State.outMean s).pin = s.pin ∧
    (State.outMean s).aon = s.aon ∧ (State.outMean s).flt = s.flt ∧ (State.outMean s).brw = s.brw ∧
    (State.outMean s).cfg = s.cfg ∧ (State.outMean s).ids = s.ids ∧ (State.outMean s).mbx = s.mbx ∧
    (State.outMean s).pool = s.pool ∧ (State.outMean s).laneA = s.laneA ∧ (State.outMean s).laneB = s.laneB ∧
    (State.outMean s).laneC = s.laneC ∧ (State.outMean s).vot = s.vot ∧ (State.outMean s).fes = s.fes ∧
    (State.outMean s).plan = s.plan ∧ (State.outMean s).emit = s.emit ∧ (State.outMean s).lex = s.lex ∧
    (State.outMean s).swd = s.swd ∧ (State.outMean s).swm = s.swm ∧ (State.outMean s).frz = s.frz ∧
    (State.outMean s).htl = s.htl ∧ (State.outMean s).rings = s.rings ∧ (State.outMean s).latches = s.latches ∧
    (State.outMean s).closed = s.closed ∧ (State.outMean s).closureReported = s.closureReported ∧
    (State.outMean s).ddr = s.ddr ∧ (State.outMean s).busRead = s.busRead := by
  simp [State.outMean]
@[simp] theorem State.governTick_keeps (s : State) :
    (State.governTick s).now = s.now ∧ (State.governTick s).pending = s.pending ∧ (State.governTick s).free = s.free ∧
    (State.governTick s).nv = s.nv ∧ (State.governTick s).core = s.core ∧ (State.governTick s).pin = s.pin ∧
    (State.governTick s).aon = s.aon ∧ (State.governTick s).cfg = s.cfg ∧ (State.governTick s).ids = s.ids ∧
    (State.governTick s).pool = s.pool ∧ (State.governTick s).laneA = s.laneA ∧ (State.governTick s).laneB = s.laneB ∧
    (State.governTick s).laneC = s.laneC ∧ (State.governTick s).vot = s.vot ∧ (State.governTick s).fes = s.fes ∧
    (State.governTick s).plan = s.plan ∧ (State.governTick s).emit = s.emit ∧ (State.governTick s).lex = s.lex ∧
    (State.governTick s).swd = s.swd ∧ (State.governTick s).swm = s.swm ∧ (State.governTick s).rings = s.rings ∧
    (State.governTick s).latches = s.latches ∧ (State.governTick s).closed = s.closed ∧
    (State.governTick s).closureReported = s.closureReported ∧ (State.governTick s).ddr = s.ddr ∧
    (State.governTick s).busRead = s.busRead := by
  simp [State.governTick]
@[simp] theorem State.htlEvent_keeps (s : State) (i : Nat) :
    (State.htlEvent s i).now = s.now ∧ (State.htlEvent s i).pending = s.pending ∧ (State.htlEvent s i).free = s.free ∧
    (State.htlEvent s i).nv = s.nv ∧ (State.htlEvent s i).core = s.core ∧ (State.htlEvent s i).pin = s.pin ∧
    (State.htlEvent s i).aon = s.aon ∧ (State.htlEvent s i).flt = s.flt ∧ (State.htlEvent s i).brw = s.brw ∧
    (State.htlEvent s i).cfg = s.cfg ∧ (State.htlEvent s i).ids = s.ids ∧ (State.htlEvent s i).mbx = s.mbx ∧
    (State.htlEvent s i).pool = s.pool ∧ (State.htlEvent s i).laneA = s.laneA ∧ (State.htlEvent s i).laneB = s.laneB ∧
    (State.htlEvent s i).laneC = s.laneC ∧ (State.htlEvent s i).vot = s.vot ∧ (State.htlEvent s i).fes = s.fes ∧
    (State.htlEvent s i).plan = s.plan ∧ (State.htlEvent s i).emit = s.emit ∧ (State.htlEvent s i).lex = s.lex ∧
    (State.htlEvent s i).swd = s.swd ∧ (State.htlEvent s i).swm = s.swm ∧ (State.htlEvent s i).frz = s.frz ∧
    (State.htlEvent s i).ccd = s.ccd ∧ (State.htlEvent s i).rings = s.rings ∧ (State.htlEvent s i).latches = s.latches ∧
    (State.htlEvent s i).closed = s.closed ∧ (State.htlEvent s i).closureReported = s.closureReported ∧
    (State.htlEvent s i).ddr = s.ddr ∧ (State.htlEvent s i).busRead = s.busRead := by
  simp [State.htlEvent]
@[simp] theorem State.drop_keeps (s : State) (f : Drops → Drops) :
    (State.drop s f).now = s.now ∧ (State.drop s f).pending = s.pending ∧ (State.drop s f).free = s.free ∧
    (State.drop s f).nv = s.nv ∧ (State.drop s f).core = s.core ∧ (State.drop s f).pin = s.pin ∧
    (State.drop s f).aon = s.aon ∧ (State.drop s f).flt = s.flt ∧ (State.drop s f).brw = s.brw ∧
    (State.drop s f).cfg = s.cfg ∧ (State.drop s f).ids = s.ids ∧ (State.drop s f).mbx = s.mbx ∧
    (State.drop s f).pool = s.pool ∧ (State.drop s f).laneA = s.laneA ∧ (State.drop s f).laneB = s.laneB ∧
    (State.drop s f).laneC = s.laneC ∧ (State.drop s f).vot = s.vot ∧ (State.drop s f).fes = s.fes ∧
    (State.drop s f).plan = s.plan ∧ (State.drop s f).emit = s.emit ∧ (State.drop s f).lex = s.lex ∧
    (State.drop s f).swd = s.swd ∧ (State.drop s f).swm = s.swm ∧ (State.drop s f).frz = s.frz ∧
    (State.drop s f).ccd = s.ccd ∧ (State.drop s f).rings = s.rings ∧ (State.drop s f).latches = s.latches ∧
    (State.drop s f).closed = s.closed ∧ (State.drop s f).closureReported = s.closureReported ∧
    (State.drop s f).ddr = s.ddr ∧ (State.drop s f).busRead = s.busRead := by
  simp [State.drop]
@[simp] theorem State.keepRec_keeps (s : State) (x : LinkRec) :
    (State.keepRec s x).now = s.now ∧ (State.keepRec s x).pending = s.pending ∧ (State.keepRec s x).free = s.free ∧
    (State.keepRec s x).nv = s.nv ∧ (State.keepRec s x).core = s.core ∧ (State.keepRec s x).pin = s.pin ∧
    (State.keepRec s x).aon = s.aon ∧ (State.keepRec s x).flt = s.flt ∧ (State.keepRec s x).brw = s.brw ∧
    (State.keepRec s x).cfg = s.cfg ∧ (State.keepRec s x).ids = s.ids ∧ (State.keepRec s x).mbx = s.mbx ∧
    (State.keepRec s x).pool = s.pool ∧ (State.keepRec s x).laneA = s.laneA ∧ (State.keepRec s x).laneB = s.laneB ∧
    (State.keepRec s x).laneC = s.laneC ∧ (State.keepRec s x).vot = s.vot ∧ (State.keepRec s x).fes = s.fes ∧
    (State.keepRec s x).plan = s.plan ∧ (State.keepRec s x).emit = s.emit ∧ (State.keepRec s x).lex = s.lex ∧
    (State.keepRec s x).swd = s.swd ∧ (State.keepRec s x).swm = s.swm ∧ (State.keepRec s x).frz = s.frz ∧
    (State.keepRec s x).ccd = s.ccd ∧ (State.keepRec s x).rings = s.rings ∧ (State.keepRec s x).latches = s.latches ∧
    (State.keepRec s x).closed = s.closed ∧ (State.keepRec s x).closureReported = s.closureReported ∧
    (State.keepRec s x).ddr = s.ddr ∧ (State.keepRec s x).busRead = s.busRead := by
  simp [State.keepRec]
@[simp] theorem State.publishLink_keeps (s : State) :
    (State.publishLink s).now = s.now ∧ (State.publishLink s).pending = s.pending ∧ (State.publishLink s).free = s.free ∧
    (State.publishLink s).nv = s.nv ∧ (State.publishLink s).core = s.core ∧ (State.publishLink s).pin = s.pin ∧
    (State.publishLink s).aon = s.aon ∧ (State.publishLink s).flt = s.flt ∧ (State.publishLink s).brw = s.brw ∧
    (State.publishLink s).cfg = s.cfg ∧ (State.publishLink s).ids = s.ids ∧ (State.publishLink s).mbx = s.mbx ∧
    (State.publishLink s).pool = s.pool ∧ (State.publishLink s).laneA = s.laneA ∧ (State.publishLink s).laneB = s.laneB ∧
    (State.publishLink s).laneC = s.laneC ∧ (State.publishLink s).vot = s.vot ∧ (State.publishLink s).fes = s.fes ∧
    (State.publishLink s).plan = s.plan ∧ (State.publishLink s).emit = s.emit ∧ (State.publishLink s).lex = s.lex ∧
    (State.publishLink s).swd = s.swd ∧ (State.publishLink s).swm = s.swm ∧ (State.publishLink s).frz = s.frz ∧
    (State.publishLink s).ccd = s.ccd ∧ (State.publishLink s).rings = s.rings ∧ (State.publishLink s).latches = s.latches ∧
    (State.publishLink s).closed = s.closed ∧ (State.publishLink s).closureReported = s.closureReported ∧
    (State.publishLink s).ddr = s.ddr ∧ (State.publishLink s).busRead = s.busRead := by
  simp [State.publishLink]
@[simp] theorem State.desync_keeps (s : State) :
    (State.desync s).now = s.now ∧ (State.desync s).pending = s.pending ∧ (State.desync s).free = s.free ∧
    (State.desync s).nv = s.nv ∧ (State.desync s).core = s.core ∧ (State.desync s).pin = s.pin ∧
    (State.desync s).flt = s.flt ∧ (State.desync s).brw = s.brw ∧ (State.desync s).cfg = s.cfg ∧
    (State.desync s).ids = s.ids ∧ (State.desync s).mbx = s.mbx ∧ (State.desync s).pool = s.pool ∧
    (State.desync s).laneA = s.laneA ∧ (State.desync s).laneB = s.laneB ∧ (State.desync s).laneC = s.laneC ∧
    (State.desync s).vot = s.vot ∧ (State.desync s).fes = s.fes ∧ (State.desync s).plan = s.plan ∧
    (State.desync s).emit = s.emit ∧ (State.desync s).lex = s.lex ∧ (State.desync s).swd = s.swd ∧
    (State.desync s).swm = s.swm ∧ (State.desync s).frz = s.frz ∧ (State.desync s).ccd = s.ccd ∧
    (State.desync s).latches = s.latches ∧ (State.desync s).closed = s.closed ∧
    (State.desync s).closureReported = s.closureReported ∧ (State.desync s).ddr = s.ddr ∧
    (State.desync s).busRead = s.busRead := by
  simp [State.desync]
@[simp] theorem State.becomeMaster_keeps (s : State) :
    (State.becomeMaster s).now = s.now ∧ (State.becomeMaster s).pending = s.pending ∧ (State.becomeMaster s).free = s.free ∧
    (State.becomeMaster s).nv = s.nv ∧ (State.becomeMaster s).core = s.core ∧ (State.becomeMaster s).pin = s.pin ∧
    (State.becomeMaster s).aon = s.aon ∧ (State.becomeMaster s).flt = s.flt ∧ (State.becomeMaster s).brw = s.brw ∧
    (State.becomeMaster s).cfg = s.cfg ∧ (State.becomeMaster s).ids = s.ids ∧ (State.becomeMaster s).pool = s.pool ∧
    (State.becomeMaster s).laneA = s.laneA ∧ (State.becomeMaster s).laneB = s.laneB ∧
    (State.becomeMaster s).laneC = s.laneC ∧ (State.becomeMaster s).vot = s.vot ∧ (State.becomeMaster s).fes = s.fes ∧
    (State.becomeMaster s).plan = s.plan ∧ (State.becomeMaster s).emit = s.emit ∧ (State.becomeMaster s).lex = s.lex ∧
    (State.becomeMaster s).swd = s.swd ∧ (State.becomeMaster s).swm = s.swm ∧ (State.becomeMaster s).frz = s.frz ∧
    (State.becomeMaster s).ccd = s.ccd ∧ (State.becomeMaster s).rings = s.rings ∧
    (State.becomeMaster s).latches = s.latches ∧ (State.becomeMaster s).closed = s.closed ∧
    (State.becomeMaster s).closureReported = s.closureReported ∧ (State.becomeMaster s).ddr = s.ddr ∧
    (State.becomeMaster s).busRead = s.busRead := by
  simp [State.becomeMaster]
@[simp] theorem State.takeParent_keeps (s : State) (x : Option (Port × Nat)) :
    (State.takeParent s x).now = s.now ∧ (State.takeParent s x).pending = s.pending ∧ (State.takeParent s x).free = s.free ∧
    (State.takeParent s x).nv = s.nv ∧ (State.takeParent s x).core = s.core ∧ (State.takeParent s x).pin = s.pin ∧
    (State.takeParent s x).flt = s.flt ∧ (State.takeParent s x).brw = s.brw ∧ (State.takeParent s x).cfg = s.cfg ∧
    (State.takeParent s x).ids = s.ids ∧ (State.takeParent s x).mbx = s.mbx ∧ (State.takeParent s x).pool = s.pool ∧
    (State.takeParent s x).laneA = s.laneA ∧ (State.takeParent s x).laneB = s.laneB ∧
    (State.takeParent s x).laneC = s.laneC ∧ (State.takeParent s x).vot = s.vot ∧ (State.takeParent s x).fes = s.fes ∧
    (State.takeParent s x).plan = s.plan ∧ (State.takeParent s x).emit = s.emit ∧ (State.takeParent s x).lex = s.lex ∧
    (State.takeParent s x).swd = s.swd ∧ (State.takeParent s x).swm = s.swm ∧ (State.takeParent s x).frz = s.frz ∧
    (State.takeParent s x).ccd = s.ccd ∧ (State.takeParent s x).latches = s.latches ∧
    (State.takeParent s x).closed = s.closed ∧ (State.takeParent s x).closureReported = s.closureReported ∧
    (State.takeParent s x).ddr = s.ddr ∧ (State.takeParent s x).busRead = s.busRead := by
  simp [State.takeParent]
@[simp] theorem State.captureRecord_keeps (s : State) (p : Port) (sub frozen : Nat) :
    (State.captureRecord s p sub frozen).now = s.now ∧ (State.captureRecord s p sub frozen).pending = s.pending ∧
    (State.captureRecord s p sub frozen).free = s.free ∧ (State.captureRecord s p sub frozen).nv = s.nv ∧
    (State.captureRecord s p sub frozen).core = s.core ∧ (State.captureRecord s p sub frozen).pin = s.pin ∧
    (State.captureRecord s p sub frozen).aon = s.aon ∧ (State.captureRecord s p sub frozen).cfg = s.cfg ∧
    (State.captureRecord s p sub frozen).ids = s.ids ∧ (State.captureRecord s p sub frozen).mbx = s.mbx ∧
    (State.captureRecord s p sub frozen).pool = s.pool ∧ (State.captureRecord s p sub frozen).laneA = s.laneA ∧
    (State.captureRecord s p sub frozen).laneB = s.laneB ∧ (State.captureRecord s p sub frozen).laneC = s.laneC ∧
    (State.captureRecord s p sub frozen).vot = s.vot ∧ (State.captureRecord s p sub frozen).fes = s.fes ∧
    (State.captureRecord s p sub frozen).plan = s.plan ∧ (State.captureRecord s p sub frozen).emit = s.emit ∧
    (State.captureRecord s p sub frozen).lex = s.lex ∧ (State.captureRecord s p sub frozen).swd = s.swd ∧
    (State.captureRecord s p sub frozen).swm = s.swm ∧ (State.captureRecord s p sub frozen).frz = s.frz ∧
    (State.captureRecord s p sub frozen).ccd = s.ccd ∧ (State.captureRecord s p sub frozen).rings = s.rings ∧
    (State.captureRecord s p sub frozen).latches = s.latches ∧ (State.captureRecord s p sub frozen).closed = s.closed ∧
    (State.captureRecord s p sub frozen).closureReported = s.closureReported ∧
    (State.captureRecord s p sub frozen).ddr = s.ddr ∧ (State.captureRecord s p sub frozen).busRead = s.busRead := by
  simp [State.captureRecord]
@[simp] theorem State.setFrozen_keeps (s : State) (p : Port) (x : Option Nat) :
    (State.setFrozen s p x).now = s.now ∧ (State.setFrozen s p x).pending = s.pending ∧
    (State.setFrozen s p x).free = s.free ∧ (State.setFrozen s p x).nv = s.nv ∧ (State.setFrozen s p x).core = s.core ∧
    (State.setFrozen s p x).pin = s.pin ∧ (State.setFrozen s p x).aon = s.aon ∧ (State.setFrozen s p x).flt = s.flt ∧
    (State.setFrozen s p x).brw = s.brw ∧ (State.setFrozen s p x).cfg = s.cfg ∧ (State.setFrozen s p x).ids = s.ids ∧
    (State.setFrozen s p x).mbx = s.mbx ∧ (State.setFrozen s p x).pool = s.pool ∧ (State.setFrozen s p x).laneA = s.laneA ∧
    (State.setFrozen s p x).laneB = s.laneB ∧ (State.setFrozen s p x).laneC = s.laneC ∧ (State.setFrozen s p x).vot = s.vot ∧
    (State.setFrozen s p x).fes = s.fes ∧ (State.setFrozen s p x).plan = s.plan ∧ (State.setFrozen s p x).emit = s.emit ∧
    (State.setFrozen s p x).lex = s.lex ∧ (State.setFrozen s p x).swd = s.swd ∧ (State.setFrozen s p x).swm = s.swm ∧
    (State.setFrozen s p x).frz = s.frz ∧ (State.setFrozen s p x).ccd = s.ccd ∧ (State.setFrozen s p x).rings = s.rings ∧
    (State.setFrozen s p x).latches = s.latches ∧ (State.setFrozen s p x).closed = s.closed ∧
    (State.setFrozen s p x).closureReported = s.closureReported ∧ (State.setFrozen s p x).ddr = s.ddr ∧
    (State.setFrozen s p x).busRead = s.busRead := by
  simp only [State.setFrozen]
  (repeat' split) <;> simp_all
@[simp] theorem State.freezeRing_keeps (s : State) (p : Port) :
    (State.freezeRing s p).pending = s.pending ∧ (State.freezeRing s p).free = s.free ∧ (State.freezeRing s p).nv = s.nv ∧
    (State.freezeRing s p).core = s.core ∧ (State.freezeRing s p).pin = s.pin ∧ (State.freezeRing s p).aon = s.aon ∧
    (State.freezeRing s p).cfg = s.cfg ∧ (State.freezeRing s p).ids = s.ids ∧ (State.freezeRing s p).mbx = s.mbx ∧
    (State.freezeRing s p).pool = s.pool ∧ (State.freezeRing s p).laneA = s.laneA ∧ (State.freezeRing s p).laneB = s.laneB ∧
    (State.freezeRing s p).laneC = s.laneC ∧ (State.freezeRing s p).vot = s.vot ∧ (State.freezeRing s p).fes = s.fes ∧
    (State.freezeRing s p).plan = s.plan ∧ (State.freezeRing s p).emit = s.emit ∧ (State.freezeRing s p).lex = s.lex ∧
    (State.freezeRing s p).swd = s.swd ∧ (State.freezeRing s p).swm = s.swm ∧ (State.freezeRing s p).frz = s.frz ∧
    (State.freezeRing s p).ccd = s.ccd ∧ (State.freezeRing s p).rings = s.rings ∧
    (State.freezeRing s p).latches = s.latches ∧ (State.freezeRing s p).closed = s.closed ∧
    (State.freezeRing s p).closureReported = s.closureReported ∧ (State.freezeRing s p).ddr = s.ddr ∧
    (State.freezeRing s p).busRead = s.busRead := by
  simp [State.freezeRing]
@[simp] theorem State.headStep_keeps (s : State) :
    (State.headStep s).now = s.now ∧ (State.headStep s).pending = s.pending ∧ (State.headStep s).free = s.free ∧
    (State.headStep s).nv = s.nv ∧ (State.headStep s).core = s.core ∧ (State.headStep s).pin = s.pin ∧
    (State.headStep s).aon = s.aon ∧ (State.headStep s).flt = s.flt ∧ (State.headStep s).brw = s.brw ∧
    (State.headStep s).cfg = s.cfg ∧ (State.headStep s).ids = s.ids ∧ (State.headStep s).pool = s.pool ∧
    (State.headStep s).laneA = s.laneA ∧ (State.headStep s).laneB = s.laneB ∧ (State.headStep s).laneC = s.laneC ∧
    (State.headStep s).vot = s.vot ∧ (State.headStep s).fes = s.fes ∧ (State.headStep s).plan = s.plan ∧
    (State.headStep s).emit = s.emit ∧ (State.headStep s).lex = s.lex ∧ (State.headStep s).swd = s.swd ∧
    (State.headStep s).swm = s.swm ∧ (State.headStep s).frz = s.frz ∧ (State.headStep s).ccd = s.ccd ∧
    (State.headStep s).rings = s.rings ∧ (State.headStep s).latches = s.latches ∧ (State.headStep s).closed = s.closed ∧
    (State.headStep s).closureReported = s.closureReported ∧ (State.headStep s).ddr = s.ddr ∧
    (State.headStep s).busRead = s.busRead := by
  simp [State.headStep]
@[simp] theorem State.testRecord_keeps (s : State) (port member : Nat) (abandoned : Bool) :
    (State.testRecord s port member abandoned).now = s.now ∧ (State.testRecord s port member abandoned).pending = s.pending ∧
    (State.testRecord s port member abandoned).free = s.free ∧ (State.testRecord s port member abandoned).nv = s.nv ∧
    (State.testRecord s port member abandoned).core = s.core ∧ (State.testRecord s port member abandoned).pin = s.pin ∧
    (State.testRecord s port member abandoned).aon = s.aon ∧ (State.testRecord s port member abandoned).cfg = s.cfg ∧
    (State.testRecord s port member abandoned).ids = s.ids ∧ (State.testRecord s port member abandoned).mbx = s.mbx ∧
    (State.testRecord s port member abandoned).pool = s.pool ∧ (State.testRecord s port member abandoned).laneA = s.laneA ∧
    (State.testRecord s port member abandoned).laneB = s.laneB ∧ (State.testRecord s port member abandoned).laneC = s.laneC ∧
    (State.testRecord s port member abandoned).vot = s.vot ∧ (State.testRecord s port member abandoned).fes = s.fes ∧
    (State.testRecord s port member abandoned).plan = s.plan ∧ (State.testRecord s port member abandoned).emit = s.emit ∧
    (State.testRecord s port member abandoned).lex = s.lex ∧ (State.testRecord s port member abandoned).swd = s.swd ∧
    (State.testRecord s port member abandoned).swm = s.swm ∧ (State.testRecord s port member abandoned).frz = s.frz ∧
    (State.testRecord s port member abandoned).ccd = s.ccd ∧ (State.testRecord s port member abandoned).rings = s.rings ∧
    (State.testRecord s port member abandoned).latches = s.latches ∧
    (State.testRecord s port member abandoned).closed = s.closed ∧
    (State.testRecord s port member abandoned).closureReported = s.closureReported ∧
    (State.testRecord s port member abandoned).ddr = s.ddr ∧
    (State.testRecord s port member abandoned).busRead = s.busRead := by
  simp [State.testRecord]
@[simp] theorem State.abandonTest_keeps (s : State) (p : Port) :
    (State.abandonTest s p).now = s.now ∧ (State.abandonTest s p).pending = s.pending ∧
    (State.abandonTest s p).free = s.free ∧ (State.abandonTest s p).nv = s.nv ∧ (State.abandonTest s p).core = s.core ∧
    (State.abandonTest s p).pin = s.pin ∧ (State.abandonTest s p).aon = s.aon ∧ (State.abandonTest s p).cfg = s.cfg ∧
    (State.abandonTest s p).ids = s.ids ∧ (State.abandonTest s p).mbx = s.mbx ∧ (State.abandonTest s p).pool = s.pool ∧
    (State.abandonTest s p).laneA = s.laneA ∧ (State.abandonTest s p).laneB = s.laneB ∧
    (State.abandonTest s p).laneC = s.laneC ∧ (State.abandonTest s p).vot = s.vot ∧ (State.abandonTest s p).fes = s.fes ∧
    (State.abandonTest s p).plan = s.plan ∧ (State.abandonTest s p).emit = s.emit ∧ (State.abandonTest s p).lex = s.lex ∧
    (State.abandonTest s p).swd = s.swd ∧ (State.abandonTest s p).swm = s.swm ∧ (State.abandonTest s p).frz = s.frz ∧
    (State.abandonTest s p).ccd = s.ccd ∧ (State.abandonTest s p).rings = s.rings ∧
    (State.abandonTest s p).latches = s.latches ∧ (State.abandonTest s p).closed = s.closed ∧
    (State.abandonTest s p).closureReported = s.closureReported ∧ (State.abandonTest s p).ddr = s.ddr ∧
    (State.abandonTest s p).busRead = s.busRead := by
  simp [State.abandonTest]
@[simp] theorem State.abandonTests_keeps (s : State) (p : Port) :
    (State.abandonTests s p).now = s.now ∧ (State.abandonTests s p).pending = s.pending ∧
    (State.abandonTests s p).free = s.free ∧ (State.abandonTests s p).nv = s.nv ∧ (State.abandonTests s p).core = s.core ∧
    (State.abandonTests s p).pin = s.pin ∧ (State.abandonTests s p).aon = s.aon ∧ (State.abandonTests s p).cfg = s.cfg ∧
    (State.abandonTests s p).ids = s.ids ∧ (State.abandonTests s p).mbx = s.mbx ∧ (State.abandonTests s p).pool = s.pool ∧
    (State.abandonTests s p).laneA = s.laneA ∧ (State.abandonTests s p).laneB = s.laneB ∧
    (State.abandonTests s p).laneC = s.laneC ∧ (State.abandonTests s p).vot = s.vot ∧ (State.abandonTests s p).fes = s.fes ∧
    (State.abandonTests s p).plan = s.plan ∧ (State.abandonTests s p).emit = s.emit ∧ (State.abandonTests s p).lex = s.lex ∧
    (State.abandonTests s p).swd = s.swd ∧ (State.abandonTests s p).swm = s.swm ∧ (State.abandonTests s p).frz = s.frz ∧
    (State.abandonTests s p).ccd = s.ccd ∧ (State.abandonTests s p).rings = s.rings ∧
    (State.abandonTests s p).latches = s.latches ∧ (State.abandonTests s p).closed = s.closed ∧
    (State.abandonTests s p).closureReported = s.closureReported ∧ (State.abandonTests s p).ddr = s.ddr ∧
    (State.abandonTests s p).busRead = s.busRead := by
  simp [State.abandonTests]
@[simp] theorem State.heldCell_keeps (p : Port) (s : State) (c : Cell) :
    (State.heldCell p s c).now = s.now ∧ (State.heldCell p s c).pending = s.pending ∧ (State.heldCell p s c).free = s.free ∧
    (State.heldCell p s c).nv = s.nv ∧ (State.heldCell p s c).core = s.core ∧ (State.heldCell p s c).pin = s.pin ∧
    (State.heldCell p s c).aon = s.aon ∧ (State.heldCell p s c).flt = s.flt ∧ (State.heldCell p s c).brw = s.brw ∧
    (State.heldCell p s c).cfg = s.cfg ∧ (State.heldCell p s c).ids = s.ids ∧ (State.heldCell p s c).mbx = s.mbx ∧
    (State.heldCell p s c).pool = s.pool ∧ (State.heldCell p s c).laneA = s.laneA ∧ (State.heldCell p s c).laneB = s.laneB ∧
    (State.heldCell p s c).laneC = s.laneC ∧ (State.heldCell p s c).vot = s.vot ∧ (State.heldCell p s c).fes = s.fes ∧
    (State.heldCell p s c).plan = s.plan ∧ (State.heldCell p s c).emit = s.emit ∧ (State.heldCell p s c).lex = s.lex ∧
    (State.heldCell p s c).swd = s.swd ∧ (State.heldCell p s c).swm = s.swm ∧ (State.heldCell p s c).frz = s.frz ∧
    (State.heldCell p s c).ccd = s.ccd ∧ (State.heldCell p s c).rings = s.rings ∧
    (State.heldCell p s c).latches = s.latches ∧ (State.heldCell p s c).closed = s.closed ∧
    (State.heldCell p s c).closureReported = s.closureReported ∧ (State.heldCell p s c).ddr = s.ddr ∧
    (State.heldCell p s c).busRead = s.busRead := by
  simp [State.heldCell]
@[simp] theorem State.sendHeld_keeps (s : State) (p : Port) :
    (State.sendHeld s p).now = s.now ∧ (State.sendHeld s p).pending = s.pending ∧ (State.sendHeld s p).free = s.free ∧
    (State.sendHeld s p).nv = s.nv ∧ (State.sendHeld s p).core = s.core ∧ (State.sendHeld s p).pin = s.pin ∧
    (State.sendHeld s p).aon = s.aon ∧ (State.sendHeld s p).flt = s.flt ∧ (State.sendHeld s p).brw = s.brw ∧
    (State.sendHeld s p).cfg = s.cfg ∧ (State.sendHeld s p).ids = s.ids ∧ (State.sendHeld s p).mbx = s.mbx ∧
    (State.sendHeld s p).pool = s.pool ∧ (State.sendHeld s p).laneA = s.laneA ∧ (State.sendHeld s p).laneB = s.laneB ∧
    (State.sendHeld s p).laneC = s.laneC ∧ (State.sendHeld s p).vot = s.vot ∧ (State.sendHeld s p).fes = s.fes ∧
    (State.sendHeld s p).plan = s.plan ∧ (State.sendHeld s p).emit = s.emit ∧ (State.sendHeld s p).lex = s.lex ∧
    (State.sendHeld s p).swd = s.swd ∧ (State.sendHeld s p).swm = s.swm ∧ (State.sendHeld s p).frz = s.frz ∧
    (State.sendHeld s p).ccd = s.ccd ∧ (State.sendHeld s p).rings = s.rings ∧ (State.sendHeld s p).latches = s.latches ∧
    (State.sendHeld s p).closed = s.closed ∧ (State.sendHeld s p).closureReported = s.closureReported ∧
    (State.sendHeld s p).ddr = s.ddr ∧ (State.sendHeld s p).busRead = s.busRead := by
  simp [State.sendHeld]
@[simp] theorem State.keepSum_keeps (s : State) (x : SumRec) :
    (State.keepSum s x).now = s.now ∧ (State.keepSum s x).pending = s.pending ∧ (State.keepSum s x).free = s.free ∧
    (State.keepSum s x).nv = s.nv ∧ (State.keepSum s x).core = s.core ∧ (State.keepSum s x).pin = s.pin ∧
    (State.keepSum s x).aon = s.aon ∧ (State.keepSum s x).flt = s.flt ∧ (State.keepSum s x).brw = s.brw ∧
    (State.keepSum s x).cfg = s.cfg ∧ (State.keepSum s x).ids = s.ids ∧ (State.keepSum s x).mbx = s.mbx ∧
    (State.keepSum s x).pool = s.pool ∧ (State.keepSum s x).laneA = s.laneA ∧ (State.keepSum s x).laneB = s.laneB ∧
    (State.keepSum s x).laneC = s.laneC ∧ (State.keepSum s x).vot = s.vot ∧ (State.keepSum s x).fes = s.fes ∧
    (State.keepSum s x).plan = s.plan ∧ (State.keepSum s x).emit = s.emit ∧ (State.keepSum s x).lex = s.lex ∧
    (State.keepSum s x).swd = s.swd ∧ (State.keepSum s x).swm = s.swm ∧ (State.keepSum s x).frz = s.frz ∧
    (State.keepSum s x).htl = s.htl ∧ (State.keepSum s x).rings = s.rings ∧ (State.keepSum s x).latches = s.latches ∧
    (State.keepSum s x).closed = s.closed ∧ (State.keepSum s x).closureReported = s.closureReported ∧
    (State.keepSum s x).ddr = s.ddr ∧ (State.keepSum s x).busRead = s.busRead := by
  simp [State.keepSum]
@[simp] theorem State.takeSummary_keeps (s : State) (src : Nat) (b : List Byte) :
    (State.takeSummary s src b).now = s.now ∧ (State.takeSummary s src b).pending = s.pending ∧
    (State.takeSummary s src b).free = s.free ∧ (State.takeSummary s src b).nv = s.nv ∧
    (State.takeSummary s src b).core = s.core ∧ (State.takeSummary s src b).pin = s.pin ∧
    (State.takeSummary s src b).aon = s.aon ∧ (State.takeSummary s src b).flt = s.flt ∧
    (State.takeSummary s src b).brw = s.brw ∧ (State.takeSummary s src b).cfg = s.cfg ∧
    (State.takeSummary s src b).ids = s.ids ∧ (State.takeSummary s src b).mbx = s.mbx ∧
    (State.takeSummary s src b).pool = s.pool ∧ (State.takeSummary s src b).laneA = s.laneA ∧
    (State.takeSummary s src b).laneB = s.laneB ∧ (State.takeSummary s src b).laneC = s.laneC ∧
    (State.takeSummary s src b).vot = s.vot ∧ (State.takeSummary s src b).fes = s.fes ∧
    (State.takeSummary s src b).plan = s.plan ∧ (State.takeSummary s src b).emit = s.emit ∧
    (State.takeSummary s src b).lex = s.lex ∧ (State.takeSummary s src b).swm = s.swm ∧
    (State.takeSummary s src b).frz = s.frz ∧ (State.takeSummary s src b).rings = s.rings ∧
    (State.takeSummary s src b).latches = s.latches ∧ (State.takeSummary s src b).closed = s.closed ∧
    (State.takeSummary s src b).closureReported = s.closureReported ∧ (State.takeSummary s src b).ddr = s.ddr ∧
    (State.takeSummary s src b).busRead = s.busRead := by
  simp [State.takeSummary]
@[simp] theorem State.ageParts_keeps (s : State) :
    (State.ageParts s).now = s.now ∧ (State.ageParts s).pending = s.pending ∧ (State.ageParts s).free = s.free ∧
    (State.ageParts s).nv = s.nv ∧ (State.ageParts s).core = s.core ∧ (State.ageParts s).pin = s.pin ∧
    (State.ageParts s).aon = s.aon ∧ (State.ageParts s).flt = s.flt ∧ (State.ageParts s).brw = s.brw ∧
    (State.ageParts s).cfg = s.cfg ∧ (State.ageParts s).ids = s.ids ∧ (State.ageParts s).mbx = s.mbx ∧
    (State.ageParts s).pool = s.pool ∧ (State.ageParts s).laneA = s.laneA ∧ (State.ageParts s).laneB = s.laneB ∧
    (State.ageParts s).laneC = s.laneC ∧ (State.ageParts s).vot = s.vot ∧ (State.ageParts s).fes = s.fes ∧
    (State.ageParts s).plan = s.plan ∧ (State.ageParts s).emit = s.emit ∧ (State.ageParts s).lex = s.lex ∧
    (State.ageParts s).swd = s.swd ∧ (State.ageParts s).swm = s.swm ∧ (State.ageParts s).frz = s.frz ∧
    (State.ageParts s).ccd = s.ccd ∧ (State.ageParts s).rings = s.rings ∧ (State.ageParts s).latches = s.latches ∧
    (State.ageParts s).closed = s.closed ∧ (State.ageParts s).closureReported = s.closureReported ∧
    (State.ageParts s).ddr = s.ddr ∧ (State.ageParts s).busRead = s.busRead := by
  simp [State.ageParts]
@[simp] theorem State.publishSummary_keeps (s : State) :
    (State.publishSummary s).now = s.now ∧ (State.publishSummary s).pending = s.pending ∧
    (State.publishSummary s).free = s.free ∧ (State.publishSummary s).nv = s.nv ∧ (State.publishSummary s).core = s.core ∧
    (State.publishSummary s).pin = s.pin ∧ (State.publishSummary s).aon = s.aon ∧ (State.publishSummary s).flt = s.flt ∧
    (State.publishSummary s).brw = s.brw ∧ (State.publishSummary s).cfg = s.cfg ∧ (State.publishSummary s).ids = s.ids ∧
    (State.publishSummary s).mbx = s.mbx ∧ (State.publishSummary s).pool = s.pool ∧
    (State.publishSummary s).laneA = s.laneA ∧ (State.publishSummary s).laneB = s.laneB ∧
    (State.publishSummary s).laneC = s.laneC ∧ (State.publishSummary s).vot = s.vot ∧ (State.publishSummary s).fes = s.fes ∧
    (State.publishSummary s).plan = s.plan ∧ (State.publishSummary s).emit = s.emit ∧ (State.publishSummary s).lex = s.lex ∧
    (State.publishSummary s).swm = s.swm ∧ (State.publishSummary s).frz = s.frz ∧ (State.publishSummary s).rings = s.rings ∧
    (State.publishSummary s).latches = s.latches ∧ (State.publishSummary s).closed = s.closed ∧
    (State.publishSummary s).closureReported = s.closureReported ∧ (State.publishSummary s).ddr = s.ddr ∧
    (State.publishSummary s).busRead = s.busRead := by
  simp [State.publishSummary]
@[simp] theorem State.writeHtl_keeps (s : State) (o : Nat) (v : Word) :
    (State.writeHtl s o v).now = s.now ∧ (State.writeHtl s o v).pending = s.pending ∧ (State.writeHtl s o v).free = s.free ∧
    (State.writeHtl s o v).nv = s.nv ∧ (State.writeHtl s o v).core = s.core ∧ (State.writeHtl s o v).pin = s.pin ∧
    (State.writeHtl s o v).aon = s.aon ∧ (State.writeHtl s o v).flt = s.flt ∧ (State.writeHtl s o v).brw = s.brw ∧
    (State.writeHtl s o v).cfg = s.cfg ∧ (State.writeHtl s o v).ids = s.ids ∧ (State.writeHtl s o v).mbx = s.mbx ∧
    (State.writeHtl s o v).pool = s.pool ∧ (State.writeHtl s o v).laneA = s.laneA ∧ (State.writeHtl s o v).laneB = s.laneB ∧
    (State.writeHtl s o v).laneC = s.laneC ∧ (State.writeHtl s o v).vot = s.vot ∧ (State.writeHtl s o v).fes = s.fes ∧
    (State.writeHtl s o v).plan = s.plan ∧ (State.writeHtl s o v).emit = s.emit ∧ (State.writeHtl s o v).lex = s.lex ∧
    (State.writeHtl s o v).swd = s.swd ∧ (State.writeHtl s o v).swm = s.swm ∧ (State.writeHtl s o v).frz = s.frz ∧
    (State.writeHtl s o v).ccd = s.ccd ∧ (State.writeHtl s o v).rings = s.rings ∧
    (State.writeHtl s o v).latches = s.latches ∧ (State.writeHtl s o v).closed = s.closed ∧
    (State.writeHtl s o v).closureReported = s.closureReported ∧ (State.writeHtl s o v).ddr = s.ddr ∧
    (State.writeHtl s o v).busRead = s.busRead := by
  simp only [State.writeHtl]
  (repeat' split) <;> simp_all
@[simp] theorem State.lexOp_keeps (s : State) (op off : Nat) :
    (State.lexOp s op off).now = s.now ∧ (State.lexOp s op off).pending = s.pending ∧ (State.lexOp s op off).free = s.free ∧
    (State.lexOp s op off).nv = s.nv ∧ (State.lexOp s op off).core = s.core ∧ (State.lexOp s op off).pin = s.pin ∧
    (State.lexOp s op off).aon = s.aon ∧ (State.lexOp s op off).brw = s.brw ∧ (State.lexOp s op off).cfg = s.cfg ∧
    (State.lexOp s op off).ids = s.ids ∧ (State.lexOp s op off).mbx = s.mbx ∧ (State.lexOp s op off).pool = s.pool ∧
    (State.lexOp s op off).laneA = s.laneA ∧ (State.lexOp s op off).laneB = s.laneB ∧
    (State.lexOp s op off).laneC = s.laneC ∧ (State.lexOp s op off).vot = s.vot ∧ (State.lexOp s op off).fes = s.fes ∧
    (State.lexOp s op off).plan = s.plan ∧ (State.lexOp s op off).emit = s.emit ∧ (State.lexOp s op off).swd = s.swd ∧
    (State.lexOp s op off).swm = s.swm ∧ (State.lexOp s op off).frz = s.frz ∧ (State.lexOp s op off).ccd = s.ccd ∧
    (State.lexOp s op off).htl = s.htl ∧ (State.lexOp s op off).rings = s.rings ∧
    (State.lexOp s op off).latches = s.latches ∧ (State.lexOp s op off).closed = s.closed ∧
    (State.lexOp s op off).closureReported = s.closureReported ∧ (State.lexOp s op off).ddr = s.ddr ∧
    (State.lexOp s op off).busRead = s.busRead := by
  simp [State.lexOp]
@[simp] theorem State.forward_keeps (s : State) (p : Port) (c : Cell) :
    (State.forward s p c).now = s.now ∧ (State.forward s p c).pending = s.pending ∧ (State.forward s p c).free = s.free ∧
    (State.forward s p c).nv = s.nv ∧ (State.forward s p c).core = s.core ∧ (State.forward s p c).pin = s.pin ∧
    (State.forward s p c).aon = s.aon ∧ (State.forward s p c).flt = s.flt ∧ (State.forward s p c).brw = s.brw ∧
    (State.forward s p c).cfg = s.cfg ∧ (State.forward s p c).ids = s.ids ∧ (State.forward s p c).mbx = s.mbx ∧
    (State.forward s p c).pool = s.pool ∧ (State.forward s p c).laneA = s.laneA ∧ (State.forward s p c).laneB = s.laneB ∧
    (State.forward s p c).laneC = s.laneC ∧ (State.forward s p c).vot = s.vot ∧ (State.forward s p c).fes = s.fes ∧
    (State.forward s p c).plan = s.plan ∧ (State.forward s p c).emit = s.emit ∧ (State.forward s p c).lex = s.lex ∧
    (State.forward s p c).swd = s.swd ∧ (State.forward s p c).swm = s.swm ∧ (State.forward s p c).frz = s.frz ∧
    (State.forward s p c).ccd = s.ccd ∧ (State.forward s p c).rings = s.rings ∧ (State.forward s p c).latches = s.latches ∧
    (State.forward s p c).closed = s.closed ∧ (State.forward s p c).closureReported = s.closureReported ∧
    (State.forward s p c).ddr = s.ddr ∧ (State.forward s p c).busRead = s.busRead := by
  simp [State.forward]
@[simp] theorem State.setFitted_keeps (s : State) (p : Port) (v : Bool) :
    (State.setFitted s p v).now = s.now ∧ (State.setFitted s p v).pending = s.pending ∧
    (State.setFitted s p v).free = s.free ∧ (State.setFitted s p v).nv = s.nv ∧ (State.setFitted s p v).core = s.core ∧
    (State.setFitted s p v).aon = s.aon ∧ (State.setFitted s p v).flt = s.flt ∧ (State.setFitted s p v).brw = s.brw ∧
    (State.setFitted s p v).cfg = s.cfg ∧ (State.setFitted s p v).ids = s.ids ∧ (State.setFitted s p v).mbx = s.mbx ∧
    (State.setFitted s p v).pool = s.pool ∧ (State.setFitted s p v).laneA = s.laneA ∧
    (State.setFitted s p v).laneB = s.laneB ∧ (State.setFitted s p v).laneC = s.laneC ∧ (State.setFitted s p v).vot = s.vot ∧
    (State.setFitted s p v).fes = s.fes ∧ (State.setFitted s p v).plan = s.plan ∧ (State.setFitted s p v).emit = s.emit ∧
    (State.setFitted s p v).lex = s.lex ∧ (State.setFitted s p v).swd = s.swd ∧ (State.setFitted s p v).swm = s.swm ∧
    (State.setFitted s p v).frz = s.frz ∧ (State.setFitted s p v).ccd = s.ccd ∧ (State.setFitted s p v).htl = s.htl ∧
    (State.setFitted s p v).rings = s.rings ∧ (State.setFitted s p v).latches = s.latches ∧
    (State.setFitted s p v).closed = s.closed ∧ (State.setFitted s p v).closureReported = s.closureReported ∧
    (State.setFitted s p v).ddr = s.ddr ∧ (State.setFitted s p v).busRead = s.busRead := by
  simp only [State.setFitted]
  (repeat' split) <;> simp_all
@[simp] theorem State.startPort_keeps (s : State) (p : Port) :
    (State.startPort s p).now = s.now ∧ (State.startPort s p).pending = s.pending ∧ (State.startPort s p).free = s.free ∧
    (State.startPort s p).nv = s.nv ∧ (State.startPort s p).core = s.core ∧ (State.startPort s p).pin = s.pin ∧
    (State.startPort s p).aon = s.aon ∧ (State.startPort s p).flt = s.flt ∧ (State.startPort s p).brw = s.brw ∧
    (State.startPort s p).cfg = s.cfg ∧ (State.startPort s p).ids = s.ids ∧ (State.startPort s p).mbx = s.mbx ∧
    (State.startPort s p).pool = s.pool ∧ (State.startPort s p).laneA = s.laneA ∧ (State.startPort s p).laneB = s.laneB ∧
    (State.startPort s p).laneC = s.laneC ∧ (State.startPort s p).vot = s.vot ∧ (State.startPort s p).fes = s.fes ∧
    (State.startPort s p).plan = s.plan ∧ (State.startPort s p).emit = s.emit ∧ (State.startPort s p).lex = s.lex ∧
    (State.startPort s p).swd = s.swd ∧ (State.startPort s p).swm = s.swm ∧ (State.startPort s p).frz = s.frz ∧
    (State.startPort s p).ccd = s.ccd ∧ (State.startPort s p).rings = s.rings ∧ (State.startPort s p).latches = s.latches ∧
    (State.startPort s p).closed = s.closed ∧ (State.startPort s p).closureReported = s.closureReported ∧
    (State.startPort s p).ddr = s.ddr ∧ (State.startPort s p).busRead = s.busRead := by
  simp [State.startPort]
@[simp] theorem State.stepRing_keeps (s : State) :
    (State.stepRing s).now = s.now ∧ (State.stepRing s).pending = s.pending ∧ (State.stepRing s).free = s.free ∧
    (State.stepRing s).nv = s.nv ∧ (State.stepRing s).core = s.core ∧ (State.stepRing s).pin = s.pin ∧
    (State.stepRing s).aon = s.aon ∧ (State.stepRing s).cfg = s.cfg ∧ (State.stepRing s).ids = s.ids ∧
    (State.stepRing s).mbx = s.mbx ∧ (State.stepRing s).pool = s.pool ∧ (State.stepRing s).laneA = s.laneA ∧
    (State.stepRing s).laneB = s.laneB ∧ (State.stepRing s).laneC = s.laneC ∧ (State.stepRing s).vot = s.vot ∧
    (State.stepRing s).fes = s.fes ∧ (State.stepRing s).plan = s.plan ∧ (State.stepRing s).emit = s.emit ∧
    (State.stepRing s).lex = s.lex ∧ (State.stepRing s).swd = s.swd ∧ (State.stepRing s).swm = s.swm ∧
    (State.stepRing s).frz = s.frz ∧ (State.stepRing s).ccd = s.ccd ∧ (State.stepRing s).rings = s.rings ∧
    (State.stepRing s).latches = s.latches ∧ (State.stepRing s).closed = s.closed ∧
    (State.stepRing s).closureReported = s.closureReported ∧ (State.stepRing s).ddr = s.ddr ∧
    (State.stepRing s).busRead = s.busRead := by
  simp only [State.stepRing]
  (repeat' split) <;> simp_all
@[simp] theorem State.applyRow_keeps (s : State) :
    (State.applyRow s).now = s.now ∧ (State.applyRow s).pending = s.pending ∧ (State.applyRow s).free = s.free ∧
    (State.applyRow s).nv = s.nv ∧ (State.applyRow s).core = s.core ∧ (State.applyRow s).pin = s.pin ∧
    (State.applyRow s).aon = s.aon ∧ (State.applyRow s).flt = s.flt ∧ (State.applyRow s).brw = s.brw ∧
    (State.applyRow s).ids = s.ids ∧ (State.applyRow s).mbx = s.mbx ∧ (State.applyRow s).pool = s.pool ∧
    (State.applyRow s).laneA = s.laneA ∧ (State.applyRow s).laneB = s.laneB ∧ (State.applyRow s).laneC = s.laneC ∧
    (State.applyRow s).vot = s.vot ∧ (State.applyRow s).fes = s.fes ∧ (State.applyRow s).plan = s.plan ∧
    (State.applyRow s).emit = s.emit ∧ (State.applyRow s).lex = s.lex ∧ (State.applyRow s).swd = s.swd ∧
    (State.applyRow s).swm = s.swm ∧ (State.applyRow s).frz = s.frz ∧ (State.applyRow s).ccd = s.ccd ∧
    (State.applyRow s).htl = s.htl ∧ (State.applyRow s).rings = s.rings ∧ (State.applyRow s).latches = s.latches ∧
    (State.applyRow s).closed = s.closed ∧ (State.applyRow s).closureReported = s.closureReported ∧
    (State.applyRow s).ddr = s.ddr ∧ (State.applyRow s).busRead = s.busRead := by
  simp [State.applyRow]
@[simp] theorem State.domainFormed_keeps (s : State) :
    (State.domainFormed s).now = s.now ∧ (State.domainFormed s).pending = s.pending ∧ (State.domainFormed s).free = s.free ∧
    (State.domainFormed s).core = s.core ∧ (State.domainFormed s).pin = s.pin ∧ (State.domainFormed s).aon = s.aon ∧
    (State.domainFormed s).flt = s.flt ∧ (State.domainFormed s).brw = s.brw ∧ (State.domainFormed s).cfg = s.cfg ∧
    (State.domainFormed s).ids = s.ids ∧ (State.domainFormed s).mbx = s.mbx ∧ (State.domainFormed s).pool = s.pool ∧
    (State.domainFormed s).laneA = s.laneA ∧ (State.domainFormed s).laneB = s.laneB ∧
    (State.domainFormed s).laneC = s.laneC ∧ (State.domainFormed s).vot = s.vot ∧ (State.domainFormed s).fes = s.fes ∧
    (State.domainFormed s).plan = s.plan ∧ (State.domainFormed s).emit = s.emit ∧ (State.domainFormed s).lex = s.lex ∧
    (State.domainFormed s).swd = s.swd ∧ (State.domainFormed s).swm = s.swm ∧ (State.domainFormed s).frz = s.frz ∧
    (State.domainFormed s).ccd = s.ccd ∧ (State.domainFormed s).rings = s.rings ∧
    (State.domainFormed s).latches = s.latches ∧ (State.domainFormed s).closed = s.closed ∧
    (State.domainFormed s).closureReported = s.closureReported ∧ (State.domainFormed s).ddr = s.ddr ∧
    (State.domainFormed s).busRead = s.busRead := by
  simp [State.domainFormed]
@[simp] theorem State.lanesBoundary_keeps (s : State) :
    (State.lanesBoundary s).now = s.now ∧ (State.lanesBoundary s).pending = s.pending ∧
    (State.lanesBoundary s).free = s.free ∧ (State.lanesBoundary s).nv = s.nv ∧ (State.lanesBoundary s).core = s.core ∧
    (State.lanesBoundary s).pin = s.pin ∧ (State.lanesBoundary s).aon = s.aon ∧ (State.lanesBoundary s).flt = s.flt ∧
    (State.lanesBoundary s).brw = s.brw ∧ (State.lanesBoundary s).cfg = s.cfg ∧ (State.lanesBoundary s).ids = s.ids ∧
    (State.lanesBoundary s).mbx = s.mbx ∧ (State.lanesBoundary s).pool = s.pool ∧ (State.lanesBoundary s).laneA = s.laneA ∧
    (State.lanesBoundary s).laneB = s.laneB ∧ (State.lanesBoundary s).laneC = s.laneC ∧ (State.lanesBoundary s).vot = s.vot ∧
    (State.lanesBoundary s).plan = s.plan ∧ (State.lanesBoundary s).emit = s.emit ∧ (State.lanesBoundary s).lex = s.lex ∧
    (State.lanesBoundary s).swd = s.swd ∧ (State.lanesBoundary s).swm = s.swm ∧ (State.lanesBoundary s).frz = s.frz ∧
    (State.lanesBoundary s).ccd = s.ccd ∧ (State.lanesBoundary s).rings = s.rings ∧
    (State.lanesBoundary s).latches = s.latches ∧ (State.lanesBoundary s).closed = s.closed ∧
    (State.lanesBoundary s).closureReported = s.closureReported ∧ (State.lanesBoundary s).ddr = s.ddr ∧
    (State.lanesBoundary s).busRead = s.busRead := by
  simp [State.lanesBoundary]
@[simp] theorem State.writeOwed_keeps (s : State) (d : Dom) :
    (State.writeOwed s d).now = s.now ∧ (State.writeOwed s d).pending = s.pending ∧ (State.writeOwed s d).free = s.free ∧
    (State.writeOwed s d).nv = s.nv ∧ (State.writeOwed s d).pin = s.pin ∧ (State.writeOwed s d).aon = s.aon ∧
    (State.writeOwed s d).cfg = s.cfg ∧ (State.writeOwed s d).ids = s.ids ∧ (State.writeOwed s d).mbx = s.mbx ∧
    (State.writeOwed s d).pool = s.pool ∧ (State.writeOwed s d).laneA = s.laneA ∧ (State.writeOwed s d).laneB = s.laneB ∧
    (State.writeOwed s d).laneC = s.laneC ∧ (State.writeOwed s d).vot = s.vot ∧ (State.writeOwed s d).fes = s.fes ∧
    (State.writeOwed s d).plan = s.plan ∧ (State.writeOwed s d).emit = s.emit ∧ (State.writeOwed s d).lex = s.lex ∧
    (State.writeOwed s d).swd = s.swd ∧ (State.writeOwed s d).swm = s.swm ∧ (State.writeOwed s d).frz = s.frz ∧
    (State.writeOwed s d).ccd = s.ccd ∧ (State.writeOwed s d).rings = s.rings ∧ (State.writeOwed s d).latches = s.latches ∧
    (State.writeOwed s d).closed = s.closed ∧ (State.writeOwed s d).closureReported = s.closureReported ∧
    (State.writeOwed s d).ddr = s.ddr ∧ (State.writeOwed s d).busRead = s.busRead := by
  simp [State.writeOwed]
@[simp] theorem State.writeRst_keeps (s : State) (o : Nat) (v : Word) :
    (State.writeRst s o v).now = s.now ∧ (State.writeRst s o v).pending = s.pending ∧ (State.writeRst s o v).free = s.free ∧
    (State.writeRst s o v).nv = s.nv ∧ (State.writeRst s o v).pin = s.pin ∧ (State.writeRst s o v).aon = s.aon ∧
    (State.writeRst s o v).brw = s.brw ∧ (State.writeRst s o v).cfg = s.cfg ∧ (State.writeRst s o v).ids = s.ids ∧
    (State.writeRst s o v).mbx = s.mbx ∧ (State.writeRst s o v).pool = s.pool ∧ (State.writeRst s o v).laneA = s.laneA ∧
    (State.writeRst s o v).laneB = s.laneB ∧ (State.writeRst s o v).laneC = s.laneC ∧ (State.writeRst s o v).vot = s.vot ∧
    (State.writeRst s o v).fes = s.fes ∧ (State.writeRst s o v).plan = s.plan ∧ (State.writeRst s o v).emit = s.emit ∧
    (State.writeRst s o v).lex = s.lex ∧ (State.writeRst s o v).swd = s.swd ∧ (State.writeRst s o v).swm = s.swm ∧
    (State.writeRst s o v).frz = s.frz ∧ (State.writeRst s o v).ccd = s.ccd ∧ (State.writeRst s o v).htl = s.htl ∧
    (State.writeRst s o v).rings = s.rings ∧ (State.writeRst s o v).latches = s.latches ∧
    (State.writeRst s o v).closed = s.closed ∧ (State.writeRst s o v).closureReported = s.closureReported ∧
    (State.writeRst s o v).ddr = s.ddr ∧ (State.writeRst s o v).busRead = s.busRead := by
  simp [State.writeRst]
end Sys2Proof.Machine
end

