-- ==== Sys2Proof/Laws/Keeps5.lean ====
section
/-! SUPPORT. Frames of shared operations: what the operations of the boundaries, the legs and the marks leave unchanged. Each lemma lists fields of State that the operation does not touch. -/
namespace Sys2Proof.Machine
set_option linter.all false
@[simp] theorem State.updRect_keeps (s : State) (k : Nat) (f : Rect → Rect) :
    (State.updRect s k f).now = s.now ∧ (State.updRect s k f).pending = s.pending ∧ (State.updRect s k f).free = s.free ∧
    (State.updRect s k f).nv = s.nv ∧ (State.updRect s k f).core = s.core ∧ (State.updRect s k f).pin = s.pin ∧
    (State.updRect s k f).aon = s.aon ∧ (State.updRect s k f).flt = s.flt ∧ (State.updRect s k f).brw = s.brw ∧
    (State.updRect s k f).cfg = s.cfg ∧ (State.updRect s k f).ids = s.ids ∧ (State.updRect s k f).mbx = s.mbx ∧
    (State.updRect s k f).pool = s.pool ∧ (State.updRect s k f).laneA = s.laneA ∧ (State.updRect s k f).laneB = s.laneB ∧
    (State.updRect s k f).laneC = s.laneC ∧ (State.updRect s k f).vot = s.vot ∧ (State.updRect s k f).plan = s.plan ∧
    (State.updRect s k f).emit = s.emit ∧ (State.updRect s k f).lex = s.lex ∧ (State.updRect s k f).swd = s.swd ∧
    (State.updRect s k f).swm = s.swm ∧ (State.updRect s k f).frz = s.frz ∧ (State.updRect s k f).ccd = s.ccd ∧
    (State.updRect s k f).htl = s.htl ∧ (State.updRect s k f).rings = s.rings ∧ (State.updRect s k f).latches = s.latches ∧
    (State.updRect s k f).closed = s.closed ∧ (State.updRect s k f).closureReported = s.closureReported ∧
    (State.updRect s k f).ddr = s.ddr ∧ (State.updRect s k f).busRead = s.busRead := by
  simp [State.updRect]
@[simp] theorem State.rectState_keeps (s : State) (k new : Nat) :
    (State.rectState s k new).now = s.now ∧ (State.rectState s k new).pending = s.pending ∧
    (State.rectState s k new).free = s.free ∧ (State.rectState s k new).nv = s.nv ∧ (State.rectState s k new).core = s.core ∧
    (State.rectState s k new).pin = s.pin ∧ (State.rectState s k new).aon = s.aon ∧ (State.rectState s k new).cfg = s.cfg ∧
    (State.rectState s k new).ids = s.ids ∧ (State.rectState s k new).mbx = s.mbx ∧ (State.rectState s k new).pool = s.pool ∧
    (State.rectState s k new).laneA = s.laneA ∧ (State.rectState s k new).laneB = s.laneB ∧
    (State.rectState s k new).laneC = s.laneC ∧ (State.rectState s k new).vot = s.vot ∧
    (State.rectState s k new).plan = s.plan ∧ (State.rectState s k new).emit = s.emit ∧
    (State.rectState s k new).lex = s.lex ∧ (State.rectState s k new).swd = s.swd ∧ (State.rectState s k new).swm = s.swm ∧
    (State.rectState s k new).frz = s.frz ∧ (State.rectState s k new).ccd = s.ccd ∧
    (State.rectState s k new).rings = s.rings ∧ (State.rectState s k new).latches = s.latches ∧
    (State.rectState s k new).closed = s.closed ∧ (State.rectState s k new).closureReported = s.closureReported ∧
    (State.rectState s k new).ddr = s.ddr ∧ (State.rectState s k new).busRead = s.busRead := by
  simp [State.rectState]
@[simp] theorem State.placeRects_keeps (s : State) :
    (State.placeRects s).now = s.now ∧ (State.placeRects s).pending = s.pending ∧ (State.placeRects s).free = s.free ∧
    (State.placeRects s).nv = s.nv ∧ (State.placeRects s).core = s.core ∧ (State.placeRects s).pin = s.pin ∧
    (State.placeRects s).aon = s.aon ∧ (State.placeRects s).flt = s.flt ∧ (State.placeRects s).brw = s.brw ∧
    (State.placeRects s).cfg = s.cfg ∧ (State.placeRects s).ids = s.ids ∧ (State.placeRects s).mbx = s.mbx ∧
    (State.placeRects s).pool = s.pool ∧ (State.placeRects s).laneA = s.laneA ∧ (State.placeRects s).laneB = s.laneB ∧
    (State.placeRects s).laneC = s.laneC ∧ (State.placeRects s).vot = s.vot ∧ (State.placeRects s).plan = s.plan ∧
    (State.placeRects s).emit = s.emit ∧ (State.placeRects s).lex = s.lex ∧ (State.placeRects s).swd = s.swd ∧
    (State.placeRects s).swm = s.swm ∧ (State.placeRects s).frz = s.frz ∧ (State.placeRects s).ccd = s.ccd ∧
    (State.placeRects s).htl = s.htl ∧ (State.placeRects s).rings = s.rings ∧ (State.placeRects s).latches = s.latches ∧
    (State.placeRects s).closed = s.closed ∧ (State.placeRects s).closureReported = s.closureReported ∧
    (State.placeRects s).ddr = s.ddr ∧ (State.placeRects s).busRead = s.busRead := by
  simp [State.placeRects]
@[simp] theorem State.writeVout_keeps (s : State) :
    (State.writeVout s).now = s.now ∧ (State.writeVout s).pending = s.pending ∧ (State.writeVout s).free = s.free ∧
    (State.writeVout s).nv = s.nv ∧ (State.writeVout s).core = s.core ∧ (State.writeVout s).pin = s.pin ∧
    (State.writeVout s).aon = s.aon ∧ (State.writeVout s).flt = s.flt ∧ (State.writeVout s).brw = s.brw ∧
    (State.writeVout s).cfg = s.cfg ∧ (State.writeVout s).ids = s.ids ∧ (State.writeVout s).mbx = s.mbx ∧
    (State.writeVout s).pool = s.pool ∧ (State.writeVout s).laneA = s.laneA ∧ (State.writeVout s).laneB = s.laneB ∧
    (State.writeVout s).laneC = s.laneC ∧ (State.writeVout s).vot = s.vot ∧ (State.writeVout s).plan = s.plan ∧
    (State.writeVout s).emit = s.emit ∧ (State.writeVout s).lex = s.lex ∧ (State.writeVout s).swd = s.swd ∧
    (State.writeVout s).swm = s.swm ∧ (State.writeVout s).frz = s.frz ∧ (State.writeVout s).ccd = s.ccd ∧
    (State.writeVout s).htl = s.htl ∧ (State.writeVout s).rings = s.rings ∧ (State.writeVout s).latches = s.latches ∧
    (State.writeVout s).closed = s.closed ∧ (State.writeVout s).closureReported = s.closureReported ∧
    (State.writeVout s).ddr = s.ddr ∧ (State.writeVout s).busRead = s.busRead := by
  simp [State.writeVout]
@[simp] theorem State.endPoll_keeps (s : State) (k : Nat) :
    (State.endPoll s k).now = s.now ∧ (State.endPoll s k).pending = s.pending ∧ (State.endPoll s k).free = s.free ∧
    (State.endPoll s k).nv = s.nv ∧ (State.endPoll s k).core = s.core ∧ (State.endPoll s k).pin = s.pin ∧
    (State.endPoll s k).aon = s.aon ∧ (State.endPoll s k).cfg = s.cfg ∧ (State.endPoll s k).ids = s.ids ∧
    (State.endPoll s k).mbx = s.mbx ∧ (State.endPoll s k).pool = s.pool ∧ (State.endPoll s k).laneA = s.laneA ∧
    (State.endPoll s k).laneB = s.laneB ∧ (State.endPoll s k).laneC = s.laneC ∧ (State.endPoll s k).vot = s.vot ∧
    (State.endPoll s k).plan = s.plan ∧ (State.endPoll s k).emit = s.emit ∧ (State.endPoll s k).lex = s.lex ∧
    (State.endPoll s k).swd = s.swd ∧ (State.endPoll s k).swm = s.swm ∧ (State.endPoll s k).frz = s.frz ∧
    (State.endPoll s k).ccd = s.ccd ∧ (State.endPoll s k).rings = s.rings ∧ (State.endPoll s k).latches = s.latches ∧
    (State.endPoll s k).closed = s.closed ∧ (State.endPoll s k).closureReported = s.closureReported ∧
    (State.endPoll s k).ddr = s.ddr ∧ (State.endPoll s k).busRead = s.busRead := by
  simp [State.endPoll]
@[simp] theorem State.busError_keeps (s : State) (source addr : Nat) (r : TxRes) :
    (State.busError s source addr r).now = s.now ∧ (State.busError s source addr r).pending = s.pending ∧
    (State.busError s source addr r).free = s.free ∧ (State.busError s source addr r).nv = s.nv ∧
    (State.busError s source addr r).core = s.core ∧ (State.busError s source addr r).pin = s.pin ∧
    (State.busError s source addr r).aon = s.aon ∧ (State.busError s source addr r).brw = s.brw ∧
    (State.busError s source addr r).cfg = s.cfg ∧ (State.busError s source addr r).ids = s.ids ∧
    (State.busError s source addr r).mbx = s.mbx ∧ (State.busError s source addr r).pool = s.pool ∧
    (State.busError s source addr r).laneA = s.laneA ∧ (State.busError s source addr r).laneB = s.laneB ∧
    (State.busError s source addr r).laneC = s.laneC ∧ (State.busError s source addr r).vot = s.vot ∧
    (State.busError s source addr r).fes = s.fes ∧ (State.busError s source addr r).plan = s.plan ∧
    (State.busError s source addr r).emit = s.emit ∧ (State.busError s source addr r).lex = s.lex ∧
    (State.busError s source addr r).swd = s.swd ∧ (State.busError s source addr r).swm = s.swm ∧
    (State.busError s source addr r).frz = s.frz ∧ (State.busError s source addr r).ccd = s.ccd ∧
    (State.busError s source addr r).htl = s.htl ∧ (State.busError s source addr r).rings = s.rings ∧
    (State.busError s source addr r).latches = s.latches ∧ (State.busError s source addr r).closed = s.closed ∧
    (State.busError s source addr r).closureReported = s.closureReported ∧ (State.busError s source addr r).ddr = s.ddr ∧
    (State.busError s source addr r).busRead = s.busRead := by
  simp only [State.busError]
  (repeat' split) <;> simp_all
@[simp] theorem State.updStr_keeps (s : State) (j : Nat) (f : Str → Str) :
    (State.updStr s j f).now = s.now ∧ (State.updStr s j f).pending = s.pending ∧ (State.updStr s j f).free = s.free ∧
    (State.updStr s j f).nv = s.nv ∧ (State.updStr s j f).core = s.core ∧ (State.updStr s j f).pin = s.pin ∧
    (State.updStr s j f).aon = s.aon ∧ (State.updStr s j f).flt = s.flt ∧ (State.updStr s j f).brw = s.brw ∧
    (State.updStr s j f).cfg = s.cfg ∧ (State.updStr s j f).ids = s.ids ∧ (State.updStr s j f).mbx = s.mbx ∧
    (State.updStr s j f).pool = s.pool ∧ (State.updStr s j f).laneA = s.laneA ∧ (State.updStr s j f).laneB = s.laneB ∧
    (State.updStr s j f).laneC = s.laneC ∧ (State.updStr s j f).vot = s.vot ∧ (State.updStr s j f).plan = s.plan ∧
    (State.updStr s j f).emit = s.emit ∧ (State.updStr s j f).lex = s.lex ∧ (State.updStr s j f).swd = s.swd ∧
    (State.updStr s j f).swm = s.swm ∧ (State.updStr s j f).frz = s.frz ∧ (State.updStr s j f).ccd = s.ccd ∧
    (State.updStr s j f).htl = s.htl ∧ (State.updStr s j f).rings = s.rings ∧ (State.updStr s j f).latches = s.latches ∧
    (State.updStr s j f).closed = s.closed ∧ (State.updStr s j f).closureReported = s.closureReported ∧
    (State.updStr s j f).ddr = s.ddr ∧ (State.updStr s j f).busRead = s.busRead := by
  simp [State.updStr]
@[simp] theorem State.strCmd_keeps (s : State) (j code byte : Nat) :
    (State.strCmd s j code byte).now = s.now ∧ (State.strCmd s j code byte).pending = s.pending ∧
    (State.strCmd s j code byte).free = s.free ∧ (State.strCmd s j code byte).nv = s.nv ∧
    (State.strCmd s j code byte).core = s.core ∧ (State.strCmd s j code byte).pin = s.pin ∧
    (State.strCmd s j code byte).aon = s.aon ∧ (State.strCmd s j code byte).flt = s.flt ∧
    (State.strCmd s j code byte).brw = s.brw ∧ (State.strCmd s j code byte).cfg = s.cfg ∧
    (State.strCmd s j code byte).ids = s.ids ∧ (State.strCmd s j code byte).mbx = s.mbx ∧
    (State.strCmd s j code byte).pool = s.pool ∧ (State.strCmd s j code byte).laneA = s.laneA ∧
    (State.strCmd s j code byte).laneB = s.laneB ∧ (State.strCmd s j code byte).laneC = s.laneC ∧
    (State.strCmd s j code byte).vot = s.vot ∧ (State.strCmd s j code byte).plan = s.plan ∧
    (State.strCmd s j code byte).emit = s.emit ∧ (State.strCmd s j code byte).lex = s.lex ∧
    (State.strCmd s j code byte).swd = s.swd ∧ (State.strCmd s j code byte).swm = s.swm ∧
    (State.strCmd s j code byte).frz = s.frz ∧ (State.strCmd s j code byte).ccd = s.ccd ∧
    (State.strCmd s j code byte).htl = s.htl ∧ (State.strCmd s j code byte).rings = s.rings ∧
    (State.strCmd s j code byte).latches = s.latches ∧ (State.strCmd s j code byte).closed = s.closed ∧
    (State.strCmd s j code byte).closureReported = s.closureReported ∧ (State.strCmd s j code byte).ddr = s.ddr ∧
    (State.strCmd s j code byte).busRead = s.busRead := by
  simp [State.strCmd]
@[simp] theorem State.nextSpare_keeps (s : State) :
    (State.nextSpare s).now = s.now ∧ (State.nextSpare s).pending = s.pending ∧ (State.nextSpare s).free = s.free ∧
    (State.nextSpare s).nv = s.nv ∧ (State.nextSpare s).core = s.core ∧ (State.nextSpare s).pin = s.pin ∧
    (State.nextSpare s).aon = s.aon ∧ (State.nextSpare s).flt = s.flt ∧ (State.nextSpare s).brw = s.brw ∧
    (State.nextSpare s).cfg = s.cfg ∧ (State.nextSpare s).ids = s.ids ∧ (State.nextSpare s).mbx = s.mbx ∧
    (State.nextSpare s).pool = s.pool ∧ (State.nextSpare s).laneA = s.laneA ∧ (State.nextSpare s).laneB = s.laneB ∧
    (State.nextSpare s).laneC = s.laneC ∧ (State.nextSpare s).vot = s.vot ∧ (State.nextSpare s).plan = s.plan ∧
    (State.nextSpare s).emit = s.emit ∧ (State.nextSpare s).lex = s.lex ∧ (State.nextSpare s).swd = s.swd ∧
    (State.nextSpare s).swm = s.swm ∧ (State.nextSpare s).frz = s.frz ∧ (State.nextSpare s).ccd = s.ccd ∧
    (State.nextSpare s).htl = s.htl ∧ (State.nextSpare s).rings = s.rings ∧ (State.nextSpare s).latches = s.latches ∧
    (State.nextSpare s).closed = s.closed ∧ (State.nextSpare s).closureReported = s.closureReported ∧
    (State.nextSpare s).ddr = s.ddr ∧ (State.nextSpare s).busRead = s.busRead := by
  simp only [State.nextSpare]
  (repeat' split) <;> simp_all
@[simp] theorem State.retire_keeps (s : State) (j st : Nat) :
    (State.retire s j st).now = s.now ∧ (State.retire s j st).pending = s.pending ∧ (State.retire s j st).free = s.free ∧
    (State.retire s j st).nv = s.nv ∧ (State.retire s j st).core = s.core ∧ (State.retire s j st).pin = s.pin ∧
    (State.retire s j st).aon = s.aon ∧ (State.retire s j st).cfg = s.cfg ∧ (State.retire s j st).ids = s.ids ∧
    (State.retire s j st).mbx = s.mbx ∧ (State.retire s j st).pool = s.pool ∧ (State.retire s j st).laneA = s.laneA ∧
    (State.retire s j st).laneB = s.laneB ∧ (State.retire s j st).laneC = s.laneC ∧ (State.retire s j st).vot = s.vot ∧
    (State.retire s j st).plan = s.plan ∧ (State.retire s j st).emit = s.emit ∧ (State.retire s j st).lex = s.lex ∧
    (State.retire s j st).swd = s.swd ∧ (State.retire s j st).swm = s.swm ∧ (State.retire s j st).frz = s.frz ∧
    (State.retire s j st).ccd = s.ccd ∧ (State.retire s j st).rings = s.rings ∧ (State.retire s j st).latches = s.latches ∧
    (State.retire s j st).closed = s.closed ∧ (State.retire s j st).closureReported = s.closureReported ∧
    (State.retire s j st).ddr = s.ddr ∧ (State.retire s j st).busRead = s.busRead := by
  simp [State.retire]
@[simp] theorem State.joinFails_keeps (s : State) (j : Nat) :
    (State.joinFails s j).now = s.now ∧ (State.joinFails s j).pending = s.pending ∧ (State.joinFails s j).free = s.free ∧
    (State.joinFails s j).nv = s.nv ∧ (State.joinFails s j).core = s.core ∧ (State.joinFails s j).pin = s.pin ∧
    (State.joinFails s j).aon = s.aon ∧ (State.joinFails s j).cfg = s.cfg ∧ (State.joinFails s j).ids = s.ids ∧
    (State.joinFails s j).mbx = s.mbx ∧ (State.joinFails s j).pool = s.pool ∧ (State.joinFails s j).laneA = s.laneA ∧
    (State.joinFails s j).laneB = s.laneB ∧ (State.joinFails s j).laneC = s.laneC ∧ (State.joinFails s j).vot = s.vot ∧
    (State.joinFails s j).plan = s.plan ∧ (State.joinFails s j).emit = s.emit ∧ (State.joinFails s j).lex = s.lex ∧
    (State.joinFails s j).swd = s.swd ∧ (State.joinFails s j).swm = s.swm ∧ (State.joinFails s j).frz = s.frz ∧
    (State.joinFails s j).ccd = s.ccd ∧ (State.joinFails s j).rings = s.rings ∧ (State.joinFails s j).latches = s.latches ∧
    (State.joinFails s j).closed = s.closed ∧ (State.joinFails s j).closureReported = s.closureReported ∧
    (State.joinFails s j).ddr = s.ddr ∧ (State.joinFails s j).busRead = s.busRead := by
  simp [State.joinFails]
@[simp] theorem State.settle_keeps (s : State) :
    (State.settle s).now = s.now ∧ (State.settle s).pending = s.pending ∧ (State.settle s).free = s.free ∧
    (State.settle s).nv = s.nv ∧ (State.settle s).core = s.core ∧ (State.settle s).pin = s.pin ∧
    (State.settle s).aon = s.aon ∧ (State.settle s).flt = s.flt ∧ (State.settle s).brw = s.brw ∧
    (State.settle s).cfg = s.cfg ∧ (State.settle s).ids = s.ids ∧ (State.settle s).mbx = s.mbx ∧
    (State.settle s).pool = s.pool ∧ (State.settle s).laneA = s.laneA ∧ (State.settle s).laneB = s.laneB ∧
    (State.settle s).laneC = s.laneC ∧ (State.settle s).vot = s.vot ∧ (State.settle s).plan = s.plan ∧
    (State.settle s).emit = s.emit ∧ (State.settle s).lex = s.lex ∧ (State.settle s).swd = s.swd ∧
    (State.settle s).swm = s.swm ∧ (State.settle s).frz = s.frz ∧ (State.settle s).ccd = s.ccd ∧
    (State.settle s).htl = s.htl ∧ (State.settle s).rings = s.rings ∧ (State.settle s).latches = s.latches ∧
    (State.settle s).closed = s.closed ∧ (State.settle s).closureReported = s.closureReported ∧
    (State.settle s).ddr = s.ddr ∧ (State.settle s).busRead = s.busRead := by
  simp [State.settle]
@[simp] theorem State.openRetired_keeps (s : State) (j : Nat) :
    (State.openRetired s j).now = s.now ∧ (State.openRetired s j).pending = s.pending ∧
    (State.openRetired s j).free = s.free ∧ (State.openRetired s j).nv = s.nv ∧ (State.openRetired s j).core = s.core ∧
    (State.openRetired s j).pin = s.pin ∧ (State.openRetired s j).aon = s.aon ∧ (State.openRetired s j).flt = s.flt ∧
    (State.openRetired s j).brw = s.brw ∧ (State.openRetired s j).cfg = s.cfg ∧ (State.openRetired s j).ids = s.ids ∧
    (State.openRetired s j).mbx = s.mbx ∧ (State.openRetired s j).pool = s.pool ∧ (State.openRetired s j).laneA = s.laneA ∧
    (State.openRetired s j).laneB = s.laneB ∧ (State.openRetired s j).laneC = s.laneC ∧ (State.openRetired s j).vot = s.vot ∧
    (State.openRetired s j).plan = s.plan ∧ (State.openRetired s j).emit = s.emit ∧ (State.openRetired s j).lex = s.lex ∧
    (State.openRetired s j).swd = s.swd ∧ (State.openRetired s j).swm = s.swm ∧ (State.openRetired s j).frz = s.frz ∧
    (State.openRetired s j).ccd = s.ccd ∧ (State.openRetired s j).htl = s.htl ∧ (State.openRetired s j).rings = s.rings ∧
    (State.openRetired s j).latches = s.latches ∧ (State.openRetired s j).closed = s.closed ∧
    (State.openRetired s j).closureReported = s.closureReported ∧ (State.openRetired s j).ddr = s.ddr ∧
    (State.openRetired s j).busRead = s.busRead := by
  simp [State.openRetired]
@[simp] theorem State.pollStr_keeps (s : State) (j : Nat) (r : StrRes) :
    (State.pollStr s j r).now = s.now ∧ (State.pollStr s j r).pending = s.pending ∧ (State.pollStr s j r).free = s.free ∧
    (State.pollStr s j r).nv = s.nv ∧ (State.pollStr s j r).core = s.core ∧ (State.pollStr s j r).pin = s.pin ∧
    (State.pollStr s j r).aon = s.aon ∧ (State.pollStr s j r).cfg = s.cfg ∧ (State.pollStr s j r).ids = s.ids ∧
    (State.pollStr s j r).mbx = s.mbx ∧ (State.pollStr s j r).pool = s.pool ∧ (State.pollStr s j r).laneA = s.laneA ∧
    (State.pollStr s j r).laneB = s.laneB ∧ (State.pollStr s j r).laneC = s.laneC ∧ (State.pollStr s j r).vot = s.vot ∧
    (State.pollStr s j r).plan = s.plan ∧ (State.pollStr s j r).emit = s.emit ∧ (State.pollStr s j r).lex = s.lex ∧
    (State.pollStr s j r).swd = s.swd ∧ (State.pollStr s j r).swm = s.swm ∧ (State.pollStr s j r).frz = s.frz ∧
    (State.pollStr s j r).ccd = s.ccd ∧ (State.pollStr s j r).rings = s.rings ∧ (State.pollStr s j r).latches = s.latches ∧
    (State.pollStr s j r).closureReported = s.closureReported ∧ (State.pollStr s j r).ddr = s.ddr ∧
    (State.pollStr s j r).busRead = s.busRead := by
  simp only [State.pollStr]
  (repeat' split) <;> simp_all
@[simp] theorem State.busCharge_keeps (s : State) :
    (State.busCharge s).now = s.now ∧ (State.busCharge s).pending = s.pending ∧ (State.busCharge s).free = s.free ∧
    (State.busCharge s).nv = s.nv ∧ (State.busCharge s).core = s.core ∧ (State.busCharge s).pin = s.pin ∧
    (State.busCharge s).aon = s.aon ∧ (State.busCharge s).flt = s.flt ∧ (State.busCharge s).brw = s.brw ∧
    (State.busCharge s).cfg = s.cfg ∧ (State.busCharge s).ids = s.ids ∧ (State.busCharge s).mbx = s.mbx ∧
    (State.busCharge s).pool = s.pool ∧ (State.busCharge s).laneA = s.laneA ∧ (State.busCharge s).laneB = s.laneB ∧
    (State.busCharge s).laneC = s.laneC ∧ (State.busCharge s).vot = s.vot ∧ (State.busCharge s).plan = s.plan ∧
    (State.busCharge s).emit = s.emit ∧ (State.busCharge s).lex = s.lex ∧ (State.busCharge s).swd = s.swd ∧
    (State.busCharge s).swm = s.swm ∧ (State.busCharge s).frz = s.frz ∧ (State.busCharge s).ccd = s.ccd ∧
    (State.busCharge s).htl = s.htl ∧ (State.busCharge s).rings = s.rings ∧ (State.busCharge s).latches = s.latches ∧
    (State.busCharge s).closed = s.closed ∧ (State.busCharge s).closureReported = s.closureReported ∧
    (State.busCharge s).ddr = s.ddr ∧ (State.busCharge s).busRead = s.busRead := by
  simp [State.busCharge]
@[simp] theorem State.pollBatt_keeps (s : State) (r : StrRes) :
    (State.pollBatt s r).now = s.now ∧ (State.pollBatt s r).pending = s.pending ∧ (State.pollBatt s r).free = s.free ∧
    (State.pollBatt s r).nv = s.nv ∧ (State.pollBatt s r).core = s.core ∧ (State.pollBatt s r).pin = s.pin ∧
    (State.pollBatt s r).aon = s.aon ∧ (State.pollBatt s r).brw = s.brw ∧ (State.pollBatt s r).cfg = s.cfg ∧
    (State.pollBatt s r).ids = s.ids ∧ (State.pollBatt s r).mbx = s.mbx ∧ (State.pollBatt s r).pool = s.pool ∧
    (State.pollBatt s r).laneA = s.laneA ∧ (State.pollBatt s r).laneB = s.laneB ∧ (State.pollBatt s r).laneC = s.laneC ∧
    (State.pollBatt s r).vot = s.vot ∧ (State.pollBatt s r).plan = s.plan ∧ (State.pollBatt s r).emit = s.emit ∧
    (State.pollBatt s r).lex = s.lex ∧ (State.pollBatt s r).swd = s.swd ∧ (State.pollBatt s r).swm = s.swm ∧
    (State.pollBatt s r).frz = s.frz ∧ (State.pollBatt s r).ccd = s.ccd ∧ (State.pollBatt s r).htl = s.htl ∧
    (State.pollBatt s r).rings = s.rings ∧ (State.pollBatt s r).latches = s.latches ∧
    (State.pollBatt s r).closed = s.closed ∧ (State.pollBatt s r).closureReported = s.closureReported ∧
    (State.pollBatt s r).ddr = s.ddr ∧ (State.pollBatt s r).busRead = s.busRead := by
  simp only [State.pollBatt]
  (repeat' split) <;> simp_all
@[simp] theorem State.killClear_keeps (s : State) :
    (State.killClear s).now = s.now ∧ (State.killClear s).pending = s.pending ∧ (State.killClear s).free = s.free ∧
    (State.killClear s).nv = s.nv ∧ (State.killClear s).core = s.core ∧ (State.killClear s).pin = s.pin ∧
    (State.killClear s).aon = s.aon ∧ (State.killClear s).flt = s.flt ∧ (State.killClear s).brw = s.brw ∧
    (State.killClear s).cfg = s.cfg ∧ (State.killClear s).ids = s.ids ∧ (State.killClear s).mbx = s.mbx ∧
    (State.killClear s).laneA = s.laneA ∧ (State.killClear s).laneB = s.laneB ∧ (State.killClear s).laneC = s.laneC ∧
    (State.killClear s).fes = s.fes ∧ (State.killClear s).plan = s.plan ∧ (State.killClear s).emit = s.emit ∧
    (State.killClear s).lex = s.lex ∧ (State.killClear s).swd = s.swd ∧ (State.killClear s).swm = s.swm ∧
    (State.killClear s).frz = s.frz ∧ (State.killClear s).ccd = s.ccd ∧ (State.killClear s).htl = s.htl ∧
    (State.killClear s).rings = s.rings ∧ (State.killClear s).latches = s.latches ∧ (State.killClear s).closed = s.closed ∧
    (State.killClear s).closureReported = s.closureReported ∧ (State.killClear s).ddr = s.ddr ∧
    (State.killClear s).busRead = s.busRead := by
  simp only [State.killClear]
  (repeat' split) <;> simp_all
@[simp] theorem State.retain_keeps (s : State) :
    (State.retain s).now = s.now ∧ (State.retain s).pending = s.pending ∧ (State.retain s).free = s.free ∧
    (State.retain s).nv = s.nv ∧ (State.retain s).core = s.core ∧ (State.retain s).pin = s.pin ∧
    (State.retain s).aon = s.aon ∧ (State.retain s).flt = s.flt ∧ (State.retain s).brw = s.brw ∧
    (State.retain s).cfg = s.cfg ∧ (State.retain s).ids = s.ids ∧ (State.retain s).mbx = s.mbx ∧
    (State.retain s).pool = s.pool ∧ (State.retain s).laneA = s.laneA ∧ (State.retain s).laneB = s.laneB ∧
    (State.retain s).laneC = s.laneC ∧ (State.retain s).fes = s.fes ∧ (State.retain s).plan = s.plan ∧
    (State.retain s).emit = s.emit ∧ (State.retain s).lex = s.lex ∧ (State.retain s).swd = s.swd ∧
    (State.retain s).swm = s.swm ∧ (State.retain s).frz = s.frz ∧ (State.retain s).ccd = s.ccd ∧
    (State.retain s).htl = s.htl ∧ (State.retain s).rings = s.rings ∧ (State.retain s).latches = s.latches ∧
    (State.retain s).closed = s.closed ∧ (State.retain s).closureReported = s.closureReported ∧
    (State.retain s).ddr = s.ddr ∧ (State.retain s).busRead = s.busRead := by
  simp [State.retain]
@[simp] theorem State.rebase_keeps (s : State) (x : Lane) :
    (State.rebase s x).now = s.now ∧ (State.rebase s x).pending = s.pending ∧ (State.rebase s x).free = s.free ∧
    (State.rebase s x).nv = s.nv ∧ (State.rebase s x).core = s.core ∧ (State.rebase s x).pin = s.pin ∧
    (State.rebase s x).aon = s.aon ∧ (State.rebase s x).flt = s.flt ∧ (State.rebase s x).brw = s.brw ∧
    (State.rebase s x).cfg = s.cfg ∧ (State.rebase s x).ids = s.ids ∧ (State.rebase s x).mbx = s.mbx ∧
    (State.rebase s x).pool = s.pool ∧ (State.rebase s x).vot = s.vot ∧ (State.rebase s x).fes = s.fes ∧
    (State.rebase s x).plan = s.plan ∧ (State.rebase s x).emit = s.emit ∧ (State.rebase s x).lex = s.lex ∧
    (State.rebase s x).swd = s.swd ∧ (State.rebase s x).swm = s.swm ∧ (State.rebase s x).frz = s.frz ∧
    (State.rebase s x).ccd = s.ccd ∧ (State.rebase s x).htl = s.htl ∧ (State.rebase s x).rings = s.rings ∧
    (State.rebase s x).latches = s.latches ∧ (State.rebase s x).closed = s.closed ∧
    (State.rebase s x).closureReported = s.closureReported ∧ (State.rebase s x).ddr = s.ddr ∧
    (State.rebase s x).busRead = s.busRead := by
  simp [State.rebase]
@[simp] theorem State.shadowMark_keeps (s : State) (x : Lane) :
    (State.shadowMark s x).now = s.now ∧ (State.shadowMark s x).pending = s.pending ∧ (State.shadowMark s x).free = s.free ∧
    (State.shadowMark s x).nv = s.nv := by
  simp only [State.shadowMark]
  (repeat' split) <;> simp_all
@[simp] theorem State.firstMark_keeps (s : State) (x : Lane) :
    (State.firstMark s x).now = s.now ∧ (State.firstMark s x).pending = s.pending ∧ (State.firstMark s x).free = s.free ∧
    (State.firstMark s x).nv = s.nv ∧ (State.firstMark s x).core = s.core ∧ (State.firstMark s x).pin = s.pin ∧
    (State.firstMark s x).aon = s.aon ∧ (State.firstMark s x).flt = s.flt ∧ (State.firstMark s x).brw = s.brw ∧
    (State.firstMark s x).cfg = s.cfg ∧ (State.firstMark s x).ids = s.ids ∧ (State.firstMark s x).mbx = s.mbx ∧
    (State.firstMark s x).pool = s.pool ∧ (State.firstMark s x).vot = s.vot ∧ (State.firstMark s x).fes = s.fes ∧
    (State.firstMark s x).plan = s.plan ∧ (State.firstMark s x).emit = s.emit ∧ (State.firstMark s x).lex = s.lex ∧
    (State.firstMark s x).swd = s.swd ∧ (State.firstMark s x).swm = s.swm ∧ (State.firstMark s x).frz = s.frz ∧
    (State.firstMark s x).ccd = s.ccd ∧ (State.firstMark s x).htl = s.htl ∧ (State.firstMark s x).rings = s.rings ∧
    (State.firstMark s x).latches = s.latches ∧ (State.firstMark s x).closed = s.closed ∧
    (State.firstMark s x).closureReported = s.closureReported ∧ (State.firstMark s x).ddr = s.ddr ∧
    (State.firstMark s x).busRead = s.busRead := by
  simp [State.firstMark]
@[simp] theorem State.snapshots_keeps (s : State) :
    (State.snapshots s).now = s.now ∧ (State.snapshots s).pending = s.pending ∧ (State.snapshots s).free = s.free ∧
    (State.snapshots s).nv = s.nv ∧ (State.snapshots s).core = s.core ∧ (State.snapshots s).pin = s.pin ∧
    (State.snapshots s).aon = s.aon ∧ (State.snapshots s).flt = s.flt ∧ (State.snapshots s).brw = s.brw ∧
    (State.snapshots s).cfg = s.cfg ∧ (State.snapshots s).ids = s.ids ∧ (State.snapshots s).mbx = s.mbx ∧
    (State.snapshots s).pool = s.pool ∧ (State.snapshots s).vot = s.vot ∧ (State.snapshots s).fes = s.fes ∧
    (State.snapshots s).plan = s.plan ∧ (State.snapshots s).emit = s.emit ∧ (State.snapshots s).lex = s.lex ∧
    (State.snapshots s).swd = s.swd ∧ (State.snapshots s).swm = s.swm ∧ (State.snapshots s).frz = s.frz ∧
    (State.snapshots s).ccd = s.ccd ∧ (State.snapshots s).htl = s.htl ∧ (State.snapshots s).rings = s.rings ∧
    (State.snapshots s).latches = s.latches ∧ (State.snapshots s).closed = s.closed ∧
    (State.snapshots s).closureReported = s.closureReported ∧ (State.snapshots s).ddr = s.ddr ∧
    (State.snapshots s).busRead = s.busRead := by
  simp [State.snapshots]
@[simp] theorem State.markRing_keeps (s : State) :
    (State.markRing s).now = s.now ∧ (State.markRing s).pending = s.pending ∧ (State.markRing s).free = s.free ∧
    (State.markRing s).nv = s.nv ∧ (State.markRing s).core = s.core ∧ (State.markRing s).pin = s.pin ∧
    (State.markRing s).flt = s.flt ∧ (State.markRing s).brw = s.brw ∧ (State.markRing s).cfg = s.cfg ∧
    (State.markRing s).ids = s.ids ∧ (State.markRing s).mbx = s.mbx ∧ (State.markRing s).pool = s.pool ∧
    (State.markRing s).laneA = s.laneA ∧ (State.markRing s).laneB = s.laneB ∧ (State.markRing s).laneC = s.laneC ∧
    (State.markRing s).fes = s.fes ∧ (State.markRing s).emit = s.emit ∧ (State.markRing s).lex = s.lex ∧
    (State.markRing s).swd = s.swd ∧ (State.markRing s).swm = s.swm ∧ (State.markRing s).frz = s.frz ∧
    (State.markRing s).ccd = s.ccd ∧ (State.markRing s).htl = s.htl ∧ (State.markRing s).latches = s.latches ∧
    (State.markRing s).closed = s.closed ∧ (State.markRing s).closureReported = s.closureReported ∧
    (State.markRing s).ddr = s.ddr ∧ (State.markRing s).busRead = s.busRead := by
  simp [State.markRing]
@[simp] theorem State.measure_keeps (s : State) (x : MarkIn) :
    (State.measure s x).now = s.now ∧ (State.measure s x).pending = s.pending ∧ (State.measure s x).free = s.free ∧
    (State.measure s x).nv = s.nv ∧ (State.measure s x).core = s.core ∧ (State.measure s x).pin = s.pin ∧
    (State.measure s x).aon = s.aon ∧ (State.measure s x).flt = s.flt ∧ (State.measure s x).brw = s.brw ∧
    (State.measure s x).cfg = s.cfg ∧ (State.measure s x).ids = s.ids ∧ (State.measure s x).mbx = s.mbx ∧
    (State.measure s x).pool = s.pool ∧ (State.measure s x).vot = s.vot ∧ (State.measure s x).plan = s.plan ∧
    (State.measure s x).emit = s.emit ∧ (State.measure s x).lex = s.lex ∧ (State.measure s x).swd = s.swd ∧
    (State.measure s x).swm = s.swm ∧ (State.measure s x).frz = s.frz ∧ (State.measure s x).htl = s.htl ∧
    (State.measure s x).rings = s.rings ∧ (State.measure s x).latches = s.latches ∧ (State.measure s x).closed = s.closed ∧
    (State.measure s x).closureReported = s.closureReported ∧ (State.measure s x).ddr = s.ddr ∧
    (State.measure s x).busRead = s.busRead := by
  simp [State.measure]
@[simp] theorem State.busMeans_keeps (s : State) (x : MarkIn) :
    (State.busMeans s x).now = s.now ∧ (State.busMeans s x).pending = s.pending ∧ (State.busMeans s x).free = s.free ∧
    (State.busMeans s x).nv = s.nv ∧ (State.busMeans s x).core = s.core ∧ (State.busMeans s x).pin = s.pin ∧
    (State.busMeans s x).aon = s.aon ∧ (State.busMeans s x).flt = s.flt ∧ (State.busMeans s x).brw = s.brw ∧
    (State.busMeans s x).cfg = s.cfg ∧ (State.busMeans s x).ids = s.ids ∧ (State.busMeans s x).mbx = s.mbx ∧
    (State.busMeans s x).pool = s.pool ∧ (State.busMeans s x).vot = s.vot ∧ (State.busMeans s x).fes = s.fes ∧
    (State.busMeans s x).plan = s.plan ∧ (State.busMeans s x).emit = s.emit ∧ (State.busMeans s x).lex = s.lex ∧
    (State.busMeans s x).swd = s.swd ∧ (State.busMeans s x).swm = s.swm ∧ (State.busMeans s x).frz = s.frz ∧
    (State.busMeans s x).ccd = s.ccd ∧ (State.busMeans s x).htl = s.htl ∧ (State.busMeans s x).rings = s.rings ∧
    (State.busMeans s x).latches = s.latches ∧ (State.busMeans s x).closed = s.closed ∧
    (State.busMeans s x).closureReported = s.closureReported ∧ (State.busMeans s x).ddr = s.ddr ∧
    (State.busMeans s x).busRead = s.busRead := by
  simp [State.busMeans]
@[simp] theorem State.endpoints_keeps (s : State) :
    (State.endpoints s).now = s.now ∧ (State.endpoints s).pending = s.pending ∧ (State.endpoints s).free = s.free ∧
    (State.endpoints s).nv = s.nv ∧ (State.endpoints s).core = s.core ∧ (State.endpoints s).pin = s.pin ∧
    (State.endpoints s).aon = s.aon ∧ (State.endpoints s).flt = s.flt ∧ (State.endpoints s).brw = s.brw ∧
    (State.endpoints s).cfg = s.cfg ∧ (State.endpoints s).ids = s.ids ∧ (State.endpoints s).mbx = s.mbx ∧
    (State.endpoints s).pool = s.pool ∧ (State.endpoints s).vot = s.vot ∧ (State.endpoints s).fes = s.fes ∧
    (State.endpoints s).plan = s.plan ∧ (State.endpoints s).emit = s.emit ∧ (State.endpoints s).lex = s.lex ∧
    (State.endpoints s).swd = s.swd ∧ (State.endpoints s).swm = s.swm ∧ (State.endpoints s).frz = s.frz ∧
    (State.endpoints s).ccd = s.ccd ∧ (State.endpoints s).htl = s.htl ∧ (State.endpoints s).rings = s.rings ∧
    (State.endpoints s).latches = s.latches ∧ (State.endpoints s).closed = s.closed ∧
    (State.endpoints s).closureReported = s.closureReported ∧ (State.endpoints s).ddr = s.ddr ∧
    (State.endpoints s).busRead = s.busRead := by
  simp [State.endpoints]
@[simp] theorem State.centring_keeps (s : State) :
    (State.centring s).now = s.now ∧ (State.centring s).pending = s.pending ∧ (State.centring s).free = s.free ∧
    (State.centring s).nv = s.nv ∧ (State.centring s).core = s.core ∧ (State.centring s).pin = s.pin ∧
    (State.centring s).aon = s.aon ∧ (State.centring s).flt = s.flt ∧ (State.centring s).brw = s.brw ∧
    (State.centring s).cfg = s.cfg ∧ (State.centring s).ids = s.ids ∧ (State.centring s).mbx = s.mbx ∧
    (State.centring s).pool = s.pool ∧ (State.centring s).vot = s.vot ∧ (State.centring s).fes = s.fes ∧
    (State.centring s).plan = s.plan ∧ (State.centring s).emit = s.emit ∧ (State.centring s).lex = s.lex ∧
    (State.centring s).swd = s.swd ∧ (State.centring s).swm = s.swm ∧ (State.centring s).frz = s.frz ∧
    (State.centring s).ccd = s.ccd ∧ (State.centring s).htl = s.htl ∧ (State.centring s).rings = s.rings ∧
    (State.centring s).latches = s.latches ∧ (State.centring s).closed = s.closed ∧
    (State.centring s).closureReported = s.closureReported ∧ (State.centring s).ddr = s.ddr ∧
    (State.centring s).busRead = s.busRead := by
  simp [State.centring]
@[simp] theorem State.baseOnTimes_keeps (s : State) (x : MarkIn) :
    (State.baseOnTimes s x).now = s.now ∧ (State.baseOnTimes s x).pending = s.pending ∧
    (State.baseOnTimes s x).free = s.free ∧ (State.baseOnTimes s x).nv = s.nv ∧ (State.baseOnTimes s x).core = s.core ∧
    (State.baseOnTimes s x).pin = s.pin ∧ (State.baseOnTimes s x).aon = s.aon ∧ (State.baseOnTimes s x).flt = s.flt ∧
    (State.baseOnTimes s x).brw = s.brw ∧ (State.baseOnTimes s x).cfg = s.cfg ∧ (State.baseOnTimes s x).ids = s.ids ∧
    (State.baseOnTimes s x).mbx = s.mbx ∧ (State.baseOnTimes s x).pool = s.pool ∧ (State.baseOnTimes s x).vot = s.vot ∧
    (State.baseOnTimes s x).fes = s.fes ∧ (State.baseOnTimes s x).plan = s.plan ∧ (State.baseOnTimes s x).emit = s.emit ∧
    (State.baseOnTimes s x).lex = s.lex ∧ (State.baseOnTimes s x).swd = s.swd ∧ (State.baseOnTimes s x).swm = s.swm ∧
    (State.baseOnTimes s x).frz = s.frz ∧ (State.baseOnTimes s x).ccd = s.ccd ∧ (State.baseOnTimes s x).htl = s.htl ∧
    (State.baseOnTimes s x).rings = s.rings ∧ (State.baseOnTimes s x).latches = s.latches ∧
    (State.baseOnTimes s x).closed = s.closed ∧ (State.baseOnTimes s x).closureReported = s.closureReported ∧
    (State.baseOnTimes s x).ddr = s.ddr ∧ (State.baseOnTimes s x).busRead = s.busRead := by
  simp [State.baseOnTimes]
@[simp] theorem State.balance_keeps (s : State) :
    (State.balance s).now = s.now ∧ (State.balance s).pending = s.pending ∧ (State.balance s).free = s.free ∧
    (State.balance s).nv = s.nv ∧ (State.balance s).core = s.core ∧ (State.balance s).pin = s.pin ∧
    (State.balance s).aon = s.aon ∧ (State.balance s).flt = s.flt ∧ (State.balance s).brw = s.brw ∧
    (State.balance s).cfg = s.cfg ∧ (State.balance s).ids = s.ids ∧ (State.balance s).mbx = s.mbx ∧
    (State.balance s).laneA = s.laneA ∧ (State.balance s).laneB = s.laneB ∧ (State.balance s).laneC = s.laneC ∧
    (State.balance s).vot = s.vot ∧ (State.balance s).fes = s.fes ∧ (State.balance s).plan = s.plan ∧
    (State.balance s).emit = s.emit ∧ (State.balance s).lex = s.lex ∧ (State.balance s).swd = s.swd ∧
    (State.balance s).swm = s.swm ∧ (State.balance s).frz = s.frz ∧ (State.balance s).ccd = s.ccd ∧
    (State.balance s).htl = s.htl ∧ (State.balance s).rings = s.rings ∧ (State.balance s).latches = s.latches ∧
    (State.balance s).closed = s.closed ∧ (State.balance s).closureReported = s.closureReported ∧
    (State.balance s).ddr = s.ddr ∧ (State.balance s).busRead = s.busRead := by
  simp [State.balance]
@[simp] theorem State.groupLimits_keeps (s : State) :
    (State.groupLimits s).now = s.now ∧ (State.groupLimits s).pending = s.pending ∧ (State.groupLimits s).free = s.free ∧
    (State.groupLimits s).nv = s.nv ∧ (State.groupLimits s).core = s.core ∧ (State.groupLimits s).pin = s.pin ∧
    (State.groupLimits s).aon = s.aon ∧ (State.groupLimits s).flt = s.flt ∧ (State.groupLimits s).brw = s.brw ∧
    (State.groupLimits s).cfg = s.cfg ∧ (State.groupLimits s).ids = s.ids ∧ (State.groupLimits s).mbx = s.mbx ∧
    (State.groupLimits s).laneA = s.laneA ∧ (State.groupLimits s).laneB = s.laneB ∧ (State.groupLimits s).laneC = s.laneC ∧
    (State.groupLimits s).vot = s.vot ∧ (State.groupLimits s).fes = s.fes ∧ (State.groupLimits s).plan = s.plan ∧
    (State.groupLimits s).emit = s.emit ∧ (State.groupLimits s).lex = s.lex ∧ (State.groupLimits s).swd = s.swd ∧
    (State.groupLimits s).swm = s.swm ∧ (State.groupLimits s).frz = s.frz ∧ (State.groupLimits s).ccd = s.ccd ∧
    (State.groupLimits s).htl = s.htl ∧ (State.groupLimits s).rings = s.rings ∧ (State.groupLimits s).latches = s.latches ∧
    (State.groupLimits s).closed = s.closed ∧ (State.groupLimits s).closureReported = s.closureReported ∧
    (State.groupLimits s).ddr = s.ddr ∧ (State.groupLimits s).busRead = s.busRead := by
  simp [State.groupLimits]
@[simp] theorem State.startStage_keeps (s : State) :
    (State.startStage s).now = s.now ∧ (State.startStage s).pending = s.pending ∧ (State.startStage s).free = s.free ∧
    (State.startStage s).nv = s.nv ∧ (State.startStage s).core = s.core ∧ (State.startStage s).pin = s.pin ∧
    (State.startStage s).aon = s.aon ∧ (State.startStage s).cfg = s.cfg ∧ (State.startStage s).ids = s.ids ∧
    (State.startStage s).mbx = s.mbx ∧ (State.startStage s).vot = s.vot ∧ (State.startStage s).fes = s.fes ∧
    (State.startStage s).plan = s.plan ∧ (State.startStage s).emit = s.emit ∧ (State.startStage s).lex = s.lex ∧
    (State.startStage s).swd = s.swd ∧ (State.startStage s).swm = s.swm ∧ (State.startStage s).frz = s.frz ∧
    (State.startStage s).ccd = s.ccd ∧ (State.startStage s).rings = s.rings ∧ (State.startStage s).latches = s.latches ∧
    (State.startStage s).closed = s.closed ∧ (State.startStage s).closureReported = s.closureReported ∧
    (State.startStage s).ddr = s.ddr ∧ (State.startStage s).busRead = s.busRead := by
  simp [State.startStage]
@[simp] theorem State.idleTarget_keeps (s : State) :
    (State.idleTarget s).now = s.now ∧ (State.idleTarget s).pending = s.pending ∧ (State.idleTarget s).free = s.free ∧
    (State.idleTarget s).nv = s.nv ∧ (State.idleTarget s).core = s.core ∧ (State.idleTarget s).pin = s.pin ∧
    (State.idleTarget s).aon = s.aon ∧ (State.idleTarget s).flt = s.flt ∧ (State.idleTarget s).brw = s.brw ∧
    (State.idleTarget s).cfg = s.cfg ∧ (State.idleTarget s).ids = s.ids ∧ (State.idleTarget s).mbx = s.mbx ∧
    (State.idleTarget s).pool = s.pool ∧ (State.idleTarget s).vot = s.vot ∧ (State.idleTarget s).fes = s.fes ∧
    (State.idleTarget s).plan = s.plan ∧ (State.idleTarget s).emit = s.emit ∧ (State.idleTarget s).lex = s.lex ∧
    (State.idleTarget s).swd = s.swd ∧ (State.idleTarget s).swm = s.swm ∧ (State.idleTarget s).frz = s.frz ∧
    (State.idleTarget s).ccd = s.ccd ∧ (State.idleTarget s).htl = s.htl ∧ (State.idleTarget s).rings = s.rings ∧
    (State.idleTarget s).latches = s.latches ∧ (State.idleTarget s).closed = s.closed ∧
    (State.idleTarget s).closureReported = s.closureReported ∧ (State.idleTarget s).ddr = s.ddr ∧
    (State.idleTarget s).busRead = s.busRead := by
  simp [State.idleTarget]
@[simp] theorem State.fallowUpdate_keeps (s : State) :
    (State.fallowUpdate s).now = s.now ∧ (State.fallowUpdate s).pending = s.pending ∧ (State.fallowUpdate s).free = s.free ∧
    (State.fallowUpdate s).nv = s.nv ∧ (State.fallowUpdate s).core = s.core ∧ (State.fallowUpdate s).pin = s.pin ∧
    (State.fallowUpdate s).aon = s.aon ∧ (State.fallowUpdate s).flt = s.flt ∧ (State.fallowUpdate s).brw = s.brw ∧
    (State.fallowUpdate s).cfg = s.cfg ∧ (State.fallowUpdate s).ids = s.ids ∧ (State.fallowUpdate s).mbx = s.mbx ∧
    (State.fallowUpdate s).pool = s.pool ∧ (State.fallowUpdate s).laneA = s.laneA ∧ (State.fallowUpdate s).laneB = s.laneB ∧
    (State.fallowUpdate s).laneC = s.laneC ∧ (State.fallowUpdate s).vot = s.vot ∧ (State.fallowUpdate s).plan = s.plan ∧
    (State.fallowUpdate s).emit = s.emit ∧ (State.fallowUpdate s).lex = s.lex ∧ (State.fallowUpdate s).swd = s.swd ∧
    (State.fallowUpdate s).swm = s.swm ∧ (State.fallowUpdate s).frz = s.frz ∧ (State.fallowUpdate s).ccd = s.ccd ∧
    (State.fallowUpdate s).htl = s.htl ∧ (State.fallowUpdate s).rings = s.rings ∧
    (State.fallowUpdate s).latches = s.latches ∧ (State.fallowUpdate s).closed = s.closed ∧
    (State.fallowUpdate s).closureReported = s.closureReported ∧ (State.fallowUpdate s).ddr = s.ddr ∧
    (State.fallowUpdate s).busRead = s.busRead := by
  simp [State.fallowUpdate]
@[simp] theorem State.groupB_keeps (s : State) :
    (State.groupB s).now = s.now ∧ (State.groupB s).pending = s.pending ∧ (State.groupB s).free = s.free ∧
    (State.groupB s).nv = s.nv ∧ (State.groupB s).core = s.core ∧ (State.groupB s).pin = s.pin ∧
    (State.groupB s).aon = s.aon ∧ (State.groupB s).flt = s.flt ∧ (State.groupB s).brw = s.brw ∧
    (State.groupB s).cfg = s.cfg ∧ (State.groupB s).ids = s.ids ∧ (State.groupB s).mbx = s.mbx ∧
    (State.groupB s).pool = s.pool ∧ (State.groupB s).laneA = s.laneA ∧ (State.groupB s).laneB = s.laneB ∧
    (State.groupB s).laneC = s.laneC ∧ (State.groupB s).vot = s.vot ∧ (State.groupB s).plan = s.plan ∧
    (State.groupB s).emit = s.emit ∧ (State.groupB s).lex = s.lex ∧ (State.groupB s).swd = s.swd ∧
    (State.groupB s).swm = s.swm ∧ (State.groupB s).frz = s.frz ∧ (State.groupB s).ccd = s.ccd ∧
    (State.groupB s).htl = s.htl ∧ (State.groupB s).rings = s.rings ∧ (State.groupB s).latches = s.latches ∧
    (State.groupB s).closed = s.closed ∧ (State.groupB s).closureReported = s.closureReported ∧
    (State.groupB s).ddr = s.ddr ∧ (State.groupB s).busRead = s.busRead := by
  simp [State.groupB]
@[simp] theorem State.edgeUpdate_keeps (s : State) (x : MarkIn) :
    (State.edgeUpdate s x).now = s.now ∧ (State.edgeUpdate s x).pending = s.pending ∧ (State.edgeUpdate s x).free = s.free ∧
    (State.edgeUpdate s x).nv = s.nv ∧ (State.edgeUpdate s x).core = s.core ∧ (State.edgeUpdate s x).pin = s.pin ∧
    (State.edgeUpdate s x).aon = s.aon ∧ (State.edgeUpdate s x).cfg = s.cfg ∧ (State.edgeUpdate s x).ids = s.ids ∧
    (State.edgeUpdate s x).mbx = s.mbx ∧ (State.edgeUpdate s x).pool = s.pool ∧ (State.edgeUpdate s x).laneA = s.laneA ∧
    (State.edgeUpdate s x).laneB = s.laneB ∧ (State.edgeUpdate s x).laneC = s.laneC ∧ (State.edgeUpdate s x).vot = s.vot ∧
    (State.edgeUpdate s x).plan = s.plan ∧ (State.edgeUpdate s x).emit = s.emit ∧ (State.edgeUpdate s x).lex = s.lex ∧
    (State.edgeUpdate s x).swd = s.swd ∧ (State.edgeUpdate s x).swm = s.swm ∧ (State.edgeUpdate s x).frz = s.frz ∧
    (State.edgeUpdate s x).ccd = s.ccd ∧ (State.edgeUpdate s x).rings = s.rings ∧
    (State.edgeUpdate s x).latches = s.latches ∧ (State.edgeUpdate s x).closed = s.closed ∧
    (State.edgeUpdate s x).closureReported = s.closureReported ∧ (State.edgeUpdate s x).ddr = s.ddr ∧
    (State.edgeUpdate s x).busRead = s.busRead := by
  simp [State.edgeUpdate]
@[simp] theorem State.gridUpdate_keeps (s : State) (start : Time) :
    (State.gridUpdate s start).now = s.now ∧ (State.gridUpdate s start).pending = s.pending ∧
    (State.gridUpdate s start).free = s.free ∧ (State.gridUpdate s start).nv = s.nv ∧
    (State.gridUpdate s start).core = s.core ∧ (State.gridUpdate s start).pin = s.pin ∧
    (State.gridUpdate s start).aon = s.aon ∧ (State.gridUpdate s start).flt = s.flt ∧
    (State.gridUpdate s start).brw = s.brw ∧ (State.gridUpdate s start).cfg = s.cfg ∧
    (State.gridUpdate s start).ids = s.ids ∧ (State.gridUpdate s start).mbx = s.mbx ∧
    (State.gridUpdate s start).pool = s.pool ∧ (State.gridUpdate s start).laneA = s.laneA ∧
    (State.gridUpdate s start).laneB = s.laneB ∧ (State.gridUpdate s start).laneC = s.laneC ∧
    (State.gridUpdate s start).vot = s.vot ∧ (State.gridUpdate s start).plan = s.plan ∧
    (State.gridUpdate s start).emit = s.emit ∧ (State.gridUpdate s start).lex = s.lex ∧
    (State.gridUpdate s start).swd = s.swd ∧ (State.gridUpdate s start).swm = s.swm ∧
    (State.gridUpdate s start).frz = s.frz ∧ (State.gridUpdate s start).ccd = s.ccd ∧
    (State.gridUpdate s start).htl = s.htl ∧ (State.gridUpdate s start).rings = s.rings ∧
    (State.gridUpdate s start).latches = s.latches ∧ (State.gridUpdate s start).closed = s.closed ∧
    (State.gridUpdate s start).closureReported = s.closureReported ∧ (State.gridUpdate s start).ddr = s.ddr ∧
    (State.gridUpdate s start).busRead = s.busRead := by
  simp [State.gridUpdate]
@[simp] theorem State.reengageStart_keeps (s : State) :
    (State.reengageStart s).now = s.now ∧ (State.reengageStart s).pending = s.pending ∧
    (State.reengageStart s).free = s.free ∧ (State.reengageStart s).nv = s.nv ∧ (State.reengageStart s).core = s.core ∧
    (State.reengageStart s).pin = s.pin ∧ (State.reengageStart s).aon = s.aon ∧ (State.reengageStart s).flt = s.flt ∧
    (State.reengageStart s).brw = s.brw ∧ (State.reengageStart s).cfg = s.cfg ∧ (State.reengageStart s).ids = s.ids ∧
    (State.reengageStart s).mbx = s.mbx ∧ (State.reengageStart s).pool = s.pool ∧ (State.reengageStart s).laneA = s.laneA ∧
    (State.reengageStart s).laneB = s.laneB ∧ (State.reengageStart s).laneC = s.laneC ∧ (State.reengageStart s).vot = s.vot ∧
    (State.reengageStart s).plan = s.plan ∧ (State.reengageStart s).emit = s.emit ∧ (State.reengageStart s).lex = s.lex ∧
    (State.reengageStart s).swd = s.swd ∧ (State.reengageStart s).swm = s.swm ∧ (State.reengageStart s).frz = s.frz ∧
    (State.reengageStart s).ccd = s.ccd ∧ (State.reengageStart s).htl = s.htl ∧ (State.reengageStart s).rings = s.rings ∧
    (State.reengageStart s).latches = s.latches ∧ (State.reengageStart s).closed = s.closed ∧
    (State.reengageStart s).closureReported = s.closureReported ∧ (State.reengageStart s).ddr = s.ddr ∧
    (State.reengageStart s).busRead = s.busRead := by
  simp [State.reengageStart]
@[simp] theorem State.gridLost_keeps (s : State) :
    (State.gridLost s).now = s.now ∧ (State.gridLost s).pending = s.pending ∧ (State.gridLost s).free = s.free ∧
    (State.gridLost s).nv = s.nv ∧ (State.gridLost s).core = s.core ∧ (State.gridLost s).pin = s.pin ∧
    (State.gridLost s).aon = s.aon ∧ (State.gridLost s).flt = s.flt ∧ (State.gridLost s).brw = s.brw ∧
    (State.gridLost s).cfg = s.cfg ∧ (State.gridLost s).ids = s.ids ∧ (State.gridLost s).mbx = s.mbx ∧
    (State.gridLost s).pool = s.pool ∧ (State.gridLost s).laneA = s.laneA ∧ (State.gridLost s).laneB = s.laneB ∧
    (State.gridLost s).laneC = s.laneC ∧ (State.gridLost s).vot = s.vot ∧ (State.gridLost s).plan = s.plan ∧
    (State.gridLost s).emit = s.emit ∧ (State.gridLost s).lex = s.lex ∧ (State.gridLost s).swd = s.swd ∧
    (State.gridLost s).swm = s.swm ∧ (State.gridLost s).frz = s.frz ∧ (State.gridLost s).ccd = s.ccd ∧
    (State.gridLost s).htl = s.htl ∧ (State.gridLost s).rings = s.rings ∧ (State.gridLost s).latches = s.latches ∧
    (State.gridLost s).closed = s.closed ∧ (State.gridLost s).closureReported = s.closureReported ∧
    (State.gridLost s).ddr = s.ddr ∧ (State.gridLost s).busRead = s.busRead := by
  simp [State.gridLost]
@[simp] theorem State.slowParts_keeps (s : State) (dt : Rat) :
    (State.slowParts s dt).now = s.now ∧ (State.slowParts s dt).pending = s.pending ∧ (State.slowParts s dt).free = s.free ∧
    (State.slowParts s dt).nv = s.nv ∧ (State.slowParts s dt).core = s.core ∧ (State.slowParts s dt).pin = s.pin ∧
    (State.slowParts s dt).aon = s.aon ∧ (State.slowParts s dt).flt = s.flt ∧ (State.slowParts s dt).brw = s.brw ∧
    (State.slowParts s dt).cfg = s.cfg ∧ (State.slowParts s dt).ids = s.ids ∧ (State.slowParts s dt).mbx = s.mbx ∧
    (State.slowParts s dt).laneA = s.laneA ∧ (State.slowParts s dt).laneB = s.laneB ∧
    (State.slowParts s dt).laneC = s.laneC ∧ (State.slowParts s dt).vot = s.vot ∧ (State.slowParts s dt).fes = s.fes ∧
    (State.slowParts s dt).plan = s.plan ∧ (State.slowParts s dt).emit = s.emit ∧ (State.slowParts s dt).lex = s.lex ∧
    (State.slowParts s dt).swd = s.swd ∧ (State.slowParts s dt).swm = s.swm ∧ (State.slowParts s dt).frz = s.frz ∧
    (State.slowParts s dt).ccd = s.ccd ∧ (State.slowParts s dt).htl = s.htl ∧ (State.slowParts s dt).rings = s.rings ∧
    (State.slowParts s dt).latches = s.latches ∧ (State.slowParts s dt).closed = s.closed ∧
    (State.slowParts s dt).closureReported = s.closureReported ∧ (State.slowParts s dt).ddr = s.ddr ∧
    (State.slowParts s dt).busRead = s.busRead := by
  simp [State.slowParts]
@[simp] theorem State.dacLane_keeps (s : State) (q : Rat) (x : Lane) :
    (State.dacLane s q x).now = s.now ∧ (State.dacLane s q x).pending = s.pending ∧ (State.dacLane s q x).free = s.free ∧
    (State.dacLane s q x).nv = s.nv ∧ (State.dacLane s q x).core = s.core ∧ (State.dacLane s q x).pin = s.pin ∧
    (State.dacLane s q x).aon = s.aon ∧ (State.dacLane s q x).flt = s.flt ∧ (State.dacLane s q x).brw = s.brw ∧
    (State.dacLane s q x).cfg = s.cfg ∧ (State.dacLane s q x).ids = s.ids ∧ (State.dacLane s q x).mbx = s.mbx ∧
    (State.dacLane s q x).pool = s.pool ∧ (State.dacLane s q x).vot = s.vot ∧ (State.dacLane s q x).fes = s.fes ∧
    (State.dacLane s q x).plan = s.plan ∧ (State.dacLane s q x).emit = s.emit ∧ (State.dacLane s q x).lex = s.lex ∧
    (State.dacLane s q x).swd = s.swd ∧ (State.dacLane s q x).swm = s.swm ∧ (State.dacLane s q x).frz = s.frz ∧
    (State.dacLane s q x).ccd = s.ccd ∧ (State.dacLane s q x).htl = s.htl ∧ (State.dacLane s q x).rings = s.rings ∧
    (State.dacLane s q x).latches = s.latches ∧ (State.dacLane s q x).closed = s.closed ∧
    (State.dacLane s q x).closureReported = s.closureReported ∧ (State.dacLane s q x).ddr = s.ddr ∧
    (State.dacLane s q x).busRead = s.busRead := by
  simp [State.dacLane]
@[simp] theorem State.groupBPulse_keeps (s : State) :
    (State.groupBPulse s).now = s.now ∧ (State.groupBPulse s).pending = s.pending ∧ (State.groupBPulse s).free = s.free ∧
    (State.groupBPulse s).nv = s.nv ∧ (State.groupBPulse s).core = s.core ∧ (State.groupBPulse s).pin = s.pin ∧
    (State.groupBPulse s).aon = s.aon ∧ (State.groupBPulse s).flt = s.flt ∧ (State.groupBPulse s).brw = s.brw ∧
    (State.groupBPulse s).cfg = s.cfg ∧ (State.groupBPulse s).ids = s.ids ∧ (State.groupBPulse s).mbx = s.mbx ∧
    (State.groupBPulse s).laneA = s.laneA ∧ (State.groupBPulse s).laneB = s.laneB ∧ (State.groupBPulse s).laneC = s.laneC ∧
    (State.groupBPulse s).vot = s.vot ∧ (State.groupBPulse s).fes = s.fes ∧ (State.groupBPulse s).plan = s.plan ∧
    (State.groupBPulse s).emit = s.emit ∧ (State.groupBPulse s).lex = s.lex ∧ (State.groupBPulse s).swd = s.swd ∧
    (State.groupBPulse s).swm = s.swm ∧ (State.groupBPulse s).frz = s.frz ∧ (State.groupBPulse s).ccd = s.ccd ∧
    (State.groupBPulse s).htl = s.htl ∧ (State.groupBPulse s).rings = s.rings ∧ (State.groupBPulse s).latches = s.latches ∧
    (State.groupBPulse s).closed = s.closed ∧ (State.groupBPulse s).closureReported = s.closureReported ∧
    (State.groupBPulse s).ddr = s.ddr ∧ (State.groupBPulse s).busRead = s.busRead := by
  simp only [State.groupBPulse]
  (repeat' split) <;> simp_all
@[simp] theorem State.writeVot_keeps (s : State) (o : Nat) (v : Word) :
    (State.writeVot s o v).now = s.now ∧ (State.writeVot s o v).pending = s.pending ∧ (State.writeVot s o v).free = s.free ∧
    (State.writeVot s o v).nv = s.nv ∧ (State.writeVot s o v).core = s.core ∧ (State.writeVot s o v).pin = s.pin ∧
    (State.writeVot s o v).aon = s.aon ∧ (State.writeVot s o v).flt = s.flt ∧ (State.writeVot s o v).brw = s.brw ∧
    (State.writeVot s o v).cfg = s.cfg ∧ (State.writeVot s o v).ids = s.ids ∧ (State.writeVot s o v).mbx = s.mbx ∧
    (State.writeVot s o v).pool = s.pool ∧ (State.writeVot s o v).laneA = s.laneA ∧ (State.writeVot s o v).laneB = s.laneB ∧
    (State.writeVot s o v).laneC = s.laneC ∧ (State.writeVot s o v).fes = s.fes ∧ (State.writeVot s o v).plan = s.plan ∧
    (State.writeVot s o v).emit = s.emit ∧ (State.writeVot s o v).lex = s.lex ∧ (State.writeVot s o v).swd = s.swd ∧
    (State.writeVot s o v).swm = s.swm ∧ (State.writeVot s o v).frz = s.frz ∧ (State.writeVot s o v).ccd = s.ccd ∧
    (State.writeVot s o v).htl = s.htl ∧ (State.writeVot s o v).rings = s.rings ∧
    (State.writeVot s o v).latches = s.latches ∧ (State.writeVot s o v).closed = s.closed ∧
    (State.writeVot s o v).closureReported = s.closureReported ∧ (State.writeVot s o v).ddr = s.ddr ∧
    (State.writeVot s o v).busRead = s.busRead := by
  simp [State.writeVot]
@[simp] theorem State.writeAon_keeps (s : State) (o : Nat) (v : Word) :
    (State.writeAon s o v).now = s.now ∧ (State.writeAon s o v).pending = s.pending ∧ (State.writeAon s o v).free = s.free ∧
    (State.writeAon s o v).nv = s.nv ∧ (State.writeAon s o v).core = s.core ∧ (State.writeAon s o v).pin = s.pin ∧
    (State.writeAon s o v).flt = s.flt ∧ (State.writeAon s o v).brw = s.brw ∧ (State.writeAon s o v).cfg = s.cfg ∧
    (State.writeAon s o v).ids = s.ids ∧ (State.writeAon s o v).mbx = s.mbx ∧ (State.writeAon s o v).pool = s.pool ∧
    (State.writeAon s o v).laneA = s.laneA ∧ (State.writeAon s o v).laneB = s.laneB ∧
    (State.writeAon s o v).laneC = s.laneC ∧ (State.writeAon s o v).vot = s.vot ∧ (State.writeAon s o v).fes = s.fes ∧
    (State.writeAon s o v).plan = s.plan ∧ (State.writeAon s o v).emit = s.emit ∧ (State.writeAon s o v).lex = s.lex ∧
    (State.writeAon s o v).swd = s.swd ∧ (State.writeAon s o v).swm = s.swm ∧ (State.writeAon s o v).frz = s.frz ∧
    (State.writeAon s o v).ccd = s.ccd ∧ (State.writeAon s o v).htl = s.htl ∧ (State.writeAon s o v).rings = s.rings ∧
    (State.writeAon s o v).latches = s.latches ∧ (State.writeAon s o v).closed = s.closed ∧
    (State.writeAon s o v).closureReported = s.closureReported ∧ (State.writeAon s o v).ddr = s.ddr ∧
    (State.writeAon s o v).busRead = s.busRead := by
  simp only [State.writeAon]
  (repeat' split) <;> simp_all
@[simp] theorem State.watchEnd_keeps (s : State) :
    (State.watchEnd s).now = s.now ∧ (State.watchEnd s).pending = s.pending ∧ (State.watchEnd s).free = s.free ∧
    (State.watchEnd s).nv = s.nv ∧ (State.watchEnd s).core = s.core ∧ (State.watchEnd s).pin = s.pin ∧
    (State.watchEnd s).flt = s.flt ∧ (State.watchEnd s).brw = s.brw ∧ (State.watchEnd s).cfg = s.cfg ∧
    (State.watchEnd s).ids = s.ids ∧ (State.watchEnd s).mbx = s.mbx ∧ (State.watchEnd s).pool = s.pool ∧
    (State.watchEnd s).laneA = s.laneA ∧ (State.watchEnd s).laneB = s.laneB ∧ (State.watchEnd s).laneC = s.laneC ∧
    (State.watchEnd s).vot = s.vot ∧ (State.watchEnd s).fes = s.fes ∧ (State.watchEnd s).plan = s.plan ∧
    (State.watchEnd s).emit = s.emit ∧ (State.watchEnd s).lex = s.lex ∧ (State.watchEnd s).swd = s.swd ∧
    (State.watchEnd s).swm = s.swm ∧ (State.watchEnd s).frz = s.frz ∧ (State.watchEnd s).ccd = s.ccd ∧
    (State.watchEnd s).htl = s.htl ∧ (State.watchEnd s).rings = s.rings ∧ (State.watchEnd s).latches = s.latches ∧
    (State.watchEnd s).closed = s.closed ∧ (State.watchEnd s).closureReported = s.closureReported ∧
    (State.watchEnd s).ddr = s.ddr ∧ (State.watchEnd s).busRead = s.busRead := by
  simp only [State.watchEnd]
  (repeat' split) <;> simp_all
@[simp] theorem State.countStop_keeps (s : State) :
    (State.countStop s).now = s.now ∧ (State.countStop s).pending = s.pending ∧ (State.countStop s).free = s.free ∧
    (State.countStop s).nv = s.nv ∧ (State.countStop s).core = s.core ∧ (State.countStop s).pin = s.pin ∧
    (State.countStop s).flt = s.flt ∧ (State.countStop s).brw = s.brw ∧ (State.countStop s).cfg = s.cfg ∧
    (State.countStop s).ids = s.ids ∧ (State.countStop s).mbx = s.mbx ∧ (State.countStop s).pool = s.pool ∧
    (State.countStop s).laneA = s.laneA ∧ (State.countStop s).laneB = s.laneB ∧ (State.countStop s).laneC = s.laneC ∧
    (State.countStop s).vot = s.vot ∧ (State.countStop s).fes = s.fes ∧ (State.countStop s).plan = s.plan ∧
    (State.countStop s).emit = s.emit ∧ (State.countStop s).lex = s.lex ∧ (State.countStop s).swd = s.swd ∧
    (State.countStop s).swm = s.swm ∧ (State.countStop s).frz = s.frz ∧ (State.countStop s).ccd = s.ccd ∧
    (State.countStop s).htl = s.htl ∧ (State.countStop s).rings = s.rings ∧ (State.countStop s).latches = s.latches ∧
    (State.countStop s).closed = s.closed ∧ (State.countStop s).closureReported = s.closureReported ∧
    (State.countStop s).ddr = s.ddr ∧ (State.countStop s).busRead = s.busRead := by
  simp [State.countStop]
@[simp] theorem State.fenceAll_keeps (s : State) :
    (State.fenceAll s).now = s.now ∧ (State.fenceAll s).pending = s.pending ∧ (State.fenceAll s).free = s.free ∧
    (State.fenceAll s).nv = s.nv := by
  simp [State.fenceAll]
@[simp] theorem State.stageStart_keeps (s : State) :
    (State.stageStart s).now = s.now ∧ (State.stageStart s).pending = s.pending ∧ (State.stageStart s).free = s.free ∧
    (State.stageStart s).nv = s.nv ∧ (State.stageStart s).core = s.core ∧ (State.stageStart s).pin = s.pin ∧
    (State.stageStart s).aon = s.aon ∧ (State.stageStart s).flt = s.flt ∧ (State.stageStart s).brw = s.brw ∧
    (State.stageStart s).cfg = s.cfg ∧ (State.stageStart s).ids = s.ids ∧ (State.stageStart s).mbx = s.mbx ∧
    (State.stageStart s).laneA = s.laneA ∧ (State.stageStart s).laneB = s.laneB ∧ (State.stageStart s).laneC = s.laneC ∧
    (State.stageStart s).vot = s.vot ∧ (State.stageStart s).plan = s.plan ∧ (State.stageStart s).emit = s.emit ∧
    (State.stageStart s).lex = s.lex ∧ (State.stageStart s).swd = s.swd ∧ (State.stageStart s).swm = s.swm ∧
    (State.stageStart s).frz = s.frz ∧ (State.stageStart s).ccd = s.ccd ∧ (State.stageStart s).htl = s.htl ∧
    (State.stageStart s).rings = s.rings ∧ (State.stageStart s).latches = s.latches ∧
    (State.stageStart s).closed = s.closed ∧ (State.stageStart s).closureReported = s.closureReported ∧
    (State.stageStart s).ddr = s.ddr ∧ (State.stageStart s).busRead = s.busRead := by
  simp [State.stageStart]
@[simp] theorem State.modeEntry_keeps (s : State) (old m : Mode) (c : Cause) :
    (State.modeEntry s old m c).now = s.now ∧ (State.modeEntry s old m c).pending = s.pending ∧
    (State.modeEntry s old m c).free = s.free ∧ (State.modeEntry s old m c).nv = s.nv := by
  simp only [State.modeEntry]
  (repeat' split) <;> simp_all
@[simp] theorem State.transition_keeps (s : State) (m : Mode) (c : Cause) :
    (State.transition s m c).pending = s.pending ∧ (State.transition s m c).free = s.free ∧
    (State.transition s m c).nv = s.nv := by
  simp [State.transition]
@[simp] theorem State.stopNow_keeps (s : State) :
    (State.stopNow s).pending = s.pending ∧ (State.stopNow s).free = s.free ∧ (State.stopNow s).nv = s.nv := by
  simp only [State.stopNow]
  (repeat' split) <;> simp_all
@[simp] theorem State.gridLossStep_keeps (s : State) :
    (State.gridLossStep s).pending = s.pending ∧ (State.gridLossStep s).free = s.free ∧ (State.gridLossStep s).nv = s.nv := by
  simp [State.gridLossStep]
@[simp] theorem State.runModes_keeps (s : State) :
    (State.runModes s).pending = s.pending ∧ (State.runModes s).free = s.free ∧ (State.runModes s).nv = s.nv := by
  simp [State.runModes]
@[simp] theorem State.evalModes_keeps (s : State) :
    (State.evalModes s).pending = s.pending ∧ (State.evalModes s).free = s.free ∧ (State.evalModes s).nv = s.nv := by
  simp [State.evalModes]
  (repeat' split) <;> simp_all [Prod.ext_iff]
@[simp] theorem State.fabricModes_keeps (s : State) :
    (State.fabricModes s).pending = s.pending ∧ (State.fabricModes s).free = s.free ∧ (State.fabricModes s).nv = s.nv := by
  simp [State.fabricModes]
@[simp] theorem State.warmRestart_keeps (s : State) :
    (State.warmRestart s).now = s.now ∧ (State.warmRestart s).pending = s.pending ∧ (State.warmRestart s).free = s.free ∧
    (State.warmRestart s).nv = s.nv ∧ (State.warmRestart s).core = s.core ∧ (State.warmRestart s).pin = s.pin ∧
    (State.warmRestart s).aon = s.aon ∧ (State.warmRestart s).flt = s.flt ∧ (State.warmRestart s).brw = s.brw ∧
    (State.warmRestart s).mbx = s.mbx ∧ (State.warmRestart s).pool = s.pool ∧ (State.warmRestart s).fes = s.fes ∧
    (State.warmRestart s).frz = s.frz ∧ (State.warmRestart s).ccd = s.ccd ∧ (State.warmRestart s).htl = s.htl ∧
    (State.warmRestart s).rings = s.rings ∧ (State.warmRestart s).closureReported = s.closureReported ∧
    (State.warmRestart s).ddr = s.ddr ∧ (State.warmRestart s).busRead = s.busRead := by
  simp [State.warmRestart]
@[simp] theorem State.planMark_keeps (s : State) :
    (State.planMark s).pending = s.pending ∧ (State.planMark s).free = s.free ∧ (State.planMark s).nv = s.nv := by
  simp only [State.planMark]
  (repeat' split) <;> simp_all
@[simp] theorem State.clearTimer_keeps (s : State) :
    (State.clearTimer s).now = s.now ∧ (State.clearTimer s).pending = s.pending ∧ (State.clearTimer s).free = s.free ∧
    (State.clearTimer s).nv = s.nv ∧ (State.clearTimer s).core = s.core ∧ (State.clearTimer s).pin = s.pin ∧
    (State.clearTimer s).aon = s.aon ∧ (State.clearTimer s).flt = s.flt ∧ (State.clearTimer s).brw = s.brw ∧
    (State.clearTimer s).cfg = s.cfg ∧ (State.clearTimer s).ids = s.ids ∧ (State.clearTimer s).mbx = s.mbx ∧
    (State.clearTimer s).pool = s.pool ∧ (State.clearTimer s).laneA = s.laneA ∧ (State.clearTimer s).laneB = s.laneB ∧
    (State.clearTimer s).laneC = s.laneC ∧ (State.clearTimer s).fes = s.fes ∧ (State.clearTimer s).plan = s.plan ∧
    (State.clearTimer s).emit = s.emit ∧ (State.clearTimer s).lex = s.lex ∧ (State.clearTimer s).swd = s.swd ∧
    (State.clearTimer s).swm = s.swm ∧ (State.clearTimer s).frz = s.frz ∧ (State.clearTimer s).ccd = s.ccd ∧
    (State.clearTimer s).htl = s.htl ∧ (State.clearTimer s).rings = s.rings ∧ (State.clearTimer s).latches = s.latches ∧
    (State.clearTimer s).closed = s.closed ∧ (State.clearTimer s).closureReported = s.closureReported ∧
    (State.clearTimer s).ddr = s.ddr ∧ (State.clearTimer s).busRead = s.busRead := by
  simp [State.clearTimer]
@[simp] theorem State.openPeriod_keeps (s : State) :
    (State.openPeriod s).now = s.now ∧ (State.openPeriod s).pending = s.pending ∧ (State.openPeriod s).free = s.free ∧
    (State.openPeriod s).nv = s.nv ∧ (State.openPeriod s).core = s.core ∧ (State.openPeriod s).pin = s.pin ∧
    (State.openPeriod s).aon = s.aon ∧ (State.openPeriod s).flt = s.flt ∧ (State.openPeriod s).brw = s.brw ∧
    (State.openPeriod s).cfg = s.cfg ∧ (State.openPeriod s).ids = s.ids ∧ (State.openPeriod s).mbx = s.mbx ∧
    (State.openPeriod s).pool = s.pool ∧ (State.openPeriod s).fes = s.fes ∧ (State.openPeriod s).plan = s.plan ∧
    (State.openPeriod s).emit = s.emit ∧ (State.openPeriod s).lex = s.lex ∧ (State.openPeriod s).swd = s.swd ∧
    (State.openPeriod s).swm = s.swm ∧ (State.openPeriod s).frz = s.frz ∧ (State.openPeriod s).ccd = s.ccd ∧
    (State.openPeriod s).htl = s.htl ∧ (State.openPeriod s).rings = s.rings ∧ (State.openPeriod s).latches = s.latches ∧
    (State.openPeriod s).closed = s.closed ∧ (State.openPeriod s).closureReported = s.closureReported ∧
    (State.openPeriod s).ddr = s.ddr ∧ (State.openPeriod s).busRead = s.busRead := by
  simp [State.openPeriod]
@[simp] theorem State.killSet_keeps (s : State) :
    (State.killSet s).now = s.now ∧ (State.killSet s).pending = s.pending ∧ (State.killSet s).free = s.free ∧
    (State.killSet s).nv = s.nv ∧ (State.killSet s).core = s.core ∧ (State.killSet s).pin = s.pin ∧
    (State.killSet s).aon = s.aon ∧ (State.killSet s).flt = s.flt ∧ (State.killSet s).brw = s.brw ∧
    (State.killSet s).cfg = s.cfg ∧ (State.killSet s).ids = s.ids ∧ (State.killSet s).mbx = s.mbx ∧
    (State.killSet s).laneA = s.laneA ∧ (State.killSet s).laneB = s.laneB ∧ (State.killSet s).laneC = s.laneC ∧
    (State.killSet s).fes = s.fes ∧ (State.killSet s).plan = s.plan ∧ (State.killSet s).emit = s.emit ∧
    (State.killSet s).lex = s.lex ∧ (State.killSet s).swd = s.swd ∧ (State.killSet s).swm = s.swm ∧
    (State.killSet s).frz = s.frz ∧ (State.killSet s).ccd = s.ccd ∧ (State.killSet s).htl = s.htl ∧
    (State.killSet s).rings = s.rings ∧ (State.killSet s).latches = s.latches ∧ (State.killSet s).closed = s.closed ∧
    (State.killSet s).closureReported = s.closureReported ∧ (State.killSet s).ddr = s.ddr ∧
    (State.killSet s).busRead = s.busRead := by
  simp [State.killSet]
@[simp] theorem State.takeEpoch_keeps (s : State) (g : Mgr) (epoch : Nat) :
    (State.takeEpoch s g epoch).2.now = s.now ∧ (State.takeEpoch s g epoch).2.pending = s.pending ∧
    (State.takeEpoch s g epoch).2.free = s.free ∧ (State.takeEpoch s g epoch).2.nv = s.nv ∧
    (State.takeEpoch s g epoch).2.core = s.core ∧ (State.takeEpoch s g epoch).2.pin = s.pin ∧
    (State.takeEpoch s g epoch).2.aon = s.aon ∧ (State.takeEpoch s g epoch).2.flt = s.flt ∧
    (State.takeEpoch s g epoch).2.brw = s.brw ∧ (State.takeEpoch s g epoch).2.cfg = s.cfg ∧
    (State.takeEpoch s g epoch).2.ids = s.ids ∧ (State.takeEpoch s g epoch).2.pool = s.pool ∧
    (State.takeEpoch s g epoch).2.laneA = s.laneA ∧ (State.takeEpoch s g epoch).2.laneB = s.laneB ∧
    (State.takeEpoch s g epoch).2.laneC = s.laneC ∧ (State.takeEpoch s g epoch).2.vot = s.vot ∧
    (State.takeEpoch s g epoch).2.fes = s.fes ∧ (State.takeEpoch s g epoch).2.plan = s.plan ∧
    (State.takeEpoch s g epoch).2.emit = s.emit ∧ (State.takeEpoch s g epoch).2.lex = s.lex ∧
    (State.takeEpoch s g epoch).2.swd = s.swd ∧ (State.takeEpoch s g epoch).2.swm = s.swm ∧
    (State.takeEpoch s g epoch).2.frz = s.frz ∧ (State.takeEpoch s g epoch).2.ccd = s.ccd ∧
    (State.takeEpoch s g epoch).2.htl = s.htl ∧ (State.takeEpoch s g epoch).2.rings = s.rings ∧
    (State.takeEpoch s g epoch).2.latches = s.latches ∧ (State.takeEpoch s g epoch).2.closed = s.closed ∧
    (State.takeEpoch s g epoch).2.closureReported = s.closureReported ∧ (State.takeEpoch s g epoch).2.ddr = s.ddr ∧
    (State.takeEpoch s g epoch).2.busRead = s.busRead := by
  simp [State.takeEpoch]
end Sys2Proof.Machine
end

