-- ==== Sys2Proof/Laws/Keeps6.lean ====
section
/-! SUPPORT. Frames of shared operations: what the operations of the managers' commands, of Idsol, of configuration and of firmware leave unchanged. Each lemma lists fields of State that the operation does not touch. -/
namespace Sys2Proof.Machine
set_option linter.all false
@[simp] theorem State.heard_keeps (s : State) :
    (State.heard s).now = s.now ∧ (State.heard s).pending = s.pending ∧ (State.heard s).free = s.free ∧
    (State.heard s).nv = s.nv ∧ (State.heard s).core = s.core ∧ (State.heard s).pin = s.pin ∧ (State.heard s).aon = s.aon ∧
    (State.heard s).flt = s.flt ∧ (State.heard s).brw = s.brw ∧ (State.heard s).cfg = s.cfg ∧ (State.heard s).ids = s.ids ∧
    (State.heard s).pool = s.pool ∧ (State.heard s).laneA = s.laneA ∧ (State.heard s).laneB = s.laneB ∧
    (State.heard s).laneC = s.laneC ∧ (State.heard s).vot = s.vot ∧ (State.heard s).fes = s.fes ∧
    (State.heard s).plan = s.plan ∧ (State.heard s).emit = s.emit ∧ (State.heard s).lex = s.lex ∧
    (State.heard s).swd = s.swd ∧ (State.heard s).swm = s.swm ∧ (State.heard s).frz = s.frz ∧ (State.heard s).ccd = s.ccd ∧
    (State.heard s).rings = s.rings ∧ (State.heard s).latches = s.latches ∧ (State.heard s).closed = s.closed ∧
    (State.heard s).closureReported = s.closureReported ∧ (State.heard s).ddr = s.ddr ∧
    (State.heard s).busRead = s.busRead := by
  simp [State.heard]
@[simp] theorem State.sendPart_keeps (s : State) (h : CmdHdr) (code result : Nat) (payload : List Byte) :
    (State.sendPart s h code result payload).now = s.now ∧ (State.sendPart s h code result payload).pending = s.pending ∧
    (State.sendPart s h code result payload).free = s.free ∧ (State.sendPart s h code result payload).nv = s.nv ∧
    (State.sendPart s h code result payload).core = s.core ∧ (State.sendPart s h code result payload).pin = s.pin ∧
    (State.sendPart s h code result payload).aon = s.aon ∧ (State.sendPart s h code result payload).flt = s.flt ∧
    (State.sendPart s h code result payload).brw = s.brw ∧ (State.sendPart s h code result payload).cfg = s.cfg ∧
    (State.sendPart s h code result payload).ids = s.ids ∧ (State.sendPart s h code result payload).pool = s.pool ∧
    (State.sendPart s h code result payload).laneA = s.laneA ∧ (State.sendPart s h code result payload).laneB = s.laneB ∧
    (State.sendPart s h code result payload).laneC = s.laneC ∧ (State.sendPart s h code result payload).vot = s.vot ∧
    (State.sendPart s h code result payload).fes = s.fes ∧ (State.sendPart s h code result payload).plan = s.plan ∧
    (State.sendPart s h code result payload).emit = s.emit ∧ (State.sendPart s h code result payload).lex = s.lex ∧
    (State.sendPart s h code result payload).swd = s.swd ∧ (State.sendPart s h code result payload).swm = s.swm ∧
    (State.sendPart s h code result payload).frz = s.frz ∧ (State.sendPart s h code result payload).ccd = s.ccd ∧
    (State.sendPart s h code result payload).rings = s.rings ∧ (State.sendPart s h code result payload).latches = s.latches ∧
    (State.sendPart s h code result payload).closed = s.closed ∧
    (State.sendPart s h code result payload).closureReported = s.closureReported ∧
    (State.sendPart s h code result payload).ddr = s.ddr ∧ (State.sendPart s h code result payload).busRead = s.busRead := by
  simp [State.sendPart]
@[simp] theorem State.sendReply_keeps (s : State) (h : CmdHdr) (code result : Nat) (payload : List Byte) :
    (State.sendReply s h code result payload).now = s.now ∧ (State.sendReply s h code result payload).pending = s.pending ∧
    (State.sendReply s h code result payload).free = s.free ∧ (State.sendReply s h code result payload).nv = s.nv ∧
    (State.sendReply s h code result payload).core = s.core ∧ (State.sendReply s h code result payload).pin = s.pin ∧
    (State.sendReply s h code result payload).aon = s.aon ∧ (State.sendReply s h code result payload).flt = s.flt ∧
    (State.sendReply s h code result payload).brw = s.brw ∧ (State.sendReply s h code result payload).cfg = s.cfg ∧
    (State.sendReply s h code result payload).ids = s.ids ∧ (State.sendReply s h code result payload).pool = s.pool ∧
    (State.sendReply s h code result payload).laneA = s.laneA ∧ (State.sendReply s h code result payload).laneB = s.laneB ∧
    (State.sendReply s h code result payload).laneC = s.laneC ∧ (State.sendReply s h code result payload).vot = s.vot ∧
    (State.sendReply s h code result payload).fes = s.fes ∧ (State.sendReply s h code result payload).plan = s.plan ∧
    (State.sendReply s h code result payload).emit = s.emit ∧ (State.sendReply s h code result payload).lex = s.lex ∧
    (State.sendReply s h code result payload).swd = s.swd ∧ (State.sendReply s h code result payload).swm = s.swm ∧
    (State.sendReply s h code result payload).frz = s.frz ∧ (State.sendReply s h code result payload).ccd = s.ccd ∧
    (State.sendReply s h code result payload).rings = s.rings ∧
    (State.sendReply s h code result payload).latches = s.latches ∧
    (State.sendReply s h code result payload).closed = s.closed ∧
    (State.sendReply s h code result payload).closureReported = s.closureReported ∧
    (State.sendReply s h code result payload).ddr = s.ddr ∧
    (State.sendReply s h code result payload).busRead = s.busRead := by
  simp [State.sendReply]
@[simp] theorem State.countCmd_keeps (s : State) (h : CmdHdr) (code result : Nat) :
    (State.countCmd s h code result).now = s.now ∧ (State.countCmd s h code result).pending = s.pending ∧
    (State.countCmd s h code result).free = s.free ∧ (State.countCmd s h code result).nv = s.nv ∧
    (State.countCmd s h code result).core = s.core ∧ (State.countCmd s h code result).pin = s.pin ∧
    (State.countCmd s h code result).aon = s.aon ∧ (State.countCmd s h code result).flt = s.flt ∧
    (State.countCmd s h code result).brw = s.brw ∧ (State.countCmd s h code result).cfg = s.cfg ∧
    (State.countCmd s h code result).ids = s.ids ∧ (State.countCmd s h code result).pool = s.pool ∧
    (State.countCmd s h code result).laneA = s.laneA ∧ (State.countCmd s h code result).laneB = s.laneB ∧
    (State.countCmd s h code result).laneC = s.laneC ∧ (State.countCmd s h code result).vot = s.vot ∧
    (State.countCmd s h code result).fes = s.fes ∧ (State.countCmd s h code result).plan = s.plan ∧
    (State.countCmd s h code result).emit = s.emit ∧ (State.countCmd s h code result).lex = s.lex ∧
    (State.countCmd s h code result).swd = s.swd ∧ (State.countCmd s h code result).swm = s.swm ∧
    (State.countCmd s h code result).frz = s.frz ∧ (State.countCmd s h code result).ccd = s.ccd ∧
    (State.countCmd s h code result).htl = s.htl ∧ (State.countCmd s h code result).rings = s.rings ∧
    (State.countCmd s h code result).latches = s.latches ∧ (State.countCmd s h code result).closed = s.closed ∧
    (State.countCmd s h code result).closureReported = s.closureReported ∧ (State.countCmd s h code result).ddr = s.ddr ∧
    (State.countCmd s h code result).busRead = s.busRead := by
  simp [State.countCmd]
@[simp] theorem State.complete_keeps (s : State) (h : CmdHdr) (code result : Nat) (payload : List Byte) :
    (State.complete s h code result payload).now = s.now ∧ (State.complete s h code result payload).pending = s.pending ∧
    (State.complete s h code result payload).free = s.free ∧ (State.complete s h code result payload).nv = s.nv ∧
    (State.complete s h code result payload).core = s.core ∧ (State.complete s h code result payload).pin = s.pin ∧
    (State.complete s h code result payload).aon = s.aon ∧ (State.complete s h code result payload).flt = s.flt ∧
    (State.complete s h code result payload).brw = s.brw ∧ (State.complete s h code result payload).cfg = s.cfg ∧
    (State.complete s h code result payload).ids = s.ids ∧ (State.complete s h code result payload).pool = s.pool ∧
    (State.complete s h code result payload).laneA = s.laneA ∧ (State.complete s h code result payload).laneB = s.laneB ∧
    (State.complete s h code result payload).laneC = s.laneC ∧ (State.complete s h code result payload).vot = s.vot ∧
    (State.complete s h code result payload).fes = s.fes ∧ (State.complete s h code result payload).plan = s.plan ∧
    (State.complete s h code result payload).emit = s.emit ∧ (State.complete s h code result payload).lex = s.lex ∧
    (State.complete s h code result payload).swd = s.swd ∧ (State.complete s h code result payload).swm = s.swm ∧
    (State.complete s h code result payload).frz = s.frz ∧ (State.complete s h code result payload).ccd = s.ccd ∧
    (State.complete s h code result payload).rings = s.rings ∧ (State.complete s h code result payload).latches = s.latches ∧
    (State.complete s h code result payload).closed = s.closed ∧
    (State.complete s h code result payload).closureReported = s.closureReported ∧
    (State.complete s h code result payload).ddr = s.ddr ∧ (State.complete s h code result payload).busRead = s.busRead := by
  simp [State.complete]
@[simp] theorem State.takeCommand_keeps (s : State) (h : CmdHdr) (code : Nat) (needSigned : Bool) :
    (State.takeCommand s h code needSigned).2.now = s.now ∧ (State.takeCommand s h code needSigned).2.pending = s.pending ∧
    (State.takeCommand s h code needSigned).2.free = s.free ∧ (State.takeCommand s h code needSigned).2.nv = s.nv ∧
    (State.takeCommand s h code needSigned).2.core = s.core ∧ (State.takeCommand s h code needSigned).2.pin = s.pin ∧
    (State.takeCommand s h code needSigned).2.aon = s.aon ∧ (State.takeCommand s h code needSigned).2.flt = s.flt ∧
    (State.takeCommand s h code needSigned).2.brw = s.brw ∧ (State.takeCommand s h code needSigned).2.cfg = s.cfg ∧
    (State.takeCommand s h code needSigned).2.ids = s.ids ∧ (State.takeCommand s h code needSigned).2.pool = s.pool ∧
    (State.takeCommand s h code needSigned).2.laneA = s.laneA ∧ (State.takeCommand s h code needSigned).2.laneB = s.laneB ∧
    (State.takeCommand s h code needSigned).2.laneC = s.laneC ∧ (State.takeCommand s h code needSigned).2.vot = s.vot ∧
    (State.takeCommand s h code needSigned).2.fes = s.fes ∧ (State.takeCommand s h code needSigned).2.plan = s.plan ∧
    (State.takeCommand s h code needSigned).2.emit = s.emit ∧ (State.takeCommand s h code needSigned).2.lex = s.lex ∧
    (State.takeCommand s h code needSigned).2.swd = s.swd ∧ (State.takeCommand s h code needSigned).2.swm = s.swm ∧
    (State.takeCommand s h code needSigned).2.frz = s.frz ∧ (State.takeCommand s h code needSigned).2.ccd = s.ccd ∧
    (State.takeCommand s h code needSigned).2.rings = s.rings ∧
    (State.takeCommand s h code needSigned).2.latches = s.latches ∧
    (State.takeCommand s h code needSigned).2.closed = s.closed ∧
    (State.takeCommand s h code needSigned).2.closureReported = s.closureReported ∧
    (State.takeCommand s h code needSigned).2.ddr = s.ddr ∧
    (State.takeCommand s h code needSigned).2.busRead = s.busRead := by
  simp only [State.takeCommand]
  (repeat' split) <;> simp_all
@[simp] theorem State.writeMbx_keeps (s : State) (o : Nat) (v : Word) :
    (State.writeMbx s o v).now = s.now ∧ (State.writeMbx s o v).pending = s.pending ∧ (State.writeMbx s o v).free = s.free ∧
    (State.writeMbx s o v).nv = s.nv ∧ (State.writeMbx s o v).core = s.core ∧ (State.writeMbx s o v).pin = s.pin ∧
    (State.writeMbx s o v).aon = s.aon ∧ (State.writeMbx s o v).brw = s.brw ∧ (State.writeMbx s o v).cfg = s.cfg ∧
    (State.writeMbx s o v).ids = s.ids ∧ (State.writeMbx s o v).pool = s.pool ∧ (State.writeMbx s o v).laneA = s.laneA ∧
    (State.writeMbx s o v).laneB = s.laneB ∧ (State.writeMbx s o v).laneC = s.laneC ∧ (State.writeMbx s o v).vot = s.vot ∧
    (State.writeMbx s o v).fes = s.fes ∧ (State.writeMbx s o v).plan = s.plan ∧ (State.writeMbx s o v).emit = s.emit ∧
    (State.writeMbx s o v).lex = s.lex ∧ (State.writeMbx s o v).swd = s.swd ∧ (State.writeMbx s o v).swm = s.swm ∧
    (State.writeMbx s o v).frz = s.frz ∧ (State.writeMbx s o v).ccd = s.ccd ∧ (State.writeMbx s o v).htl = s.htl ∧
    (State.writeMbx s o v).rings = s.rings ∧ (State.writeMbx s o v).closed = s.closed ∧
    (State.writeMbx s o v).closureReported = s.closureReported ∧ (State.writeMbx s o v).ddr = s.ddr ∧
    (State.writeMbx s o v).busRead = s.busRead := by
  simp only [State.writeMbx]
  (repeat' split) <;> simp_all
@[simp] theorem State.cfgDone_keeps (s : State) (op : CfgOp) (result seq : Nat) (by_ : Option CmdHdr) :
    (State.cfgDone s op result seq by_).now = s.now ∧ (State.cfgDone s op result seq by_).pending = s.pending ∧
    (State.cfgDone s op result seq by_).free = s.free ∧ (State.cfgDone s op result seq by_).nv = s.nv ∧
    (State.cfgDone s op result seq by_).core = s.core ∧ (State.cfgDone s op result seq by_).pin = s.pin ∧
    (State.cfgDone s op result seq by_).aon = s.aon ∧ (State.cfgDone s op result seq by_).ids = s.ids ∧
    (State.cfgDone s op result seq by_).pool = s.pool ∧ (State.cfgDone s op result seq by_).laneA = s.laneA ∧
    (State.cfgDone s op result seq by_).laneB = s.laneB ∧ (State.cfgDone s op result seq by_).laneC = s.laneC ∧
    (State.cfgDone s op result seq by_).vot = s.vot ∧ (State.cfgDone s op result seq by_).fes = s.fes ∧
    (State.cfgDone s op result seq by_).plan = s.plan ∧ (State.cfgDone s op result seq by_).emit = s.emit ∧
    (State.cfgDone s op result seq by_).lex = s.lex ∧ (State.cfgDone s op result seq by_).swd = s.swd ∧
    (State.cfgDone s op result seq by_).swm = s.swm ∧ (State.cfgDone s op result seq by_).frz = s.frz ∧
    (State.cfgDone s op result seq by_).ccd = s.ccd ∧ (State.cfgDone s op result seq by_).rings = s.rings ∧
    (State.cfgDone s op result seq by_).latches = s.latches ∧ (State.cfgDone s op result seq by_).closed = s.closed ∧
    (State.cfgDone s op result seq by_).closureReported = s.closureReported ∧
    (State.cfgDone s op result seq by_).ddr = s.ddr ∧ (State.cfgDone s op result seq by_).busRead = s.busRead := by
  simp only [State.cfgDone]
  (repeat' split) <;> simp_all
@[simp] theorem State.cfgWrite_keeps (s : State) (by_ : Option CmdHdr) :
    (State.cfgWrite s by_).now = s.now ∧ (State.cfgWrite s by_).pending = s.pending ∧ (State.cfgWrite s by_).free = s.free ∧
    (State.cfgWrite s by_).core = s.core ∧ (State.cfgWrite s by_).pin = s.pin ∧ (State.cfgWrite s by_).aon = s.aon ∧
    (State.cfgWrite s by_).pool = s.pool ∧ (State.cfgWrite s by_).laneA = s.laneA ∧ (State.cfgWrite s by_).laneB = s.laneB ∧
    (State.cfgWrite s by_).laneC = s.laneC ∧ (State.cfgWrite s by_).vot = s.vot ∧ (State.cfgWrite s by_).fes = s.fes ∧
    (State.cfgWrite s by_).plan = s.plan ∧ (State.cfgWrite s by_).emit = s.emit ∧ (State.cfgWrite s by_).lex = s.lex ∧
    (State.cfgWrite s by_).swd = s.swd ∧ (State.cfgWrite s by_).swm = s.swm ∧ (State.cfgWrite s by_).frz = s.frz ∧
    (State.cfgWrite s by_).ccd = s.ccd ∧ (State.cfgWrite s by_).rings = s.rings ∧
    (State.cfgWrite s by_).latches = s.latches ∧ (State.cfgWrite s by_).closed = s.closed ∧
    (State.cfgWrite s by_).closureReported = s.closureReported ∧ (State.cfgWrite s by_).ddr = s.ddr ∧
    (State.cfgWrite s by_).busRead = s.busRead := by
  simp only [State.cfgWrite]
  (repeat' split) <;> simp_all
@[simp] theorem State.cfgWarm_keeps (s : State) (by_ : Option CmdHdr) :
    (State.cfgWarm s by_).now = s.now ∧ (State.cfgWarm s by_).pending = s.pending ∧ (State.cfgWarm s by_).free = s.free ∧
    (State.cfgWarm s by_).nv = s.nv ∧ (State.cfgWarm s by_).core = s.core ∧ (State.cfgWarm s by_).pin = s.pin ∧
    (State.cfgWarm s by_).aon = s.aon ∧ (State.cfgWarm s by_).pool = s.pool ∧ (State.cfgWarm s by_).laneA = s.laneA ∧
    (State.cfgWarm s by_).laneB = s.laneB ∧ (State.cfgWarm s by_).laneC = s.laneC ∧ (State.cfgWarm s by_).vot = s.vot ∧
    (State.cfgWarm s by_).fes = s.fes ∧ (State.cfgWarm s by_).plan = s.plan ∧ (State.cfgWarm s by_).emit = s.emit ∧
    (State.cfgWarm s by_).lex = s.lex ∧ (State.cfgWarm s by_).swd = s.swd ∧ (State.cfgWarm s by_).swm = s.swm ∧
    (State.cfgWarm s by_).frz = s.frz ∧ (State.cfgWarm s by_).ccd = s.ccd ∧ (State.cfgWarm s by_).rings = s.rings ∧
    (State.cfgWarm s by_).latches = s.latches ∧ (State.cfgWarm s by_).closed = s.closed ∧
    (State.cfgWarm s by_).closureReported = s.closureReported ∧ (State.cfgWarm s by_).ddr = s.ddr ∧
    (State.cfgWarm s by_).busRead = s.busRead := by
  simp only [State.cfgWarm]
  (repeat' split) <;> simp_all
@[simp] theorem State.cfgFull_keeps (s : State) (by_ : Option CmdHdr) :
    (State.cfgFull s by_).now = s.now ∧ (State.cfgFull s by_).pending = s.pending ∧ (State.cfgFull s by_).free = s.free ∧
    (State.cfgFull s by_).nv = s.nv := by
  simp [State.cfgFull]
@[simp] theorem State.cfgErase_keeps (s : State) (by_ : Option CmdHdr) :
    (State.cfgErase s by_).now = s.now ∧ (State.cfgErase s by_).pending = s.pending ∧ (State.cfgErase s by_).free = s.free ∧
    (State.cfgErase s by_).core = s.core ∧ (State.cfgErase s by_).pin = s.pin ∧ (State.cfgErase s by_).aon = s.aon ∧
    (State.cfgErase s by_).flt = s.flt ∧ (State.cfgErase s by_).brw = s.brw ∧ (State.cfgErase s by_).ids = s.ids ∧
    (State.cfgErase s by_).mbx = s.mbx ∧ (State.cfgErase s by_).pool = s.pool ∧ (State.cfgErase s by_).laneA = s.laneA ∧
    (State.cfgErase s by_).laneB = s.laneB ∧ (State.cfgErase s by_).laneC = s.laneC ∧ (State.cfgErase s by_).vot = s.vot ∧
    (State.cfgErase s by_).fes = s.fes ∧ (State.cfgErase s by_).plan = s.plan ∧ (State.cfgErase s by_).emit = s.emit ∧
    (State.cfgErase s by_).lex = s.lex ∧ (State.cfgErase s by_).swd = s.swd ∧ (State.cfgErase s by_).swm = s.swm ∧
    (State.cfgErase s by_).frz = s.frz ∧ (State.cfgErase s by_).ccd = s.ccd ∧ (State.cfgErase s by_).htl = s.htl ∧
    (State.cfgErase s by_).rings = s.rings ∧ (State.cfgErase s by_).latches = s.latches ∧
    (State.cfgErase s by_).closed = s.closed ∧ (State.cfgErase s by_).closureReported = s.closureReported ∧
    (State.cfgErase s by_).ddr = s.ddr ∧ (State.cfgErase s by_).busRead = s.busRead := by
  simp [State.cfgErase]
@[simp] theorem State.cfgCommand_keeps (s : State) (op : CfgOp) (by_ : Option CmdHdr) :
    (State.cfgCommand s op by_).now = s.now ∧ (State.cfgCommand s op by_).pending = s.pending ∧
    (State.cfgCommand s op by_).free = s.free := by
  simp only [State.cfgCommand]
  (repeat' split) <;> simp_all
@[simp] theorem State.cfgEnd_keeps (s : State) (ok : Bool) :
    (State.cfgEnd s ok).now = s.now ∧ (State.cfgEnd s ok).pending = s.pending ∧ (State.cfgEnd s ok).free = s.free ∧
    (State.cfgEnd s ok).core = s.core ∧ (State.cfgEnd s ok).pin = s.pin ∧ (State.cfgEnd s ok).aon = s.aon ∧
    (State.cfgEnd s ok).pool = s.pool ∧ (State.cfgEnd s ok).laneA = s.laneA ∧ (State.cfgEnd s ok).laneB = s.laneB ∧
    (State.cfgEnd s ok).laneC = s.laneC ∧ (State.cfgEnd s ok).vot = s.vot ∧ (State.cfgEnd s ok).fes = s.fes ∧
    (State.cfgEnd s ok).plan = s.plan ∧ (State.cfgEnd s ok).emit = s.emit ∧ (State.cfgEnd s ok).lex = s.lex ∧
    (State.cfgEnd s ok).swd = s.swd ∧ (State.cfgEnd s ok).swm = s.swm ∧ (State.cfgEnd s ok).frz = s.frz ∧
    (State.cfgEnd s ok).ccd = s.ccd ∧ (State.cfgEnd s ok).rings = s.rings ∧ (State.cfgEnd s ok).latches = s.latches ∧
    (State.cfgEnd s ok).closed = s.closed ∧ (State.cfgEnd s ok).closureReported = s.closureReported ∧
    (State.cfgEnd s ok).ddr = s.ddr ∧ (State.cfgEnd s ok).busRead = s.busRead := by
  simp only [State.cfgEnd]
  (repeat' split) <;> simp_all
@[simp] theorem State.writeCfg_keeps (s : State) (o : Nat) (v : Word) :
    (State.writeCfg s o v).now = s.now ∧ (State.writeCfg s o v).pending = s.pending ∧ (State.writeCfg s o v).free = s.free ∧
    (State.writeCfg s o v).nv = s.nv ∧ (State.writeCfg s o v).core = s.core ∧ (State.writeCfg s o v).pin = s.pin ∧
    (State.writeCfg s o v).aon = s.aon ∧ (State.writeCfg s o v).brw = s.brw ∧ (State.writeCfg s o v).ids = s.ids ∧
    (State.writeCfg s o v).mbx = s.mbx ∧ (State.writeCfg s o v).pool = s.pool ∧ (State.writeCfg s o v).laneA = s.laneA ∧
    (State.writeCfg s o v).laneB = s.laneB ∧ (State.writeCfg s o v).laneC = s.laneC ∧ (State.writeCfg s o v).vot = s.vot ∧
    (State.writeCfg s o v).fes = s.fes ∧ (State.writeCfg s o v).plan = s.plan ∧ (State.writeCfg s o v).emit = s.emit ∧
    (State.writeCfg s o v).lex = s.lex ∧ (State.writeCfg s o v).swd = s.swd ∧ (State.writeCfg s o v).swm = s.swm ∧
    (State.writeCfg s o v).frz = s.frz ∧ (State.writeCfg s o v).ccd = s.ccd ∧ (State.writeCfg s o v).htl = s.htl ∧
    (State.writeCfg s o v).rings = s.rings ∧ (State.writeCfg s o v).closed = s.closed ∧
    (State.writeCfg s o v).closureReported = s.closureReported ∧ (State.writeCfg s o v).ddr = s.ddr ∧
    (State.writeCfg s o v).busRead = s.busRead := by
  simp only [State.writeCfg]
  (repeat' split) <;> simp_all
@[simp] theorem State.nmi_keeps (s : State) (q : QMsg) :
    (State.nmi s q).now = s.now ∧ (State.nmi s q).pending = s.pending ∧ (State.nmi s q).free = s.free ∧
    (State.nmi s q).nv = s.nv ∧ (State.nmi s q).core = s.core ∧ (State.nmi s q).pin = s.pin ∧ (State.nmi s q).aon = s.aon ∧
    (State.nmi s q).brw = s.brw ∧ (State.nmi s q).cfg = s.cfg ∧ (State.nmi s q).ids = s.ids ∧ (State.nmi s q).mbx = s.mbx ∧
    (State.nmi s q).pool = s.pool ∧ (State.nmi s q).laneA = s.laneA ∧ (State.nmi s q).laneB = s.laneB ∧
    (State.nmi s q).laneC = s.laneC ∧ (State.nmi s q).vot = s.vot ∧ (State.nmi s q).fes = s.fes ∧
    (State.nmi s q).plan = s.plan ∧ (State.nmi s q).emit = s.emit ∧ (State.nmi s q).lex = s.lex ∧
    (State.nmi s q).swd = s.swd ∧ (State.nmi s q).swm = s.swm ∧ (State.nmi s q).frz = s.frz ∧ (State.nmi s q).ccd = s.ccd ∧
    (State.nmi s q).htl = s.htl ∧ (State.nmi s q).rings = s.rings ∧ (State.nmi s q).latches = s.latches ∧
    (State.nmi s q).closed = s.closed ∧ (State.nmi s q).closureReported = s.closureReported ∧ (State.nmi s q).ddr = s.ddr ∧
    (State.nmi s q).busRead = s.busRead := by
  simp [State.nmi]
@[simp] theorem State.resetReaction_keeps (s : State) (source code : Nat) :
    (State.resetReaction s source code).now = s.now ∧ (State.resetReaction s source code).pending = s.pending ∧
    (State.resetReaction s source code).free = s.free ∧ (State.resetReaction s source code).nv = s.nv := by
  simp only [State.resetReaction]
  (repeat' split) <;> simp_all
@[simp] theorem State.faultRecord_keeps (s : State) (q : QMsg) :
    (State.faultRecord s q).now = s.now ∧ (State.faultRecord s q).pending = s.pending ∧
    (State.faultRecord s q).free = s.free ∧ (State.faultRecord s q).nv = s.nv ∧ (State.faultRecord s q).core = s.core ∧
    (State.faultRecord s q).pin = s.pin ∧ (State.faultRecord s q).aon = s.aon ∧ (State.faultRecord s q).cfg = s.cfg ∧
    (State.faultRecord s q).ids = s.ids ∧ (State.faultRecord s q).mbx = s.mbx ∧ (State.faultRecord s q).pool = s.pool ∧
    (State.faultRecord s q).laneA = s.laneA ∧ (State.faultRecord s q).laneB = s.laneB ∧
    (State.faultRecord s q).laneC = s.laneC ∧ (State.faultRecord s q).vot = s.vot ∧ (State.faultRecord s q).fes = s.fes ∧
    (State.faultRecord s q).plan = s.plan ∧ (State.faultRecord s q).emit = s.emit ∧ (State.faultRecord s q).lex = s.lex ∧
    (State.faultRecord s q).swd = s.swd ∧ (State.faultRecord s q).swm = s.swm ∧ (State.faultRecord s q).frz = s.frz ∧
    (State.faultRecord s q).ccd = s.ccd ∧ (State.faultRecord s q).rings = s.rings ∧
    (State.faultRecord s q).latches = s.latches ∧ (State.faultRecord s q).closed = s.closed ∧
    (State.faultRecord s q).closureReported = s.closureReported ∧ (State.faultRecord s q).ddr = s.ddr ∧
    (State.faultRecord s q).busRead = s.busRead := by
  simp [State.faultRecord]
@[simp] theorem State.writeFlt_keeps (s : State) (o : Nat) (v : Word) :
    (State.writeFlt s o v).now = s.now ∧ (State.writeFlt s o v).pending = s.pending ∧ (State.writeFlt s o v).free = s.free ∧
    (State.writeFlt s o v).nv = s.nv ∧ (State.writeFlt s o v).core = s.core ∧ (State.writeFlt s o v).pin = s.pin ∧
    (State.writeFlt s o v).aon = s.aon ∧ (State.writeFlt s o v).brw = s.brw ∧ (State.writeFlt s o v).cfg = s.cfg ∧
    (State.writeFlt s o v).ids = s.ids ∧ (State.writeFlt s o v).mbx = s.mbx ∧ (State.writeFlt s o v).pool = s.pool ∧
    (State.writeFlt s o v).laneA = s.laneA ∧ (State.writeFlt s o v).laneB = s.laneB ∧
    (State.writeFlt s o v).laneC = s.laneC ∧ (State.writeFlt s o v).vot = s.vot ∧ (State.writeFlt s o v).fes = s.fes ∧
    (State.writeFlt s o v).plan = s.plan ∧ (State.writeFlt s o v).emit = s.emit ∧ (State.writeFlt s o v).lex = s.lex ∧
    (State.writeFlt s o v).swd = s.swd ∧ (State.writeFlt s o v).swm = s.swm ∧ (State.writeFlt s o v).frz = s.frz ∧
    (State.writeFlt s o v).ccd = s.ccd ∧ (State.writeFlt s o v).htl = s.htl ∧ (State.writeFlt s o v).rings = s.rings ∧
    (State.writeFlt s o v).latches = s.latches ∧ (State.writeFlt s o v).closed = s.closed ∧
    (State.writeFlt s o v).closureReported = s.closureReported ∧ (State.writeFlt s o v).ddr = s.ddr ∧
    (State.writeFlt s o v).busRead = s.busRead := by
  simp only [State.writeFlt]
  (repeat' split) <;> simp_all
@[simp] theorem State.updFw_keeps (s : State) (k : Bool) (f : FwSlot → FwSlot) :
    (State.updFw s k f).now = s.now ∧ (State.updFw s k f).pending = s.pending ∧ (State.updFw s k f).free = s.free ∧
    (State.updFw s k f).core = s.core ∧ (State.updFw s k f).pin = s.pin ∧ (State.updFw s k f).aon = s.aon ∧
    (State.updFw s k f).flt = s.flt ∧ (State.updFw s k f).brw = s.brw ∧ (State.updFw s k f).cfg = s.cfg ∧
    (State.updFw s k f).ids = s.ids ∧ (State.updFw s k f).mbx = s.mbx ∧ (State.updFw s k f).pool = s.pool ∧
    (State.updFw s k f).laneA = s.laneA ∧ (State.updFw s k f).laneB = s.laneB ∧ (State.updFw s k f).laneC = s.laneC ∧
    (State.updFw s k f).vot = s.vot ∧ (State.updFw s k f).fes = s.fes ∧ (State.updFw s k f).plan = s.plan ∧
    (State.updFw s k f).emit = s.emit ∧ (State.updFw s k f).lex = s.lex ∧ (State.updFw s k f).swd = s.swd ∧
    (State.updFw s k f).swm = s.swm ∧ (State.updFw s k f).frz = s.frz ∧ (State.updFw s k f).ccd = s.ccd ∧
    (State.updFw s k f).htl = s.htl ∧ (State.updFw s k f).rings = s.rings ∧ (State.updFw s k f).latches = s.latches ∧
    (State.updFw s k f).closed = s.closed ∧ (State.updFw s k f).closureReported = s.closureReported ∧
    (State.updFw s k f).ddr = s.ddr ∧ (State.updFw s k f).busRead = s.busRead := by
  simp [State.updFw]
@[simp] theorem State.fallback_keeps (s : State) :
    (State.fallback s).now = s.now ∧ (State.fallback s).pending = s.pending ∧ (State.fallback s).free = s.free ∧
    (State.fallback s).nv = s.nv ∧ (State.fallback s).core = s.core ∧ (State.fallback s).pin = s.pin ∧
    (State.fallback s).aon = s.aon ∧ (State.fallback s).flt = s.flt ∧ (State.fallback s).brw = s.brw ∧
    (State.fallback s).cfg = s.cfg ∧ (State.fallback s).ids = s.ids ∧ (State.fallback s).pool = s.pool ∧
    (State.fallback s).laneA = s.laneA ∧ (State.fallback s).laneB = s.laneB ∧ (State.fallback s).laneC = s.laneC ∧
    (State.fallback s).vot = s.vot ∧ (State.fallback s).fes = s.fes ∧ (State.fallback s).plan = s.plan ∧
    (State.fallback s).emit = s.emit ∧ (State.fallback s).lex = s.lex ∧ (State.fallback s).swd = s.swd ∧
    (State.fallback s).swm = s.swm ∧ (State.fallback s).frz = s.frz ∧ (State.fallback s).ccd = s.ccd ∧
    (State.fallback s).rings = s.rings ∧ (State.fallback s).latches = s.latches ∧ (State.fallback s).closed = s.closed ∧
    (State.fallback s).closureReported = s.closureReported ∧ (State.fallback s).ddr = s.ddr ∧
    (State.fallback s).busRead = s.busRead := by
  simp [State.fallback]
@[simp] theorem State.shedSward_keeps (s : State) :
    (State.shedSward s).now = s.now ∧ (State.shedSward s).pending = s.pending ∧ (State.shedSward s).free = s.free ∧
    (State.shedSward s).nv = s.nv ∧ (State.shedSward s).pin = s.pin ∧ (State.shedSward s).aon = s.aon ∧
    (State.shedSward s).cfg = s.cfg ∧ (State.shedSward s).ids = s.ids ∧ (State.shedSward s).mbx = s.mbx ∧
    (State.shedSward s).swm = s.swm ∧ (State.shedSward s).frz = s.frz ∧ (State.shedSward s).ccd = s.ccd ∧
    (State.shedSward s).rings = s.rings ∧ (State.shedSward s).closureReported = s.closureReported ∧
    (State.shedSward s).ddr = s.ddr ∧ (State.shedSward s).busRead = s.busRead := by
  simp [State.shedSward]
@[simp] theorem State.slotReport_keeps (s : State) (k code : Nat) :
    (State.slotReport s k code).now = s.now ∧ (State.slotReport s k code).pending = s.pending ∧
    (State.slotReport s k code).free = s.free ∧ (State.slotReport s k code).nv = s.nv ∧
    (State.slotReport s k code).core = s.core ∧ (State.slotReport s k code).pin = s.pin ∧
    (State.slotReport s k code).aon = s.aon ∧ (State.slotReport s k code).brw = s.brw ∧
    (State.slotReport s k code).cfg = s.cfg ∧ (State.slotReport s k code).ids = s.ids ∧
    (State.slotReport s k code).mbx = s.mbx ∧ (State.slotReport s k code).pool = s.pool ∧
    (State.slotReport s k code).laneA = s.laneA ∧ (State.slotReport s k code).laneB = s.laneB ∧
    (State.slotReport s k code).laneC = s.laneC ∧ (State.slotReport s k code).vot = s.vot ∧
    (State.slotReport s k code).fes = s.fes ∧ (State.slotReport s k code).plan = s.plan ∧
    (State.slotReport s k code).emit = s.emit ∧ (State.slotReport s k code).lex = s.lex ∧
    (State.slotReport s k code).swd = s.swd ∧ (State.slotReport s k code).swm = s.swm ∧
    (State.slotReport s k code).frz = s.frz ∧ (State.slotReport s k code).ccd = s.ccd ∧
    (State.slotReport s k code).htl = s.htl ∧ (State.slotReport s k code).rings = s.rings ∧
    (State.slotReport s k code).latches = s.latches ∧ (State.slotReport s k code).closed = s.closed ∧
    (State.slotReport s k code).closureReported = s.closureReported ∧ (State.slotReport s k code).ddr = s.ddr ∧
    (State.slotReport s k code).busRead = s.busRead := by
  simp [State.slotReport]
@[simp] theorem State.placeStrings_keeps (s : State) :
    (State.placeStrings s).now = s.now ∧ (State.placeStrings s).pending = s.pending ∧ (State.placeStrings s).free = s.free ∧
    (State.placeStrings s).nv = s.nv ∧ (State.placeStrings s).core = s.core ∧ (State.placeStrings s).pin = s.pin ∧
    (State.placeStrings s).aon = s.aon ∧ (State.placeStrings s).flt = s.flt ∧ (State.placeStrings s).brw = s.brw ∧
    (State.placeStrings s).cfg = s.cfg ∧ (State.placeStrings s).ids = s.ids ∧ (State.placeStrings s).mbx = s.mbx ∧
    (State.placeStrings s).pool = s.pool ∧ (State.placeStrings s).laneA = s.laneA ∧ (State.placeStrings s).laneB = s.laneB ∧
    (State.placeStrings s).laneC = s.laneC ∧ (State.placeStrings s).vot = s.vot ∧ (State.placeStrings s).plan = s.plan ∧
    (State.placeStrings s).emit = s.emit ∧ (State.placeStrings s).lex = s.lex ∧ (State.placeStrings s).swd = s.swd ∧
    (State.placeStrings s).swm = s.swm ∧ (State.placeStrings s).frz = s.frz ∧ (State.placeStrings s).ccd = s.ccd ∧
    (State.placeStrings s).htl = s.htl ∧ (State.placeStrings s).rings = s.rings ∧
    (State.placeStrings s).latches = s.latches ∧ (State.placeStrings s).closed = s.closed ∧
    (State.placeStrings s).closureReported = s.closureReported ∧ (State.placeStrings s).ddr = s.ddr ∧
    (State.placeStrings s).busRead = s.busRead := by
  simp [State.placeStrings]
@[simp] theorem State.thermShow_keeps (s : State) :
    (State.thermShow s).now = s.now ∧ (State.thermShow s).pending = s.pending ∧ (State.thermShow s).free = s.free ∧
    (State.thermShow s).nv = s.nv ∧ (State.thermShow s).core = s.core ∧ (State.thermShow s).pin = s.pin ∧
    (State.thermShow s).flt = s.flt ∧ (State.thermShow s).brw = s.brw ∧ (State.thermShow s).cfg = s.cfg ∧
    (State.thermShow s).ids = s.ids ∧ (State.thermShow s).mbx = s.mbx ∧ (State.thermShow s).pool = s.pool ∧
    (State.thermShow s).laneA = s.laneA ∧ (State.thermShow s).laneB = s.laneB ∧ (State.thermShow s).laneC = s.laneC ∧
    (State.thermShow s).vot = s.vot ∧ (State.thermShow s).fes = s.fes ∧ (State.thermShow s).plan = s.plan ∧
    (State.thermShow s).emit = s.emit ∧ (State.thermShow s).lex = s.lex ∧ (State.thermShow s).swd = s.swd ∧
    (State.thermShow s).swm = s.swm ∧ (State.thermShow s).frz = s.frz ∧ (State.thermShow s).ccd = s.ccd ∧
    (State.thermShow s).htl = s.htl ∧ (State.thermShow s).rings = s.rings ∧ (State.thermShow s).latches = s.latches ∧
    (State.thermShow s).closed = s.closed ∧ (State.thermShow s).closureReported = s.closureReported ∧
    (State.thermShow s).ddr = s.ddr ∧ (State.thermShow s).busRead = s.busRead := by
  simp [State.thermShow]
@[simp] theorem State.swardBackstop_keeps (s : State) :
    (State.swardBackstop s).now = s.now ∧ (State.swardBackstop s).pending = s.pending ∧
    (State.swardBackstop s).free = s.free ∧ (State.swardBackstop s).nv = s.nv ∧ (State.swardBackstop s).pin = s.pin ∧
    (State.swardBackstop s).cfg = s.cfg ∧ (State.swardBackstop s).ids = s.ids ∧ (State.swardBackstop s).mbx = s.mbx ∧
    (State.swardBackstop s).swm = s.swm ∧ (State.swardBackstop s).frz = s.frz ∧ (State.swardBackstop s).ccd = s.ccd ∧
    (State.swardBackstop s).rings = s.rings ∧ (State.swardBackstop s).closureReported = s.closureReported ∧
    (State.swardBackstop s).ddr = s.ddr ∧ (State.swardBackstop s).busRead = s.busRead := by
  simp only [State.swardBackstop]
  (repeat' split) <;> simp_all
@[simp] theorem State.dieBackstop_keeps (s : State) :
    (State.dieBackstop s).pending = s.pending ∧ (State.dieBackstop s).free = s.free ∧ (State.dieBackstop s).nv = s.nv := by
  simp only [State.dieBackstop]
  (repeat' split) <;> simp_all
@[simp] theorem State.supplySample_keeps (s : State) (l : List Reading) :
    (State.supplySample s l).now = s.now ∧ (State.supplySample s l).pending = s.pending ∧
    (State.supplySample s l).free = s.free ∧ (State.supplySample s l).nv = s.nv ∧ (State.supplySample s l).core = s.core ∧
    (State.supplySample s l).pin = s.pin ∧ (State.supplySample s l).flt = s.flt ∧ (State.supplySample s l).brw = s.brw ∧
    (State.supplySample s l).cfg = s.cfg ∧ (State.supplySample s l).ids = s.ids ∧ (State.supplySample s l).mbx = s.mbx ∧
    (State.supplySample s l).pool = s.pool ∧ (State.supplySample s l).laneA = s.laneA ∧
    (State.supplySample s l).laneB = s.laneB ∧ (State.supplySample s l).laneC = s.laneC ∧
    (State.supplySample s l).vot = s.vot ∧ (State.supplySample s l).fes = s.fes ∧ (State.supplySample s l).plan = s.plan ∧
    (State.supplySample s l).emit = s.emit ∧ (State.supplySample s l).lex = s.lex ∧ (State.supplySample s l).swd = s.swd ∧
    (State.supplySample s l).swm = s.swm ∧ (State.supplySample s l).frz = s.frz ∧ (State.supplySample s l).ccd = s.ccd ∧
    (State.supplySample s l).htl = s.htl ∧ (State.supplySample s l).rings = s.rings ∧
    (State.supplySample s l).latches = s.latches ∧ (State.supplySample s l).closed = s.closed ∧
    (State.supplySample s l).closureReported = s.closureReported ∧ (State.supplySample s l).ddr = s.ddr ∧
    (State.supplySample s l).busRead = s.busRead := by
  simp [State.supplySample]
@[simp] theorem State.derateUpdate_keeps (s : State) :
    (State.derateUpdate s).now = s.now ∧ (State.derateUpdate s).pending = s.pending ∧ (State.derateUpdate s).free = s.free ∧
    (State.derateUpdate s).nv = s.nv ∧ (State.derateUpdate s).core = s.core ∧ (State.derateUpdate s).pin = s.pin ∧
    (State.derateUpdate s).cfg = s.cfg ∧ (State.derateUpdate s).ids = s.ids ∧ (State.derateUpdate s).pool = s.pool ∧
    (State.derateUpdate s).laneA = s.laneA ∧ (State.derateUpdate s).laneB = s.laneB ∧
    (State.derateUpdate s).laneC = s.laneC ∧ (State.derateUpdate s).vot = s.vot ∧ (State.derateUpdate s).fes = s.fes ∧
    (State.derateUpdate s).plan = s.plan ∧ (State.derateUpdate s).emit = s.emit ∧ (State.derateUpdate s).lex = s.lex ∧
    (State.derateUpdate s).swd = s.swd ∧ (State.derateUpdate s).swm = s.swm ∧ (State.derateUpdate s).frz = s.frz ∧
    (State.derateUpdate s).rings = s.rings ∧ (State.derateUpdate s).latches = s.latches ∧
    (State.derateUpdate s).closed = s.closed ∧ (State.derateUpdate s).closureReported = s.closureReported ∧
    (State.derateUpdate s).ddr = s.ddr ∧ (State.derateUpdate s).busRead = s.busRead := by
  simp [State.derateUpdate]
@[simp] theorem State.coolNotify_keeps (s : State) :
    (State.coolNotify s).now = s.now ∧ (State.coolNotify s).pending = s.pending ∧ (State.coolNotify s).free = s.free ∧
    (State.coolNotify s).nv = s.nv ∧ (State.coolNotify s).core = s.core ∧ (State.coolNotify s).pin = s.pin ∧
    (State.coolNotify s).aon = s.aon ∧ (State.coolNotify s).flt = s.flt ∧ (State.coolNotify s).brw = s.brw ∧
    (State.coolNotify s).cfg = s.cfg ∧ (State.coolNotify s).ids = s.ids ∧ (State.coolNotify s).pool = s.pool ∧
    (State.coolNotify s).laneA = s.laneA ∧ (State.coolNotify s).laneB = s.laneB ∧ (State.coolNotify s).laneC = s.laneC ∧
    (State.coolNotify s).vot = s.vot ∧ (State.coolNotify s).fes = s.fes ∧ (State.coolNotify s).plan = s.plan ∧
    (State.coolNotify s).emit = s.emit ∧ (State.coolNotify s).lex = s.lex ∧ (State.coolNotify s).swd = s.swd ∧
    (State.coolNotify s).swm = s.swm ∧ (State.coolNotify s).frz = s.frz ∧ (State.coolNotify s).ccd = s.ccd ∧
    (State.coolNotify s).rings = s.rings ∧ (State.coolNotify s).latches = s.latches ∧
    (State.coolNotify s).closed = s.closed ∧ (State.coolNotify s).closureReported = s.closureReported ∧
    (State.coolNotify s).ddr = s.ddr ∧ (State.coolNotify s).busRead = s.busRead := by
  simp [State.coolNotify]
@[simp] theorem State.moduleStep_keeps (s : State) (ppk pg : Rat) :
    (State.moduleStep s ppk pg).now = s.now ∧ (State.moduleStep s ppk pg).pending = s.pending ∧
    (State.moduleStep s ppk pg).free = s.free ∧ (State.moduleStep s ppk pg).nv = s.nv ∧
    (State.moduleStep s ppk pg).core = s.core ∧ (State.moduleStep s ppk pg).pin = s.pin ∧
    (State.moduleStep s ppk pg).aon = s.aon ∧ (State.moduleStep s ppk pg).flt = s.flt ∧
    (State.moduleStep s ppk pg).brw = s.brw ∧ (State.moduleStep s ppk pg).cfg = s.cfg ∧
    (State.moduleStep s ppk pg).ids = s.ids ∧ (State.moduleStep s ppk pg).pool = s.pool ∧
    (State.moduleStep s ppk pg).laneA = s.laneA ∧ (State.moduleStep s ppk pg).laneB = s.laneB ∧
    (State.moduleStep s ppk pg).laneC = s.laneC ∧ (State.moduleStep s ppk pg).vot = s.vot ∧
    (State.moduleStep s ppk pg).fes = s.fes ∧ (State.moduleStep s ppk pg).plan = s.plan ∧
    (State.moduleStep s ppk pg).emit = s.emit ∧ (State.moduleStep s ppk pg).lex = s.lex ∧
    (State.moduleStep s ppk pg).swd = s.swd ∧ (State.moduleStep s ppk pg).swm = s.swm ∧
    (State.moduleStep s ppk pg).frz = s.frz ∧ (State.moduleStep s ppk pg).ccd = s.ccd ∧
    (State.moduleStep s ppk pg).htl = s.htl ∧ (State.moduleStep s ppk pg).rings = s.rings ∧
    (State.moduleStep s ppk pg).latches = s.latches ∧ (State.moduleStep s ppk pg).closed = s.closed ∧
    (State.moduleStep s ppk pg).closureReported = s.closureReported ∧ (State.moduleStep s ppk pg).ddr = s.ddr ∧
    (State.moduleStep s ppk pg).busRead = s.busRead := by
  simp [State.moduleStep]
@[simp] theorem State.shelfStep_keeps (s : State) :
    (State.shelfStep s).now = s.now ∧ (State.shelfStep s).pending = s.pending ∧ (State.shelfStep s).free = s.free ∧
    (State.shelfStep s).nv = s.nv ∧ (State.shelfStep s).core = s.core ∧ (State.shelfStep s).pin = s.pin ∧
    (State.shelfStep s).aon = s.aon ∧ (State.shelfStep s).flt = s.flt ∧ (State.shelfStep s).brw = s.brw ∧
    (State.shelfStep s).cfg = s.cfg ∧ (State.shelfStep s).ids = s.ids ∧ (State.shelfStep s).pool = s.pool ∧
    (State.shelfStep s).laneA = s.laneA ∧ (State.shelfStep s).laneB = s.laneB ∧ (State.shelfStep s).laneC = s.laneC ∧
    (State.shelfStep s).vot = s.vot ∧ (State.shelfStep s).fes = s.fes ∧ (State.shelfStep s).plan = s.plan ∧
    (State.shelfStep s).emit = s.emit ∧ (State.shelfStep s).lex = s.lex ∧ (State.shelfStep s).swd = s.swd ∧
    (State.shelfStep s).swm = s.swm ∧ (State.shelfStep s).frz = s.frz ∧ (State.shelfStep s).ccd = s.ccd ∧
    (State.shelfStep s).htl = s.htl ∧ (State.shelfStep s).rings = s.rings ∧ (State.shelfStep s).latches = s.latches ∧
    (State.shelfStep s).closed = s.closed ∧ (State.shelfStep s).closureReported = s.closureReported ∧
    (State.shelfStep s).ddr = s.ddr ∧ (State.shelfStep s).busRead = s.busRead := by
  simp only [State.shelfStep]
  (repeat' split) <;> simp_all
@[simp] theorem State.trustCommand_keeps (s : State) (bytes voucher : List Byte) :
    (State.trustCommand s bytes voucher).2.now = s.now ∧ (State.trustCommand s bytes voucher).2.pending = s.pending ∧
    (State.trustCommand s bytes voucher).2.free = s.free ∧ (State.trustCommand s bytes voucher).2.core = s.core ∧
    (State.trustCommand s bytes voucher).2.pin = s.pin ∧ (State.trustCommand s bytes voucher).2.aon = s.aon ∧
    (State.trustCommand s bytes voucher).2.cfg = s.cfg ∧ (State.trustCommand s bytes voucher).2.mbx = s.mbx ∧
    (State.trustCommand s bytes voucher).2.pool = s.pool ∧ (State.trustCommand s bytes voucher).2.laneA = s.laneA ∧
    (State.trustCommand s bytes voucher).2.laneB = s.laneB ∧ (State.trustCommand s bytes voucher).2.laneC = s.laneC ∧
    (State.trustCommand s bytes voucher).2.vot = s.vot ∧ (State.trustCommand s bytes voucher).2.fes = s.fes ∧
    (State.trustCommand s bytes voucher).2.plan = s.plan ∧ (State.trustCommand s bytes voucher).2.emit = s.emit ∧
    (State.trustCommand s bytes voucher).2.lex = s.lex ∧ (State.trustCommand s bytes voucher).2.swd = s.swd ∧
    (State.trustCommand s bytes voucher).2.swm = s.swm ∧ (State.trustCommand s bytes voucher).2.frz = s.frz ∧
    (State.trustCommand s bytes voucher).2.ccd = s.ccd ∧ (State.trustCommand s bytes voucher).2.rings = s.rings ∧
    (State.trustCommand s bytes voucher).2.latches = s.latches ∧ (State.trustCommand s bytes voucher).2.closed = s.closed ∧
    (State.trustCommand s bytes voucher).2.closureReported = s.closureReported ∧
    (State.trustCommand s bytes voucher).2.ddr = s.ddr ∧ (State.trustCommand s bytes voucher).2.busRead = s.busRead := by
  simp [State.trustCommand]
  (repeat' split) <;> simp_all [Prod.ext_iff]
@[simp] theorem State.tamperFire_keeps (s : State) (d : Nat) :
    (State.tamperFire s d).now = s.now ∧ (State.tamperFire s d).pending = s.pending ∧ (State.tamperFire s d).free = s.free := by
  simp [State.tamperFire]
@[simp] theorem State.writeIds_keeps (s : State) (o : Nat) (v : Word) :
    (State.writeIds s o v).now = s.now ∧ (State.writeIds s o v).pending = s.pending ∧ (State.writeIds s o v).free = s.free ∧
    (State.writeIds s o v).nv = s.nv ∧ (State.writeIds s o v).core = s.core ∧ (State.writeIds s o v).pin = s.pin ∧
    (State.writeIds s o v).aon = s.aon ∧ (State.writeIds s o v).flt = s.flt ∧ (State.writeIds s o v).brw = s.brw ∧
    (State.writeIds s o v).cfg = s.cfg ∧ (State.writeIds s o v).mbx = s.mbx ∧ (State.writeIds s o v).pool = s.pool ∧
    (State.writeIds s o v).laneA = s.laneA ∧ (State.writeIds s o v).laneB = s.laneB ∧
    (State.writeIds s o v).laneC = s.laneC ∧ (State.writeIds s o v).vot = s.vot ∧ (State.writeIds s o v).fes = s.fes ∧
    (State.writeIds s o v).plan = s.plan ∧ (State.writeIds s o v).emit = s.emit ∧ (State.writeIds s o v).lex = s.lex ∧
    (State.writeIds s o v).swd = s.swd ∧ (State.writeIds s o v).swm = s.swm ∧ (State.writeIds s o v).frz = s.frz ∧
    (State.writeIds s o v).ccd = s.ccd ∧ (State.writeIds s o v).htl = s.htl ∧ (State.writeIds s o v).rings = s.rings ∧
    (State.writeIds s o v).latches = s.latches ∧ (State.writeIds s o v).closed = s.closed ∧
    (State.writeIds s o v).closureReported = s.closureReported ∧ (State.writeIds s o v).ddr = s.ddr ∧
    (State.writeIds s o v).busRead = s.busRead := by
  simp only [State.writeIds]
  (repeat' split) <;> simp_all
@[simp] theorem State.readEffect_keeps (s : State) (a : Nat) :
    (State.readEffect s a).now = s.now ∧ (State.readEffect s a).pending = s.pending ∧ (State.readEffect s a).free = s.free ∧
    (State.readEffect s a).nv = s.nv ∧ (State.readEffect s a).core = s.core ∧ (State.readEffect s a).pin = s.pin ∧
    (State.readEffect s a).aon = s.aon ∧ (State.readEffect s a).brw = s.brw ∧ (State.readEffect s a).cfg = s.cfg ∧
    (State.readEffect s a).ids = s.ids ∧ (State.readEffect s a).mbx = s.mbx ∧ (State.readEffect s a).pool = s.pool ∧
    (State.readEffect s a).laneA = s.laneA ∧ (State.readEffect s a).laneB = s.laneB ∧
    (State.readEffect s a).laneC = s.laneC ∧ (State.readEffect s a).vot = s.vot ∧ (State.readEffect s a).fes = s.fes ∧
    (State.readEffect s a).plan = s.plan ∧ (State.readEffect s a).emit = s.emit ∧ (State.readEffect s a).lex = s.lex ∧
    (State.readEffect s a).swd = s.swd ∧ (State.readEffect s a).swm = s.swm ∧ (State.readEffect s a).frz = s.frz ∧
    (State.readEffect s a).ccd = s.ccd ∧ (State.readEffect s a).rings = s.rings ∧ (State.readEffect s a).closed = s.closed ∧
    (State.readEffect s a).closureReported = s.closureReported ∧ (State.readEffect s a).ddr = s.ddr ∧
    (State.readEffect s a).busRead = s.busRead := by
  simp only [State.readEffect]
  (repeat' split) <;> simp_all
@[simp] theorem State.regRead_keeps (s : State) (a width : Nat) :
    (State.regRead s a width).2.now = s.now ∧ (State.regRead s a width).2.pending = s.pending ∧
    (State.regRead s a width).2.free = s.free ∧ (State.regRead s a width).2.nv = s.nv ∧
    (State.regRead s a width).2.core = s.core ∧ (State.regRead s a width).2.pin = s.pin ∧
    (State.regRead s a width).2.aon = s.aon ∧ (State.regRead s a width).2.brw = s.brw ∧
    (State.regRead s a width).2.cfg = s.cfg ∧ (State.regRead s a width).2.ids = s.ids ∧
    (State.regRead s a width).2.mbx = s.mbx ∧ (State.regRead s a width).2.pool = s.pool ∧
    (State.regRead s a width).2.laneA = s.laneA ∧ (State.regRead s a width).2.laneB = s.laneB ∧
    (State.regRead s a width).2.laneC = s.laneC ∧ (State.regRead s a width).2.vot = s.vot ∧
    (State.regRead s a width).2.fes = s.fes ∧ (State.regRead s a width).2.plan = s.plan ∧
    (State.regRead s a width).2.emit = s.emit ∧ (State.regRead s a width).2.lex = s.lex ∧
    (State.regRead s a width).2.swd = s.swd ∧ (State.regRead s a width).2.swm = s.swm ∧
    (State.regRead s a width).2.frz = s.frz ∧ (State.regRead s a width).2.ccd = s.ccd ∧
    (State.regRead s a width).2.rings = s.rings ∧ (State.regRead s a width).2.closed = s.closed ∧
    (State.regRead s a width).2.closureReported = s.closureReported ∧ (State.regRead s a width).2.ddr = s.ddr ∧
    (State.regRead s a width).2.busRead = s.busRead := by
  simp only [State.regRead]
  (repeat' split) <;> simp_all
@[simp] theorem State.landChunk_keeps (s : State) (x : Xfer) (off : Nat) (data : List Byte) :
    (State.landChunk s x off data).now = s.now ∧ (State.landChunk s x off data).pending = s.pending ∧
    (State.landChunk s x off data).free = s.free ∧ (State.landChunk s x off data).core = s.core ∧
    (State.landChunk s x off data).pin = s.pin ∧ (State.landChunk s x off data).aon = s.aon ∧
    (State.landChunk s x off data).flt = s.flt ∧ (State.landChunk s x off data).brw = s.brw ∧
    (State.landChunk s x off data).cfg = s.cfg ∧ (State.landChunk s x off data).ids = s.ids ∧
    (State.landChunk s x off data).pool = s.pool ∧ (State.landChunk s x off data).laneA = s.laneA ∧
    (State.landChunk s x off data).laneB = s.laneB ∧ (State.landChunk s x off data).laneC = s.laneC ∧
    (State.landChunk s x off data).vot = s.vot ∧ (State.landChunk s x off data).fes = s.fes ∧
    (State.landChunk s x off data).plan = s.plan ∧ (State.landChunk s x off data).emit = s.emit ∧
    (State.landChunk s x off data).lex = s.lex ∧ (State.landChunk s x off data).swd = s.swd ∧
    (State.landChunk s x off data).swm = s.swm ∧ (State.landChunk s x off data).frz = s.frz ∧
    (State.landChunk s x off data).ccd = s.ccd ∧ (State.landChunk s x off data).htl = s.htl ∧
    (State.landChunk s x off data).rings = s.rings ∧ (State.landChunk s x off data).latches = s.latches ∧
    (State.landChunk s x off data).closed = s.closed ∧ (State.landChunk s x off data).closureReported = s.closureReported ∧
    (State.landChunk s x off data).busRead = s.busRead := by
  simp only [State.landChunk]
  (repeat' split) <;> simp_all
@[simp] theorem State.keepDest_keeps (s : State) (x : Xfer) (bytes : List Byte) :
    (State.keepDest s x bytes).now = s.now ∧ (State.keepDest s x bytes).pending = s.pending ∧
    (State.keepDest s x bytes).free = s.free ∧ (State.keepDest s x bytes).core = s.core ∧
    (State.keepDest s x bytes).pin = s.pin ∧ (State.keepDest s x bytes).aon = s.aon ∧
    (State.keepDest s x bytes).flt = s.flt ∧ (State.keepDest s x bytes).brw = s.brw ∧
    (State.keepDest s x bytes).ids = s.ids ∧ (State.keepDest s x bytes).mbx = s.mbx ∧
    (State.keepDest s x bytes).pool = s.pool ∧ (State.keepDest s x bytes).laneA = s.laneA ∧
    (State.keepDest s x bytes).laneB = s.laneB ∧ (State.keepDest s x bytes).laneC = s.laneC ∧
    (State.keepDest s x bytes).vot = s.vot ∧ (State.keepDest s x bytes).fes = s.fes ∧
    (State.keepDest s x bytes).plan = s.plan ∧ (State.keepDest s x bytes).emit = s.emit ∧
    (State.keepDest s x bytes).lex = s.lex ∧ (State.keepDest s x bytes).swd = s.swd ∧
    (State.keepDest s x bytes).swm = s.swm ∧ (State.keepDest s x bytes).frz = s.frz ∧
    (State.keepDest s x bytes).ccd = s.ccd ∧ (State.keepDest s x bytes).htl = s.htl ∧
    (State.keepDest s x bytes).rings = s.rings ∧ (State.keepDest s x bytes).latches = s.latches ∧
    (State.keepDest s x bytes).closed = s.closed ∧ (State.keepDest s x bytes).closureReported = s.closureReported ∧
    (State.keepDest s x bytes).ddr = s.ddr ∧ (State.keepDest s x bytes).busRead = s.busRead := by
  simp only [State.keepDest]
  (repeat' split) <;> simp_all
@[simp] theorem State.xferBegin_keeps (s : State) (h : CmdHdr) (kind length : Nat) (digest : List Byte) :
    (State.xferBegin s h kind length digest).2.now = s.now ∧ (State.xferBegin s h kind length digest).2.pending = s.pending ∧
    (State.xferBegin s h kind length digest).2.free = s.free ∧ (State.xferBegin s h kind length digest).2.nv = s.nv ∧
    (State.xferBegin s h kind length digest).2.core = s.core ∧ (State.xferBegin s h kind length digest).2.pin = s.pin ∧
    (State.xferBegin s h kind length digest).2.aon = s.aon ∧ (State.xferBegin s h kind length digest).2.flt = s.flt ∧
    (State.xferBegin s h kind length digest).2.brw = s.brw ∧ (State.xferBegin s h kind length digest).2.cfg = s.cfg ∧
    (State.xferBegin s h kind length digest).2.ids = s.ids ∧ (State.xferBegin s h kind length digest).2.pool = s.pool ∧
    (State.xferBegin s h kind length digest).2.laneA = s.laneA ∧ (State.xferBegin s h kind length digest).2.laneB = s.laneB ∧
    (State.xferBegin s h kind length digest).2.laneC = s.laneC ∧ (State.xferBegin s h kind length digest).2.vot = s.vot ∧
    (State.xferBegin s h kind length digest).2.fes = s.fes ∧ (State.xferBegin s h kind length digest).2.plan = s.plan ∧
    (State.xferBegin s h kind length digest).2.emit = s.emit ∧ (State.xferBegin s h kind length digest).2.lex = s.lex ∧
    (State.xferBegin s h kind length digest).2.swd = s.swd ∧ (State.xferBegin s h kind length digest).2.swm = s.swm ∧
    (State.xferBegin s h kind length digest).2.frz = s.frz ∧ (State.xferBegin s h kind length digest).2.ccd = s.ccd ∧
    (State.xferBegin s h kind length digest).2.htl = s.htl ∧ (State.xferBegin s h kind length digest).2.rings = s.rings ∧
    (State.xferBegin s h kind length digest).2.latches = s.latches ∧
    (State.xferBegin s h kind length digest).2.closed = s.closed ∧
    (State.xferBegin s h kind length digest).2.closureReported = s.closureReported ∧
    (State.xferBegin s h kind length digest).2.ddr = s.ddr ∧
    (State.xferBegin s h kind length digest).2.busRead = s.busRead := by
  simp [State.xferBegin]
@[simp] theorem State.xferChunk_keeps (s : State) (num off : Nat) (data : List Byte) :
    (State.xferChunk s num off data).2.now = s.now ∧ (State.xferChunk s num off data).2.pending = s.pending ∧
    (State.xferChunk s num off data).2.free = s.free ∧ (State.xferChunk s num off data).2.core = s.core ∧
    (State.xferChunk s num off data).2.pin = s.pin ∧ (State.xferChunk s num off data).2.aon = s.aon ∧
    (State.xferChunk s num off data).2.flt = s.flt ∧ (State.xferChunk s num off data).2.brw = s.brw ∧
    (State.xferChunk s num off data).2.cfg = s.cfg ∧ (State.xferChunk s num off data).2.ids = s.ids ∧
    (State.xferChunk s num off data).2.pool = s.pool ∧ (State.xferChunk s num off data).2.laneA = s.laneA ∧
    (State.xferChunk s num off data).2.laneB = s.laneB ∧ (State.xferChunk s num off data).2.laneC = s.laneC ∧
    (State.xferChunk s num off data).2.vot = s.vot ∧ (State.xferChunk s num off data).2.fes = s.fes ∧
    (State.xferChunk s num off data).2.plan = s.plan ∧ (State.xferChunk s num off data).2.emit = s.emit ∧
    (State.xferChunk s num off data).2.lex = s.lex ∧ (State.xferChunk s num off data).2.swd = s.swd ∧
    (State.xferChunk s num off data).2.swm = s.swm ∧ (State.xferChunk s num off data).2.frz = s.frz ∧
    (State.xferChunk s num off data).2.ccd = s.ccd ∧ (State.xferChunk s num off data).2.htl = s.htl ∧
    (State.xferChunk s num off data).2.rings = s.rings ∧ (State.xferChunk s num off data).2.latches = s.latches ∧
    (State.xferChunk s num off data).2.closed = s.closed ∧
    (State.xferChunk s num off data).2.closureReported = s.closureReported ∧
    (State.xferChunk s num off data).2.busRead = s.busRead := by
  simp only [State.xferChunk]
  (repeat' split) <;> simp_all
@[simp] theorem State.bundleDelete_keeps (s : State) (digest : List Byte) :
    (State.bundleDelete s digest).2.now = s.now ∧ (State.bundleDelete s digest).2.pending = s.pending ∧
    (State.bundleDelete s digest).2.free = s.free ∧ (State.bundleDelete s digest).2.core = s.core ∧
    (State.bundleDelete s digest).2.pin = s.pin ∧ (State.bundleDelete s digest).2.aon = s.aon ∧
    (State.bundleDelete s digest).2.flt = s.flt ∧ (State.bundleDelete s digest).2.brw = s.brw ∧
    (State.bundleDelete s digest).2.cfg = s.cfg ∧ (State.bundleDelete s digest).2.ids = s.ids ∧
    (State.bundleDelete s digest).2.mbx = s.mbx ∧ (State.bundleDelete s digest).2.pool = s.pool ∧
    (State.bundleDelete s digest).2.laneA = s.laneA ∧ (State.bundleDelete s digest).2.laneB = s.laneB ∧
    (State.bundleDelete s digest).2.laneC = s.laneC ∧ (State.bundleDelete s digest).2.vot = s.vot ∧
    (State.bundleDelete s digest).2.fes = s.fes ∧ (State.bundleDelete s digest).2.plan = s.plan ∧
    (State.bundleDelete s digest).2.emit = s.emit ∧ (State.bundleDelete s digest).2.lex = s.lex ∧
    (State.bundleDelete s digest).2.swd = s.swd ∧ (State.bundleDelete s digest).2.swm = s.swm ∧
    (State.bundleDelete s digest).2.frz = s.frz ∧ (State.bundleDelete s digest).2.ccd = s.ccd ∧
    (State.bundleDelete s digest).2.htl = s.htl ∧ (State.bundleDelete s digest).2.rings = s.rings ∧
    (State.bundleDelete s digest).2.latches = s.latches ∧ (State.bundleDelete s digest).2.closed = s.closed ∧
    (State.bundleDelete s digest).2.closureReported = s.closureReported ∧ (State.bundleDelete s digest).2.ddr = s.ddr ∧
    (State.bundleDelete s digest).2.busRead = s.busRead := by
  simp [State.bundleDelete]
@[simp] theorem only_keeps (r : Nat) (s : State) :
    (only r s).2.now = s.now ∧ (only r s).2.pending = s.pending ∧ (only r s).2.free = s.free ∧ (only r s).2.nv = s.nv ∧
    (only r s).2.core = s.core ∧ (only r s).2.pin = s.pin ∧ (only r s).2.aon = s.aon ∧ (only r s).2.flt = s.flt ∧
    (only r s).2.brw = s.brw ∧ (only r s).2.cfg = s.cfg ∧ (only r s).2.ids = s.ids ∧ (only r s).2.mbx = s.mbx ∧
    (only r s).2.pool = s.pool ∧ (only r s).2.laneA = s.laneA ∧ (only r s).2.laneB = s.laneB ∧ (only r s).2.laneC = s.laneC ∧
    (only r s).2.vot = s.vot ∧ (only r s).2.fes = s.fes ∧ (only r s).2.plan = s.plan ∧ (only r s).2.emit = s.emit ∧
    (only r s).2.lex = s.lex ∧ (only r s).2.swd = s.swd ∧ (only r s).2.swm = s.swm ∧ (only r s).2.frz = s.frz ∧
    (only r s).2.ccd = s.ccd ∧ (only r s).2.htl = s.htl ∧ (only r s).2.rings = s.rings ∧ (only r s).2.latches = s.latches ∧
    (only r s).2.closed = s.closed ∧ (only r s).2.closureReported = s.closureReported ∧ (only r s).2.ddr = s.ddr ∧
    (only r s).2.busRead = s.busRead := by
  simp [only]
@[simp] theorem State.readObject_keeps (s : State) (x : List Byte) :
    (State.readObject s x).2.now = s.now ∧ (State.readObject s x).2.pending = s.pending ∧
    (State.readObject s x).2.free = s.free ∧ (State.readObject s x).2.nv = s.nv ∧ (State.readObject s x).2.core = s.core ∧
    (State.readObject s x).2.pin = s.pin ∧ (State.readObject s x).2.aon = s.aon ∧ (State.readObject s x).2.flt = s.flt ∧
    (State.readObject s x).2.brw = s.brw ∧ (State.readObject s x).2.cfg = s.cfg ∧ (State.readObject s x).2.ids = s.ids ∧
    (State.readObject s x).2.mbx = s.mbx ∧ (State.readObject s x).2.pool = s.pool ∧
    (State.readObject s x).2.laneA = s.laneA ∧ (State.readObject s x).2.laneB = s.laneB ∧
    (State.readObject s x).2.laneC = s.laneC ∧ (State.readObject s x).2.vot = s.vot ∧ (State.readObject s x).2.fes = s.fes ∧
    (State.readObject s x).2.plan = s.plan ∧ (State.readObject s x).2.emit = s.emit ∧ (State.readObject s x).2.lex = s.lex ∧
    (State.readObject s x).2.swd = s.swd ∧ (State.readObject s x).2.swm = s.swm ∧ (State.readObject s x).2.frz = s.frz ∧
    (State.readObject s x).2.ccd = s.ccd ∧ (State.readObject s x).2.rings = s.rings ∧
    (State.readObject s x).2.latches = s.latches ∧ (State.readObject s x).2.closed = s.closed ∧
    (State.readObject s x).2.closureReported = s.closureReported ∧ (State.readObject s x).2.ddr = s.ddr ∧
    (State.readObject s x).2.busRead = s.busRead := by
  simp only [State.readObject]
  (repeat' split) <;> simp_all
@[simp] theorem State.setHold_keeps (s : State) (want : Bool) (epoch : Nat) :
    (State.setHold s want epoch).2.now = s.now ∧ (State.setHold s want epoch).2.pending = s.pending ∧
    (State.setHold s want epoch).2.free = s.free ∧ (State.setHold s want epoch).2.nv = s.nv ∧
    (State.setHold s want epoch).2.core = s.core ∧ (State.setHold s want epoch).2.pin = s.pin ∧
    (State.setHold s want epoch).2.aon = s.aon ∧ (State.setHold s want epoch).2.flt = s.flt ∧
    (State.setHold s want epoch).2.brw = s.brw ∧ (State.setHold s want epoch).2.cfg = s.cfg ∧
    (State.setHold s want epoch).2.ids = s.ids ∧ (State.setHold s want epoch).2.pool = s.pool ∧
    (State.setHold s want epoch).2.laneA = s.laneA ∧ (State.setHold s want epoch).2.laneB = s.laneB ∧
    (State.setHold s want epoch).2.laneC = s.laneC ∧ (State.setHold s want epoch).2.fes = s.fes ∧
    (State.setHold s want epoch).2.plan = s.plan ∧ (State.setHold s want epoch).2.emit = s.emit ∧
    (State.setHold s want epoch).2.lex = s.lex ∧ (State.setHold s want epoch).2.swd = s.swd ∧
    (State.setHold s want epoch).2.swm = s.swm ∧ (State.setHold s want epoch).2.frz = s.frz ∧
    (State.setHold s want epoch).2.ccd = s.ccd ∧ (State.setHold s want epoch).2.htl = s.htl ∧
    (State.setHold s want epoch).2.rings = s.rings ∧ (State.setHold s want epoch).2.latches = s.latches ∧
    (State.setHold s want epoch).2.closed = s.closed ∧ (State.setHold s want epoch).2.closureReported = s.closureReported ∧
    (State.setHold s want epoch).2.ddr = s.ddr ∧ (State.setHold s want epoch).2.busRead = s.busRead := by
  simp [State.setHold]
@[simp] theorem State.releaseLane_keeps (s : State) (x : Lane) :
    (State.releaseLane s x).now = s.now ∧ (State.releaseLane s x).pending = s.pending ∧
    (State.releaseLane s x).free = s.free ∧ (State.releaseLane s x).nv = s.nv ∧ (State.releaseLane s x).pin = s.pin ∧
    (State.releaseLane s x).aon = s.aon ∧ (State.releaseLane s x).cfg = s.cfg ∧ (State.releaseLane s x).ids = s.ids ∧
    (State.releaseLane s x).mbx = s.mbx ∧ (State.releaseLane s x).plan = s.plan ∧ (State.releaseLane s x).emit = s.emit ∧
    (State.releaseLane s x).lex = s.lex ∧ (State.releaseLane s x).swd = s.swd ∧ (State.releaseLane s x).swm = s.swm ∧
    (State.releaseLane s x).frz = s.frz ∧ (State.releaseLane s x).ccd = s.ccd ∧ (State.releaseLane s x).rings = s.rings ∧
    (State.releaseLane s x).latches = s.latches ∧ (State.releaseLane s x).closed = s.closed ∧
    (State.releaseLane s x).closureReported = s.closureReported ∧ (State.releaseLane s x).ddr = s.ddr ∧
    (State.releaseLane s x).busRead = s.busRead := by
  simp [State.releaseLane]
@[simp] theorem State.setWall_keeps (s : State) (wall : Nat) :
    (State.setWall s wall).now = s.now ∧ (State.setWall s wall).pending = s.pending ∧ (State.setWall s wall).free = s.free ∧
    (State.setWall s wall).nv = s.nv ∧ (State.setWall s wall).core = s.core ∧ (State.setWall s wall).pin = s.pin ∧
    (State.setWall s wall).aon = s.aon ∧ (State.setWall s wall).cfg = s.cfg ∧ (State.setWall s wall).ids = s.ids ∧
    (State.setWall s wall).mbx = s.mbx ∧ (State.setWall s wall).pool = s.pool ∧ (State.setWall s wall).laneA = s.laneA ∧
    (State.setWall s wall).laneB = s.laneB ∧ (State.setWall s wall).laneC = s.laneC ∧ (State.setWall s wall).vot = s.vot ∧
    (State.setWall s wall).fes = s.fes ∧ (State.setWall s wall).plan = s.plan ∧ (State.setWall s wall).emit = s.emit ∧
    (State.setWall s wall).lex = s.lex ∧ (State.setWall s wall).swd = s.swd ∧ (State.setWall s wall).swm = s.swm ∧
    (State.setWall s wall).frz = s.frz ∧ (State.setWall s wall).ccd = s.ccd ∧ (State.setWall s wall).rings = s.rings ∧
    (State.setWall s wall).latches = s.latches ∧ (State.setWall s wall).closed = s.closed ∧
    (State.setWall s wall).closureReported = s.closureReported ∧ (State.setWall s wall).ddr = s.ddr ∧
    (State.setWall s wall).busRead = s.busRead := by
  simp [State.setWall]
@[simp] theorem State.turnAway_keeps (s : State) (h : CmdHdr) (code result : Nat) :
    (State.turnAway s h code result).now = s.now ∧ (State.turnAway s h code result).pending = s.pending ∧
    (State.turnAway s h code result).free = s.free ∧ (State.turnAway s h code result).nv = s.nv ∧
    (State.turnAway s h code result).core = s.core ∧ (State.turnAway s h code result).pin = s.pin ∧
    (State.turnAway s h code result).aon = s.aon ∧ (State.turnAway s h code result).flt = s.flt ∧
    (State.turnAway s h code result).brw = s.brw ∧ (State.turnAway s h code result).cfg = s.cfg ∧
    (State.turnAway s h code result).ids = s.ids ∧ (State.turnAway s h code result).pool = s.pool ∧
    (State.turnAway s h code result).laneA = s.laneA ∧ (State.turnAway s h code result).laneB = s.laneB ∧
    (State.turnAway s h code result).laneC = s.laneC ∧ (State.turnAway s h code result).vot = s.vot ∧
    (State.turnAway s h code result).fes = s.fes ∧ (State.turnAway s h code result).plan = s.plan ∧
    (State.turnAway s h code result).emit = s.emit ∧ (State.turnAway s h code result).lex = s.lex ∧
    (State.turnAway s h code result).swd = s.swd ∧ (State.turnAway s h code result).swm = s.swm ∧
    (State.turnAway s h code result).frz = s.frz ∧ (State.turnAway s h code result).ccd = s.ccd ∧
    (State.turnAway s h code result).rings = s.rings ∧ (State.turnAway s h code result).latches = s.latches ∧
    (State.turnAway s h code result).closed = s.closed ∧
    (State.turnAway s h code result).closureReported = s.closureReported ∧ (State.turnAway s h code result).ddr = s.ddr ∧
    (State.turnAway s h code result).busRead = s.busRead := by
  simp [State.turnAway]
@[simp] theorem State.pairBlock_keeps (s : State) (k : Nat) :
    (State.pairBlock s k).now = s.now ∧ (State.pairBlock s k).pending = s.pending ∧ (State.pairBlock s k).free = s.free ∧
    (State.pairBlock s k).nv = s.nv ∧ (State.pairBlock s k).core = s.core ∧ (State.pairBlock s k).pin = s.pin ∧
    (State.pairBlock s k).aon = s.aon ∧ (State.pairBlock s k).brw = s.brw ∧ (State.pairBlock s k).cfg = s.cfg ∧
    (State.pairBlock s k).ids = s.ids ∧ (State.pairBlock s k).mbx = s.mbx ∧ (State.pairBlock s k).laneA = s.laneA ∧
    (State.pairBlock s k).laneB = s.laneB ∧ (State.pairBlock s k).laneC = s.laneC ∧ (State.pairBlock s k).fes = s.fes ∧
    (State.pairBlock s k).plan = s.plan ∧ (State.pairBlock s k).emit = s.emit ∧ (State.pairBlock s k).lex = s.lex ∧
    (State.pairBlock s k).swd = s.swd ∧ (State.pairBlock s k).swm = s.swm ∧ (State.pairBlock s k).frz = s.frz ∧
    (State.pairBlock s k).ccd = s.ccd ∧ (State.pairBlock s k).htl = s.htl ∧ (State.pairBlock s k).rings = s.rings ∧
    (State.pairBlock s k).latches = s.latches ∧ (State.pairBlock s k).closed = s.closed ∧
    (State.pairBlock s k).closureReported = s.closureReported ∧ (State.pairBlock s k).ddr = s.ddr ∧
    (State.pairBlock s k).busRead = s.busRead := by
  simp [State.pairBlock]
@[simp] theorem State.checkEntry_keeps (s : State) (k : Nat) (done : List Loaded) (as : List Area) :
    (State.checkEntry s k done as).2.2.now = s.now ∧ (State.checkEntry s k done as).2.2.pending = s.pending ∧
    (State.checkEntry s k done as).2.2.free = s.free ∧ (State.checkEntry s k done as).2.2.nv = s.nv ∧
    (State.checkEntry s k done as).2.2.core = s.core ∧ (State.checkEntry s k done as).2.2.pin = s.pin ∧
    (State.checkEntry s k done as).2.2.aon = s.aon ∧ (State.checkEntry s k done as).2.2.cfg = s.cfg ∧
    (State.checkEntry s k done as).2.2.mbx = s.mbx ∧ (State.checkEntry s k done as).2.2.pool = s.pool ∧
    (State.checkEntry s k done as).2.2.laneA = s.laneA ∧ (State.checkEntry s k done as).2.2.laneB = s.laneB ∧
    (State.checkEntry s k done as).2.2.laneC = s.laneC ∧ (State.checkEntry s k done as).2.2.vot = s.vot ∧
    (State.checkEntry s k done as).2.2.fes = s.fes ∧ (State.checkEntry s k done as).2.2.plan = s.plan ∧
    (State.checkEntry s k done as).2.2.emit = s.emit ∧ (State.checkEntry s k done as).2.2.lex = s.lex ∧
    (State.checkEntry s k done as).2.2.swd = s.swd ∧ (State.checkEntry s k done as).2.2.swm = s.swm ∧
    (State.checkEntry s k done as).2.2.frz = s.frz ∧ (State.checkEntry s k done as).2.2.ccd = s.ccd ∧
    (State.checkEntry s k done as).2.2.rings = s.rings ∧ (State.checkEntry s k done as).2.2.latches = s.latches ∧
    (State.checkEntry s k done as).2.2.closed = s.closed ∧
    (State.checkEntry s k done as).2.2.closureReported = s.closureReported ∧ (State.checkEntry s k done as).2.2.ddr = s.ddr ∧
    (State.checkEntry s k done as).2.2.busRead = s.busRead := by
  simp only [State.checkEntry]
  (repeat' split) <;> simp_all
@[simp] theorem State.finding_keeps (s : State) (k : Nat) (bytes : List Byte) :
    (State.finding s k bytes).now = s.now ∧ (State.finding s k bytes).pending = s.pending ∧
    (State.finding s k bytes).free = s.free ∧ (State.finding s k bytes).nv = s.nv ∧ (State.finding s k bytes).core = s.core ∧
    (State.finding s k bytes).pin = s.pin ∧ (State.finding s k bytes).aon = s.aon ∧ (State.finding s k bytes).cfg = s.cfg ∧
    (State.finding s k bytes).ids = s.ids ∧ (State.finding s k bytes).pool = s.pool ∧
    (State.finding s k bytes).laneA = s.laneA ∧ (State.finding s k bytes).laneB = s.laneB ∧
    (State.finding s k bytes).laneC = s.laneC ∧ (State.finding s k bytes).vot = s.vot ∧
    (State.finding s k bytes).fes = s.fes ∧ (State.finding s k bytes).plan = s.plan ∧
    (State.finding s k bytes).emit = s.emit ∧ (State.finding s k bytes).lex = s.lex ∧ (State.finding s k bytes).swd = s.swd ∧
    (State.finding s k bytes).swm = s.swm ∧ (State.finding s k bytes).frz = s.frz ∧ (State.finding s k bytes).ccd = s.ccd ∧
    (State.finding s k bytes).rings = s.rings ∧ (State.finding s k bytes).latches = s.latches ∧
    (State.finding s k bytes).closed = s.closed ∧ (State.finding s k bytes).closureReported = s.closureReported ∧
    (State.finding s k bytes).ddr = s.ddr ∧ (State.finding s k bytes).busRead = s.busRead := by
  simp [State.finding]
end Sys2Proof.Machine
end

