-- ==== Sys2Proof/Laws/Memory.lean ====
section
/-! SUPPORT. The sparse byte memory: every operation keeps the canonical form, what was written is read, every other byte is as
it was, and memories that read alike are the same list. -/
namespace Sys2Proof.Machine

theorem wfFrom_mono {lo lo' : Nat} {m : Mem} (h : Mem.wfFrom lo m = true) (hl : lo' ≤ lo) : Mem.wfFrom lo' m = true := by
  cases m with
  | nil => rfl
  | cons c m =>
    obtain ⟨a, b⟩ := c
    simp only [Mem.wfFrom, Bool.and_eq_true, decide_eq_true_eq] at h ⊢
    exact ⟨⟨le_trans hl h.1.1, h.1.2⟩, h.2⟩

theorem write_wfFrom {lo x : Nat} {m : Mem} (v : Byte) (h : Mem.wfFrom lo m = true) (hx : lo ≤ x) :
    Mem.wfFrom lo (m.write x v) = true := by
  induction m generalizing lo with
  | nil =>
    simp only [Mem.write]
    split <;> simp_all [Mem.wfFrom]
  | cons c m ih =>
    obtain ⟨a, b⟩ := c
    simp only [Mem.wfFrom, Bool.and_eq_true, decide_eq_true_eq] at h
    obtain ⟨⟨h1, h2⟩, h3⟩ := h
    simp only [Mem.write]
    split
    · rename_i hlt
      split
      · simp [Mem.wfFrom, h1, h2, h3]
      · have : decide (x + 1 ≤ a) = true := by simpa using hlt
        simp_all [Mem.wfFrom]
    · split
      · rename_i hlt heq
        subst heq
        split
        · exact wfFrom_mono h3 (by omega)
        · simp_all [Mem.wfFrom]
      · rename_i hlt hne
        have := ih h3 (by omega)
        simp [Mem.wfFrom, h1, h2, this]

/-- A write keeps the canonical form. -/
theorem write_wf (m : Mem) (x : Nat) (v : Byte) (h : m.wf = true) : (m.write x v).wf = true := write_wfFrom v h (Nat.zero_le _)

/-- So does writing a byte string. -/
theorem writeBytes_wf (m : Mem) (x : Nat) (bs : List Byte) (h : m.wf = true) : (m.writeBytes x bs).wf = true := by
  induction bs generalizing m x with
  | nil => exact h
  | cons b bs ih => exact ih _ _ (write_wf m x b h)

theorem writeWord_wf (m : Mem) (x : Nat) (v : Word) (h : m.wf = true) : (m.writeWord x v).wf = true := writeBytes_wf _ _ _ h

/-- So does placing bytes at offsets. -/
theorem place_wf (m : Mem) (base : Nat) (l : List (Nat × Byte)) (h : m.wf = true) : (m.place base l).wf = true := by
  unfold Mem.place
  induction l generalizing m with
  | nil => exact h
  | cons c l ih => exact ih _ (write_wf m _ _ h)

theorem filter_wfFrom {lo : Nat} {m : Mem} (p : Host.Cell → Bool) (h : Mem.wfFrom lo m = true) :
    Mem.wfFrom lo (m.filter p) = true := by
  induction m generalizing lo with
  | nil => rfl
  | cons c m ih =>
    obtain ⟨a, b⟩ := c
    simp only [Mem.wfFrom, Bool.and_eq_true, decide_eq_true_eq] at h
    obtain ⟨⟨h1, h2⟩, h3⟩ := h
    simp only [List.filter]
    split
    · simp [Mem.wfFrom, h1, h2, ih h3]
    · exact wfFrom_mono (ih h3) (by omega)

/-- So does clearing a range. -/
theorem clear_wf (m : Mem) (base n : Nat) (h : m.wf = true) : (m.clear base n).wf = true := filter_wfFrom _ h

/-- Filling an area keeps the canonical form. -/
theorem fillArea_wf (m0 m : Mem) (old : List Area) (init : List (Nat × Byte)) (a : Area) (h : m.wf = true) :
    (fillArea m0 old init a m).wf = true := by
  unfold fillArea
  split
  · exact h
  · exact place_wf _ _ _ (clear_wf _ _ _ h)

/-! ### Reading -/

@[simp] theorem read_nil (x : Nat) : Mem.read [] x = 0 := rfl

theorem read_below {lo x : Nat} {m : Mem} (h : Mem.wfFrom lo m = true) (hx : x < lo) : m.read x = Mem.blank := by
  induction m generalizing lo with
  | nil => rfl
  | cons c m ih =>
    obtain ⟨a, b⟩ := c
    simp only [Mem.wfFrom, Bool.and_eq_true, decide_eq_true_eq] at h
    have : ¬ a = x := by omega
    simp only [Mem.read, this, if_false]
    exact ih h.2 (by omega)

/-- The byte written is read. -/
theorem read_write_self (m : Mem) (x : Nat) (v : Byte) (h : m.wf = true) : (m.write x v).read x = v := by
  have go : ∀ (m : Mem) (lo : Nat), Mem.wfFrom lo m = true → (m.write x v).read x = v := by
    intro m
    induction m with
    | nil => intro lo _; simp only [Mem.write]; split <;> simp_all [Mem.read, Mem.blank]
    | cons c m ih =>
      intro lo h
      obtain ⟨a, b⟩ := c
      have h' := h
      simp only [Mem.wfFrom, Bool.and_eq_true, decide_eq_true_eq] at h
      simp only [Mem.write]
      split
      · rename_i hlt
        split
        · rename_i hv
          have : ¬ a = x := by omega
          simp only [Mem.read, this, if_false, hv]
          exact read_below h.2 (by omega)
        · simp [Mem.read]
      · split
        · rename_i hlt heq
          subst heq
          split
          · rename_i hv; rw [hv]; exact read_below h.2 (by omega)
          · simp [Mem.read]
        · rename_i hlt hne
          have : ¬ a = x := fun e => hne e.symm
          simp only [Mem.read, this, if_false]
          exact ih _ h.2
  exact go m 0 h

/-- Every other byte is as it was. -/
theorem read_write_other (m : Mem) (x y : Nat) (v : Byte) (h : y ≠ x) : (m.write x v).read y = m.read y := by
  have h' : ¬ x = y := fun e => h e.symm
  induction m with
  | nil => simp only [Mem.write]; split <;> simp_all [Mem.read]
  | cons c m ih =>
    obtain ⟨a, b⟩ := c
    simp only [Mem.write]
    split
    · split <;> simp [Mem.read, h']
    · split
      · rename_i hlt heq
        subst heq
        split <;> simp [Mem.read, h']
      · simp only [Mem.read, ih]

/-- Outside a byte string that was written every byte is as it was. -/
theorem read_writeBytes_out (m : Mem) (x y : Nat) (bs : List Byte) (h : y < x ∨ x + bs.length ≤ y) :
    (m.writeBytes x bs).read y = m.read y := by
  induction bs generalizing m x with
  | nil => rfl
  | cons b bs ih =>
    simp only [List.length_cons] at h
    simp only [Mem.writeBytes]
    rw [ih _ _ (by omega), read_write_other _ _ _ _ (by omega)]

/-- Byte `i` of a byte string that was written is read at its address. -/
theorem read_writeBytes_in (m : Mem) (x : Nat) (bs : List Byte) (i : Nat) (h : m.wf = true) (hi : i < bs.length) :
    (m.writeBytes x bs).read (x + i) = bs[i] := by
  induction bs generalizing m x i with
  | nil => exact absurd hi (Nat.not_lt_zero _)
  | cons b bs ih =>
    simp only [Mem.writeBytes]
    cases i with
    | zero => rw [read_writeBytes_out _ _ _ _ (by omega)]; simpa using read_write_self m x b h
    | succ i =>
      have := ih (m.write x b) (x + 1) i (write_wf m x b h) (by simpa using hi)
      rw [show x + (i + 1) = x + 1 + i by omega]
      simpa using this

theorem readBytes_length (m : Mem) (x n : Nat) : (m.readBytes x n).length = n := by
  induction n generalizing x with
  | zero => rfl
  | succ n ih => simp [Mem.readBytes, ih]

/-- Two memories in canonical form that read alike are the same list. -/
theorem mem_ext (m m' : Mem) (h : m.wf = true) (h' : m'.wf = true) (hr : ∀ x, m.read x = m'.read x) : m = m' := by
  have go : ∀ (m m' : Mem) (lo : Nat), Mem.wfFrom lo m = true → Mem.wfFrom lo m' = true → (∀ x, m.read x = m'.read x) → m = m' := by
    intro m
    induction m with
    | nil =>
      intro m' lo _ h' hr
      cases m' with
      | nil => rfl
      | cons c m' =>
        obtain ⟨a, b⟩ := c
        simp only [Mem.wfFrom, Bool.and_eq_true, bne_iff_ne] at h'
        have := hr a
        simp only [Mem.read, if_true] at this
        exact absurd this.symm h'.1.2
    | cons c m ih =>
      intro m' lo h h' hr
      obtain ⟨a, b⟩ := c
      cases m' with
      | nil =>
        simp only [Mem.wfFrom, Bool.and_eq_true, bne_iff_ne] at h
        have := hr a
        simp only [Mem.read, if_true] at this
        exact absurd this h.1.2
      | cons c' m' =>
        obtain ⟨a', b'⟩ := c'
        simp only [Mem.wfFrom, Bool.and_eq_true, bne_iff_ne, decide_eq_true_eq] at h h'
        have hra := hr a
        have hra' := hr a'
        simp only [Mem.read, if_true] at hra hra'
        have haa : a = a' := by
          rcases Nat.lt_trichotomy a a' with hlt | heq | hgt
          · rw [if_neg (by omega), read_below h'.2 (by omega)] at hra
            exact absurd hra h.1.2
          · exact heq
          · rw [if_neg (by omega), read_below h.2 (by omega)] at hra'
            exact absurd hra'.symm h'.1.2
        subst haa
        simp only [if_true] at hra
        subst hra
        rw [ih m' (a + 1) h.2 h'.2 ?_]
        intro x
        rcases Nat.lt_or_ge x (a + 1) with hx | hx
        · rw [read_below h.2 hx, read_below h'.2 hx]
        · have := hr x
          simp only [Mem.read] at this
          rwa [if_neg (by omega), if_neg (by omega)] at this
  exact go m m' 0 h h' hr

end Sys2Proof.Machine
end

