-- ==== Sys2Proof/Laws/Sward.lean ====
section
/-! SUPPORT. An instruction of a tussock: what State.instr does when the tussock runs it, and what an access or a descriptor
that meets no error gives. -/
namespace Sys2Proof.Machine

/-- A running tussock executes the instruction: its reports and its flits follow (R312). -/
theorem instr_runs (s : State) (t : Time) (x : TIns) (f : Ctx → Tus → TOut) (h : s.runs x.tus) :
    s.instr t x f = .next (
      let o := f (s.ctx t x) (s.tus x.tus)
      let s1 := o.reports.foldl (fun (s : State) r => s.tusReport x.tus r.1 r.2) (s.became t x.tus o.tus)
      o.sends.foldl (fun (s : State) fl => s.inject fl (x.tus / 32) (x.tus % 32) .local_ x.tus) s1) := by
  obtain ⟨h1, h2, h3⟩ := h
  have e1 : (s.at_ t).tus x.tus = s.tus x.tus := rfl
  have e2 : (s.at_ t).swd = s.swd := rfl
  have e3 : ¬ (640 ≤ x.tus ∨ (!s.swd.powered) = true ∨ (s.tus x.tus).st ≠ .run) := by simp [h2, h3]; omega
  simp only [State.instr, State.insn, e1, e2, e3, if_false]
  rfl

/-- An instruction that only changes its tussock. -/
theorem instr_ok (s : State) (t : Time) (x : TIns) (f : Ctx → Tus → TOut) (k : Tus) (h : s.runs x.tus)
    (hf : f (s.ctx t x) (s.tus x.tus) = TOut.ok k) :
    s.instr t x f = .next (s.became t x.tus k) := by rw [instr_runs s t x f h, hf]; rfl

/-- An access that meets no error and no bank lent away goes on with the tussock as it is (R259, R280). -/
theorem access_plain (x : Ctx) (k : Tus) (rs ws : List (Nat × Nat)) (go : Tus → TOut) (h : plain x.ins k (rs ++ ws))
    (hr : x.row = x.ins.tus / 32) :
    x.access k rs ws go = go k := by
  obtain ⟨h1, h2, h3⟩ := h
  have own : (rs ++ ws).any (rangeCache x.row) = false := by
    rw [List.any_eq_false]
    intro r hr'
    have := h3 r hr'
    simp only [rangeCache, hr, sramBytes]
    rcases this with h | h
    · have : ¬ x.ins.tus / 32 ≤ 15 := by omega
      simp [this]
    · have e : r.1 % 2 ^ 19 = r.1 := Nat.mod_eq_of_lt (by omega)
      have : ¬ (7 * 65536 < r.1 + r.2) := by omega
      have h' : ¬ (2 ^ 19 + 7 * 65536 < r.1 + r.2) := by omega
      have d1 : decide (r.1 + r.2 > 7 * 65536) = false := decide_eq_false this
      have d2 : decide (2 ^ 19 + 7 * 65536 < r.1 + r.2) = false := decide_eq_false h'
      simp only [e, d1, d2, Bool.false_and, Bool.or_self, Bool.and_false, Bool.false_eq_true, not_false_eq_true]
  have hs : sat 65535 k.corrected = k.corrected := by simp [sat]; omega
  have hk : ({ k with corrected := k.corrected } : Tus) = k := rfl
  simp only [Ctx.access, h1, own]
  simp [hs]

/-- So does a descriptor that stands where it may (R266). -/
theorem descriptor_plain (s : State) (t : Time) (x : TIns) (k : Tus) (go : (Nat → Word) → Tus → TOut) 
    (h : plain x k [((s.ctx t x).addr k, 64)]) (hd : (s.ctx t x).descOk k) :
    (s.ctx t x).descriptor k go = go ((s.ctx t x).desc k) k := by
  obtain ⟨h1, h2⟩ := hd
  have : ¬ ((s.ctx t x).addr k % 64 ≠ 0 ∨ sramBytes ≤ (s.ctx t x).addr k) := by simp [sramBytes]; omega
  simp only [Ctx.descriptor, this, if_false]
  rw [access_plain]
  · rfl
  · show plain x k ([((s.ctx t x).addr k, 64)] ++ [])
    simpa using h
  · rfl

/-- Fewer ranges are no less plain. -/
theorem plain_mono {x : TIns} {k : Tus} {a b : List (Nat × Nat)} (h : plain x k a) (hs : ∀ r ∈ b, r ∈ a) : plain x k b :=
  ⟨h.1, h.2.1, fun r hr => h.2.2 r (hs r hr)⟩

end Sys2Proof.Machine
end

