-- ==== Sys2Proof/WellFormed.lean ====
section
/-! DEFINITION. Well-formed commands: operands within the widths and ranges that the specification gives their fields.
The machine runs any command; what an operand out of range does is the command's own meaning. -/
namespace Sys2Proof

/-- SENDER_EPOCH and MSG_SEQ are 32 bits, a relaying member is below 64 (R560). -/
def hdrOk (h : CmdHdr) : Bool := decide (h.epoch < 2 ^ 32) && decide (h.seq < 2 ^ 32) && decide (h.relay < 64)

/-- The fields of a manager message's header (R560). -/
def msgOk (m : MsgHdr) : Bool :=
  decide (m.version < 256) && decide (m.length < 2 ^ 16) && decide (m.epoch < 2 ^ 32) && decide (m.receiver < 2 ^ 32)
    && decide (m.seq < 2 ^ 32)

/-- A COMMAND message: its header, CODE and TARGET, and an operand as long as LEN says (R560). -/
def commandOk (m : CmdMsg) : Bool :=
  msgOk m.hdr && decide (m.code < 256) && (decide (m.target < 64) || m.target == 0xFF) && decide (m.mask < 2 ^ 64)
    && decide (m.operand.length ≤ m.hdr.length)

/-- A mailbox step. -/
def stepOk : CmdStep → Bool
  | .arrive m => commandOk m
  | .execute => true

/-- A COMMAND record (R419). -/
def relayOk : RelayRec → Bool
  | .command m relay => commandOk m && decide (relay < 64)
  | .reply _ code ref result payload =>
    decide (code < 256) && decide (ref < 2 ^ 32) && decide (result < 10) && decide (payload.length ≤ 1024)

/-- An instruction names registers 0 to 31 of one of 640 tussocks (R312). -/
def insOk (x : TIns) : Bool := decide (x.tus < 640) && decide (x.a < 32) && decide (x.b < 32) && decide (x.c < 32)

/-- A clause's fields have the widths of R337. -/
def clauseOk (c : Clause) : Bool :=
  decide (c.subject < 256) && decide (c.addressee < 256) && decide (c.form < 256) && decide (c.verb < 256)
    && decide (c.tref < 2 ^ 32) && decide (c.lead < 256) && decide (c.epoch < 256) && decide (c.seq < 2 ^ 16)
    && c.object.length == 16 && c.tag.length == 4

/-- A burst's slot is the beacon's, C0 to C3 or A0 to A35 (R331), its clauses have their widths. -/
def burstOk (x : BurstIn) : Bool :=
  decide (x.slot < 41) && (match x.res with | .clauses l => l.all clauseOk | _ => true)

/-- A DATA cell's header fields have the widths of R414, and 1 to 224 payload bytes follow. -/
def cellOk (c : Cell) : Bool :=
  decide (c.cls < 8) && decide (c.flags < 64) && decide (c.src < 64) && decide (c.dst < 256) && decide (c.hops < 256)
    && decide (c.seq < 2 ^ 16) && decide (1 ≤ c.payload.length)
    && decide (c.payload.length ≤ 224)

/-- A LINK_STATE record comes from a member and shows four ports (R422). -/
def linkOk (x : LinkRec) : Bool := decide (x.member < 64) && x.ports.length == 4 && x.neighbours.length == 4

/-- A REQUEST comes from a member and names a tag of 24 bits and an index of 4 (R384). -/
def reqOk (x : ReqRec) : Bool := decide (x.member < 64) && decide (x.tag < 2 ^ 24) && decide (x.step < 16)

/-- A DECISION comes from a member and carries OP 1 to 4 (R385). -/
def decOk (x : DecRec) : Bool :=
  decide (x.member < 64) && decide (x.tag < 2 ^ 24) && decide (x.step < 16) && decide (1 ≤ x.op) && decide (x.op ≤ 4)

/-- A record's TYPE is one byte and its RNUM 64 bits (R503). -/
def recordOk (r : NbrRec) : Bool := decide (r.type < 256) && decide (r.rnum < 2 ^ 64) && decide (r.payload.length ≤ 1008)

/-- A command is well formed: every operand lies within its field. -/
def Instr.wellFormed : Instr → Bool
  | .registerWrite _ addr _ _ => decide (addr < 2 ^ 32)
  | .loReadLatch _ addr => decide (addr < 2 ^ 32)
  | .votedMark _ _ => true
  | .fabricModeEvaluation _ => true
  | .stopCleared _ => true
  | .stopWatchEnd _ => true
  | .dacUpdate _ _ => true
  | .busTrip _ _ _ _ => true
  | .tripWait _ => true
  | .blankExpiry _ _ _ => true
  | .onTimeExpiry _ k _ => decide (k < 32)
  | .peakLimitTrip _ k _ => decide (k < 32)
  | .hiccupTimeExpiry _ k => decide (k < 32)
  | .zeroCross _ k => decide (k < 32)
  | .idleCheck _ k _ => decide (k < 32)
  | .boardRemoved _ j => decide (j < 8)
  | .boardRefitted _ j => decide (j < 8)
  | .testAttemptStart _ _ _ => true
  | .testJudgement _ _ => true
  | .spareRecheckJudgement _ _ => true
  | .gateDisagreement _ _ gate => decide (gate < 64)
  | .snapshotJudgement _ _ _ _ => true
  | .laneReady _ _ _ => true
  | .formationWaitExpiry _ => true
  | .stageKill _ _ => true
  | .laneWatchdog _ _ => true
  | .clockWindowEnd _ _ _ => true
  | .clockEdgeTimeout _ _ => true
  | .pllLockLoss _ _ => true
  | .aonXtalFail _ _ => true
  | .ringTimeUpdate _ _ => true
  | .ringHoldoverEntry _ => true
  | .ringHoldoverEnd _ => true
  | .channelReopen _ _ => true
  | .auxInputFault _ _ _ => true
  | .auxInputReconnect _ _ => true
  | .powerOnRelease _ => true
  | .powerFail _ _ => true
  | .finalFlushStagingClose _ => true
  | .finalFlushEnd _ _ => true
  | .railRecovery _ => true
  | .holdupFault _ _ => true
  | .setpointStep _ _ => true
  | .pmbusPoll _ => true
  | .pmbAlert _ => true
  | .busTransactionEnd _ _ _ => true
  | .stringPoll _ _ _ => true
  | .prechargeTimeout _ j => decide (j < 16)
  | .gridLoss _ => true
  | .gridReturn _ => true
  | .gridRestored _ => true
  | .segmentLoss _ member => decide (member < 64)
  | .segmentLossClear _ => true
  | .superframeBoundary _ _ => true
  | .planningTick _ => true
  | .planRelease _ => true
  | .swardWatchdog _ => true
  | .phase _ => true
  | .pairIdleEnd _ job group => decide (job < 2 ^ 24) && decide (group < 2 ^ 16)
  | .observe _ _ col => decide (col < 32)
  | .lookup _ => true
  | .best _ => true
  | .pin _ => true
  | .unpin _ => true
  | .read _ off => decide (off < 1024)
  | .lemmaRequest _ _ col => decide (col < 32)
  | .priorsLoad _ => true
  | .lexiconScanEnd _ => true
  | .historyBlockWrite _ _ _ => true
  | .decimatedBlockWrite _ _ _ => true
  | .scalarAdd _ x => insOk x
  | .scalarSub _ x => insOk x
  | .scalarMul _ x => insOk x
  | .scalarAnd _ x => insOk x
  | .scalarOr _ x => insOk x
  | .scalarXor _ x => insOk x
  | .scalarShl _ x => insOk x
  | .scalarShr _ x => insOk x
  | .scalarSar _ x => insOk x
  | .scalarSlt _ x => insOk x
  | .scalarLoad _ x => insOk x
  | .scalarStore _ x => insOk x
  | .cycleLo _ x => insOk x
  | .cycleHi _ x => insOk x
  | .nop _ x => insOk x
  | .jump _ x => insOk x
  | .bnz _ x => insOk x
  | .bz _ x => insOk x
  | .wait _ x => insOk x
  | .take _ x => insOk x
  | .fence _ x => insOk x
  | .step _ x => insOk x
  | .halt _ x => insOk x
  | .mma _ x => insOk x
  | .drain _ x => insOk x
  | .vectorAdd _ x => insOk x
  | .vectorSub _ x => insOk x
  | .vectorMul _ x => insOk x
  | .vectorFma _ x => insOk x
  | .vectorDiv _ x => insOk x
  | .vectorSqrt _ x => insOk x
  | .vectorMax _ x => insOk x
  | .vectorMin _ x => insOk x
  | .cvt _ x => insOk x
  | .recip _ x => insOk x
  | .rsqrt _ x => insOk x
  | .exp2 _ x => insOk x
  | .exp _ x => insOk x
  | .log2 _ x => insOk x
  | .tanh _ x => insOk x
  | .sigmoid _ x => insOk x
  | .sin _ x => insOk x
  | .cos _ x => insOk x
  | .vectorShl _ x => insOk x
  | .vectorShr _ x => insOk x
  | .vectorSar _ x => insOk x
  | .send _ x => insOk x
  | .sendAddI32 _ x => insOk x
  | .sendAddF32 _ x => insOk x
  | .streamRead _ x => insOk x
  | .streamSwap _ x => insOk x
  | .addI32 _ x => insOk x
  | .addF32 _ x => insOk x
  | .swap _ x => insOk x
  | .flitRoute _ r col _ _ => decide (r < 20) && decide (col < 32)
  | .flitArrival _ r col _ _ _ _ => decide (r < 20) && decide (col < 32)
  | .portSRetry _ tus bank _ => decide (tus < 640) && decide (bank < 8)
  | .dvfsGrant _ tus => decide (tus < 640)
  | .dvfsSupplyArrival _ tus => decide (tus < 640)
  | .dvfsClockRestart _ tus => decide (tus < 640)
  | .governorMeasure _ power => decide (0 ≤ power)
  | .tussockClockFail _ tus _ => decide (tus < 640)
  | .seedWrite _ tus _ _ => decide (tus < 640)
  | .ceilWrite _ _ => true
  | .programLoad _ => true
  | .go _ => true
  | .emit _ _ col => decide (col < 32)
  | .summaryOut _ _ col => decide (col < 32)
  | .report _ _ col => decide (col < 32)
  | .row _ _ col dst channel => decide (col < 32) && decide (dst < 256) && decide (channel < 256)
  | .dmaDescriptor _ _ col entry => decide (col < 32) && decide (entry < 8)
  | .dmaComplete _ entry => decide (entry < 8)
  | .furzeSuperframe _ => true
  | .election _ _ => true
  | .speakerState _ _ => true
  | .burstReceived _ x => burstOk x
  | .clauseRelay _ sf slot c => decide (sf < 2 ^ 32) && decide (slot < 41) && clauseOk c
  | .stepClause _ => true
  | .vftable _ => true
  | .throttle _ => true
  | .ack _ => true
  | .join _ => true
  | .keyx _ => true
  | .startReq _ => true
  | .leave _ => true
  | .hello _ => true
  | .enrolTimeout _ id => decide (id < 256)
  | .silentLapse _ id => decide (id < 256)
  | .idHoldExpiry _ id => decide (id < 256)
  | .rekeyTimeout _ id => decide (id < 256)
  | .epochGraceExpiry _ id => decide (id < 256)
  | .strangerExpiry _ => true
  | .request _ x => reqOk x
  | .decision _ x => decOk x
  | .governorRelease _ => true
  | .matchRelease _ id => decide (id < 256)
  | .cellArrival _ _ c _ => cellOk c
  | .linkCell _ _ _ => true
  | .timeCell _ _ _ => true
  | .timeCellSend _ _ => true
  | .parentTimeout _ => true
  | .faultCell _ _ => true
  | .portPresenceLost _ _ => true
  | .portPresenceFitted _ _ => true
  | .trainingLock _ _ => true
  | .linkStall _ _ => true
  | .linkDown _ _ => true
  | .linkSymbolsReturn _ _ => true
  | .rejoinHoldExpiry _ _ => true
  | .refusedRetry _ _ => true
  | .linkState _ x => linkOk x
  | .headChange _ => true
  | .mirrorSend _ _ => true
  | .mirror _ _ _ => true
  | .subscriptionRequest _ _ => true
  | .bertStart _ _ => true
  | .bertPeriodic _ => true
  | .bertEnd _ _ _ _ => true
  | .hopRekey _ _ => true
  | .imageSelection _ => true
  | .write _ => true
  | .applyWarm _ => true
  | .applyFull _ => true
  | .erase _ => true
  | .resetPin _ _ => true
  | .flushWindowEnd _ _ => true
  | .domainRelease _ _ => true
  | .idsolReady _ _ => true
  | .idsolTimeout _ => true
  | .bringupEnd _ => true
  | .mgmtWdog _ => true
  | .mwdogKick _ _ => true
  | .faultMessage _ _ => true
  | .faultBinBoundary _ source => decide (source < 2 ^ 12)
  | .faultQueueRead _ => true
  | .trapAck _ _ => true
  | .faultClear _ _ => true
  | .barrowRestoration _ _ => true
  | .l4Replay _ _ => true
  | .anchorQueryTimeout _ => true
  | .anchorReply _ _ optime pcc => decide (optime < 2 ^ 48) && decide (pcc < 2 ^ 32)
  | .anchorQuery _ _ member => decide (member < 64)
  | .record _ _ member r => decide (member < 64) && recordOk r
  | .journalCommit _ => true
  | .commitComplete _ _ => true
  | .commitRetry _ => true
  | .checkpoint _ => true
  | .captureComplete _ _ => true
  | .load _ _ => true
  | .next _ _ => true
  | .oldest _ _ => true
  | .newest _ _ => true
  | .recordStageGo _ _ => true
  | .trustStoreLoad _ _ => true
  | .trustCommand _ _ _ => true
  | .firmwareVerify _ => true
  | .measurementExtend _ bytes => bytes.length == 48
  | .barrowSeal _ => true
  | .telemetrySeal _ => true
  | .tamperDetect _ d => decide (d < 5)
  | .kbcRotation _ => true
  | .kbcSwitch _ => true
  | .sensorSample _ _ => true
  | .flowUpdate _ _ => true
  | .swardShed _ => true
  | .coolantRestore _ => true
  | .swardThermalEvaluation _ => true
  | .shelfThermalEvaluation _ _ _ => true
  | .firmwareSlotSelect _ => true
  | .firmwareRunning _ _ => true
  | .firmwareConfirm _ => true
  | .firmwarePolicyLoad _ => true
  | .epochSet _ => true
  | .heartbeat _ m => msgOk m
  | .commandRecord _ x => relayOk x
  | .commandExecution _ x => stepOk x
  | .readRegisters _ h addr count => hdrOk h && decide (addr < 2 ^ 32) && decide (count < 256)
  | .readObject _ h _ => hdrOk h
  | .hold _ h => hdrOk h
  | .releaseHold _ h => hdrOk h
  | .stopRelease _ h => hdrOk h
  | .laneRelease _ h lane => hdrOk h && decide (lane < 256)
  | .reset _ h level => hdrOk h && decide (level < 256)
  | .rackCap _ h kw window mask capId => hdrOk h && decide (kw < 2 ^ 16) && decide (window < 2 ^ 16) && decide (mask < 2 ^ 64) && decide (capId < 2 ^ 32)
  | .clearFault _ h _ source => hdrOk h && decide (source < 2 ^ 12)
  | .setTime _ h wall => hdrOk h && decide (wall < 2 ^ 64)
  | .expel _ h partner => hdrOk h && decide (partner < 256)
  | .bertInstall _ h => hdrOk h
  | .barrowClear _ h targets _ => hdrOk h && decide (targets < 256)
  | .trust _ h _ _ => hdrOk h
  | .cfgOp _ h op => hdrOk h && decide (op < 256)
  | .fwActivate _ h => hdrOk h
  | .bundleDelete _ h _ => hdrOk h
  | .xferBegin _ h kind length _ => hdrOk h && decide (kind < 256) && decide (length < 2 ^ 64)
  | .xferChunk _ h num offset _ => hdrOk h && decide (num < 2 ^ 32) && decide (offset < 2 ^ 64)
  | .xferEnd _ h num => hdrOk h && decide (num < 2 ^ 32)
  | .alone _ => true
  | .telemetryStatus _ => true
  | .badRegisterRead _ addr _ => decide (addr < 2 ^ 32)
  | .holdupRecharged _ _ => true
  | .cfgOperationComplete _ _ => true
  | .tamperLoopRestored _ d => decide (d < 5)
  | .resetPulseEnd _ _ => true
  | .tussockPllLock _ tus _ => decide (tus < 640)
  | .samplesDelivery _ _ => true
  | .undecodableInstruction _ tus => decide (tus < 640)
  | .dtlsHandshake _ _ _ key => key.length == 48
  | .lexOperationComplete _ => true
  | .barrowCommandComplete _ _ => true

end Sys2Proof
end

