-- ==== Sys2Proof/Tests/Slice0.lean ====
section
/-! SUPPORT. The model's own tests: ill-formed terms that WellFormed refuses, worked examples of the specification, and for each
statement with hypotheses a concrete state and operands that meet them, clause by clause. -/

namespace Sys2Proof.Tests
open Sys2Proof Sys2Proof.Machine

/-! ### Helpers -/

/-- Every domain out of reset, bring-up over, the epoch set and kept by manager A, firmware running, the sward powered, every
channel open. -/
def up : State :=
  { State.reset with
    core := { Core.reset with bringup := false, doms := List.replicate 10 ⟨false, 0, 0⟩
                              srcs := List.replicate 15 ⟨false, 0, none, 0, []⟩ }
    mbx := { Mbx.reset with ready := true, fwRunning := true, epoch := 0x50001
                            mgrA := { MgrState.reset with known := true, epoch := 7, session := true } }
    swd := { Swd.reset with powered := true }
    closed := [] }

/-- A signed command of manager A. -/
def hdr : CmdHdr := ⟨.a, 7, 1, false, 0, true⟩

/-- A state that differs from `up` in neither the fabric's reset nor the epochs may take a command of manager A. -/
theorem may_of (s : State) (b : Bool) (h1 : s.inRst .fabric = false) (h2 : s.mbx.ready = true)
    (h3 : s.mbx.mgrA = up.mbx.mgrA) : s.mayCommand hdr b :=
  ⟨h1, h2, (by show s.mbx.mgrA.known = true; rw [h3]; rfl), (by show s.mbx.mgrA.epoch = 7; rw [h3]; rfl),
    (fun n hn => by
      have h : s.mbx.mgrA.lastSeq = some n := hn
      rw [h3] at h; exact nomatch h), fun _ => rfl⟩

/-- The same for a command that carries no signature and needs none. -/
theorem may_unsigned (s : State) (h1 : s.inRst .fabric = false) (h2 : s.mbx.ready = true)
    (h3 : s.mbx.mgrA = up.mbx.mgrA) : s.mayCommand { hdr with signed := false } false :=
  ⟨h1, h2, (may_of s false h1 h2 h3).2.2.1, (may_of s false h1 h2 h3).2.2.2.1, (may_of s false h1 h2 h3).2.2.2.2.1,
    fun h => by simp at h⟩

/-- An image that a full start has put in force. -/
def started : State := { up with cfg := { Cfg.reset with
  force := some Image.blank, lane := some Image.blank, prog := some Image.blank, row := some Image.blank } }

/-- A lane that votes. -/
def votes : LaneSt := { LaneSt.reset with vote := .voting, ready := true }

/-- With three voting lanes and a vote formed. -/
def formed : State := { started with
  laneA := votes, laneB := votes, laneC := votes, vot := { Vot.reset with formed := true, killLatch := false, killLine := false }
  pin := { Pins.initial with stageKill := false } }

/-- In a mode. -/
def inMode (s : State) (m : Mode) : State := { s with aon := { s.aon with mode := m } }

/-! ### WellFormed -/

/-- A manager message's header with every field in range. -/
def mh : MsgHdr := ⟨.a, true, 1, 0, 7, 0x50001, 1⟩
/-- A COMMAND message with every field in range. -/
def cm : CmdMsg := ⟨mh, 0x10, 0, 0, true, [], [], [], []⟩
/-- An instruction with every field in range. -/
def ti : TIns := ⟨0, 1, 2, 3, false, 0, []⟩
/-- A clause with every field in range. -/
def cl : Clause := ⟨5, 0, 0, 0x01, 0, 0, 0, 1, List.replicate 16 0, List.replicate 4 0⟩
/-- A cell with every field in range. -/
def ce : Cell := ⟨1, 0, 1, 2, 1, 0, 1, 0, 0, 0, [0]⟩
/-- A LINK_STATE record with every field in range. -/
def lr : LinkRec := ⟨1, true, false, false, false, true, 0, [0, 0, 0, 0], [0, 0, 0, 0], 0, 1⟩
/-- A REQUEST with every field in range. -/
def rq : ReqRec := ⟨1, false, true, false, false, 0, 1, 1, 0, 0, 0, 0, 0, 0⟩
/-- A DECISION with every field in range. -/
def dq : DecRec := ⟨1, 1, 0, 1, 1, 0, 0, 0, 0, 0⟩
/-- A neighbour's record with every field in range. -/
def nr : NbrRec := ⟨0, 0x16, 0, 0, 0, 0, none, none, []⟩

/-- One well-formed command for each check. -/
theorem test_well_formed : ([
    .registerWrite 0 0xFFFFFFFF 32 0, .loReadLatch 0 4, .onTimeExpiry 0 31 ⟨0, 0, 0, 0⟩, .boardRemoved 0 7,
    .gateDisagreement 0 .a 63, .prechargeTimeout 0 15, .segmentLoss 0 63, .pairIdleEnd 0 0xFFFFFF 0xFFFF, .observe 0 true 31,
    .read 0 1023, .scalarAdd 0 ti, .flitRoute 0 19 31 .up false, .portSRetry 0 639 7 [], .governorMeasure 0 0,
    .row 0 true 31 255 255, .dmaDescriptor 0 true 31 7, .burstReceived 0 ⟨40, 0, 0, .clauses [cl]⟩, .clauseRelay 0 0 40 cl,
    .enrolTimeout 0 255, .request 0 rq, .decision 0 dq, .cellArrival 0 .e ce .ok, .linkState 0 lr, .faultBinBoundary 0 0xFFF,
    .anchorReply 0 .e 0 0, .anchorQuery 0 .e 63, .record 0 .e 63 nr, .measurementExtend 0 (List.replicate 48 0), .tamperDetect 0 4,
    .heartbeat 0 mh, .commandRecord 0 (.command cm 63), .commandExecution 0 (.arrive cm), .commandExecution 0 .execute,
    .hold 0 hdr, .readRegisters 0 hdr 0 255, .rackCap 0 hdr 65535 65535 0 0, .xferBegin 0 hdr 3 0 [] ] : List Instr).all
      Instr.wellFormed = true := by decide

/-- An ill-formed term for each check, which the check refuses. -/
theorem test_ill_formed : ([
    .registerWrite 0 (2 ^ 32) 32 0, .loReadLatch 0 (2 ^ 32), .onTimeExpiry 0 32 ⟨0, 0, 0, 0⟩, .peakLimitTrip 0 32 ⟨0, 0, 0, 0⟩,
    .hiccupTimeExpiry 0 32, .zeroCross 0 32, .idleCheck 0 32 0, .boardRemoved 0 8, .boardRefitted 0 8, .gateDisagreement 0 .a 64,
    .prechargeTimeout 0 16, .segmentLoss 0 64, .pairIdleEnd 0 (2 ^ 24) 0, .pairIdleEnd 0 0 (2 ^ 16), .observe 0 true 32,
    .read 0 1024, .lemmaRequest 0 true 32, .scalarAdd 0 { ti with tus := 640 }, .scalarAdd 0 { ti with a := 32 },
    .scalarAdd 0 { ti with b := 32 }, .scalarAdd 0 { ti with c := 32 }, .flitRoute 0 20 0 .up false, .flitRoute 0 0 32 .up false,
    .flitArrival 0 20 0 .up false [] [], .portSRetry 0 640 0 [], .portSRetry 0 0 8 [], .dvfsGrant 0 640, .dvfsSupplyArrival 0 640,
    .dvfsClockRestart 0 640, .governorMeasure 0 (-1), .tussockClockFail 0 640 0, .seedWrite 0 640 false 0, .emit 0 true 32,
    .summaryOut 0 true 32, .report 0 true 32, .row 0 true 0 256 0, .row 0 true 0 0 256, .dmaDescriptor 0 true 0 8,
    .dmaComplete 0 8 ] : List Instr).all (fun i => !i.wellFormed) = true := by decide

set_option maxRecDepth 2000 in
/-- More of them: what the row brings. -/
theorem test_ill_formed_row : ([
    .burstReceived 0 ⟨41, 0, 0, .truncated⟩, .burstReceived 0 ⟨1, 0, 0, .clauses [{ cl with subject := 256 }]⟩,
    .clauseRelay 0 (2 ^ 32) 0 cl, .clauseRelay 0 0 41 cl, .clauseRelay 0 0 0 { cl with addressee := 256 },
    .clauseRelay 0 0 0 { cl with form := 256 }, .clauseRelay 0 0 0 { cl with verb := 256 },
    .clauseRelay 0 0 0 { cl with tref := 2 ^ 32 }, .clauseRelay 0 0 0 { cl with lead := 256 },
    .clauseRelay 0 0 0 { cl with epoch := 256 }, .clauseRelay 0 0 0 { cl with seq := 2 ^ 16 },
    .clauseRelay 0 0 0 { cl with object := [] }, .clauseRelay 0 0 0 { cl with tag := [] }, .enrolTimeout 0 256,
    .silentLapse 0 256, .idHoldExpiry 0 256, .rekeyTimeout 0 256, .epochGraceExpiry 0 256, .matchRelease 0 256,
    .request 0 { rq with member := 64 }, .request 0 { rq with tag := 2 ^ 24 }, .request 0 { rq with step := 16 },
    .decision 0 { dq with member := 64 }, .decision 0 { dq with tag := 2 ^ 24 }, .decision 0 { dq with step := 16 },
    .decision 0 { dq with op := 0 }, .decision 0 { dq with op := 5 }, .cellArrival 0 .e { ce with cls := 8 } .ok,
    .cellArrival 0 .e { ce with flags := 64 } .ok, .cellArrival 0 .e { ce with src := 64 } .ok,
    .cellArrival 0 .e { ce with dst := 256 } .ok, .cellArrival 0 .e { ce with hops := 256 } .ok,
    .cellArrival 0 .e { ce with seq := 2 ^ 16 } .ok, .cellArrival 0 .e { ce with payload := [] } .ok,
    .cellArrival 0 .e { ce with payload := List.replicate 225 0 } .ok, .linkState 0 { lr with member := 64 },
    .linkState 0 { lr with ports := [] }, .linkState 0 { lr with neighbours := [] } ] : List Instr).all
      (fun i => !i.wellFormed) = true := by decide

/-- And what managers and neighbours send. -/
theorem test_ill_formed_messages : ([
    .faultBinBoundary 0 0x1000, .anchorReply 0 .e (2 ^ 48) 0, .anchorReply 0 .e 0 (2 ^ 32), .anchorQuery 0 .e 64,
    .record 0 .e 64 nr, .record 0 .e 0 { nr with type := 256 }, .record 0 .e 0 { nr with rnum := 2 ^ 64 },
    .measurementExtend 0 [], .tamperDetect 0 5, .tamperLoopRestored 0 5, .badRegisterRead 0 (2 ^ 32) 32,
    .tussockPllLock 0 640 true, .undecodableInstruction 0 640, .dtlsHandshake 0 .a true [], .heartbeat 0 { mh with version := 256 }, .heartbeat 0 { mh with length := 2 ^ 16 },
    .heartbeat 0 { mh with epoch := 2 ^ 32 }, .heartbeat 0 { mh with receiver := 2 ^ 32 }, .heartbeat 0 { mh with seq := 2 ^ 32 },
    .commandRecord 0 (.command cm 64), .commandRecord 0 (.reply .a 256 0 0 []), .commandRecord 0 (.reply .a 0 (2 ^ 32) 0 []),
    .commandRecord 0 (.reply .a 0 0 10 []), .commandExecution 0 (.arrive { cm with code := 256 }),
    .commandExecution 0 (.arrive { cm with target := 64 }), .commandExecution 0 (.arrive { cm with mask := 2 ^ 64 }),
    .commandExecution 0 (.arrive { cm with operand := [0] }), .readRegisters 0 hdr (2 ^ 32) 1, .readRegisters 0 hdr 0 256,
    .readObject 0 { hdr with epoch := 2 ^ 32 } [], .hold 0 { hdr with seq := 2 ^ 32 }, .releaseHold 0 { hdr with relay := 64 },
    .stopRelease 0 { hdr with seq := 2 ^ 32 }, .laneRelease 0 hdr 256, .reset 0 hdr 256, .rackCap 0 hdr (2 ^ 16) 0 0 0,
    .rackCap 0 hdr 0 (2 ^ 16) 0 0, .rackCap 0 hdr 0 0 (2 ^ 64) 0, .rackCap 0 hdr 0 0 0 (2 ^ 32), .clearFault 0 hdr false (2 ^ 12),
    .setTime 0 hdr (2 ^ 64), .expel 0 hdr 256, .bertInstall 0 { hdr with relay := 64 }, .barrowClear 0 hdr 256 [],
    .trust 0 { hdr with relay := 64 } [] [], .cfgOp 0 hdr 256, .fwActivate 0 { hdr with relay := 64 },
    .bundleDelete 0 { hdr with relay := 64 } [], .xferBegin 0 hdr 256 0 [], .xferBegin 0 hdr 0 (2 ^ 64) [],
    .xferChunk 0 hdr (2 ^ 32) 0 [], .xferChunk 0 hdr 0 (2 ^ 64) [], .xferEnd 0 hdr (2 ^ 32) ] : List Instr).all
      (fun i => !i.wellFormed) = true := by decide

/-! ### The hypotheses of each statement are met: managers' commands -/

theorem test_met_HoldAndCap :
    (up.mayCommand hdr true ∧ up.mbx.held = false ∧ barred up.mbx.holdEpoch hdr.epoch = false ∧
      barred up.mbx.capEpoch hdr.epoch = false ∧ Nat.testBit (2 ^ 63 + 1) up.member = true ∧ Nat.testBit 2 up.member = false) ∧
    (∃ s : State, s.mayCommand hdr true ∧ s.mbx.held = true ∧ barred s.mbx.holdEpoch hdr.epoch = false) ∧
    (∃ s : State, s.mayCommand hdr true ∧ s.mbx.held = false ∧ barred s.mbx.holdEpoch hdr.epoch = true ∧
      barred s.mbx.capEpoch hdr.epoch = true) ∧
    (∃ s : State, s.mayCommand hdr true ∧ s.mbx.held = true ∧ barred s.mbx.holdEpoch hdr.epoch = true) :=
  ⟨⟨may_of _ _ rfl rfl rfl, by decide⟩,
   ⟨{ up with mbx := { up.mbx with held := true, holdEpoch := some 7 } }, may_of _ _ rfl rfl rfl, by decide⟩,
   ⟨{ up with mbx := { up.mbx with holdEpoch := some 8, capEpoch := some 8 } }, may_of _ _ rfl rfl rfl, by decide⟩,
   ⟨{ up with mbx := { up.mbx with held := true, holdEpoch := some 8 } }, may_of _ _ rfl rfl rfl, by decide⟩⟩

theorem test_met_ReleasesAndClears :
    (up.mayCommand hdr true ∧ laneOf 2 = some .c ∧ (up.lane .c).vote ≠ .latched ∧ (up.flt.src 0x000).isSome = true) ∧
    (∃ s : State, s.mayCommand hdr true ∧ (s.lane .c).vote = .latched) :=
  ⟨⟨may_of _ _ rfl rfl rfl, by decide⟩,
   ⟨{ up with laneC := { LaneSt.reset with vote := .latched } }, may_of _ _ rfl rfl rfl, by decide⟩⟩

theorem test_met_TimeMembersAndTrust :
    (up.mayCommand hdr true ∧ up.mayCommand hdr false ∧ up.brw.wall = none ∧ up.frz.speaking = false) ∧
    (∃ s : State, s.mayCommand hdr true ∧ s.brw.wall = some (0, 0) ∧ s.frz.speaking = true ∧ s.htlUp = true ∧
      s.htl.head = some s.member ∧ s.idsOk = true ∧ s.ids.storeOk = true ∧ s.brw.anchored = true) ∧
    (∃ s : State, s.mayCommand hdr true ∧ s.idsOk = true ∧ s.ids.storeOk = true ∧ s.brw.anchored = false) :=
  ⟨⟨may_of _ _ rfl rfl rfl, may_of _ _ rfl rfl rfl, by decide⟩,
   ⟨{ started with
      brw := { Brw.reset with wall := some (0, 0), anchored := true }, frz := { Frz.reset with speaking := true }
      htl := { Htl.reset with head := some 0 }, ids := { Ids.reset with ready := true, storeOk := true } },
    may_of _ _ rfl rfl rfl, by decide⟩,
   ⟨{ up with ids := { Ids.reset with ready := true, storeOk := true } }, may_of _ _ rfl rfl rfl, by decide⟩⟩

/-- An image that names a bundle. -/
def named : Image := { Image.blank with blobs := [((.programsDigest, 0), List.replicate 48 1)] }

/-- An open transfer of 0x208 bytes. -/
def xfer : Xfer := ⟨0, 1, 0x208, [], .a, 7, [], 0x208⟩

theorem test_met_ImagesAndFirmware :
    (up.mayCommand hdr true ∧ cfgOpOf 1 = some .write ∧ up.cfg.src.toNat + up.cfg.len ≤ 30 * 2 ^ 30 ∧ cfgOpOf 0 = none ∧
      cfgOpOf 5 = none ∧ up.nv.fw0.state ≠ .staged ∧ up.nv.fw1.state ≠ .staged ∧ up.cfg.force = none ∧ up.cfg.staged = none ∧
      up.mbx.xfers = [] ∧ 0x208 ≤ xferMax 1 ∧ 0x208 ≤ xferMax 3) ∧
    (∃ s : State, s.mayCommand hdr true ∧ s.nv.fw0.state = .trying) ∧
    (∃ s : State, s.mayCommand hdr true ∧ s.nv.fw0.state = .staged ∧ s.nv.fw1.state ≠ .staged ∧ s.nv.fw1.state ≠ .trying) ∧
    (∃ s : State, s.mayCommand hdr true ∧ s.nv.fw1.state = .staged ∧ s.nv.fw0.state ≠ .staged ∧ s.nv.fw0.state ≠ .trying) ∧
    (∃ s : State, s.mayCommand hdr true ∧ s.cfg.force = some named ∧
      Image.names named (List.replicate 48 1) = true) ∧
    (∃ s : State, s.mayCommand hdr true ∧ s.mayCommand hdr false ∧ s.mbx.xfers.find? (fun y => y.num == 0) = some xfer ∧
      0x1FF + (List.replicate 9 (0 : Byte)).length ≤ xfer.length ∧ xfer.kind = 1) :=
  ⟨⟨may_of _ _ rfl rfl rfl, by decide⟩,
   ⟨{ up with nv := { Nv.delivered with fw0 := { Nv.delivered.fw0 with state := .trying } } }, may_of _ _ rfl rfl rfl, by decide⟩,
   ⟨{ up with nv := { Nv.delivered with fw0 := { Nv.delivered.fw0 with state := .staged } } }, may_of _ _ rfl rfl rfl, by decide⟩,
   ⟨{ up with nv := { Nv.delivered with fw1 := { Nv.delivered.fw1 with state := .staged } } }, may_of _ _ rfl rfl rfl, by decide⟩,
   ⟨{ up with cfg := { Cfg.reset with force := some named } },
    may_of _ _ rfl rfl rfl, by decide⟩,
   ⟨{ up with mbx := { up.mbx with xfers := [xfer] } }, may_of _ _ rfl rfl rfl, may_of _ _ rfl rfl rfl, by decide⟩⟩

theorem test_met_ReadsAndRefusals :
    (up.mayCommand hdr false ∧ up.inRst .fabric = false ∧ up.mbx.ready = true ∧ (up.mbx.mgr .a).known = true ∧
      later (up.mbx.mgr .a).epoch 6 = true) ∧
    (∃ s : State, s.mayCommand hdr false ∧ s.idsOk = true) ∧
    up.mayCommand { hdr with signed := false } false ∧
    (∃ s : State, s.inRst .fabric = false ∧ s.mbx.ready = false) ∧
    (∃ s : State, s.inRst .fabric = false ∧ s.mbx.ready = true ∧ (s.mbx.mgr .a).known = true ∧ (s.mbx.mgr .a).epoch = 7 ∧
      (s.mbx.mgr .a).lastSeq = some 1 ∧ (s.mbx.mgr .a).results.find? (fun r => r.1 == 1) = some (1, 0x10, 0, [])) :=
  ⟨⟨may_of _ _ rfl rfl rfl, by decide⟩,
   ⟨{ up with ids := { Ids.reset with ready := true } }, may_of _ _ rfl rfl rfl, by decide⟩,
   may_unsigned _ rfl rfl rfl,
   ⟨{ up with mbx := Mbx.reset }, by decide⟩,
   ⟨{ up with mbx := { up.mbx with mgrA := { up.mbx.mgrA with lastSeq := some 1, results := [(1, 0x10, 0, [])] } } }, by decide⟩⟩

/-! ### Registers, mailboxes, sessions, silence -/

theorem test_met_AccessesRefused :
    ((8 : Nat) ≠ 32) ∧ (up.at_ 0).regUp 0x001FFFFC = true ∧ (up.at_ 0).readReg 0x001FFFFC = none ∧
    (State.reset.at_ 0).regUp 0x00200000 = false ∧ up.core.bringup = false ∧ up.inRst .fabric = false ∧
    (up.flt.src 0x000).isSome = true ∧ (up.flt.src 0xE00).isSome = true := by decide

theorem test_met_ReadsAndWrites :
    (∀ a ∈ loRegisters, (up.at_ 0).regUp a = true ∧ ((up.at_ 0).readReg a).isSome = true ∧ ((up.at_ 0).hiHalf a).isSome = true) ∧
    up.inRst .fabric = false := by decide

/-- With the trust store loaded, a key of role 2 in it, and Idsol's answer that the signature verifies. -/
def trusting : State := { started with
  ids := { Ids.reset with ready := true, storeOk := true }
  nv := { Nv.delivered with trust := { Nv.delivered.trust with keys := [⟨4, List.replicate 48 1⟩] } } }

/-- What verifies is the specification's cryptography, an uninterpreted constant: the witness is conditional on its answer. -/
theorem test_met_MailboxesExecute_arrive (hv : Config.ecdsaOk (List.replicate 48 1) [] [] = true) :
    ∃ m : CmdMsg, trusting.inRst .mgmt = false ∧ trusting.inRst .fabric = false ∧ trusting.mbx.fwRunning = true ∧
      m.hdr.session = true ∧ msgFits m = true ∧ trusting.mbx.ready = true ∧ (trusting.mbx.mgr m.hdr.mgr).known = true ∧
      (trusting.mbx.mgr m.hdr.mgr).epoch = m.hdr.epoch ∧ m.target = trusting.member ∧ m.signed = true ∧ m.hdr.receiver ≠ 0 ∧
      m.hdr.receiver = trusting.mbx.epoch ∧
      (trusting.at_ 0).heard.judge 5 m.signer m.message m.signature none = none ∧ trusting.mbx.pendingOf m.hdr.mgr < 64 := by
  refine ⟨{ cm with signer := List.replicate 48 1 }, by decide, by decide, by decide, by decide, by decide +kernel, by decide +kernel, by decide,
    by decide, by decide, by decide, by decide, by decide, ?_, by decide⟩
  have h1 : (trusting.at_ 0).heard.nv.trust.signerBad 5 (List.replicate 48 1) = none := by decide
  have h2 : (!(trusting.at_ 0).heard.idsOk ∨ !(trusting.at_ 0).heard.ids.storeOk) = False := by simp; decide
  simp only [State.judge, h1, h2, if_false]
  show (if (!Config.ecdsaOk (List.replicate 48 1) [] []) = true then _ else _) = none
  rw [hv]; rfl

theorem test_met_MailboxesExecute :
    ({ mh with receiver := 0 }.receiver = 0 ∧ msgFits { cm with hdr := { mh with receiver := 0 } } = true) ∧
    (∃ s : State, s.inRst .fabric = false ∧ s.mbx.box = [⟨.a, 7, 1, 0x10, false, 0, true, []⟩]) ∧
    (∃ s : State, s.inRst .fabric = false ∧ s.mbx.box = [⟨.a, 7, 1, 0x12, false, 0, true, []⟩]) ∧
    (∃ s : State, s.inRst .fabric = false ∧ s.mbx.box = [⟨.a, 7, 1, 0x13, false, 0, true, [2]⟩]) ∧
    (∃ s : State, s.inRst .fabric = false ∧ s.mbx.box = [⟨.a, 7, 1, 0x22, false, 0, true, List.replicate 8 0⟩]) ∧
    (signedCode 0x0F = none ∧ up.mayCommand hdr false) ∧
    (up.inRst .fabric = false ∧ up.inRst .htlFrz = false ∧ up.core.bringup = false ∧ msgFits cm = true ∧ cm.target = up.member) ∧
    (∃ s : State, s.inRst .fabric = false ∧ s.core.bringup = true) :=
  ⟨by decide, ⟨{ up with mbx := { up.mbx with box := [⟨.a, 7, 1, 0x10, false, 0, true, []⟩] } }, by decide⟩,
   ⟨{ up with mbx := { up.mbx with box := [⟨.a, 7, 1, 0x12, false, 0, true, []⟩] } }, by decide⟩,
   ⟨{ up with mbx := { up.mbx with box := [⟨.a, 7, 1, 0x13, false, 0, true, [2]⟩] } }, by decide⟩,
   ⟨{ up with mbx := { up.mbx with box := [⟨.a, 7, 1, 0x22, false, 0, true, List.replicate 8 0⟩] } }, by decide⟩,
   ⟨by decide, may_of _ _ rfl rfl rfl⟩, by decide, ⟨{ up with core := { up.core with bringup := true } }, by decide⟩⟩

theorem test_met_EpochsAndSessions :
    (∃ s : State, s.inRst .fabric = false ∧ s.core.bringup = false ∧ s.brw.anchored = true ∧ s.mbx.ready = false ∧
      s.mbx.fwRunning = true) ∧
    (up.inRst .mgmt = false ∧ up.mbx.fwRunning = true ∧ mh.session = true ∧ mh.version = 1 ∧ mh.length ≤ 1024 ∧
      up.mbx.ready = true ∧ (up.mbx.mgr mh.mgr).known = true ∧ (up.mbx.mgr mh.mgr).epoch = mh.epoch ∧
      mh.receiver = up.mbx.epoch) ∧
    (trusting.inRst .mgmt = false ∧ trusting.mbx.fwRunning = true ∧ trusting.ids.storeOk = true ∧
      (∃ k ∈ trusting.nv.trust.keys, k.role = 4 ∧ k.hash = List.replicate 48 1) ∧
      ∀ k ∈ trusting.nv.trust.keys, ¬(k.role = 4 ∧ k.hash = List.replicate 48 2)) := by
  refine ⟨⟨{ up with brw := { Brw.reset with anchored := true }, mbx := { up.mbx with ready := false } }, by decide⟩, by decide,
    by decide⟩

theorem test_met_SilenceAndStatus :
    up.inRst .fabric = false ∧ up.mbx.ready = true ∧ up.mbx.alone = false ∧
    up.mbx.lastMsg + up.fldN .mgmtSilentTime * 1000000000 ≤ max up.now (10 ^ 15) ∧ up.core.bringup = false := by decide

/-! ### Modes and the stage -/

theorem test_met_ModesWithoutVote :
    (∃ s : State, (s.at_ 0).bringupDue = true ∧ s.cfg.force = none) ∧
    (∃ s : State, (s.at_ 0).bringupDue = true ∧ s.cfg.force.isSome = true ∧ s.stopCause = none) ∧
    (∃ s : State, (s.at_ 0).bringupDue = true ∧ s.cfg.force.isSome = true ∧ s.stopCause = some .stageKill) ∧
    (∃ s : State, s.inRst .fabric = false ∧ s.vot.formed = false ∧ s.core.bringup = false ∧ s.aon.mode ≠ .held ∧
      s.vot.holdCond = true) ∧
    (∃ s : State, s.inRst .fabric = false ∧ s.vot.formed = false ∧ s.core.bringup = false ∧ s.aon.mode = .held ∧
      s.vot.holdCond = false ∧ s.vot.releaseCond = true ∧ s.inForce = true ∧ s.stopCause = none) ∧
    (∃ s : State, s.inRst .fabric = false ∧ s.vot.formed = false ∧ s.core.bringup = false ∧ s.aon.mode = .held ∧
      s.vot.releaseCond = false ∧ s.vot.holdCond = false ∧ (s.at_ 0).gridLossDue = false) := by
  refine ⟨⟨{ up with core := { up.core with bringup := true }, cfg := { Cfg.reset with selected := true } }, by decide⟩,
    ⟨{ formed with core := { up.core with bringup := true }, cfg := { formed.cfg with selected := true } }, by decide⟩,
    ⟨{ formed with core := { up.core with bringup := true }, cfg := { formed.cfg with selected := true }
                   vot := { formed.vot with killLine := true } }, by decide⟩,
    ⟨{ inMode up .fallow with vot := { Vot.reset with holdCond := true } }, by decide⟩,
    ⟨{ inMode formed .held with vot := { formed.vot with formed := false, releaseCond := true } }, by decide⟩,
    ⟨inMode up .held, by decide⟩⟩

theorem test_met_ModesOfGridAndStop :
    (∃ s : State, s.inRst .fabric = false ∧ (s.at_ (10 ^ 12)).stopClearedDue = true) ∧
    (∃ s : State, s.inRst .aon = false ∧ s.aon.stopWatch = some ⟨0, false⟩ ∧ 0 + 3600000 ≤ (s.at_ 3600000000000).opMs ∧
      (s.at_ 3599999999999).opMs < 0 + 3600000) ∧
    (∃ s : State, s.inRst .fabric = false ∧ s.vot.formed = true ∧ (s.at_ (10 ^ 12)).gridLossDue = true ∧ s.aon.mode = .fallow) ∧
    (∃ s : State, s.inRst .fabric = false ∧ s.vot.formed = true ∧ (s.at_ (10 ^ 12)).gridLossDue = true ∧ s.aon.mode ≠ .fallow ∧
      s.aon.mode ≠ .conducting) ∧
    (∃ s : State, s.inRst .fabric = false ∧ s.vot.formed = true ∧ s.fes.gridPresent = false ∧ s.fes.inService ≠ [] ∧
      s.fes.sagSince = none ∧ s.fes.shortSince = none ∧ s.fes.returnSince = some 0 ∧
      0 + s.lfldN .frontendReturnTime * 10000000 ≤ max s.now (10 ^ 15)) ∧
    (∃ s : State, s.inRst .fabric = false ∧ s.vot.formed = true ∧ s.aon.mode = .bridging ∧ s.fes.reengage = true ∧
      400 ≤ s.fes.covered) := by
  refine ⟨⟨{ inMode formed .stopped with
      cfg := { formed.cfg with lane := some { Image.blank with vals := [((.limitsStopRestarts, 0), 3)] } }
      vot := { formed.vot with clearSince := some 0 }
      fes := { Fes.reset with gridPresent := true, period := ⟨0, 0, 100000, 0, 0, 0⟩ } }, by decide⟩,
    ⟨{ up with aon := { Aon.reset with stopWatch := some ⟨0, false⟩ } }, by decide⟩,
    ⟨{ inMode formed .fallow with fes := { Fes.reset with sagSince := some 0 } }, by decide⟩,
    ⟨{ inMode formed .stopped with fes := { Fes.reset with shortSince := some 0 } }, by decide⟩,
    ⟨{ formed with fes := { Fes.reset with returnSince := some 0, rects := [{ Rect.reset with state := 1 }] } }, by decide⟩,
    ⟨{ inMode formed .bridging with fes := { Fes.reset with reengage := true, covered := 400 } }, by decide⟩⟩

theorem test_met_VotedMarkOpensPeriod :
    formed.inRst .fabric = false ∧ formed.vot.formed = true ∧ ∀ y, (formed.lane y).vote ≠ .latched := by
  refine ⟨by decide, by decide, fun y => ?_⟩; cases y <;> decide

/-- A plan vector of R194 with its check word: FORMAT 1, the storage band 40.00 V to 60.00 V, nothing else asked for. -/
def vector : List Word := [0x10000000, 0, 0, 0, 6000 * 65536 + 4000, 0, 0, 0, 0, 0, 0, 0, 0, 0, 0, 829950578]

theorem test_met_TicksAndVectors :
    (∃ s : State, s.inRst .fabric = false ∧ s.vot.formed = true ∧ s.plan.tickDue = true ∧ s.plan.ticking = true ∧
      s.plan.tickOk = false) ∧
    (∃ s : State, s.inRst .fabric = false ∧ s.vot.formed = true ∧ s.plan.tickDue = true ∧ s.plan.ticking = false) ∧
    (∃ s : State, s.inRst .planning = false ∧ s.emit.markAt = some 0 ∧ s.emit.written = some [] ∧ s.emit.done = false ∧
      s.vot.formed = true ∧ 0 + 2000 ≤ max s.now 2000 ∧ s.plan.chan = [] ∧ Chan.planVector .a ∉ s.closed) ∧
    (∃ s : State, s.emit.done = true) ∧
    (∃ s : State, s.plan.chan = [[]] ∧ s.aon.mode ≠ .held ∧ s.verdict [] ≠ 0) ∧
    vecCheckOk [] = false ∧ (vecCheckOk (List.replicate 15 0 ++ [68323592]) = true ∧ vecFormatOk (List.replicate 15 0 ++ [68323592]) = false) ∧
    (vecCheckOk vector = true ∧ vecFormatOk vector = true) ∧ older (vecTick vector) 1 = true ∧
    (∃ s : State, s.plan.chan = [vector] ∧ s.aon.mode ≠ .held ∧ s.verdict vector = 0) ∧
    (∃ s : State, s.plan.chan = [[]] ∧ s.aon.mode = .held) := by
  refine ⟨⟨{ formed with plan := { Plan.reset with tickDue := true, ticking := true } }, by decide⟩,
    ⟨{ formed with plan := { Plan.reset with tickDue := true } }, by decide⟩,
    ⟨{ formed with emit := { Emit.reset with markAt := some 0, written := some [] } }, by decide⟩,
    ⟨{ up with emit := { Emit.reset with done := true } }, by decide⟩,
    ⟨{ inMode up .fallow with plan := { Plan.reset with chan := [[]] } }, by decide⟩, by decide, by decide +kernel, by decide +kernel, by decide,
    ⟨{ inMode started .fallow with plan := { Plan.reset with chan := [vector], ticking := true, basis := [⟨0, 0, 0, 0, 0, 0, 0, 0, 0, 0, 0, 0, 0, 0, 0, 0, 0⟩] } }, by decide +kernel⟩,
    ⟨{ inMode up .held with plan := { Plan.reset with chan := [[]] } }, by decide⟩⟩

theorem test_met_TargetsAndSetpoints :
    (formed.inRst .fabric = false ∧ formed.vot.formed = true ∧ formed.laneA.vote.compared = true ∧ formed.pool.stageRun = false) ∧
    (∃ s : State, s.inRst .fabric = false ∧ s.vot.formed = true ∧ s.laneC.vote.compared = false ∧ s.pool.stageRun = true) ∧
    (up.inRst .fabric = false ∧ (up.at_ 0).linkType true = 0) ∧
    (∃ s : State, s.inRst .fabric = false ∧ (s.at_ 0).linkType true = 2 ∧ (s.fes.rect 5).state ≠ 0 ∧ (s.fes.rect 0).state = 0) ∧
    (∃ s : State, s.inRst .fabric = false ∧ (s.at_ 0).linkType true = 1 ∧ (s.fes.rect 5).state ≠ 1 ∧ (s.fes.rect 5).state ≠ 0) :=
  ⟨by decide, ⟨{ formed with laneC := LaneSt.reset, pool := { Pool.reset with stageRun := true } }, by decide⟩, by decide,
   ⟨{ inMode formed .held with fes := { Fes.reset with rects := List.replicate 5 Rect.reset ++ [{ Rect.reset with state := 1 }] } },
    by decide⟩,
   ⟨{ inMode formed .fallow with
      pool := { Pool.reset with legs := List.replicate 32 { Leg.reset with state := .rotation } }
      fes := { Fes.reset with rects := List.replicate 5 Rect.reset ++ [{ Rect.reset with state := 2 }] } }, by decide⟩⟩

theorem test_met_DisagreementsCounted :
    (formed.inRst .fabric = false ∧ formed.vot.formed = true ∧ formed.vot.stopLatch = false ∧ (formed.lane .c).vote = .voting ∧
      formed.voting.length = 3 ∧ 63 ∉ (formed.lane .c).counted ∧ formed.killFree = true ∧ formed.stopCause = none ∧
      65 ∉ formed.laneC.counted ∧ formed.windowCount .c + 1 < formed.lfldN .lanesFenceN) ∧
    (∃ s : State, s.inRst .fabric = false ∧ s.vot.formed = true ∧ 63 ∈ (s.lane .c).counted ∧ (∀ y, (s.lane y).vote ≠ .latched) ∧
      s.stopCause = none) ∧
    (∃ s : State, s.inRst .fabric = false ∧ s.vot.formed = true ∧ s.vot.stopLatch = false ∧ (s.lane .b).vote = .voting ∧
      s.voting.length = 2 ∧ 0 ∉ (s.lane .b).counted ∧ (∀ y, (s.lane y).vote ≠ .latched) ∧ s.aon.mode.live = true) ∧
    (∃ s : State, s.inRst .fabric = false ∧ s.vot.formed = true ∧ s.vot.stopLatch = false ∧ (s.lane .b).vote = .voting ∧
      s.voting.length = 2 ∧ 0 ∉ (s.lane .b).counted ∧ (∀ y, (s.lane y).vote ≠ .latched) ∧ s.aon.mode.live = false) :=
  ⟨by decide,
   ⟨{ formed with laneC := { votes with counted := [63] } }, by decide, by decide, by decide,
    fun y => by cases y <;> decide, by decide⟩,
   ⟨{ inMode formed .fallow with laneC := LaneSt.reset }, by decide, by decide, by decide, by decide, by decide, by decide,
    fun y => by cases y <;> decide, by decide⟩,
   ⟨{ inMode formed .held with laneC := LaneSt.reset }, by decide, by decide, by decide, by decide, by decide, by decide,
    fun y => by cases y <;> decide, by decide⟩⟩

theorem test_met_VoteFormsAndStops :
    (∃ s : State, s.inRst .fabric = false ∧ s.inRst (.lane .c) = false ∧ (s.lane .c).clockFailed = false ∧
      (s.lane .c).ready = false ∧ s.cfg.lane.isSome = true ∧ (s.lane .c).vote ≠ .latched ∧ s.vot.formed = true) ∧
    (∃ s : State, s.inRst .fabric = false ∧ s.vot.formed = false ∧ s.vot.waitSince = some 0 ∧
      0 + s.lfldN .lanesFormationWait * 100000 ≤ max s.now (10 ^ 12) ∧
      2 ≤ (s.awaited.filter (fun x => (s.lane x).ready)).length ∧ s.aon.mode.live = false ∧
      (.a ∈ s.awaited ∧ (s.lane .a).ready = true) ∧ (s.lane .c).ready = false) ∧
    (∃ s : State, s.inRst .fabric = false ∧ s.vot.formed = false ∧ s.vot.waitSince = some 0 ∧
      0 + s.lfldN .lanesFormationWait * 100000 ≤ max s.now (10 ^ 12) ∧
      (s.awaited.filter (fun x => (s.lane x).ready)).length < 2 ∧ s.aon.mode.live = false ∧ s.vot.stopLatch = false) ∧
    ((inMode formed .conducting).inRst .fabric = false ∧ (inMode formed .conducting).aon.mode.live = true ∧
      formed.vot.stopLatch = false ∧ 2 ≤ formed.voting.length ∧ formed.vot.killLine = false) ∧
    (up.inRst .fabric = false ∧ up.aon.mode.live = false) ∧
    (∃ s : State, (s.lane .b).strobeAt = some 0 ∧ (s.lane .b).vote = .voting ∧ 0 + 80000 ≤ max s.now 80000 ∧
      max s.now 79999 < 0 + 80000) :=
  ⟨⟨{ formed with laneC := LaneSt.reset }, by decide⟩,
   ⟨{ formed with vot := { Vot.reset with waitSince := some 0 }, laneC := LaneSt.reset }, by decide⟩,
   ⟨{ started with vot := { Vot.reset with waitSince := some 0 } }, by decide⟩, by decide, by decide,
   ⟨{ formed with laneB := { votes with strobeAt := some 0 } }, by decide⟩⟩

/-- The stage runs, storage stands inside its window, every leg of the image is in group S. -/
def driving : State := { formed with
  now := 1000000
  pool := { Pool.reset with stageRun := true, samples := ⟨0, 0, 0, 500, 500⟩ } }

/-- With leg 31 ready. -/
def ready31 : State := { driving with
  pool := { driving.pool with legs := upd driving.pool.legs 31 (fun l => { l with state := .rotation }) } }

theorem test_met_TripsAndPulses :
    ((ready31.at_ 0).drives = true ∧ ready31.inhibited .supply = false ∧ (ready31.at_ 0).blanked .supply = false ∧
      (ready31.at_ 0).readyLeg .s = some 31) ∧
    ((driving.at_ 0).drives = true ∧ driving.inhibited .supply = false ∧ (driving.at_ 0).blanked .supply = false ∧
      (driving.at_ 0).readyLeg .s = none ∧ driving.pool.waiting = none) ∧ up.drives = false ∧
    (∃ s : State, (s.at_ 0).drives = true ∧ s.inhibited .supply = false ∧ s.pool.waiting = some .supply ∧
      (s.at_ 0).readyLeg .s = some 31) ∧
    (∃ s : State, s.pool.blankLower = some 9 ∧ 9 ≤ max s.now 9 ∧ s.pool.blankUpper = none) ∧
    (∃ s : State, (s.leg 31).drive = .on .supply 0 5 ∧ 0 + 5 ≤ max s.now 5 ∧ max s.now 4 < 0 + 5 ∧ (s.leg 31).state ≠ .blind) ∧
    (∃ s : State, (s.leg 31).state = .blind) ∧
    (∃ s : State, 31 < s.pool.legs.length ∧ (s.leg 31).drive = .freewheel .supply 0 ∧ (s.leg 31).state ≠ .blind) ∧
    (∃ s : State, (s.leg 31).state = .hiccup ∧ (s.leg 31).hiccupEnd ≤ max s.now 0) ∧
    ((up.leg 31).drive = .off ∧ (up.leg 31).est = 0 ∧ (up.leg 31).lowSince + 2000 ≤ max up.now 2000) :=
  ⟨by decide, by decide, by decide, ⟨{ ready31 with pool := { ready31.pool with waiting := some .supply } }, by decide⟩,
   ⟨{ up with pool := { Pool.reset with blankLower := some 9 } }, by decide⟩,
   ⟨up.updLeg 31 (fun l => { l with drive := .on .supply 0 5 }), by decide⟩,
   ⟨up.updLeg 31 (fun l => { l with state := .blind }), by decide⟩,
   ⟨up.updLeg 31 (fun l => { l with drive := .freewheel .supply 0 }), by decide⟩,
   ⟨up.updLeg 31 (fun l => { l with state := .hiccup }), by decide⟩, by decide⟩

theorem test_met_BoardsAndTests :
    (up.pool.legs.length = 32 ∧ up.pool.recheck = none ∧ (31 : Nat) / 4 = 7 ∧ (up.leg 31).state = .absent) ∧
    (∃ s : State, s.pool.legs.length = 32 ∧ (s.lfldN .legsActive).testBit 31 = true ∧ (s.leg 31).state = .absent) ∧
    (∃ s : State, s.pool.testing = true ∧ s.pool.running = false ∧ s.fes.settleOwed = false ∧ (∀ y ∈ s.fes.strs, y.state ≠ 2) ∧
      s.pool.legs.length = 32 ∧ (∃ l ∈ s.pool.legs, l.state = .untested) ∧ (∀ l ∈ s.pool.legs, l.state ≠ .testing)) ∧
    (∃ s : State, s.pool.running = true ∧ s.pool.attemptStart + 2248000 ≤ max s.now 2248000) ∧
    (∃ (s : State) (x : TestIn) (d : Departure) (n : Nat), s.pool.recheck = some (31, d, n) ∧ s.pool.recheckStart + 64000 ≤ max s.now 64000 ∧
      (s.at_ 64000).judgeRow x 31 (s.leg 31) = 4) :=
  ⟨by decide,
   ⟨{ up with cfg := { Cfg.reset with lane := some { Image.blank with vals := [((.legsActive, 0), 2 ^ 31)] } } }, by decide⟩,
   ⟨{ up.updLeg 31 (fun l => { l with state := .untested }) with pool :=
      { (up.updLeg 31 (fun l => { l with state := .untested })).pool with testing := true } }, by decide⟩,
   ⟨{ up with pool := { Pool.reset with running := true } }, by decide⟩,
   ⟨{ up with pool := { Pool.reset with recheck := some (31, ⟨.s, 0, 0⟩, 1) } }, ⟨List.replicate 32 (50, 0), 100, 50, 50⟩,
    ⟨.s, 0, 0⟩, 1, by decide +kernel⟩⟩

theorem test_met_FrontEndPolled :
    (started.inRst .fabric = false ∧ started.inForce = true ∧ started.fes.lastPoll + 10000000 ≤ max started.now 10000000 ∧
      started.fes.lastStr + started.strCycle ≤ max started.now 40000000) ∧
    (∃ s : State, s.inRst .fabric = false ∧ s.inForce = true ∧ s.fes.pmb = [⟨5, .readIout, true⟩]) ∧
    (∃ s : State, s.inRst .fabric = false ∧ s.fes.pmb = [⟨5, .statusWord, true⟩] ∧ Nat.testBit 64 6 = true ∧
      5 < s.fes.rects.length ∧ (s.fes.rect 5).state = 1) ∧
    (∃ (s : State) (c : StrCmd), s.inRst .fabric = false ∧ s.fes.smb = [c]) ∧
    (∃ s : State, s.inRst .fabric = false ∧ 15 < s.fes.strs.length ∧ (s.str 15).state = 2 ∧ (s.str 15).closing = false ∧
      (s.str 15).preAt + s.lfldN .stringsPrechargeTime * 1000000000 ≤ max s.now (10 ^ 15)) ∧
    (∃ s : State, 15 < s.fes.strs.length ∧ (s.lfldN .stringsActive).testBit 15 = true ∧ (s.str 15).state = 3 ∧
      Nat.testBit 8 3 = true) ∧
    (up.inRst .fabric = false ∧ up.inRst .htlFrz = false ∧ (up.at_ 0).memberLost 63 = true ∧
      (up.at_ 0).memberLost up.member = false) ∧
    (∃ s : State, s.inRst .fabric = false ∧ s.fes.lost = [] ∧ s.fes.segmentLoss = true ∧
      s.fes.lossClear + s.lfldN .frontendLossHold * 1000000000 ≤ max s.now (10 ^ 15)) :=
  ⟨by decide, ⟨{ started with fes := { Fes.reset with pmb := [⟨5, .readIout, true⟩] } }, by decide⟩,
   ⟨{ up with fes := { Fes.reset with pmb := [⟨5, .statusWord, true⟩], rects := List.replicate 6 { Rect.reset with state := 1 } } },
    by decide⟩,
   ⟨{ up with fes := { Fes.reset with smb := [⟨0, 0, 0⟩] } }, ⟨0, 0, 0⟩, by decide⟩,
   ⟨{ up with fes := { Fes.reset with strs := List.replicate 16 { Str.reset with state := 2 } } }, by decide⟩,
   ⟨{ up with fes := { Fes.reset with strs := List.replicate 16 { Str.reset with state := 3 } }
              cfg := { Cfg.reset with lane := some { Image.blank with vals := [((.stringsActive, 0), 65535)] } } }, by decide⟩,
   by decide, ⟨{ up with fes := { Fes.reset with segmentLoss := true } }, by decide⟩⟩

theorem test_met_ClocksAndCopies :
    (up.clkJudged .swd = true ∧ (up.dom (clkDom .swd)).release + 40000 ≤ max up.now 40000 ∧ clkLane .swd = none ∧
      (1001 : Int).natAbs > 1000 ∧ (-1000 : Int).natAbs ≤ 1000 ∧ up.clkJudged .lna = true ∧ clkLane .lnc = some .c ∧
      up.clkJudged .lnc = true ∧ up.core.aonRc = false ∧ up.inRst .aon = false) ∧
    (∃ s : State, s.core.aonRc = true ∧ s.clkJudged .swd = true ∧ (s.dom (clkDom .swd)).release + 40000 ≤ max s.now 40000) ∧
    (∃ s : State, s.inRst .htlFrz = false ∧ (s.at_ 0).islandRst .aon = false ∧ s.htl.sync = true ∧
      (s.rings.get .aon).holdover = false ∧ (s.rings.get .aon).now (max s.now 0) ≤ (s.at_ 0).ringTime) ∧
    (∃ s : State, s.inRst .htlFrz = false ∧ (s.at_ 0).islandRst .aon = false ∧ s.htl.sync = true ∧
      (s.rings.get .aon).holdover = false ∧ (s.at_ 0).ringTime < (s.rings.get .aon).now (max s.now 0)) ∧
    (up.htl.sync = false ∧ ∀ d ∈ Chan.mesh.ends, up.inRst d = false) ∧
    (∃ d ∈ Chan.mesh.ends, State.reset.inRst d = true) :=
  ⟨by decide, ⟨{ up with core := { up.core with aonRc := true } }, by decide⟩,
   ⟨{ up with htl := { Htl.reset with sync := true }, rings := { Rings.reset with aon := ⟨0, 0, false⟩ } }, by decide⟩,
   ⟨{ up with htl := { Htl.reset with sync := true }, rings := { Rings.reset with aon := ⟨1, 0, false⟩ } }, by decide⟩,
   by decide, ⟨.planning, by decide⟩⟩

/-! ### Supply, sensors, resets, faults, the recorder -/

theorem test_met_SupplyAndPowerFail :
    (up.inRst .aon = false ∧ State.reset.srcOn .powerOn = true ∧ State.reset.core.srcs.length = 15) ∧
    (∃ s : State, s.srcOn .brownOut = true) ∧
    (up.srcOn .powerOn = false ∧ up.srcOn .brownOut = false ∧ up.pin.powerFail = none ∧ up.inRst .fabric = false ∧
      up.aon.mode.live = false ∧ (inMode up .fallow).aon.mode.live = true) ∧
    (∃ s : State, s.pin.powerFail = some 0 ∧ s.pin.stagingClosed = false ∧ 0 + 1000000 ≤ max s.now 1000000 ∧
      max s.now 999999 < 0 + 1000000 ∧ s.inRst .fabric = false ∧ s.brw.anchored = true ∧ s.brw.ioFail = false ∧
      s.pin.deferred = [] ∧ s.core.srcs.length = 15 ∧ s.fused .powerOn = 5 ∧ s.fused .brownOut = 5 ∧ s.core.lastLevel ≤ 5) :=
  ⟨by decide, ⟨{ up with core := { up.core with srcs := up.core.srcs.set 1 ⟨true, 5, none, 0, []⟩ } }, by decide⟩, by decide,
   ⟨{ up with pin := { Pins.initial with powerFail := some 0 }, brw := { Brw.reset with anchored := true } }, by decide⟩⟩

theorem test_met_HoldupBank :
    ∃ s : State, s.core.bringup = false ∧ s.pin.railUp = true ∧ s.inRst .aon = false ∧ s.aon.holdupReady = true :=
  ⟨{ up with pin := { Pins.initial with railUp := true }, aon := { Aon.reset with holdupReady := true } }, by decide⟩

theorem test_met_CoolantAndThermal :
    (up.inRst .aon = false ∧ up.aon.sensors.length = 88 ∧ (List.replicate 65 (Reading.centi 11199))[64]? = some (.centi 11199) ∧
      up.aon.condSince.getD 1 none = none ∧ up.core.coolLost = false) ∧
    (∃ s : State, s.lfldN .calFlowPpl ≠ 0) ∧
    (∃ s : State, s.inRst .aon = false ∧ s.core.coolLost = true ∧ s.swd.shed = false) ∧
    (∃ s : State, s.core.coolLost = true ∧ s.swd.shed = true ∧ s.inRst .aon = false ∧ s.aon.returning = some 0 ∧
      0 + s.lfldN .mgmtCoolReturn * 1000000000 ≤ max s.now (10 ^ 13) ∧ s.aon.thermShed = false) ∧
    (∃ s : State, s.core.coolLost = true ∧ s.inRst .aon = false ∧ s.aon.returning = some 0 ∧ s.aon.thermShed = true) ∧
    (∃ (s : State) (v : Int), s.mbx.fwRunning = true ∧ s.inRst .planning = false ∧ s.aon.maxMean 0 63 = some v ∧
      100 * s.fld .mgmtSwardTCeil ≤ v) ∧
    (up.mbx.fwRunning = true ∧ up.inRst .planning = false ∧ up.aon.maxMean 0 63 = none ∧ 256 ≤ up.aon.derate ∧
      up.inRst .fabric = false) ∧
    (∃ (s : State) (x : Int), s.mbx.fwRunning = true ∧ s.inRst .fabric = false ∧ x ∈ s.tlegs ∧ 100 * s.fld .mgmtTlegMax ≤ x ∧
      s.mbx.shelfRaised = none) :=
  ⟨by decide, ⟨{ up with cfg := { Cfg.reset with lane := some { Image.blank with vals := [((.calFlowPpl, 0), 400)] } } }, by decide⟩,
   ⟨{ up with core := { up.core with coolLost := true } }, by decide⟩,
   ⟨{ up with core := { up.core with coolLost := true }, swd := { Swd.reset with shed := true }
              aon := { Aon.reset with returning := some 0 } }, by decide⟩,
   ⟨{ up with core := { up.core with coolLost := true }, aon := { Aon.reset with returning := some 0, thermShed := true } },
    by decide⟩,
   ⟨{ up with aon := { Aon.reset with sensors := List.replicate 88 ⟨true, false, [20000]⟩ } }, 20000, by decide +kernel⟩, by decide,
   ⟨{ up with aon := { Aon.reset with sensors := List.replicate 88 ⟨true, false, [20000]⟩ } }, 20000, by decide +kernel⟩⟩

theorem test_met_SourcesAndDomains :
    up.pin.deferred = [] ∧
    (∃ s : State, (s.core.srcs.getD (Src.code (.laneWdog .a)) ⟨false, 0, none, 0, []⟩).pulseEnd = some 5 ∧ 5 ≤ max s.now 5 ∧
      max s.now 4 < 5) ∧
    (∃ s : State, s.core.mwdog = some (0, 7) ∧ 0 + 7 ≤ max s.now 7) ∧
    (up.inRst .mgmt = false ∧ field (0x5A5CA5C3 : Word) 15 0 = 0xA5C3 ∧ field (0 : Word) 15 0 ≠ 0xA5C3) ∧
    (up.inRst .idsol = false ∧ up.core.idsolSignal = none ∧ max up.now 1000000 < (up.dom .idsol).release + 1 + 1000000 ∧
      (up.dom .idsol).release + 1000000 ≤ max up.now 1000000) ∧
    (∃ s : State, (s.at_ (10 ^ 9)).mayRelease .aon = true ∧ s.core.doms.length = 10) ∧ (up.at_ 0).mayRelease .aon = false ∧
    (∃ s : State, s.core.flush = some 0 ∧ 0 + 2000000 ≤ max s.now 2000000 ∧ s.core.lastLevel = 4 ∧ max s.now 1999999 < 0 + 2000000) :=
  ⟨by decide, ⟨{ up with core := { up.core with srcs := List.replicate 15 ⟨true, 1, some 5, 0, []⟩ } }, by decide⟩,
   ⟨{ up with core := { up.core with mwdog := some (0, 7) } }, by decide⟩, by decide, by decide,
   ⟨{ up with core := { Core.reset with srcs := up.core.srcs } }, by decide⟩, by decide,
   ⟨{ up with core := { up.core with flush := some 0, lastLevel := 4 } }, by decide⟩⟩

/-- A message. -/
def msg : FaultMsg := ⟨0xE00, 0x44, 1, 2, false, false⟩

theorem test_met_FaultsCollected :
    (∃ s : State, s.inRst .fabric = false ∧ s.flt.path = [msg] ∧ (s.flt.src msg.source).isSome = true ∧
      s.flt.src msg.source = some { FltSource.reset 0xE00 with react := 0 } ∧ s.flt.queue.length < 1024) ∧
    State.reset.inRst .fabric = true ∧
    (∃ s : State, s.inRst .fabric = false ∧ s.flt.queue = [⟨msg, true, false⟩]) ∧
    (up.inRst .fabric = false ∧ up.flt.queue = [] ∧ (1 : Word).getLsbD 0 = true ∧ (0x80000000 : Word).getLsbD 31 = true ∧
      (up.flt.src (field (0xE00 : Word) 11 0)).isSome = true) ∧ (∀ y, (up.lane y).vote ≠ .latched) :=
  ⟨⟨{ up with flt := { Flt.reset with path := [msg], srcs := [{ FltSource.reset 0xE00 with react := 0 }] } }, by decide⟩, by decide,
   ⟨{ up with flt := { Flt.reset with queue := [⟨msg, true, false⟩] } }, by decide⟩, by decide, fun y => by cases y <;> decide⟩

theorem test_met_L4Held :
    (∃ (s : State) (x : FltSource), s.flt.src msg.source = some x ∧ (∀ b, x.resetCode b = 4) ∧ s.core.bringup = true ∧
      s.flt.queue.length < 1024 ∧ (∀ b, x.int b = true) ∧ (∀ b, x.nmi b = true)) ∧
    (∃ (s : State) (x : FltSource), s.flt.src msg.source = some x ∧ (∀ b, x.resetCode b = 4) ∧ s.flt.bringupEndMs = some 0 ∧
      s.opMs < 0 + s.flt.l4Hold * 1000) ∧
    (∃ (s : State) (x : FltSource), s.flt.src msg.source = some x ∧ (∀ b, x.resetCode b = 4) ∧ s.core.bringup = false ∧
      s.flt.bringupEndMs = some 0 ∧ 0 + s.flt.l4Hold * 1000 ≤ s.opMs ∧ s.pin.powerFail = none ∧ s.core.srcs.length = 15) ∧
    (∃ (s : State) (x : FltSource), s.flt.src msg.source = some x ∧ (∀ b, x.resetCode b = 3) ∧ s.pin.powerFail = none ∧
      s.core.srcs.length = 15) :=
  ⟨⟨{ State.reset with flt := { Flt.reset with srcs := [{ FltSource.reset 0xE00 with react := 0x1C1C }] } },
     { FltSource.reset 0xE00 with react := 0x1C1C }, by decide⟩,
   ⟨{ up with flt := { Flt.reset with srcs := [{ FltSource.reset 0xE00 with react := 0x404 }], bringupEndMs := some 0 } },
     { FltSource.reset 0xE00 with react := 0x404 }, by decide⟩,
   ⟨{ up with now := 60000000000, flt := { Flt.reset with srcs := [{ FltSource.reset 0xE00 with react := 0x404 }], bringupEndMs := some 0 } },
     { FltSource.reset 0xE00 with react := 0x404 }, by decide⟩,
   ⟨{ up with flt := { Flt.reset with srcs := [{ FltSource.reset 0xE00 with react := 0x303 }] } },
     { FltSource.reset 0xE00 with react := 0x303 }, by decide⟩⟩

/-- The recorder waits for its neighbours' answers. -/
def asking : State := { up with brw := { Brw.reset with queryAt := some 0 } }

theorem test_met_BarrowAnchors :
    (∃ (s : State) (c : Checkpoint) (r : BRec), s.inRst .fabric = false ∧ s.brw.anchored = false ∧ s.core.lastLevel = 5 ∧
      s.brw.queryAt = none ∧ s.brw.ioFail = false ∧ s.nv.lu3.replay.ckpt = some c ∧ s.nv.lu3.replay.newest = some r) ∧
    (∃ s : State, s.inRst .fabric = false ∧ s.brw.anchored = false ∧ s.core.lastLevel = 5 ∧ s.brw.queryAt = none ∧
      s.brw.ioFail = false ∧ s.core.bringup = true) ∧
    (∃ s : State, s.inRst .fabric = false ∧ s.brw.anchored = false ∧ s.core.lastLevel = 4) ∧
    (∃ s : State, s.brw.anchored = true) ∧
    (asking.brw.queryAt = some 0 ∧ asking.brw.anchored = false ∧ asking.brw.replies = [] ∧
      asking.core.bringupStart + asking.core.bringupMs * 1000000 + 10000000000 ≤ max asking.now 10000000000) ∧
    (∃ s : State, s.brw.queryAt = some 0 ∧ s.brw.anchored = false ∧ s.brw.replies = [(1, 1)]) ∧
    (up.inRst .fabric = false ∧ up.nv.lu3.storeE.member ≠ some 1) ∧
    (∃ s : State, s.inRst .fabric = false ∧ s.brw.ioFail = false ∧ s.nv.lu3.storeE.member = some 1 ∧
      ∀ y ∈ s.nv.lu3.storeE.recs, y.rnum % 2 ^ 20 ≠ nr.rnum % 2 ^ 20) :=
  ⟨⟨{ up with nv := { Nv.delivered with lu3 := { Lu3.delivered with ckptA := some ⟨0, 0, 0, 0, 0, 0, false, false, (none, 0), (none, 0)⟩ } } },
     ⟨0, 0, 0, 0, 0, 0, false, false, (none, 0), (none, 0)⟩, BRec.first, by decide⟩,
   ⟨{ up with core := { up.core with bringup := true } }, by decide⟩, ⟨{ up with core := { up.core with lastLevel := 4 } }, by decide⟩,
   ⟨{ up with brw := { Brw.reset with anchored := true } }, by decide⟩, by decide,
   ⟨{ asking with brw := { asking.brw with replies := [(1, 1)] } }, by decide⟩, by decide,
   ⟨{ up with nv := { Nv.delivered with lu3 := { Lu3.delivered with storeE := ⟨some 1, []⟩ } } }, by decide⟩⟩

/-- The recorder is anchored and one record is staged. -/
def recording : State := { up with brw := { Brw.reset with anchored := true, staging := [⟨BRec.first, 0, false⟩] } }

/-- A record of a neighbour in the window's E store. -/
def shown : State := { up with
  brw := { Brw.reset with anchored := true, cmd := some (.load, .storeE) }
  nv := { Nv.delivered with lu3 := { Lu3.delivered with storeE := ⟨some 1, [BRec.first]⟩ } } }

theorem test_met_BarrowWorks :
    (recording.inRst .fabric = false ∧ recording.brw.anchored = true ∧ recording.brw.committing = none ∧
      recording.brw.commitFailedAt = none ∧ recording.brw.staging = [⟨BRec.first, 0, false⟩] ∧
      0 + 10000000 ≤ max recording.now 10000000 ∧ recording.brw.owedRate = 0 ∧ recording.brw.owedFull = 0) ∧
    (∃ s : State, s.brw.committing = some 1 ∧ s.brw.staging.take 1 = [] ++ [⟨BRec.first, 0, false⟩]) ∧
    (∃ s : State, s.brw.commitFailedAt = some 0 ∧ s.brw.committing = none ∧ s.brw.owedRate = 0 ∧ s.brw.owedFull = 0) ∧
    (∃ s : State, s.inRst .fabric = false ∧ s.brw.anchored = true ∧ s.brw.toCopy = true ∧ s.brw.ioFail = false) ∧
    (∃ s : State, s.inRst .fabric = false ∧ s.htl.frozen .e = some 0) ∧
    (up.inRst .fabric = false ∧ up.brw.cmd = none ∧ shown.brw.cmd = some (.load, .storeE) ∧ shown.inRst .fabric = false) ∧
    (shown.brw.anchored = true ∧ shown.nv.lu3.storeE.recs = [BRec.first] ∧ shown.brw.oldestE ≤ BRec.first.rnum ∧
      shown.brw.cursor.toNat = BRec.first.rnum) ∧
    (∃ s : State, s.brw.anchored = false ∧ s.brw.cmd = some (.next, .ring)) ∧
    ((0x40000400 : Word).getLsbD 30 = true ∧ (0 : Word).getLsbD 30 = false ∧ up.mbx.rec_.toNat + field (0x40000400 : Word) 10 0 ≤ 30 * 2 ^ 30 ∧
      field (0x40000400 : Word) 10 0 = 1024 ∧ field (0x40000401 : Word) 10 0 = 1025 ∧ field (0x4000000F : Word) 10 0 = 15 ∧
      field (0x40000010 : Word) 10 0 = 16 ∧ leAt (up.ddr.readBytes 0 16) 2 1 < 0x80) ∧
    (∃ s : State, 0x80 ≤ leAt (s.ddr.readBytes s.mbx.rec_.toNat 16) 2 1 ∧ s.brw.staged + 2000 ≤ 16777216 ∧
      s.pin.stagingClosed = false ∧ s.inRst .fabric = false) :=
  ⟨by decide, ⟨{ recording with brw := { recording.brw with committing := some 1 } }, by decide⟩,
   ⟨{ recording with brw := { recording.brw with commitFailedAt := some 0 } }, by decide⟩,
   ⟨{ recording with brw := { recording.brw with toCopy := true } }, by decide⟩,
   ⟨{ up with htl := { Htl.reset with frozenE := some 0 } }, by decide⟩, by decide, by decide,
   ⟨{ up with brw := { Brw.reset with cmd := some (.next, .ring) } }, by decide⟩, by decide,
   ⟨{ up with ddr := [(2, 0x80)] }, by decide⟩⟩

theorem test_met_RecordTimes :
    (up.inRst .fabric = false ∧ up.pin.stagingClosed = false ∧ up.brw.staged + (up.newRec 5 0 [] false).len ≤ 16777216 ∧
      up.htl.holding = false) ∧
    (∃ s : State, s.inRst .fabric = false ∧ s.pin.stagingClosed = false ∧
      s.brw.staged + (s.newRec 5 0 [] true).len ≤ 16777216 ∧ s.htl.holding = true) :=
  ⟨by decide, ⟨{ up with htl := { Htl.reset with holding := true } }, by decide⟩⟩

/-! ### Idsol, firmware, the loader -/

theorem test_met_IdsolAndKeys :
    (∃ s : State, s.inRst .fabric = false ∧ s.idsOk = true ∧ s.ids.storeTried = false ∧ s.mbx.fwRunning = true ∧
      7 < s.ids.meas.length ∧ s.brw.anchored = true ∧ s.ids.sealAt + 1000000000 ≤ max s.now 1000000000 ∧
      s.ids.teleSealAt + 1000000000 ≤ max s.now 1000000000) ∧
    (up.inRst .idsol = false ∧ ((up.at_ 0).trustCommand [] []).1.isSome = true) ∧
    (up.pin.tripped.getLsbD 1 = false ∧ up.nv.trust.tamperPolicy 1 = 0 ∧ up.nv.trust.tamperPolicy 4 = 3 ∧
      up.fused .tamper = 4 ∧ up.pin.powerFail = none ∧ up.episode = false ∧ up.core.srcs.length = 15 ∧
      up.pin.tripped.getLsbD 4 = false) ∧
    (∃ s : State, s.frz.speaking = true ∧ s.idsOk = true ∧ s.ids.rotationOwed = true ∧ s.ids.kbcNum = 0 ∧ s.ids.rotation = none) ∧
    (∃ s : State, s.ids.rotation = some ⟨2, [], 0, []⟩ ∧ s.frz.speaking = true) ∧ up.ids.rotation = none ∧
    (∃ s : State, s.htlUp = true ∧ (s.port .s).state = .up) :=
  ⟨⟨{ trusting with brw := { Brw.reset with anchored := true } }, by decide⟩, by decide, by decide,
   ⟨{ trusting with frz := { Frz.reset with speaking := true }, ids := { trusting.ids with rotationOwed := true } }, by decide⟩,
   ⟨{ up with frz := { Frz.reset with speaking := true }, ids := { Ids.reset with rotation := some ⟨2, [], 0, []⟩ } }, by decide⟩,
   by decide, ⟨started.updPort .s (fun q => { q with state := .up }), by decide⟩⟩

/-- A firmware slot in a state. -/
def slot (x : FwState) : FwSlot := { FwSlot.none_ with state := x }

theorem test_met_FirmwareAndLoader_firmware :
    (up.inRst .mgmt = false ∧ up.mbx.bootTried = false ∧ up.nv.fw0.state = .empty ∧ up.nv.fw1.state = .empty) ∧
    (∃ s : State, s.inRst .mgmt = false ∧ s.mbx.bootTried = false ∧ s.nv.fw0.state = .trying ∧ s.nv.fw0.tries < 3) ∧
    (∃ s : State, s.inRst .mgmt = false ∧ s.mbx.bootTried = false ∧ s.nv.fw0.state = .good ∧ s.nv.fw1.state ≠ .good ∧
      s.nv.fw1.state ≠ .trying) ∧
    (∃ s : State, s.mbx.boot = some true ∧ s.inRst .mgmt = false ∧ s.idsOk = true ∧
      ((s.at_ 0).verifyFile 3 (s.nv.fw true).image).1 = false) ∧
    (∃ s : State, s.inRst .fabric = false ∧ s.mbx.fwRunning = false ∧ field (0xC3A5 : Word) 15 0 = 0xC3A5) ∧
    (∃ s : State, s.mbx.fwRunning = true ∧ s.mbx.fwSession = true ∧ s.mbx.fwSlot = false ∧ s.nv.fw0.state = .trying ∧
      s.mbx.fwSince + s.fldN .mgmtFwConfirm * 10000 ≤ (s.at_ (10 ^ 14)).opMs) ∧
    (∃ s : State, s.cfg.force = some Image.blank ∧ s.mbx.fwRunning = true ∧ s.core.bringup = true ∧ s.inRst .fabric = false) :=
  ⟨by decide, ⟨{ up with nv := { Nv.delivered with fw0 := slot .trying } }, by decide⟩,
   ⟨{ up with nv := { Nv.delivered with fw0 := slot .good } }, by decide⟩,
   ⟨{ trusting with mbx := { up.mbx with boot := some true } }, by decide⟩,
   ⟨{ up with mbx := Mbx.reset }, by decide⟩,
   ⟨{ up with nv := { Nv.delivered with fw0 := slot .trying }, mbx := { up.mbx with fwSession := true } }, by decide⟩,
   ⟨{ started with core := { up.core with bringup := true } }, by decide⟩⟩

/-- An image of one leg and one string that meets every constraint. -/
def sane : Image := { Image.blank with vals :=
  [((.legsGroupS, 0), 1), ((.legsActive, 0), 1), ((.stringsActive, 0), 1), ((.stringsBusCharge, 0), 1)] }

theorem test_met_FirmwareAndLoader_loader :
    (∃ (s : State) (x : CfgOp × List Byte × Option Image), s.inRst .fabric = false ∧ s.cfg.op = some x) ∧
    (up.inRst .fabric = false ∧ up.cfg.op = none ∧ up.cfg.src.toNat + up.cfg.len ≤ 30 * 2 ^ 30 ∧
      ((up.at_ 0).judgeImage (up.ddr.readBytes up.cfg.src.toNat up.cfg.len)).1.image = none ∧ up.cfg.force = none ∧
      up.cfg.staged = none) ∧
    (∃ (s : State) (f im : Image), s.inRst .fabric = false ∧ s.cfg.op = none ∧ s.cfg.force = some f ∧ s.cfg.staged = some im ∧
      s.core.bringup = false ∧ (s.cfg.combined im).constraints = true) ∧
    (started.inRst .fabric = false ∧ started.cfg.op = none ∧ started.cfg.force.isSome = true ∧ started.cfg.active = false) ∧
    (∃ s : State, s.cfg.op = some (.erase, [], none) ∧ s.cfg.opBy = none ∧ s.cfg.force.isSome = true ∧ s.cfg.active = false) :=
  ⟨⟨{ up with cfg := { Cfg.reset with op := some (.erase, [], none) } }, (.erase, [], none), by decide⟩, by decide,
   ⟨{ started with cfg := { started.cfg with image1 := some { sane with seq := 1 }, lane := some sane } }, Image.blank,
    { sane with seq := 1 }, by decide +kernel⟩, by decide,
   ⟨{ started with cfg := { started.cfg with op := some (.erase, [], none) } }, by decide⟩⟩

/-- The entries of a factory calibration region: every channel of R459 once, offset 0 and gain 0. -/
def otpBody : List Byte :=
  [0, 0, 0, 0, 0, 0, 60, 0, 0, 0, 0, 0, 0, 0, 0, 0] ++
    otpChannels.flatMap (fun c => [BitVec.ofNat 8 c, 0, 0, 0, 0, 0, 0, 0])

/-- The region: the entries, zeros, the CRC-32 of both. -/
def otpGood : List Byte :=
  (otpBody ++ List.replicate (0xFFFC - 496) 0) ++ leBytes 4 (crc32 (otpBody ++ List.replicate (0xFFFC - 496) 0)).toNat

theorem leAt_append (a b : List Byte) (o n : Nat) (h : o + n ≤ a.length) : leAt (a ++ b) o n = leAt a o n := by
  unfold leAt
  rw [List.drop_append_of_le_length (by omega), List.take_append_of_le_length (by simp; omega)]

theorem ofLe_leBytes4 (w : Word) : ofLe (leBytes 4 w.toNat) = w.toNat := by
  have := w.isLt
  simp only [leBytes, ofLe, BitVec.toNat_ofNat]
  omega

theorem test_met_FirmwareAndLoader_otp : ({ Fuses.shipped with otp := otpGood } : Fuses).otpFault = none := by
  have hb : otpBody.length = 496 := by decide +kernel
  have hl : (otpBody ++ List.replicate (0xFFFC - 496) (0 : Byte)).length = 0xFFFC := by
    rw [List.length_append, hb, List.length_replicate]
  have h4 : ∀ n, (leBytes 4 n).length = 4 := fun n => rfl
  have h1 : otpGood.length = 65536 := by unfold otpGood; rw [List.length_append, hl, h4]
  have h2 : otpGood.take 0xFFFC = otpBody ++ List.replicate (0xFFFC - 496) 0 := List.take_left' hl
  have h3 : leAt otpGood 0xFFFC 4 = (crc32 (otpBody ++ List.replicate (0xFFFC - 496) 0)).toNat := by
    unfold leAt
    rw [show otpGood.drop 0xFFFC = leBytes 4 (crc32 (otpBody ++ List.replicate (0xFFFC - 496) 0)).toNat from List.drop_left' hl]
    rw [List.take_of_length_le (by rw [h4])]
    exact ofLe_leBytes4 _
  have h5 : otpGood = otpBody ++ (List.replicate (0xFFFC - 496) 0 ++
      leBytes 4 (crc32 (otpBody ++ List.replicate (0xFFFC - 496) 0)).toNat) := by
    unfold otpGood; rw [List.append_assoc]
  have h6 : ∀ o n, o + n ≤ 496 → leAt otpGood o n = leAt otpBody o n := fun o n h => by
    rw [h5]; exact leAt_append _ _ _ _ (by rw [hb]; exact h)
  have h7 : otpEntries otpGood = otpEntries otpBody := by
    unfold otpEntries
    rw [h6 6 2 (by decide)]
    apply List.map_congr_left
    intro i hi
    have hi' : i < 60 := by
      have := List.mem_range.mp hi
      have e : leAt otpBody 6 2 = 60 := by decide
      omega
    simp only []
    rw [h6 _ 2 (by omega), h6 _ 2 (by omega), h6 _ 4 (by omega)]
  unfold Fuses.otpFault
  simp only [h1, h2, h3, h7, h6 8 8 (by decide), ne_eq, not_true_eq_false, if_false]
  decide +kernel

/-! ### The sward -/

/-- A tussock of an entry, in RUN. -/
def k0 : Tus := { Tus.reset with st := .run, entry := 0 }
/-- The same with a descriptor at address 0. -/
def dsc (ws : List Nat) : Tus := { k0 with sram := k0.sram.writeBytes 0 (ws.flatMap (leBytes 4)) }
/-- It at place 512 of the mesh, in a row that keeps its bank 7. -/
def sw (k : Tus) : State := { up with swd := { up.swd with tus := upd up.swd.tus 512 (fun _ => k) } }
/-- An instruction of it. -/
def tj : TIns := ⟨512, 1, 2, 3, false, 0, []⟩
/-- Word `i` of its descriptor. -/
def dw (k : Tus) (i : Nat) : Word := ((sw k).ctx 0 tj).desc k i

theorem sw_tus (k : Tus) : (sw k).tus 512 = k := upd_getD_self _ _ _ _ (by decide +kernel)
theorem sw_runs (k : Tus) (h : k.st = .run) : (sw k).runs 512 := ⟨by decide, rfl, by rw [sw_tus]; exact h⟩
theorem plain_far (x : TIns) (k : Tus) (l : List (Nat × Nat)) (h : x.ev = []) (c : k.corrected ≤ 65535) (g : 512 ≤ x.tus) :
    plain x k l := ⟨h, c, fun _ _ => Or.inl g⟩
theorem sw_desc (k : Tus) (h : k.reg 2 = 0) : ((sw k).ctx 0 tj).descOk k :=
  ⟨by show (k.reg 2 + 0#32).toNat % 64 = 0; rw [h]; decide, by show (k.reg 2 + 0#32).toNat < 2 ^ 19; rw [h]; decide⟩

theorem test_met_SerialOrder : later 0 0xFFFFFFFF = true ∧ later 0x80000000 0 = false ∧ later 5 5 = false := by decide

theorem test_met_ScalarsAndMemory :
    (sw k0).runs 512 ∧ (tj.useImm = false ∧ (k0.reg 3).toNat < 32) ∧ 32 ≤ (BitVec.toNat (32 : Word)) ∧
    ((sw k0).tus 512).corrected ≤ 65535 ∧ (tj.ev = [] ∧ 512 ≤ tj.tus) ∧
    (∃ (s : State) (p : Nat), s.runs 0 ∧ p < 512 * 1024 ∧ 7 * 65536 ≤ p) ∧
    (∃ x : TIns, (sw k0).runs x.tus ∧ x.ev = [((k0.reg x.b + x.imm).toNat / 4 * 4 % 2 ^ 19, .double)] ∧ 512 ≤ x.tus) :=
  ⟨sw_runs _ rfl, by decide, by decide, by rw [sw_tus]; decide, by decide,
   ⟨{ up with swd := { up.swd with tus := [k0] } }, 7 * 65536, ⟨by decide, rfl, rfl⟩, by decide, by decide⟩,
   ⟨{ tj with ev := [(0, .double)] }, sw_runs _ rfl, by decide, by decide⟩⟩

theorem test_met_ControlAndHalts :
    (sw k0).runs 512 ∧ (k0.reg 2).toNat ≤ (k0.cnt.getD 0 0).toNat ∧
    (∃ k : Tus, k.st = .run ∧ (k.cnt.getD 0 0).toNat < (k.reg 2).toNat) ∧
    (∀ m ∈ (sw k0).swd.mesh, m.src = 512 → m.via ≠ .local_) ∧
    (∃ s : State, s.runs 0 ∧ ∃ m ∈ s.swd.mesh, m.src = 0 ∧ m.via = .local_) ∧
    (5 : Word).toNat % 8 ≤ 5 ∧ 5 < (6 : Word).toNat % 8 ∧ (up.tus 0).st ≠ .run ∧ State.reset.swd.powered = false :=
  ⟨sw_runs _ rfl, by decide, ⟨{ k0 with regs := [0, 0, 1] }, rfl, by decide⟩,
   fun m h => (List.not_mem_nil h).elim,
   ⟨{ up with swd := { up.swd with tus := [k0], mesh := [⟨⟨0, 1, 0, 0, false, 0, 0, 0, 0, []⟩, 0, 0, .local_, 0⟩] } },
    ⟨by decide, rfl, rfl⟩, by decide⟩, by decide, by decide, by decide, by decide⟩

/-- MMA of T2 by T2, one row and one column, K 32. -/
def mmaT2 : Tus := dsc [0, 0, 64, 128, 192, 256]
/-- MMA of BF16 by BF16. -/
def mmaBf : Tus := dsc [0x55, 0, 64, 128, 0, 0]

theorem test_met_MatricesAccumulate :
    ((sw mmaT2).runs 512 ∧ ((sw mmaT2).ctx 0 tj).descOk mmaT2 ∧ (∀ l, plain tj mmaT2 l) ∧
      (field (dw mmaT2 0) 3 0 = 0 ∧ field (dw mmaT2 0) 7 4 = 0 ∧ mmaShape .t2 .t2 = some (128, true) ∧
        field (dw mmaT2 1) 14 8 + 1 ≤ 128) ∧
      ∀ i ∈ [2, 3, 4, 5], (dw mmaT2 i).toNat % 64 = 0 ∧ (dw mmaT2 i).toNat < 2 ^ 19) ∧
    (NFmt.ofCode (field (dw mmaBf 0) 3 0) = some .bf16 ∧ NFmt.ofCode (field (dw mmaBf 0) 7 4) = some .bf16 ∧
      mmaShape .bf16 .bf16 = some (16, false)) ∧
    NFmt.ofCode (field (dw (dsc [8]) 0) 3 0) = none ∧
    (0 : Int) ≤ (127 : Int) + 127 - 254 - 0 ∧ (-(2 ^ 31) ≤ (1 : Int) * 2 ^ 31 - 1 ∧ (2 : Int) ^ 31 ≤ (2 ^ 31 - 1) + 1) ∧
    (∃ e : AccEntry, (decodeFloat .fp32 e.val.toNat = .fin false 1) ∧
      (decodeFloat .fp32 e.val.toNat).real + sumRat [(2 : Rat) * 3] ≠ 0) ∧
    (let k := dsc [5, 64]
     NFmt.ofCode (field (dw k 0) 3 0) = some .bf16 ∧ NFmt.bf16.scaled = false ∧ (dw k 1).toNat + (1 * 1 * 16 + 7) / 8 ≤ 2 ^ 19) :=
  ⟨⟨sw_runs _ rfl, sw_desc _ (by decide +kernel), fun _ => plain_far _ _ _ rfl (by decide) (by decide), by decide +kernel,
    by decide +kernel⟩, by decide +kernel, by decide +kernel, by decide, by decide,
   ⟨⟨0x3F800000, false, 0, true⟩, by decide +kernel, by decide +kernel⟩, by decide +kernel⟩

/-- A descriptor of the vector unit, one element of int32, or of fp32. -/
def vI : Tus := dsc [0x77, 0, 64, 128, 192, 256, 320]
def vF : Tus := dsc [0x66, 0, 64, 128, 192, 256, 320]

theorem test_met_VectorsRun :
    ((sw vI).runs 512 ∧ ((sw vI).ctx 0 tj).descOk vI ∧ (∀ l, plain tj vI l)) ∧
    (∃ v : Vec, vecOf (dw vI) = some v ∧ v.sr = false ∧ ([VOp.add, .sub, .mul, .fma, .div, .max_, .min_, .shl, .shr, .sar].all
      (fun o => o.fits v)) = true) ∧
    (∃ v : Vec, vecOf (dw vF) = some v ∧ v.sr = false ∧ ([VOp.add, .sqrt].all (fun o => o.fits v)) = true) ∧
    signed 32 0 = 0 ∧ (-(2 ^ 31) ≤ (2 : Int) ^ 31 - 1 ∧ (2 : Int) ^ 31 - 1 < 2 ^ 31) ∧ (-(2 ^ 31) - 1 : Int) < -(2 ^ 31) :=
  ⟨⟨sw_runs _ rfl, sw_desc _ (by decide +kernel), fun _ => plain_far _ _ _ rfl (by decide) (by decide)⟩,
   ⟨⟨.int32, .int32, false, false, false, 1, 64, 128, 192, 256, 320⟩, by decide +kernel⟩,
   ⟨⟨.fp32, .fp32, false, false, false, 1, 64, 128, 192, 256, 320⟩, by decide +kernel⟩, by decide, by decide, by decide⟩

theorem test_met_ConversionsAndTables :
    ((sw vF).runs 512 ∧ ((sw vF).ctx 0 tj).descOk vF ∧ ∀ l, plain tj vF l) ∧
    (∃ v : Vec, vecOf (dw vF) = some v ∧ v.src = .fp32 ∧ directFmt v.dst = true ∧ v.sr = false) ∧
    (NFmt.fp32.scaled = false ∧ [FVal.nan][0]? = some FVal.nan) ∧
    decodeFloat .fp32 0x80000000 = .fin true 0 ∧ decodeFloat .fp32 0x7F800000 = .inf false ∧
    decodeFloat .fp32 0xC3170000 = .fin true 151 ∧ decodeFloat .fp32 0x43010000 = .fin false 129 ∧
    decodeFloat .fp32 0x45800800 = .fin false 4097 :=
  ⟨⟨sw_runs _ rfl, sw_desc _ (by decide +kernel), fun _ => plain_far _ _ _ rfl (by decide) (by decide)⟩,
   ⟨⟨.fp32, .fp32, false, false, false, 1, 64, 128, 192, 256, 320⟩, by decide +kernel⟩, by decide, by decide +kernel,
   by decide +kernel, by decide +kernel, by decide +kernel, by decide +kernel⟩

theorem test_met_StreamsAndAtomics :
    ((sw k0).runs 512 ∧ ((sw k0).ctx 0 tj).descOk k0 ∧ (∀ l, plain tj k0 l) ∧ (dw k0 2).toNat % 32 = 0 ∧ (dw k0 2).toNat < 2 ^ 19 ∧
      k0.outStream (field (dw k0 1) 11 0) = some 0) ∧
    k0.outStream (field (dw (dsc [0, 0x1C0]) 1) 11 0) = none ∧
    (let k := dsc [64, 5, 128]
     (sw k).runs 512 ∧ (dw k 0).toNat < 2 ^ 19 ∧ (dw k 2).toNat < 2 ^ 19 ∧ (dw k 0).toNat / 4 * 4 ≠ (dw k 2).toNat / 4 * 4 ∧
      k.sram.wf = true) :=
  ⟨⟨sw_runs _ rfl, sw_desc _ (by decide +kernel), fun _ => plain_far _ _ _ rfl (by decide) (by decide), by decide +kernel⟩,
   by decide +kernel, sw_runs _ rfl, by decide +kernel⟩

/-- A WRITE flit of entry 0 to a tussock of row 0, column 1, and the state in which it waits at a router. -/
def wf : Flit := ⟨0, 1, 0, 0, false, 0, 0xFF, 3, 0, List.replicate 8 7⟩
/-- Three tussocks and a flit at column `c`. -/
def mesh (f : Flit) (c : Nat) (k : Tus) : State := { up with swd := { up.swd with
  tus := [Tus.reset, k, k], mesh := [⟨f, 0, c, .local_, 0⟩] } }

theorem test_met_FlitsMove :
    ((mesh wf 0 k0).swd.waiting 0 0 .local_ false = [⟨wf, 0, 0, .local_, 0⟩] ∧ wf.bad = none ∧ 0 < wf.dcol ∧
      ((mesh wf 0 k0).tus 1).closed = false ∧ ((mesh wf 0 k0).tus 1).stopped = false ∧
      ((mesh wf 0 k0).swd.waiting 0 1 .left false).length < 8) ∧
    (∃ s : State, (s.tus 1).stopped = false ∧ s.swd.waiting 0 1 .local_ false = [⟨{ wf with drow := 1 }, 0, 1, .local_, 0⟩] ∧
      ({ wf with drow := 1 } : Flit).bad = none ∧ (s.tus 33).closed = false ∧ (s.tus 33).stopped = false ∧
      (s.swd.waiting 1 1 .up false).length < 8) ∧
    (∃ s : State, s.swd.waiting 0 0 .local_ false = [⟨wf, 0, 0, .local_, 0⟩] ∧ (s.tus 1).closed = false ∧
      8 ≤ (s.swd.waiting 0 1 .left false).length) ∧
    ({ wf with op := 7 } : Flit).bad = some 1 ∧ ({ wf with op := 3 } : Flit).bad = some 2 ∧ ({ wf with drow := 20 } : Flit).bad = some 3 ∧
    ((mesh wf 1 k0).swd.waiting 0 1 .local_ false = [⟨wf, 0, 1, .local_, 0⟩] ∧ ((mesh wf 1 k0).tus 1) = k0 ∧ k0.stopped = false ∧
      k0.closed = false ∧ k0.retries = [] ∧ k0.admits 3 = true ∧ k0.corrected ≤ 65535 ∧ k0.sram.wf = true ∧
      ¬(bitOf (k0.bind_.getD 0 0) 12 = true ∧ field (k0.bind_.getD 0 0) 11 0 = 3)) ∧
    (∃ k : Tus, k.st = .halted ∧ k.stopped = false ∧ k.closed = false ∧ k.retries = []) ∧
    (∃ k : Tus, k.st = .run ∧ k.admits 3 = false ∧ k.rejectSeen = true) ∧
    (∃ s : State, (s.tus 1).closed = false ∧ (s.tus 1).stopped = false ∧ (s.tus 1).retries = [⟨wf, 63⟩] ∧ 1 < s.swd.tus.length) :=
  ⟨by decide, ⟨{ up with swd := { up.swd with tus := List.replicate 34 k0, mesh := [⟨{ wf with drow := 1 }, 0, 1, .local_, 0⟩] } },
    by decide +kernel⟩,
   ⟨{ up with swd := { up.swd with
      tus := [k0, k0], mesh := ⟨wf, 0, 0, .local_, 0⟩ :: List.replicate 8 ⟨wf, 0, 1, .left, 0⟩ } }, by decide +kernel⟩,
   by decide, by decide, by decide, by decide +kernel, ⟨{ k0 with st := .halted }, by decide⟩,
   ⟨{ k0 with entry := 1, rejectSeen := true }, by decide +kernel⟩,
   ⟨mesh wf 0 { k0 with retries := [⟨wf, 63⟩] }, by decide⟩⟩

theorem test_met_StepsAndSeeds :
    (((sw k0).tus 512).change = none ∧ ((sw k0).tus 512).st = .run ∧ max (max k0.requested up.swd.ceil) up.swd.gov = k0.granted) ∧
    (∃ k : Tus, k.st = .run ∧ k.change = none ∧ k.requested = 5 ∧ k.granted ≠ 5) ∧
    (∃ k : Tus, k.st = .run ∧ k.change = none ∧ k.clock < k.requested ∧ k.requested ≠ k.granted ∧ k.requested ≠ 5) ∧
    (∃ k : Tus, k.st = .run ∧ k.change = none ∧ k.requested ≤ k.clock ∧ k.requested ≠ k.granted) ∧
    (∃ k : Tus, k.change = some ⟨1, true, false, 0, .run⟩) ∧
    (∃ k : Tus, k.change = some ⟨1, false, true, 0, .run⟩ ∧ max (max k.requested 0) 0 = k.granted) ∧
    (up.inRst .planning = false ∧ up.swd.powered = true ∧ 10 * up.fld .swardPowerLimit < 10 ^ 9 ∧ up.swd.gov < 4 ∧
      up.swd.govRaised + 1000000 ≤ 10 ^ 6) ∧
    (∃ s : State, s.swd.govLow = some 0 ∧ 0 < s.swd.gov ∧ meanRat [(0 : Rat)] ≤ 10 * s.fld .swardPowerLimit ∧
      meanRat [(0 : Rat)] < 9 * (10 * s.fld .swardPowerLimit : Rat) / 10) ∧
    meanRat [(10 : Rat)] ≤ 10 ∧ (up.swd.shed = false ∧ field (4 : Word) 2 0 ≤ 4 ∧ 4 < field (5 : Word) 2 0) ∧
    State.reset.inRst .planning = true ∧
    (∃ s : State, s.tusAnswers 0 = true ∧ (s.tus 0).inRun = false) ∧ (∃ s : State, s.tusAnswers 0 = true ∧ (s.tus 0).inRun = true) :=
  ⟨⟨by rw [sw_tus]; rfl, by rw [sw_tus]; rfl, by decide⟩, ⟨{ k0 with requested := 5 }, by decide⟩,
   ⟨{ k0 with requested := 1 }, by decide⟩, ⟨{ k0 with clock := 1, granted := 1 }, by decide⟩,
   ⟨{ k0 with change := some ⟨1, true, false, 0, .run⟩ }, rfl⟩,
   ⟨{ k0 with change := some ⟨1, false, true, 0, .run⟩ }, rfl, by decide⟩, by decide +kernel,
   ⟨{ up with swd := { up.swd with govLow := some 0, gov := 1 } }, by decide +kernel⟩, by decide +kernel, by decide, by decide,
   ⟨{ up with swd := { up.swd with tus := [{ k0 with st := .idle }] } }, by decide +kernel⟩,
   ⟨{ up with swd := { up.swd with tus := [k0] } }, by decide +kernel⟩⟩

/-- A planner's entry in RUN. -/
def planning : State := { up with
  swd := { up.swd with running := true, entries := [⟨1, 1, 0, 0⟩], tus := [k0] }
  aon := { up.aon with mode := .fallow } }

theorem test_met_ClocksProgramsAndLanes :
    (0 < up.swd.tus.length ∧ up.swd.powered = true ∧ (up.tus 0).st = .reset ∧ (up.tus 0).st ≠ .failed ∧ (up.tus 0).st ≠ .gated) ∧
    (∃ s : State, (s.tus 0).st = .failed) ∧
    (∃ s : State, s.swd.loadOwed = true ∧ s.lexUp = true ∧ s.cfg.prog.isSome = true ∧ s.core.bringup = false ∧
      ((List.range 8).all (fun k => s.fldN .programsRole k == 0)) = true) ∧
    (∃ s : State, s.emit.markAt = some 5 ∧ s.swd.goOwed = true ∧ s.lexUp = true ∧ s.vot.formed = true ∧ s.swd.loadAt ≤ 5 ∧
      s.swd.sources = [] ∧ s.swd.tus = [{ k0 with st := .idle }]) ∧ up.swd.goOwed = false ∧
    (planning.inRst .planning = false ∧ planning.swd.shed = false ∧ planning.plannerRuns = true ∧ planning.aon.mode ≠ .held ∧
      max planning.emit.wroteAt (planning.dom .planning).release + planning.lfldN .plannerWatchdog * 10000000 ≤
        10 ^ 12 ∧
      (∃ s : State, s.plannerRuns = true ∧ s.now < max s.emit.wroteAt (s.dom .planning).release + s.lfldN .plannerWatchdog * 10000000)) ∧
    (∃ s : State, 0 < s.fes.count ∧ s.htl.sfLanes ≠ some (sfOf (s.rings.lanes.now (max s.now 0)))) ∧
    (∃ s : State, s.htl.sfLanes = some (sfOf (s.rings.lanes.now (max s.now 0)))) :=
  ⟨by decide +kernel, ⟨{ up with swd := { up.swd with tus := [{ k0 with st := .failed }] } }, by decide⟩,
   ⟨{ started with swd := { started.swd with loadOwed := true } }, by decide⟩,
   ⟨{ formed with emit := { formed.emit with markAt := some 5 }
                  swd := { formed.swd with goOwed := true, tus := [{ k0 with st := .idle }] } }, by decide⟩, by decide,
   ⟨by decide, by decide, by decide, by decide, by decide,
    ⟨{ planning with emit := { planning.emit with wroteAt := 1 } }, by decide⟩⟩,
   ⟨{ up with fes := { up.fes with count := 1 } }, by decide⟩,
   ⟨{ up with htl := { up.htl with sfLanes := some (sfOf (up.rings.lanes.now (max up.now 0))) } }, by decide⟩⟩

/-- A flit of a service at the port below column 0. -/
def offered (stream : Nat) (half : Bool) (ws : List Word) : State := { up with swd := { up.swd with
  running := true, tus := [k0], mesh := [⟨⟨30, 0, 0, 0, half, 0, 0xFF, stream, 9, ws⟩, 30, 0, .local_, 0⟩] } }
/-- The flit. -/
def served (stream : Nat) (half : Bool) (ws : List Word) : Moving := ⟨⟨30, 0, 0, 0, half, 0, 0xFF, stream, 9, ws⟩, 30, 0, .local_, 0⟩

theorem offers_met (stream : Nat) (half : Bool) (ws : List Word) :
    (offered stream half ws).offers false 0 stream (served stream half ws) :=
  ⟨(by decide : up.inRst .planning = false), by
    simp only [offered, served, Swd.waiting, Bool.false_eq_true, if_false]
    simp [Flit.reply]⟩

/-- A descriptor that moves one line of tussock 0 to the sward's memory, of its own area. -/
def dmaWs : List Word := [0, 16, 0x8000, 0, 0, 0, 0, 0]
/-- An area of entry 0. -/
def area : Area := ⟨0, 0, [], 0, 64 * gib, 64, true, false, 0, false⟩

theorem test_met_ServicesAndDma :
    (offered 0xF00 false []).swd.emitHalf = none ∧
    (∃ (s : State) (g : Flit), s.offers false 0 0xF00 (served 0xF00 true []) ∧ s.swd.emitHalf = some g ∧ g.tag = 9 ∧
      s.vot.formed = true ∧ s.emit.written = none) ∧
    (∃ (s : State) (g : Flit), s.offers false 0 0xF00 (served 0xF00 true []) ∧ s.swd.emitHalf = some g ∧ g.tag ≠ 9) ∧
    (∃ (s : State), s.offers false 0 0xF06 (served 0xF06 true []) ∧ s.swd.summary.length < 1600) ∧
    (∃ (s : State), s.offers false 0 0xF06 (served 0xF06 true []) ∧ 1600 ≤ s.swd.summary.length) ∧
    (∃ (s : State), s.offers false 0 0xF09 (served 0xF09 true []) ∧ s.swd.reportSecond = (s.at_ 0).opMs / 1000 ∧
      lookupD s.swd.reports (s.tus 0).entry 0 < 1000) ∧
    (∃ (s : State), s.offers false 0 0xF09 (served 0xF09 true []) ∧ s.swd.reportSecond = (s.at_ 0).opMs / 1000 ∧
      1000 ≤ lookupD s.swd.reports (s.tus 0).entry 0) ∧
    (offered 0xF08 false []).offers false 0 0xF08 (served 0xF08 false []) ∧
    (planning.inRst .planning = false ∧ planning.swd.running = true ∧ up.swd.running = false) ∧
    (∃ s : State, s.offers false 0 0xF10 (served 0xF10 false dmaWs) ∧ s.swd.dma = [] ∧
      (s.took 0 (served 0xF10 false dmaWs)).dmaOk ⟨0, dmaWs⟩ = true) ∧
    ((offered 0xF10 false dmaWs).offers false 0 0xF10 (served 0xF10 false dmaWs) ∧
      ((offered 0xF10 false dmaWs).took 0 (served 0xF10 false dmaWs)).dmaOk ⟨0, dmaWs⟩ = false) ∧
    (∃ s : State, 64 ≤ (s.swd.dma.filter (fun d => d.entry == 0)).length) ∧
    (∃ s : State, s.inRst .planning = false ∧ s.swd.dma.find? (fun d => d.entry == 0) = some ⟨0, dmaWs⟩ ∧
      (⟨0, dmaWs⟩ : Dma).out = true ∧ 64 * gib ≤ (⟨0, dmaWs⟩ : Dma).addr ∧ s.swm.wf = true) :=
  ⟨by decide,
   ⟨{ offered 0xF00 true [] with swd := { (offered 0xF00 true []).swd with emitHalf := some ⟨30, 0, 0, 0, false, 0, 0xFF, 0xF00, 9, []⟩ }
                                 vot := formed.vot }, _, ⟨by decide, by decide⟩, rfl, rfl, by decide, by decide⟩,
   ⟨{ offered 0xF00 true [] with swd := { (offered 0xF00 true []).swd with emitHalf := some ⟨30, 0, 0, 0, false, 0, 0xFF, 0xF00, 8, []⟩ } },
    _, ⟨by decide, by decide⟩, rfl, by decide⟩,
   ⟨offered 0xF06 true [], offers_met _ _ _, by decide⟩,
   ⟨{ offered 0xF06 true [] with swd := { (offered 0xF06 true []).swd with summary := List.replicate 1600 0 } },
    ⟨by decide, by decide⟩, by decide +kernel⟩,
   ⟨offered 0xF09 true [], offers_met _ _ _, by decide, by decide⟩,
   ⟨{ offered 0xF09 true [] with swd := { (offered 0xF09 true []).swd with reports := [(0, 1000)] } },
    ⟨by decide, by decide⟩, by decide, by decide⟩,
   offers_met _ _ _, by decide,
   ⟨{ offered 0xF10 false dmaWs with swd := { (offered 0xF10 false dmaWs).swd with areas := [area] } },
    ⟨by decide, by decide⟩, by decide, by decide⟩,
   ⟨offers_met _ _ _, by decide⟩,
   ⟨{ up with swd := { up.swd with dma := List.replicate 64 ⟨0, dmaWs⟩ } }, by decide⟩,
   ⟨{ up with swd := { up.swd with dma := [⟨0, dmaWs⟩] } }, by decide⟩⟩

theorem test_met_LexiconWorks :
    (up.inRst .planning = false ∧ up.swd.shed = false ∧ up.lex.op = none ∧ State.reset.inRst .planning = true) ∧
    (∃ s : State, s.inRst .planning = false ∧ s.swd.shed = false ∧ s.lex.op = some (1, 0) ∧ s.lexUp = true ∧ s.lex.ready = false) ∧
    (∃ s : State, s.lexUp = true ∧ s.lex.op = some (1, 0) ∧ s.lex.ready = true ∧ s.lex.slotOf s.lex.key.toNat = none) ∧
    (∃ s : State, s.lexUp = true ∧ s.lex.op = some (1, 0) ∧ s.lex.ready = true ∧ s.lex.checking = false ∧
      s.lex.slotOf s.lex.key.toNat = some 300 ∧ s.lex.lines.find? (fun p => p.2 == 300) = some (4, 300)) ∧
    (started.cfg.prog.isSome = true ∧ started.lexUp = true ∧ started.lex.priorsLoaded = false) ∧
    (∃ s : State, s.lexUp = true ∧ s.lex.checking = true ∧ s.lex.index = [] ) ∧
    (∃ s : State, s.lexUp = true ∧ s.lex.checking = true ∧ s.lex.index = [(300, 9)] ∧ lemN s.swm 300 0x3C 4 ≠ lemCrc s.swm 300) ∧
    ((offered 0xF05 false [1]).offers false 0 0xF05 (served 0xF05 false [1]) ∧ (offered 0xF05 false [1]).lex.ready = false ∧
      1 ≤ field ((served 0xF05 false [1]).flit.w 0) 3 0 ∧ field ((served 0xF05 false [1]).flit.w 0) 3 0 ≤ 5) ∧
    (offered 0xF04 false []).offers false 0 0xF04 (served 0xF04 false []) :=
  ⟨by decide, ⟨{ up with lex := { up.lex with op := some (1, 0) } }, by decide⟩,
   ⟨{ up with lex := { up.lex with op := some (1, 0), ready := true } }, by decide⟩,
   ⟨{ up with lex := { up.lex with op := some (1, 0), ready := true, index := [(300, 0)], lines := [(4, 300)] } }, by decide⟩,
   by decide, ⟨{ up with lex := { up.lex with checking := true } }, by decide⟩,
   ⟨{ up with lex := { up.lex with checking := true, index := [(300, 9)] } }, by decide +kernel⟩,
   ⟨offers_met _ _ _, by decide⟩, offers_met _ _ _⟩

/-- Clause `c` accepted, at the front. -/
def heard (c : Clause) : State := { up with frz := { up.frz with accepted := [⟨0, 5, c⟩] } }
/-- It is heard. -/
theorem hears_met (c : Clause) : (heard c).hears ⟨0, 5, c⟩ [] := ⟨(by decide : up.inRst .fabric = false), (by decide : Chan.clauseUp ∉ up.closed), rfl⟩

/-- A partner that is enrolled in group 7. -/
def pa : Partner := { state := .active, back := .free, token := 1, nonce := 2, group := 7, caps := 0, mcs := 0, epoch := 0
                      up := [1], down := [2], old := none, enrolKey := [], ephemeral := [], high := 0, seen := [], txSeq := 0
                      grants := [], snrs := [], raiseRun := 0, failRun := 0, missRun := 0, silentAt := 0, epochAt := 0, heldAt := 0
                      joinSf := 0, parts := [], rekeying := false, awaiting := [], waitFor := [], leaveAt := none, tagFails := (0, 0) }

theorem test_met_PairsAndHistory :
    (∃ s : State, s.hears ⟨0, 5, cl⟩ [] ∧ cl.verb = 0x01 ∧ s.lexUp = true ∧ tenseOf cl ≠ 2 ∧
      0 < ((s.part cl.subject).map Partner.group).getD 0) ∧
    ((heard { cl with verb := 0x02 }).hears ⟨0, 5, { cl with verb := 0x02 }⟩ []) ∧
    (∃ (s : State) (p : LPair), s.lexUp = true ∧ s.lex.pairs.find? (fun p => p.job == 1 && p.group == 7) = some p ∧
      p.lastAt + s.fldN .lexiconIdleTime * 10000000 ≤ max s.now (10 ^ 15) ∧
      max s.now 0 < p.lastAt + s.fldN .lexiconIdleTime * 10000000) ∧
    (∃ s : State, s.lexUp = true ∧ s.vot.formed = true ∧ 0 < (s.at_ 0).swardRing / 8000 ∧ s.lex.bseq = 0 ∧ s.swm.wf = true) ∧
    (∃ s : State, s.lexUp = true ∧ s.lex.bseq ≠ 0 ∧ ((s.at_ 0).swardRing / 8000 - 1) * 8000 ≤ s.lex.histNew) ∧
    (∃ s : State, s.inRst .mgmt = false ∧ s.core.bringup = false ∧ s.lex.decNew = none ∧
      0 < s.rings.mgmt.now (max s.now 0) / 16000000) :=
  ⟨⟨{ heard cl with frz := { (heard cl).frz with parts := [(5, pa)] } }, ⟨by decide, by decide, rfl⟩, by decide⟩, hears_met _,
   ⟨{ up with lex := { up.lex with pairs := [⟨1, 7, [], 0, 0, 1, none, []⟩] } }, _, by decide, rfl, by decide⟩,
   ⟨{ formed with now := 10 ^ 9 }, by decide⟩,
   ⟨{ up with lex := { up.lex with bseq := 1 } }, by decide⟩, ⟨{ up with now := 10 ^ 9 }, by decide⟩⟩

/-- Words written from the layout of R312: ADD of register 2 and IMM 5 into 1, SUB of 2 and 3 into 1, JUMP to 7, MMA, CVT and SEND with
their descriptor at register 2; class 5 and OP 9 of CONTROL spell nothing. -/
theorem test_tussock_words :
    tusIns 9 512 [] 0x0800880000000005 = some (.scalarAdd 9 ⟨512, 1, 2, 0, true, 5, []⟩) ∧
    tusIns 9 512 [] 0x0010886000000000 = some (.scalarSub 9 ⟨512, 1, 2, 3, false, 0, []⟩) ∧
    tusIns 9 512 [] 0x1010000000000007 = some (.jump 9 ⟨512, 0, 0, 0, false, 7, []⟩) ∧
    tusIns 9 512 [] 0x2000080000000000 = some (.mma 9 ⟨512, 0, 2, 0, false, 0, []⟩) ∧
    tusIns 9 512 [] 0x3080080000000000 = some (.cvt 9 ⟨512, 0, 2, 0, false, 0, []⟩) ∧
    tusIns 9 512 [] 0x4000080000000000 = some (.send 9 ⟨512, 0, 2, 0, false, 0, []⟩) ∧
    tusIns 9 512 [] 0x5000000000000000 = none ∧ tusIns 9 512 [] 0x1090000000000000 = none := by
  refine ⟨rfl, rfl, rfl, rfl, rfl, rfl, rfl, rfl⟩

/-- The third instruction of a program region at 0x100, a HALT. -/
theorem test_next_instruction :
    let k := { k0 with program := 0x100, pc := 2, sram := k0.sram.writeBytes 0x110 [0, 0, 0, 0, 0, 0, 0x80, 0x10] }
    (sw k).nextIns 9 512 [] = some (.halt 9 ⟨512, 0, 0, 0, false, 0, []⟩) := by decide +kernel

/-! ### Furze -/

/-- A HELLO of a stranger in superframe 0. -/
def hello : Clause := { cl with subject := 255, verb := 0x0A, form := 24 }
/-- A clause with the tag that key [1] gives it. -/
def sgn (c : Clause) : Clause := { c with tag := (Config.cmac [1] (clauseBody c)).take 4 }

theorem sgn_ok (c : Clause) : tagOk [1] (sgn c) = true := beq_self_eq_true _
/-- A tag of five bytes is no tag. -/
theorem long_tag (k : List Byte) (c : Clause) : tagOk k { c with tag := [0, 0, 0, 0, 0] } = false := by
  unfold tagOk
  rw [beq_eq_false_iff_ne]
  intro h
  have := congrArg List.length h
  simp at this
  omega

theorem test_met_ClausesAreJudged :
    (up.inRst .htlFrz = false ∧ up.slotHolder 0 0 = none) ∧ formOk { cl with verb := 0 } = false ∧
    (formOk { cl with subject := 255 } = true ∧ formOk cl = true ∧ cl.subject ≠ 255 ∧ up.part cl.subject = none) ∧
    (∃ s : State, s.part 5 = some pa ∧ pLive pa = true ∧ formOk cl = true ∧ s.rxKey { pa with epoch := 1 } cl 0 = none ∧
      s.rxKey pa cl 0 = some ([1], 0, [], false)) ∧
    tagOk [1] { cl with tag := [0, 0, 0, 0, 0] } = false ∧
    (tagOk [1] (sgn cl) = true ∧ formOk (sgn cl) = true ∧ staleAt (sgn cl) 0 = false ∧ ((sgn cl).seq, (sgn cl).tag) ∉ pa.seen ∧
      seqFresh 0 [] (sgn cl).seq = true) ∧
    (up.clauseVerdict hello 0 = 0 ∧ up.frz.accepted.length < 512) :=
  ⟨by decide, by decide, by decide, ⟨{ up with frz := { up.frz with parts := [(5, pa)] } }, by decide⟩, long_tag _ _,
   ⟨sgn_ok _, by decide, by decide, fun h => (List.not_mem_nil h).elim, by decide⟩, by decide⟩

/-- An ACK of action 1 at stage 0x24. -/
def ackCl : Clause := { cl with verb := 0x05, object := [0, 0, 0x24, 0, 0, 0, 0, 1, 0, 0, 0, 0, 0, 0, 0, 0] }

theorem test_met_ClausesAct :
    (∃ s : State, s.hears ⟨0, 5, { cl with verb := 0x03 }⟩ [] ∧ (s.cpart 5).vf.length = 16) ∧
    (heard { cl with verb := 0x04 }).hears ⟨0, 5, { cl with verb := 0x04 }⟩ [] ∧
    ((heard { cl with verb := 0x02 }).hears ⟨0, 5, { cl with verb := 0x02 }⟩ [] ∧ tenseOf { cl with verb := 0x02 } ≠ 2) ∧
    (∃ (s : State) (g : CGroup) (r : CRound), s.hears ⟨0, 5, ackCl⟩ [] ∧ objN ackCl 2 1 = 0x24 ∧ objN ackCl 8 1 = 0 ∧
      s.group (s.cpart 5).job = some g ∧ g.round = some r ∧ r.act.num = objN ackCl 4 4) ∧
    ((heard hello).hears ⟨0, 5, hello⟩ [] ∧ (heard hello).frz.strangers.length < 64) ∧
    (∃ s : State, s.hears ⟨0, 5, { cl with verb := 0x09 }⟩ [] ∧ s.part 5 = some pa) :=
  ⟨⟨heard { cl with verb := 0x03 }, hears_met _, by decide⟩, hears_met _, ⟨hears_met _, by decide⟩,
   ⟨{ heard ackCl with ccd := { up.ccd with groups := [{ CGroup.new 0 with round := some ⟨⟨1, 0, 0, 0, false⟩, 0, 0, 0, 0⟩ }] } },
    _, _, ⟨by decide, by decide, rfl⟩, by decide, by decide, rfl, rfl, by decide⟩, ⟨hears_met _, by decide⟩,
   ⟨{ heard { cl with verb := 0x09 } with frz := { (heard { cl with verb := 0x09 }).frz with parts := [(5, pa)] } },
    ⟨by decide, by decide, rfl⟩, by decide⟩⟩

/-- A JOIN of group 7 under enrolment key [1]. -/
def joinCl : Clause := sgn { cl with subject := 255, verb := 0x06, form := 216, object := [0, 0, 0, 0, 0, 0, 0, 9, 0, 0, 0, 1, 0, 7, 0, 0] }
/-- The speaker hears it. -/
def joining : State :=
  let s := started
  { s with frz := { s.frz with accepted := [⟨0, 5, joinCl⟩], speaking := true }
           nv := { s.nv with trust := { s.nv.trust with enrol := [[1]] } } }
/-- A first KEYX part of an enrolment. -/
def keyxCl (n : Nat) : Clause := { cl with verb := 0x07, object := BitVec.ofNat 8 n :: List.replicate 15 0 }
/-- The speaker hears it, with partner `p` in the table. -/
def keyxing (n : Nat) (p : Partner) : State := { up with frz := { up.frz with
  accepted := [⟨0, 5, keyxCl n⟩], speaking := true, parts := [(5, p)] } }
/-- With partner 5 in the table of the speaker. -/
def table (p : Partner) : State := { up with frz := { up.frz with speaking := true, parts := [(5, p)] } }

theorem test_met_EnrolmentsRun :
    ((heard { cl with verb := 0x06 }).hears ⟨0, 5, { cl with verb := 0x06 }⟩ [] ∧
      (heard { cl with verb := 0x06 }).frz.speaking = false ∧ (heard { cl with verb := 0x06 }).frz.parts = []) ∧
    (joining.hears ⟨0, 5, joinCl⟩ [] ∧ joinCl.verb = 0x06 ∧ joining.frz.speaking = true ∧ joining.enrolOpen = true ∧
      objN joinCl 12 2 = 7 ∧ joining.tokenRefused (objN joinCl 0 8) = false ∧ joining.assignId (objN joinCl 0 8) = some 1 ∧
      joining.enrolSlot = some 35 ∧ joining.nv.trust.enrol.find? (fun k => tagOk k joinCl) = some [1]) ∧
    (∃ (s : State), (∀ p ∈ s.frz.parts, p.2.state = .heldId → p.2.token ≠ 9) ∧ s.part 2 = none ∧ (s.part 1).isSome = true) ∧
    ((keyxing 0 { pa with state := .enrolling, up := [] }).hears ⟨0, 5, keyxCl 0⟩ [] ∧ enrolKeyx (keyxCl 0) = true ∧
      (insertKey ([] : List (Nat × List Byte)) (objN (keyxCl 0) 0 1 % 4) ((keyxCl 0).object.drop 1)).lookup 1 = none) ∧
    (∃ p : Partner, (keyxing 2 p).hears ⟨0, 5, keyxCl 2⟩ [] ∧ (keyxing 2 p).part 5 = some p ∧ p.state = .enrolling ∧ p.up = [] ∧
      p.parts.lookup 0 = some [4] ∧ p.parts.lookup 1 = some [5] ∧
      (insertKey p.parts (objN (keyxCl 2) 0 1 % 4) ((keyxCl 2).object.drop 1)).lookup 2 = some (List.replicate 15 0)) ∧
    (∃ t : Time, (started.rfldN .furzeEnrolTimeout : Int) ≤ diff32 (({ started with now := t }).at_ 0).furzeSf 0) ∧
    (∃ s : State, s.part 5 = some { pa with state := .enrolling, back := .heldId } ∧ s.inRst .htlFrz = false) ∧
    (diff32 (up.at_ 0).furzeSf 0 < (up.rfldN .furzeEnrolTimeout : Int) ∧ (table { pa with state := .enrolling }).part 5 = some { pa with state := .enrolling }) ∧
    ((table { pa with state := .silent }).part 5 = some { pa with state := .silent } ∧ 0 + up.rfldN .furzeLapse * 1000000000 ≤ 10 ^ 18) ∧
    ((table { pa with state := .heldId }).part 5 = some { pa with state := .heldId } ∧ 0 + up.rfldN .furzeIdHold * 1000000000 ≤ 10 ^ 18 ∧
      max up.now 0 < 1 + up.rfldN .furzeIdHold * 1000000000) ∧
    ((table { pa with high := 0xF000 }).part 5 = some { pa with high := 0xF000 } ∧ pa.rekeying = false ∧ pa.state = .active) ∧
    (∃ t : Time, (up.rfldN .furzeEpochGrace : Int) < diff32 (({ up with now := t }).at_ 0).furzeSf 0) :=
  ⟨⟨hears_met _, by decide, by decide⟩,
   ⟨⟨by decide, by decide, rfl⟩, rfl, rfl, by decide, by decide, by decide, by decide, by decide, by
     show List.find? _ [[1]] = _
     simp only [List.find?, joinCl, sgn_ok]⟩,
   ⟨{ up with frz := { up.frz with parts := [(1, pa)] } }, by decide⟩,
   ⟨⟨by decide, by decide, rfl⟩, by decide⟩,
   ⟨{ pa with state := .enrolling, up := [], parts := [(0, [4]), (1, [5])] }, ⟨by decide, by decide, rfl⟩, by decide⟩,
   ⟨10 ^ 9, by decide⟩, ⟨table { pa with state := .enrolling, back := .heldId }, by decide⟩, by decide, by decide, by decide, by decide,
   ⟨10 ^ 12, by decide⟩⟩

/-- A speaker and a START_REQ of PEAK `n`, in mode `m`. -/
def startCl (n : Nat) : Clause := { cl with verb := 0x08, object := [0, 0, 0] ++ beBytes 2 n ++ [0, 10] ++ List.replicate 9 0 }
/-- It is heard by the speaker in a mode. -/
def startReq (n : Nat) (m : Mode) : State := { up with
  frz := { up.frz with accepted := [⟨0, 5, startCl n⟩], speaking := true }
  aon := { up.aon with mode := m } }

theorem test_met_SpeakerAndStarts :
    (∃ s : State, s.inRst .htlFrz = false ∧ s.core.bringup = false ∧ s.inForce = true ∧ s.aon.locks.getLsbD 8 = true ∧
      s.frz.elect = [] ∧ s.frz.speaker = none ∧ s.frz.speaking = false ∧ s.frz.yielding = false ∧
      s.frz.electSf ≠ some (s.at_ 0).furzeSf ∧ s.frz.parts = []) ∧
    (up.lfldN .topologySegment = 0 ∧ up.member ≠ 3) ∧
    (∃ (s : State), s.inRst .htlFrz = false ∧ s.frz.sf ≠ some (s.at_ 0).furzeSf ∧ s.frz.speaking = true ∧
      0 ≤ diff32 (s.at_ 0).furzeSf s.frz.speakFrom ∧ (s.at_ 0).furzeSf % 64 ≠ s.member ∧ s.ids.kbc = some [1]) ∧
    (∃ s : State, s.frz.sf = some (s.at_ 0).furzeSf) ∧
    ((startReq 2001 .fallow).hears ⟨0, 5, startCl 2001⟩ [] ∧ (startReq 2001 .fallow).inrush < objN (startCl 2001) 3 2) ∧
    ((startReq 2000 .fallow).hears ⟨0, 5, startCl 2000⟩ [] ∧ objN (startCl 2000) 3 2 ≤ (startReq 2000 .fallow).inrush ∧
      (startReq 2000 .fallow).admitOpen = true ∧
      ((startReq 2000 .fallow).findStart [] ⟨5, 0, 2000, 10, 0, 0, 0, none, false, false⟩) = (2, some 2)) ∧
    (startReq 2000 .held).admitOpen = false :=
  ⟨⟨{ started with aon := { started.aon with locks := 0x1FF } }, by decide⟩, by decide,
   ⟨{ up with now := 10 ^ 8, frz := { up.frz with speaking := true }, ids := { up.ids with kbc := some [1] } }, by decide⟩,
   ⟨{ up with frz := { up.frz with sf := some (up.at_ 0).furzeSf } }, by decide⟩, ⟨⟨by decide, by decide, rfl⟩, by decide⟩,
   ⟨⟨by decide, by decide, rfl⟩, by decide⟩, by decide⟩

/-! ### Concord and Heathline -/

/-- One local group. -/
def grouped (g : CGroup) : State := { up with ccd := { up.ccd with groups := [g] } }

theorem test_met_ConcordDecides :
    (up.inRst .htlFrz = false ∧ rq.emergency = false ∧ up.group dq.tag = none) ∧
    ((grouped (CGroup.new 1)).inRst .htlFrz = false ∧ (grouped (CGroup.new 1)).group dq.tag = some (CGroup.new 1) ∧ dq.op = 1) ∧
    up.inRst .fabric = false ∧
    (∃ s : State, (s.cpart 5).matched = some (3, some 0) ∧ s.inRst .fabric = false ∧
      0 + s.rfldN .concordMatchHold * 1000000000 ≤ max s.now (10 ^ 18)) ∧
    (∃ s : State, (s.cpart 5).matched = some (3, some 1) ∧ max s.now 0 < 1 + s.rfldN .concordMatchHold * 1000000000) ∧
    ((CGroup.new 1).urgent = none ∧ (CGroup.new 1).round = none ∧
      ∃ g : CGroup, g.urgent = none ∧ g.round = none ∧ g.commits = [⟨Action.none_, 0, 0, 5, 0⟩] ∧ (grouped g).ringTime < 5) :=
  ⟨by decide, by decide, by decide,
   ⟨{ up with ccd := { up.ccd with parts := [{ CPart.new 5 with matched := some (3, some 0) }] } }, by decide⟩,
   ⟨{ up with ccd := { up.ccd with parts := [{ CPart.new 5 with matched := some (3, some 1) }] } }, by decide⟩,
   by decide, by decide, ⟨{ CGroup.new 1 with commits := [⟨Action.none_, 0, 0, 5, 0⟩] }, by decide +kernel⟩⟩

/-- A domain of two members, of which this is member 0, and its ports. -/
def two : Image := { Image.blank with vals := [((.topologyMembers, 0), 2)] }
/-- Its ports: the first as given. -/
def linked (q : HPort) : State :=
  let s := started
  { s with cfg := { s.cfg with force := some two, lane := some two, row := some two }
           htl := { s.htl with ports := [q, HPort.reset, HPort.reset, HPort.reset] } }
/-- A port in a state. -/
def inState (x : PortState) : HPort := { HPort.reset with state := x }

theorem test_met_LinksComeAndGo :
    ((linked HPort.reset).htlUp = true ∧ Port.e.num < (linked HPort.reset).htl.ports.length ∧
      ((linked HPort.reset).port .e).state = .absent ∧ ((linked HPort.reset).shape.wire (linked HPort.reset).member .e).isSome = true) ∧
    ((linked (inState .training)).htlUp = true ∧ ((linked (inState .training)).port .e).state = .training) ∧
    (let s := linked (inState .checking)
     s.htlUp = true ∧ (s.port .e).state = .checking ∧ s.shape.wire s.member .e = some (1, .w) ∧ s.lfldN .topologyDomainId = 0 ∧
      s.shape.code = 0) ∧
    (∃ s : State, s.htlUp = true ∧ s.idsOk = true ∧ (s.port .e).state = .checking ∧ (s.port .e).checked = true) ∧
    (let s := linked { inState .up with rekeying := true }
     s.htlUp = true ∧ (s.port .e).state = .up ∧ (s.port .e).rekeying = true ∧ (s.port .e).inUse = false ∧
      (s.port .e).since + s.rfldN .heathlineRejoinHold * 10000000 ≤ max s.now (10 ^ 12) ∧
      max s.now 0 < 1 + s.rfldN .heathlineRejoinHold * 10000000) ∧
    (let s := linked (inState .refused)
     (s.port .e).state = .refused ∧ (s.port .e).since + 10000000000 ≤ max s.now 10000000000 ∧
      max s.now 9999999999 < (s.port .e).since + 10000000000) ∧
    ((linked (inState .test)).port .e).state = .test ∧
    (let s := linked (inState .stalled)
     (s.port .e).state = .stalled ∧ (s.port .e).since + 9998000 ≤ max s.now 9998000 ∧ max s.now 9997999 < (s.port .e).since + 9998000 ∧
      (s.port .e).state ≠ .absent ∧ (s.port .e).state ≠ .down) ∧
    (∃ s : State, s.htlUp = true ∧ (s.port .e).state = .down ∧ s.portFitted .e = true ∧ Port.e.num < s.htl.ports.length) :=
  ⟨by decide, by decide, by decide,
   ⟨{ linked { inState .checking with checked := true } with ids := { started.ids with ready := true } }, by decide⟩, by decide, by decide,
   by decide, by decide,
   ⟨(linked (inState .down)).setFitted .e true, by decide⟩⟩

/-- With port E up towards a parent. -/
def parented (sync : Bool) : State := { linked { inState .up with inUse := true } with
  htl := { (linked { inState .up with inUse := true }).htl with parent := some .e, sync := sync } }

theorem test_met_RingTimeFollowsParent :
    ((parented true).htlUp = true ∧ ((parented true).port .e).state = .up ∧ (parented true).htl.parent = some .e ∧
      ((parented true).parentPorts ((parented true).htl.master.getD (parented true).member)).all (fun r => 0 + 1 ≤ r.2) = true) ∧
    (∃ s : State, s.htlUp = true ∧ (s.port .e).state = .up ∧ s.htl.parent ≠ some .e) ∧
    (roundEven (-3) < 0 ∧ 0 ≤ roundEven 3 ∧ -2 ≤ (1 : Rat) ∧ (5 : Rat) > 4) ∧
    ((parented true).htl.timeAt + 5000 ≤ max (parented true).now 5000 ∧ max (parented true).now 4999 < (parented true).htl.timeAt + 5000 ∧
      (parented true).htl.sync = true ∧ (parented false).htl.sync = false) ∧
    ((parented true).htl.ports.length = 4 ∧ ∀ p ∈ Port.all, (([] : List (Nat × Nat)).getD p.num (0, 0)).2 = 0 ∧
      ((parented true).port p).tagErrs = [] ∧ ((parented true).port p).uncErrs = []) ∧
    16 < (([(0, 17)] : List (Nat × Nat)).getD Port.e.num (0, 0)).2 :=
  ⟨by decide, ⟨linked (inState .up), by decide⟩, by decide +kernel, by decide, by decide, by decide⟩

/-- A message of one cell for this member. -/
def one : Cell := { ce with src := 1, dst := 0, hops := 0, flags := flagLast, payload := [2] }

theorem test_met_CellsForwarded :
    ((parented true).htlUp = true ∧ ((parented true).port .e).state = .up ∧ 1 ≤ one.cls ∧ one.cls ≤ 5 ∧
      ((parented true).port .e).uncErrs = [] ∧ ((parented true).port .e).tagErrs.length < 16) ∧
    (∃ s : State, s.htlUp = true ∧ (s.port .e).state = .up ∧ (s.port .e).uncErrs = [] ∧ 16 ≤ (s.port .e).tagErrs.length ∧
      ∀ x ∈ (s.port .e).tagErrs, max s.now 0 < x + 1000000) ∧
    ((parented true).at_ 0).staleCell { one with sf := 60000 } = true ∧
    (((parented true).at_ 0).staleCell one = false ∧ (parented true).columns .e one = [] ∧ (parented true).addressed one = true ∧
      (parented true).core.bringup = false ∧ one.cls = 1 ∧ one.service = 1 ∧ one.cell = 0 ∧ hasFlag one flagLast = true ∧
      ofBe (one.payload.take 1) = 0x02 ∧ (parented true).htl.parts = [] ∧ (parented true).htl.seen = []) ∧
    (let c := { one with dst := 3, src := 2 }
     (parented true).addressed c = false ∧ c.hops = 0 ∧ ((parented true).at_ 0).staleCell c = false) ∧
    (∃ (s : State) (c : Cell), s.addressed c = false ∧ 0 < c.hops ∧ (s.forwards .w c).length = 1 ∧
      (∀ o ∈ s.forwards .w c, (s.port o.1).state = .up ∧ (s.port o.1).inUse = true) ∧ s.htlUp = true ∧ (s.port .w).state = .up ∧
      (s.at_ 0).staleCell c = false ∧ s.columns .w c = []) ∧
    (∃ s : State, s.addressed one = true ∧ s.core.bringup = true ∧ s.htl.queue.length < 256 ∧ s.htlUp = true ∧ (s.port .e).state = .up) ∧
    (∃ s : State, s.addressed one = true ∧ s.core.bringup = true ∧ 256 ≤ s.htl.queue.length ∧ s.htlUp = true) ∧
    (∃ s : State, s.addressed one = true ∧ s.core.bringup = false ∧ ∃ k ∈ s.htl.seen, k.1 = one.src ∧ k.2.1 = one.cls ∧ k.2.2.1 = one.seq) :=
  ⟨by decide,
   ⟨linked { inState .up with tagErrs := List.replicate 16 0 }, by decide⟩, by decide, by decide, by decide,
   ⟨{ linked (inState .up) with htl := { (linked (inState .up)).htl with ports := List.replicate 4 { inState .up with inUse := true } } },
    { one with dst := 0xFF, src := 0, hops := 1 }, by decide +kernel⟩,
   ⟨{ parented true with core := { up.core with bringup := true } }, by decide⟩,
   ⟨{ parented true with core := { up.core with bringup := true }
                         htl := { (parented true).htl with queue := List.replicate 256 one } }, by decide +kernel⟩,
   ⟨{ parented true with htl := { (parented true).htl with seen := [(1, 1, 0, 0)] } }, by decide⟩⟩

theorem test_met_HeadAndTests :
    ((linked HPort.reset).htlUp = true ∧ lr.member ≠ (linked HPort.reset).member ∧
      ({ lr with member := 0 } : LinkRec).member = (linked HPort.reset).member) ∧
    (0 ∉ (linked HPort.reset).htl.present ∧ 1 ∉ (linked HPort.reset).htl.present ∧ (linked HPort.reset).htl.head = none) ∧
    (∃ s : State, s.htlUp = true ∧ 0 ∈ s.htl.present ∧ 1 ∈ s.htl.present ∧ s.htl.head = some 1 ∧ s.htl.zeroSince = some 0 ∧
      0 + s.rfldN .heathlineHeadReturn * 1000000000 ≤ max s.now (10 ^ 15)) ∧
    (∃ s : State, s.htlUp = true ∧ 0 ∈ s.htl.present ∧ s.htl.head ≠ some 1 ∧ s.htl.head ≠ some 0) ∧
    (∃ s : State, s.htlUp = true ∧ 0 ∉ s.htl.present ∧ 1 ∈ s.htl.present) ∧
    (∃ s : State, s.htlUp = true ∧ 0 < s.rings.fabric.now (max s.now 0) / 8000 ∧ s.htl.mirrors = 0 ∧
      s.shape.wire s.member .e = some (1, .w) ∧ (s.port .e).inUse = true ∧ (3, 1) ∈ s.htl.subs) ∧
    (∃ s : State, s.htlUp = true ∧ 0 < s.rings.fabric.now (max s.now 0) / 8000 ∧ s.htl.mirrors ≠ 0 ∧
      s.rings.fabric.now (max s.now 0) / 8000 ≤ s.htl.mirrorAt) ∧
    (let s := linked HPort.reset
     (s.htl.subs.filter (fun y => y != (3, 1))).length < s.rfldN .heathlineSubMax) ∧
    (∃ s : State, s.htlUp = true ∧ s.rfldN .heathlineSubMax ≤ (s.htl.subs.filter (fun y => y != (3, 1))).length) ∧
    ((0 : Word).getLsbD 31 = false ∧ (0x80000000 : Word).getLsbD 31 = true ∧ ((linked HPort.reset).port .e).state ≠ .up ∧
      ((linked (inState .up)).port .e).state = .up ∧
      (linked (inState .up)).shape.wire (linked (inState .up)).member (portOf (field (0x80000000 : Word) 29 28)) = some (1, .w) ∧
      State.reset.inRst .htlFrz = true) ∧
    ((linked HPort.reset).htl.head ≠ some (linked HPort.reset).member ∧ ∃ s : State, s.htlUp = true ∧ s.htl.head = some s.member ∧
      s.htl.bert = none ∧ s.htl.bertQueue = [] ∧ s.htl.bertOwed = true ∧ ∃ x ∈ s.shape.links, s.linkUsed x = false) ∧
    (∃ s : State, s.htlUp = true ∧ s.htl.head = some s.member ∧ s.htl.bert = none ∧ s.htl.bertQueue = [] ∧ s.htl.bertOwed = false ∧
      16 < s.shape.n) ∧
    (let s := linked (inState .test)
     (s.port .e).state = .test ∧ (s.port .e).since + s.rfldN .heathlineBertTime * 1000000000 ≤ max s.now (10 ^ 15) ∧
      max s.now 0 < 1 + (s.port .e).since + s.rfldN .heathlineBertTime * 1000000000) :=
  ⟨by decide, by decide,
   ⟨{ linked HPort.reset with htl := { (linked HPort.reset).htl with present := [0, 1], head := some 1, zeroSince := some 0 } }, by decide⟩,
   ⟨{ linked HPort.reset with htl := { (linked HPort.reset).htl with present := [0] } }, by decide⟩,
   ⟨{ linked HPort.reset with htl := { (linked HPort.reset).htl with present := [1] } }, by decide⟩,
   ⟨{ parented true with now := 10 ^ 9, htl := { (parented true).htl with subs := [(3, 1)] } }, by decide⟩,
   ⟨{ parented true with now := 10 ^ 9, htl := { (parented true).htl with mirrors := 1, mirrorAt := 10 ^ 9 } }, by decide⟩, by decide,
   ⟨{ linked HPort.reset with htl := { (linked HPort.reset).htl with subs := List.replicate 64 (2, 1) } }, by decide⟩, by decide,
   ⟨by decide, ⟨{ linked HPort.reset with htl := { (linked HPort.reset).htl with head := some 0, bertOwed := true } }, by decide⟩⟩,
   ⟨{ linked HPort.reset with
      cfg := { started.cfg with lane := some { Image.blank with vals := [((.topologyMembers, 0), 17)] } }
      htl := { (linked HPort.reset).htl with head := some 0 } }, by decide⟩, by decide⟩

theorem test_met_BoundariesOnce :
    (∃ s : State, s.htl.sf = some (s.at_ 0).htlSf) ∧
    (started.htlUp = true ∧ started.htl.stepTo = none ∧ started.htl.sf ≠ some (started.at_ 0).htlSf) ∧
    up.htl.sfLanes ≠ some (sfOf (up.rings.lanes.now (max up.now 0))) ∧ up.fes.count = 0 :=
  ⟨⟨{ up with htl := { up.htl with sf := some (up.at_ 0).htlSf } }, by decide⟩, by decide, by decide, by decide⟩

theorem test_met_StepKeepsForm : State.reset.memOk ∧ State.reset.htl.ports.length = 4 ∧ step State.reset = .next State.reset :=
  ⟨⟨by decide, by decide, by decide +kernel, by decide⟩, by decide, rfl⟩

/-! ### Worked examples of the specification -/

/-- R221: the key of job 0x51C, phase 0x1, tray group 0x0003. -/
theorem test_lexicon_key : phaseKey 0x51C 1 3 = 0x00051C0000010003 := by decide

/-- Chapter 11: PHASE of partner 37 for superframe 0x014006A4. -/
theorem test_phase_clause : (clauseBody ⟨37, 0, formOf 0 2 0, 1, 65, 4, 3, 0x1A2F,
      beBytes 3 0x51C ++ beBytes 3 2 ++ beBytes 8 20973220000000 ++ beBytes 2 639, []⟩)
    = [0x25, 0x00, 0x20, 0x01, 0x00, 0x00, 0x00, 0x41, 0x04, 0x03, 0x1A, 0x2F, 0x00, 0x05, 0x1C, 0x00, 0x00, 0x02,
       0x00, 0x00, 0x13, 0x13, 0x35, 0x53, 0xF1, 0x00, 0x02, 0x7F] ∧ sfOf 20973220000000 = 0x014006A4 := by decide

/-- Chapter 11: three starts of 12 kW for 40 superframes under an allowance of 30 kW, accepted in superframe 100. -/
theorem test_three_starts :
    let s : State := { up with cfg := { up.cfg with row := some { Image.blank with vals := [((.furzeInrushKw, 0), 30)] } } }
    let b : Booking := ⟨37, 0, 1200, 40, 0, 100, 0, none, false, false⟩
    let l := [{ b with at_ := some 102 }, { b with at_ := some 103 }]
    (s.findStart [] b).2 = some 102 ∧ (s.findStart (l.take 1) b).2 = some 103 ∧ (s.findStart l b).2 = some 142 := by decide

/-- The tussock of chapter 9's example: A and B of 32 elements, scales 2^-5 and 2^-3, X −12, SAT; its entry holds 1001. -/
def ninth : Tus :=
  let word := fun (m : Mem) (a v : Nat) => m.writeBytes a (leBytes 4 v)
  { dsc [0x00FA0010, 0, 64, 128, 192, 256] with
    sram := word (word (word (word (dsc [0x00FA0010, 0, 64, 128, 192, 256]).sram 64 0x4705C135) 128 0x5379D976) 192 0x7A) 256 0x7C
    acc := [(0, ⟨1001, false, -12, false⟩)] }

/-- MMA (R267): the contribution is 48 and the entry then holds 1049. -/
theorem test_mma_example : (match exec (.mma 0 tj) (sw ninth) with
    | .next s => ((s.tus 512).acc.lookup 0, (s.tus 512).arith)
    | _ => (none, Events.none)) = (some ⟨1049, false, -12, false⟩, Events.none) := by decide +kernel

/-- Its drain to fp32, and the value in two narrower formats by RN and by SR (R271, R272, R274). -/
theorem test_rounding_example :
    let x := ((⟨1049, false, -12, false⟩ : AccEntry).value true).1
    (encodeVal .fp32 true .rn x).1 = 0x3E832000 ∧ (encodeVal .bf16 true .rn x).1 = 0x3E83 ∧
    (encodeVal .bf16 true (.sr 0x1A2B) x).1 = 0x3E84 ∧ (encodeVal .e4m3 true .rn x).1 = 0x28 ∧
    (encodeVal .e4m3 true (.sr 0x4E20) x).1 = 0x28 := by decide +kernel

/-- Chapter 14: the field record of `loadline.r_ll` = 20.0 mΩ. -/
theorem test_field_record : (match parseRecords 2 [0x0D, 0x02, 0x6C, 0x6F, 0x61, 0x64, 0x6C, 0x69, 0x6E, 0x65, 0x2E, 0x72, 0x5F,
      0x6C, 0x6C, 0xC8, 0x00] 0 [] with
    | .ok l => l.map (fun r => (r.name.length, leAt r.value 0 2))
    | .error _ => []) = [(13, 200)] := by decide

/-- Chapter 16: the message of the third fence of lane B. -/
theorem test_fault_word : (⟨⟨0x301, 0x20, 1, 2, false, false⟩, true, true⟩ : QMsg).word = 0x3012000000001203#64 := by decide

/-- Chapter 19: coolant lost at 38 °C derates to 153/256. -/
theorem test_derate : ({ up with
    aon := { up.aon with tout := 380 }
    core := { up.core with coolLost := true }
    cfg := { up.cfg with lane := some { Image.blank with vals := [((.mgmtDerateNoflow, 0), 60)] } } } : State).derateNow = 153 := by
  decide +kernel

/-- A boundary of the queue: a command in front and one behind it; the step leaves the second. -/
theorem test_met_QueueInOrder :
    (match step { up with pending := [.strangerExpiry 5, .parentTimeout 6] } with
      | .next s => decide (s.pending = [.parentTimeout 6] ∧ s.now = 5)
      | _ => false) = true := by decide

/-- Chapter 6: six modules share 303.125 A; eleven strings of 0.200 F store 440 kJ between 300 V and 700 V. -/
theorem test_front_end_examples :
    ({ up with fes := { up.fes with ref := 303125000, rects := List.replicate 6 { Rect.reset with state := 1 } } } : State).iRefShare
      = 0x13BC ∧
    ({ up with
        cfg := { up.cfg with lane := some { Image.blank with
          vals := [((.limitsStoreVMax, 0), 700), ((.limitsStoreVMin, 0), 300), ((.stringsCRated, 0), 200)] } }
        fes := { up.fes with strs := List.replicate 11 { Str.reset with state := 3 } } } : State).eU = 440000 := by decide +kernel

/-- Chapter 4: the base on-times of the supply pulse at the end of compute and of the absorb pulse at the start of exchange. -/
theorem test_base_on_times :
    let s : State := { formed with
      cfg := { up.cfg with lane := some { Image.blank with vals := [((.phaseFTarget, 0), 200), ((.legsGroupS, 0), 1)] } }
      laneA := { votes with busMean := 792625 / 1000 }
      laneB := { votes with busMean := 797125 / 1000 }
      pool := { formed.pool with legs := [{ Leg.reset with state := .rotation, group := .s }] } }
    let t := s.baseOnTimes ⟨[], [], 0, 0, 0, 5344 / 10, 0, [], 0, 0, 0, 0, false, false⟩
    natFloor t.laneA.tonS = 1628 ∧ roundEven t.laneA.tonS = 1629 ∧ roundEven t.laneB.tonA = 3352 := by decide +kernel
end Sys2Proof.Tests
end

/-! SUPPORT. Accesses to registers (chapter 0): when one is refused or accepted, what a refused access does, which function
of a block an accepted read or write comes to, and what a read of a _LO register does. -/
namespace Sys2Proof.Machine

/-! ### Refused and accepted accesses -/

theorem accessBad_of_width_or_alignment {s : State} {a w : Nat} (h : w ≠ 32 ∨ a % 4 ≠ 0) : s.accessBad a w = some 0 := if_pos h

theorem accessBad_of_regUp_false {s : State} {a : Nat} (ha : a % 4 = 0) (hu : s.regUp a = false) :
    s.accessBad a 32 = some 3 := by
  simp [State.accessBad, ha, hu]

theorem accessBad_of_readReg_none {s : State} {a : Nat} (ha : a % 4 = 0) (hu : s.regUp a = true) (hr : s.readReg a = none) :
    s.accessBad a 32 = some 1 := by
  simp [State.accessBad, ha, hu, hr]

theorem accessBad_eq_none {s : State} {a : Nat} (ha : a % 4 = 0) (hu : s.regUp a = true) (hr : (s.readReg a).isSome = true) :
    s.accessBad a 32 = none := by
  simp [State.accessBad, ha, hu, Option.ne_none_iff_isSome.mpr hr]

theorem exec_badRegisterRead_refused {s : State} {a w d : Nat} (t : Time) (h : (s.at_ t).accessBad a w = some d) :
    exec (.badRegisterRead t a w) s = .next { (s.at_ t).report 0x200 0x01 a d with busRead := 0 } := by
  show execBadRegisterRead t a w s = _
  simp [execBadRegisterRead, State.regRead, h]

theorem exec_registerWrite_refused {s : State} {a w d : Nat} (t : Time) (v : Word) (h : (s.at_ t).accessBad a w = some d) :
    exec (.registerWrite t a w v) s = .next ((s.at_ t).report 0x200 0x01 a d) := by
  show execRegisterWrite t a w v s = _
  simp [execRegisterWrite, h]

theorem exec_registerWrite_accepted {s : State} {a w : Nat} (t : Time) (v : Word) (h : (s.at_ t).accessBad a w = none) :
    exec (.registerWrite t a w v) s = (s.at_ t).regWrite a v := by
  show execRegisterWrite t a w v s = _
  simp [execRegisterWrite, h]

/-! ### The block of an address -/

/-- The registers whose write has a row of its own (R7). -/
def ownRowRegisters : List Nat :=
  [0x00100034, 0x00200028, 0x00200030, 0x00800020, 0x00900048, 0x00A00020, 0x00C00038, 0x00C00048]

theorem regWrite_eq_writePlain (s : State) {a : Nat} (v : Word) (h : a ∉ ownRowRegisters) :
    s.regWrite a v = .next (s.writePlain a v) := by
  unfold State.regWrite
  split
  case h_9 => rfl
  all_goals exact absurd (by decide) h

theorem tusWindow_below {a : Nat} (h : a < 0x01000000) : tusWindow a = none := if_neg (by omega)

theorem regUp_fabric {s : State} {a : Nat} (hd : regDomain a = some .fabric) (ha : a < 0x01000000)
    (hf : s.inRst .fabric = false) : s.regUp a = true := by
  simp [State.regUp, tusWindow_below ha, hd, hf, ha]

theorem exec_registerWrite_plain {s : State} {a : Nat} (t : Time) (v : Word) (ha : a % 4 = 0)
    (hu : (s.at_ t).regUp a = true) (hr : ((s.at_ t).readReg a).isSome = true) (ho : a ∉ ownRowRegisters) :
    exec (.registerWrite t a 32 v) s = .next ((s.at_ t).writePlain a v) := by
  rw [exec_registerWrite_accepted t v (accessBad_eq_none ha hu hr), regWrite_eq_writePlain _ v ho]

/-- With the fabric out of reset a write to one of its registers without a row of its own comes to its block's write. -/
theorem exec_registerWrite_fabric {s : State} {a : Nat} (t : Time) (v : Word) (hf : s.inRst .fabric = false)
    (hd : regDomain a = some .fabric) (ha : a % 4 = 0) (hl : a < 0x01000000) (ho : a ∉ ownRowRegisters)
    (hr : ((s.at_ t).readReg a).isSome = true) :
    exec (.registerWrite t a 32 v) s = .next ((s.at_ t).writePlain a v) :=
  exec_registerWrite_plain t v ha (regUp_fabric hd hl hf) hr ho

/-! ### Registers locked after bring-up -/

theorem regDomain_flt {o : Nat} (ho : o < 0x100000) : regDomain (0x00200000 + o) = some .fabric := by
  unfold regDomain
  rw [if_neg (by omega), if_neg (by omega), if_pos (by omega)]

theorem readReg_flt (s : State) {o : Nat} (ho : o < 0x100000) : s.readReg (0x00200000 + o) = s.readFlt o := by
  unfold State.readReg
  rw [tusWindow_below (by omega)]
  simp only
  rw [if_neg (by omega), if_neg (by omega), if_pos (by omega), Nat.add_sub_cancel_left]

theorem writePlain_flt (s : State) {o : Nat} (v : Word) (ho : o < 0x100000) :
    s.writePlain (0x00200000 + o) v = s.writeFlt o v := by
  unfold State.writePlain
  rw [tusWindow_below (by omega)]
  simp only
  rw [if_neg (by omega), if_neg (by omega), if_pos (by omega), Nat.add_sub_cancel_left]

/-- FLT_POL_s and FLT_REACT_s answer for every source there is (R496). -/
theorem readFlt_source_isSome (s : State) {o : Nat} (hlo : 0x4000 ≤ o) (hhi : o < 0xC000)
    (hc : (s.flt.src (o % 0x4000 / 4)).isSome = true) : (s.readFlt o).isSome = true := by
  unfold State.readFlt
  split
  case h_12 =>
    have hr : ¬(o < 0x4000 ∨ 0x10000 ≤ o) := by omega
    simp [hr, hc]
  all_goals omega

theorem writeFlt_source_locked {s : State} {o : Nat} (v : Word) (hlo : 0x4000 ≤ o) (hhi : o < 0xC000)
    (hb : s.core.bringup = false) : s.writeFlt o v = s.report 0x200 0x01 (0x00200000 + o) 2 := by
  unfold State.writeFlt
  split
  case h_4 =>
    have hr : ¬(o < 0x4000 ∨ 0xC000 ≤ o) := by omega
    simp [hr, State.rwlOpen, hb]
  all_goals omega

theorem writeFlt_cfg_locked {s : State} (v : Word) (hb : s.core.bringup = false) :
    s.writeFlt 0x04 v = s.report 0x200 0x01 0x00200004 2 := by
  simp [State.writeFlt, State.rwlOpen, hb]

theorem writeRst_mwdogCfg_locked {s : State} (v : Word) (hb : s.core.bringup = false) :
    s.writeRst 0x30 v = s.report 0x200 0x01 0x00100030 2 := by
  simp [State.writeRst, hb]

theorem not_mem_ownRowRegisters_of_source {o : Nat} (hlo : 0x4000 ≤ o) (hhi : o < 0xC000) :
    0x00200000 + o ∉ ownRowRegisters := by
  simp only [ownRowRegisters, List.mem_cons, List.not_mem_nil, or_false]
  omega

/-- A write to FLT_POL_s or FLT_REACT_s after bring-up is refused as locked (R478, R496). -/
theorem exec_registerWrite_source_locked {s : State} {o c : Nat} (t : Time) (v : Word) (hb : s.core.bringup = false)
    (hf : s.inRst .fabric = false) (ho : o = 0x4000 ∨ o = 0x8000) (hc : (s.flt.src c).isSome = true) (hlt : c < 0x1000) :
    exec (.registerWrite t (0x00200000 + (o + 4 * c)) 32 v) s =
      .next ((s.at_ t).report 0x200 0x01 (0x00200000 + (o + 4 * c)) 2) := by
  have hlo : 0x4000 ≤ o + 4 * c := by omega
  have hhi : o + 4 * c < 0xC000 := by omega
  have hsrc : (o + 4 * c) % 0x4000 / 4 = c := by omega
  have hr : ((s.at_ t).readReg (0x00200000 + (o + 4 * c))).isSome = true := by
    rw [readReg_flt _ (by omega)]
    exact readFlt_source_isSome _ hlo hhi (by rwa [hsrc])
  rw [exec_registerWrite_fabric t v hf (regDomain_flt (by omega)) (by omega) (by omega)
    (not_mem_ownRowRegisters_of_source hlo hhi) hr, writePlain_flt _ v (by omega),
    writeFlt_source_locked (s := s.at_ t) v hlo hhi hb]

/-- FLT_CFG and RST_MWDOG_CFG are refused as locked too (R478, R481, R496). -/
theorem exec_registerWrite_fltCfg_locked {s : State} (t : Time) (v : Word) (hb : s.core.bringup = false)
    (hf : s.inRst .fabric = false) :
    exec (.registerWrite t 0x00200004 32 v) s = .next ((s.at_ t).report 0x200 0x01 0x00200004 2) := by
  rw [exec_registerWrite_fabric t v hf rfl rfl (by decide) (by decide) rfl]
  exact congrArg _ (writeFlt_cfg_locked v hb)

theorem exec_registerWrite_mwdogCfg_locked {s : State} (t : Time) (v : Word) (hb : s.core.bringup = false) :
    exec (.registerWrite t 0x00100030 32 v) s = .next ((s.at_ t).report 0x200 0x01 0x00100030 2) := by
  rw [exec_registerWrite_plain t v rfl rfl rfl (by decide)]
  exact congrArg _ (writeRst_mwdogCfg_locked v hb)

/-- Settles O8: each refused access has the DETAIL of its cause and only reports; a locked register's write only reports. -/
theorem accessesRefused : Obligations.AccessesRefused := by
  refine ⟨fun s t a w v d h => ?_, fun s t v hb hf => ⟨?_, ?_, fun c hc hlt => ⟨?_, ?_⟩⟩⟩
  · have hbad : (s.at_ t).accessBad a w = some d := by
      rcases h with ⟨hw, rfl⟩ | ⟨rfl, ha, hu, rfl⟩ | ⟨rfl, ha, hu, hr, rfl⟩
      · exact accessBad_of_width_or_alignment hw
      · exact accessBad_of_regUp_false ha hu
      · exact accessBad_of_readReg_none ha hu hr
    exact ⟨exec_badRegisterRead_refused t hbad, exec_registerWrite_refused t v hbad⟩
  · exact exec_registerWrite_fltCfg_locked t v hb hf
  · exact exec_registerWrite_mwdogCfg_locked t v hb
  · rw [show 0x00204000 + 4 * c = 0x00200000 + (0x4000 + 4 * c) by omega]
    exact exec_registerWrite_source_locked t v hb hf (.inl rfl) hc hlt
  · rw [show 0x00208000 + 4 * c = 0x00200000 + (0x8000 + 4 * c) by omega]
    exact exec_registerWrite_source_locked t v hb hf (.inr rfl) hc hlt

/-! ### Reads of _LO registers -/

theorem lookupD_insertKey_self {α : Type} (l : List (Nat × α)) (k : Nat) (v d : α) : lookupD (insertKey l k v) k d = v := by
  simp [lookupD, insertKey]

theorem aligned_of_mem_loRegisters : ∀ a ∈ loRegisters, a % 4 = 0 := by decide

/-- The register beside a _LO register shows its latch (R12). -/
theorem readReg_hi (s : State) {a : Nat} (h : a ∈ loRegisters) :
    ∃ d, s.readReg (a + 4) = some (lookupD s.latches (a + 4) d) := by
  unfold loRegisters at h
  fin_cases h <;> exact ⟨_, rfl⟩

theorem exec_loReadLatch_accepted {s : State} {a : Nat} {w : Word} (t : Time) (ha : a % 4 = 0) (hu : (s.at_ t).regUp a = true)
    (hr : (s.at_ t).readReg a = some w) :
    exec (.loReadLatch t a) s = .next { (s.at_ t).readEffect a with busRead := w } := by
  show execLoReadLatch t a s = _
  simp [execLoReadLatch, State.regRead, accessBad_eq_none ha hu (Option.isSome_of_eq_some hr), hr]

/-- A read of a _LO register changes its latch, and the message queue where it is FLT_MSG_LO (R12, R493). -/
theorem readEffect_lo {s : State} {a : Nat} {hi : Word} (h : s.hiHalf a = some hi) :
    s.readEffect a = { s with
      latches := insertKey s.latches (a + 4) hi
      flt := if a = 0x00200008 then { s.flt with queue := s.flt.queue.drop 1 } else s.flt } := by
  simp only [State.readEffect, h]
  split <;> rfl

/-- Settles O9: a _LO read by the one effect it has, and each write by the write of its block. -/
theorem readsAndWrites : Obligations.ReadsAndWrites := by
  refine ⟨fun s t a w hi ha hu hr hh => ?_, fun s t v hf => ?_⟩
  · have hx := exec_loReadLatch_accepted t (aligned_of_mem_loRegisters a ha) hu hr
    rw [readEffect_lo hh] at hx
    refine ⟨_, hx, rfl, ?_, rfl, rfl, ?_⟩
    · obtain ⟨d, hd⟩ := readReg_hi _ ha
      rw [hd, lookupD_insertKey_self]
    · simp [sameStage, sameSward, sameRow, sameAon, sameMgmt, sameStore]
  · -- each register is one of the fabric's, and its block's write at that offset computes to the state stated
    refine ⟨?_, ?_, ?_, ?_, ?_, ?_, ?_, ?_, ?_, ?_⟩ <;>
      exact exec_registerWrite_fabric t v hf rfl rfl (by decide) (by decide) rfl

end Sys2Proof.Machine

/-! SUPPORT. Releases and clears (chapters 1, 5, 15, 16): what is left of a command that may be executed, once its effect's
answer is known, and what each of these four commands answers. -/
namespace Sys2Proof.Machine

/-! ### A command that may be executed, by its answer -/

section
variable {s : State} {h : CmdHdr} {b : Bool} (t : Time) (code : Nat)

/-- A command whose effect answers DONE leaves the effect, its answer and then what follows a DONE answer. -/
theorem runCommand_of_done {f : State → (Nat × List Byte) × State} {s' : State} (a : State → State) (hm : s.mayCommand h b)
    (hf : f (s.begun t h) = ((rDone, []), s')) :
    (s.at_ t).runCommand h code b f a = a (s'.complete h code rDone []) := by
  rw [runCommand_ok s t h code b f a hm, hf]; rfl

/-- An effect that is always DONE happens and is answered (R567). -/
theorem runCommand_done (f : State → State) (hm : s.mayCommand h b) :
    (s.at_ t).runCommand h code b (done f) = (f (s.begun t h)).complete h code rDone [] :=
  runCommand_of_done t code id hm rfl

/-- A command whose effect answers BAD_OPERAND leaves nothing but that answer. -/
theorem runCommand_of_badOperand {f : State → (Nat × List Byte) × State} (a : State → State) (hm : s.mayCommand h b)
    (hf : f (s.begun t h) = only rBadOperand (s.begun t h)) :
    (s.at_ t).runCommand h code b f a = (s.begun t h).complete h code rBadOperand [] := by
  rw [runCommand_ok s t h code b f a hm, hf]; rfl
end

/-! ### STOP_RELEASE and LANE_RELEASE -/

theorem releaseLane_latched {s : State} {x : Lane} (h : (s.lane x).vote = .latched) :
    s.releaseLane x = (s.updLane x (fun l => { l with vote := .reset })).releaseSrc (.fence x) :=
  if_neg (not_not_intro h)

theorem releaseLane_not_latched {s : State} {x : Lane} (h : (s.lane x).vote ≠ .latched) : s.releaseLane x = s := if_pos h

theorem exec_stopRelease {s : State} {h : CmdHdr} (t : Time) (hm : s.mayCommand h true) :
    exec (.stopRelease t h) s = .next (
      ({ s.begun t h with aon := { s.aon with stopLatched := false, restarts := 0 } }).complete h 0x12 rDone []) :=
  congrArg _ (runCommand_done t 0x12 _ hm)

theorem exec_laneRelease {s : State} {h : CmdHdr} {k : Nat} {x : Lane} (t : Time) (hm : s.mayCommand h true)
    (hk : laneOf k = some x) :
    exec (.laneRelease t h k) s = .next (((s.begun t h).releaseLane x).complete h 0x13 rDone []) := by
  refine congrArg _ (runCommand_of_done t 0x13 id hm ?_)
  rw [hk]; rfl

/-! ### RESET -/

theorem exec_reset_done {s : State} {h : CmdHdr} {n : Nat} (t : Time) (hm : s.mayCommand h true) (hn : n = 0 ∨ n = 2 ∨ n = 3) :
    exec (.reset t h n) s = .next (((s.begun t h).complete h 0x14 rDone []).assertReset .remote
      (if n = 0 then ((s.begun t h).complete h 0x14 rDone []).fused .remote else n)) :=
  congrArg _ (runCommand_of_done t 0x14 _ hm (if_pos hn))

theorem exec_reset_badOperand {s : State} {h : CmdHdr} {n : Nat} (t : Time) (hm : s.mayCommand h true)
    (hn : ¬(n = 0 ∨ n = 2 ∨ n = 3)) :
    exec (.reset t h n) s = .next ((s.begun t h).complete h 0x14 rBadOperand []) :=
  congrArg _ (runCommand_of_badOperand t 0x14 _ hm (if_neg hn))

/-! ### CLEAR_FAULT -/

theorem exec_clearFault {s : State} {h : CmdHdr} {all : Bool} {n : Nat} (t : Time) (hm : s.mayCommand h true)
    (hn : all = true ∨ (s.flt.src n).isSome = true) :
    exec (.clearFault t h all n) s =
      .next (({ s.begun t h with flt := s.flt.clearPend all n }).complete h 0x21 rDone []) := by
  refine congrArg _ (runCommand_of_done t 0x21 id hm ?_)
  have hc : (!all && (s.flt.src n).isNone) = false := by
    rcases hn with rfl | hs
    · rfl
    · rw [Option.isNone_eq_false_iff.mpr hs, Bool.and_false]
  rw [begun_flt, hc]; rfl

/-- Settles O4: each command by its effect; LANE_RELEASE by whether the lane is latched, RESET by whether its level is one of
the three it knows. -/
theorem releasesAndClears : Obligations.ReleasesAndClears := by
  refine ⟨fun s t h hm => exec_stopRelease t hm, ⟨fun s t h k x hm hk hl => ?_, fun s t h k x hm hk hl => ?_⟩,
    ⟨fun s t h hm => exec_reset_done t hm (.inl rfl), fun s t h n hm hn => ?_, fun s t h n hm h0 h2 h3 => ?_⟩,
    fun s t h all n hm hn => exec_clearFault t hm hn⟩
  · rw [exec_laneRelease t hm hk, releaseLane_latched (by rwa [begun_lane])]
  · rw [exec_laneRelease t hm hk, releaseLane_not_latched (by rwa [begun_lane])]
  · rw [exec_reset_done t hm (.inr hn), if_neg (by omega)]
  · exact exec_reset_badOperand t hm (by omega)

end Sys2Proof.Machine

/-! SUPPORT. Transitions (R20, R24) as far as the entries into FALLOW and BRIDGING need them: the state that has shown and
recorded its new mode, what the entry changes in it, and what the bus charge path and ADMIT_OPEN after it leave of that; then the
recovery from STOPPED and the events of grid input. -/
namespace Sys2Proof.Machine

/-! ### Bits of the event registers -/

theorem getLsbD_setBit_of_getLsbD {w : Nat} {b : BitVec w} {i : Nat} (j : Nat) (h : b.getLsbD i = true) :
    (setBit b j).getLsbD i = true := by
  simp [setBit, h]

theorem getLsbD_setBit_self {w : Nat} (b : BitVec w) {i : Nat} (h : i < w) : (setBit b i).getLsbD i = true := by
  simp [setBit, h]

/-! ### The bus charge path -/

/-- String commands lengthen the SMBus log and change nothing else. -/
theorem foldl_strCmd (l : List Nat) (s : State) (code byte : Nat) :
    ∃ smb, l.foldl (fun (s : State) j => s.strCmd j code byte) s = { s with fes := { s.fes with smb := smb } } := by
  induction l generalizing s with
  | nil => exact ⟨s.fes.smb, rfl⟩
  | cons j l ih =>
    obtain ⟨smb, h⟩ := ih (s.strCmd j code byte)
    exact ⟨smb, h⟩

/-- Of the front end the bus charge path changes its own state, the SMBus log and FES_EVENT, in which it clears no bit (R176). -/
theorem busCharge_eq (s : State) :
    ∃ bc smb ev, s.busCharge = { s with fes := { s.fes with busCharge := bc, smb := smb, event := ev } } ∧
      ∀ i, s.fes.event.getLsbD i = true → ev.getLsbD i = true := by
  unfold State.busCharge
  dsimp only
  split
  · split
    · obtain ⟨smb, h⟩ := foldl_strCmd _ { s with fes := { s.fes with busCharge := false } } 0x12 0x5A
      exact ⟨false, smb, s.fes.event, h, fun _ hi => hi⟩
    · exact ⟨_, _, _, rfl, fun _ hi => hi⟩
  · split
    · obtain ⟨smb, h⟩ := foldl_strCmd _ { s with fes := { s.fes with busCharge := true } } 0x12 0xA5
      exact ⟨true, smb, setBit s.fes.event 13, by rw [h]; rfl, fun _ hi => getLsbD_setBit_of_getLsbD 13 hi⟩
    · exact ⟨_, _, _, rfl, fun _ hi => hi⟩

/-- What the statements look at in the front end, its events apart, is not the bus charge path's. -/
@[simp] theorem busCharge_fes (s : State) :
    s.busCharge.fes.gridPresent = s.fes.gridPresent ∧ s.busCharge.fes.reengage = s.fes.reengage ∧
    s.busCharge.fes.covered = s.fes.covered ∧ s.busCharge.fes.ref = s.fes.ref ∧
    s.busCharge.fes.recharge = s.fes.recharge := by
  obtain ⟨bc, smb, ev, hb, -⟩ := busCharge_eq s
  simp [hb]

/-! ### A transition -/

/-- The always-on registers after a transition at operating time `n` (R24, R28). -/
def Aon.moved (a : Aon) (m : Mode) (c : Cause) (n : Nat) : Aon :=
  { a with mode := m, prevMode := a.mode, cause := c, count := a.count + 1, modeTime := n }

/-- The state in which a transition has shown its mode, recorded it and told the managers; the entry's effects follow (R24). -/
def State.announced (s : State) (m : Mode) (c : Cause) : State :=
  let r := { s with aon := s.aon.moved m c s.opMs }
  let r := r.stage 0x10 0 [BitVec.ofNat 8 m.code, BitVec.ofNat 8 s.aon.mode.code, BitVec.ofNat 8 c.code]
  r.notify 1 (beBytes 4 r.aonMode.toNat ++ beBytes 6 r.aon.modeTime)

/-- The entry into a mode, as a transition from the state's own mode makes it. -/
def State.entered (s : State) (m : Mode) (c : Cause) : State := (s.announced m c).modeEntry s.aon.mode m c

theorem transition_eq (s : State) (m : Mode) (c : Cause) :
    s.transition m c = if (s.entered m c).busCharge.inRst .htlFrz then (s.entered m c).busCharge
      else (s.entered m c).busCharge.admitUpdate := rfl

@[simp] theorem announced_aon (s : State) (m : Mode) (c : Cause) : (s.announced m c).aon = s.aon.moved m c s.opMs := by
  simp [State.announced]

@[simp] theorem announced_keeps (s : State) (m : Mode) (c : Cause) :
    (s.announced m c).now = s.now ∧ (s.announced m c).core = s.core ∧ (s.announced m c).nv = s.nv ∧
    (s.announced m c).ddr = s.ddr ∧ (s.announced m c).cfg = s.cfg ∧ (s.announced m c).ids = s.ids ∧
    (s.announced m c).pool = s.pool ∧ (s.announced m c).vot = s.vot ∧ (s.announced m c).fes = s.fes ∧
    (s.announced m c).plan = s.plan ∧ (s.announced m c).emit = s.emit ∧ (s.announced m c).lex = s.lex ∧
    (s.announced m c).swd = s.swd ∧ (s.announced m c).swm = s.swm := by
  simp [State.announced]

/-- After the entry only the bus charge path and ADMIT_OPEN act: what else the entry leaves, the transition leaves. -/
theorem transition_shows (s : State) (m : Mode) (c : Cause) :
    (s.transition m c).aon = (s.entered m c).aon ∧ (s.transition m c).pool = (s.entered m c).pool ∧
    (s.transition m c).vot = (s.entered m c).vot ∧ (s.transition m c).plan = (s.entered m c).plan ∧
    (s.transition m c).cfg = (s.entered m c).cfg ∧ (s.transition m c).ids = (s.entered m c).ids ∧
    (∀ r, sameSward r (s.transition m c) ↔ sameSward r (s.entered m c)) ∧
    (∀ r, sameStore r (s.transition m c) ↔ sameStore r (s.entered m c)) ∧
    (s.transition m c).fes.gridPresent = (s.entered m c).fes.gridPresent ∧
    (s.transition m c).fes.reengage = (s.entered m c).fes.reengage ∧
    (s.transition m c).fes.covered = (s.entered m c).fes.covered ∧ (s.transition m c).fes.ref = (s.entered m c).fes.ref ∧
    (s.transition m c).fes.recharge = (s.entered m c).fes.recharge := by
  rw [transition_eq]
  split <;> simp [sameSward, sameStore]

/-- A transition clears no bit of FES_EVENT that its entry leaves set. -/
theorem transition_event {s : State} {m : Mode} {c : Cause} {i : Nat} (h : (s.entered m c).fes.event.getLsbD i = true) :
    (s.transition m c).fes.event.getLsbD i = true := by
  obtain ⟨bc, smb, ev, hb, hev⟩ := busCharge_eq (s.entered m c)
  rw [transition_eq]
  split <;> simpa [hb] using hev i h

/-! ### The entries into FALLOW and BRIDGING -/

/-- A transition out of STOPPED with its conditions cleared starts a recovery watch, a stage start and the recharge (R26, R27,
R184). -/
theorem entered_stopCleared {s : State} (h : s.aon.mode ≠ .held) :
    let e := s.entered .fallow .stopCleared
    e.aon = { s.aon.moved .fallow .stopCleared s.opMs with stopWatch := some ⟨s.opMs, false⟩ } ∧ e.fes.recharge = true ∧
      e.pool.testing = true ∧ e.vot = s.vot ∧ sameStore s e ∧ sameSward s e ∧ e.cfg = s.cfg ∧ e.ids = s.ids := by
  simp [State.entered, State.modeEntry, h, sameStore, sameSward, State.opMs, State.opAt, State.stageStart, State.testStart]

/-- A transition into BRIDGING takes the reference to 0 and ends a re-engagement (R181, R183). -/
theorem entered_bridging {s : State} (c : Cause) (h : s.aon.mode ≠ .held) :
    let e := s.entered .bridging c
    e.fes.gridPresent = s.fes.gridPresent ∧ e.fes.reengage = false ∧ e.fes.covered = 0 ∧ e.fes.ref = 0 ∧
      e.aon = s.aon.moved .bridging c s.opMs ∧ e.pool = s.pool ∧ e.vot = s.vot ∧ e.plan = s.plan ∧ sameSward s e ∧
      sameStore s e ∧ e.cfg = s.cfg ∧ e.ids = s.ids := by
  simp [State.entered, State.modeEntry, h, sameStore, sameSward]

/-- With the grid restored the recharge begins and the re-engagement ends; the stage runs on (R183, R184). -/
theorem entered_gridRestored {s : State} (h : s.aon.mode ≠ .held) :
    let e := s.entered .fallow .gridRestored
    e.aon = s.aon.moved .fallow .gridRestored s.opMs ∧ e.fes.recharge = true ∧ e.fes.event.getLsbD 2 = true ∧
      e.fes.reengage = false ∧ e.pool = s.pool ∧ e.vot = s.vot ∧ sameSward s e ∧ sameStore s e ∧ e.cfg = s.cfg ∧
      e.ids = s.ids := by
  have hev (b : BitVec 14) : (setBit b 2).getLsbD 2 = true := getLsbD_setBit_self b (by decide)
  simp [State.entered, State.modeEntry, h, sameStore, sameSward, State.fesEvent, hev]

/-! ### Recovery from STOPPED -/

theorem mode_of_stopClearedDue {s : State} (h : s.stopClearedDue = true) : s.aon.mode = .stopped := by
  simp only [State.stopClearedDue, Bool.and_eq_true, beq_iff_eq] at h
  obtain ⟨⟨⟨⟨⟨hm, -⟩, -⟩, -⟩, -⟩, -⟩ := h
  exact hm

theorem exec_stopCleared_due {s : State} {t : Time} (hf : s.inRst .fabric = false) (hd : (s.at_ t).stopClearedDue = true) :
    exec (.stopCleared t) s = .next ((s.at_ t).transition .fallow .stopCleared) :=
  if_neg (by simp [hf, hd])

theorem watchEnd_over {s : State} {w : StopWatch} (h : s.aon.stopWatch = some w) (ht : w.start + 3600000 ≤ s.opMs) :
    s.watchEnd = { s with aon := { s.aon with stopWatch := none, restarts := if w.entered then s.aon.restarts else 0 } } := by
  unfold State.watchEnd
  rw [h]
  exact if_neg (Nat.not_lt.mpr ht)

theorem watchEnd_running {s : State} {w : StopWatch} (h : s.aon.stopWatch = some w) (ht : s.opMs < w.start + 3600000) :
    s.watchEnd = s := by
  unfold State.watchEnd
  rw [h]
  exact if_pos ht

theorem exec_stopWatchEnd {s : State} (t : Time) (ha : s.inRst .aon = false) :
    exec (.stopWatchEnd t) s = .next (s.at_ t).watchEnd :=
  congrArg _ (if_neg (by simp [ha]))

/-! ### Grid input -/

/-- A loss shows the grid absent and ends a re-engagement (R180, R183). -/
theorem gridLost_fes (s : State) :
    s.gridLost.fes.gridPresent = false ∧ s.gridLost.fes.reengage = false ∧ s.gridLost.fes.covered = 0 := by
  simp only [State.gridLost, ite_fes, apply_ite Fes.gridPresent, apply_ite Fes.reengage, apply_ite Fes.covered]
  simp [State.fesEvent]

theorem exec_gridLoss_due {s : State} {t : Time} (hf : s.inRst .fabric = false) (hv : s.vot.formed = true)
    (hd : (s.at_ t).gridLossDue = true) : exec (.gridLoss t) s = .next (s.at_ t).gridLossStep :=
  if_neg (by simp [hf, hv, hd])

theorem gridLossStep_bridges {s : State} (h : s.aon.mode = .fallow ∨ s.aon.mode = .conducting) :
    s.gridLossStep = s.gridLost.transition .bridging .gridLost :=
  if_pos (by simpa using h)

theorem gridLossStep_stays {s : State} (h : ¬(s.aon.mode = .fallow ∨ s.aon.mode = .conducting)) : s.gridLossStep = s.gridLost :=
  if_neg (by simpa using h)

/-- A return shows the grid present with its event and owes BRIDGING the re-engagement; the bus charge path follows (R176, R182). -/
theorem exec_gridReturn_due {s : State} {t t0 : Time} (hf : s.inRst .fabric = false) (hv : s.vot.formed = true)
    (hg : s.fes.gridPresent = false) (hi : s.fes.inService ≠ []) (hsag : s.fes.sagSince = none) (hsh : s.fes.shortSince = none)
    (hr : s.fes.returnSince = some t0) (ht : t0 + s.lfldN .frontendReturnTime * 10000000 ≤ max s.now t) :
    exec (.gridReturn t) s = .next (State.busCharge { s.at_ t with fes := { s.fes with
      event := setBit s.fes.event 1, gridPresent := true, reengageOwed := s.aon.mode == .bridging } }) := by
  have he : (s.at_ t).elapsed t0 ((s.at_ t).lfldN .frontendReturnTime * 10 * ms) = true := by
    rw [elapsed_iff, Nat.mul_assoc]
    exact ht
  show execGridReturn t s = _
  unfold execGridReturn
  dsimp only
  rw [show (s.at_ t).fes.returnSince = some t0 from hr]
  exact if_neg (by simp [hf, hv, hg, hi, hsag, hsh, he])

theorem exec_gridRestored_due {s : State} {t : Time} (hf : s.inRst .fabric = false) (hv : s.vot.formed = true)
    (hm : s.aon.mode = .bridging) (hr : s.fes.reengage = true) (hc : 400 ≤ s.fes.covered) :
    exec (.gridRestored t) s = .next ((s.at_ t).transition .fallow .gridRestored) :=
  if_neg (by simp [hf, hv, hm, hr, coveredPeriods, Nat.not_lt.mpr hc])

/-- A grid loss step shows the grid absent; it bridges from FALLOW and CONDUCTING and leaves every other mode as it is (R180). -/
theorem gridLossStep_shows (s : State) :
    let s' := s.gridLossStep
    s'.fes.gridPresent = false ∧ s'.fes.reengage = false ∧ s'.fes.covered = 0 ∧
      (s.aon.mode = .fallow ∨ s.aon.mode = .conducting → s'.fes.ref = 0 ∧ s'.aon = s.aon.moved .bridging .gridLost s.opMs) ∧
      (s.aon.mode ≠ .fallow → s.aon.mode ≠ .conducting → s'.aon = s.aon) ∧ s'.pool = s.pool ∧ s'.vot = s.vot ∧
      s'.plan = s.plan ∧ sameSward s s' ∧ sameStore s s' ∧ s'.cfg = s.cfg ∧ s'.ids = s.ids := by
  obtain ⟨hg, hre, hco⟩ := gridLost_fes s
  by_cases h : s.aon.mode = .fallow ∨ s.aon.mode = .conducting
  · have hheld : s.gridLost.aon.mode ≠ .held := by
      rcases h with h | h <;> simp [h]
    rw [gridLossStep_bridges h]
    have hop : s.gridLost.opMs = s.opMs := by simp [State.opMs, State.opAt]
    have hb := entered_bridging .gridLost hheld
    simp only [transition_shows]
    simp only [sameSward, sameStore, State.gridLost_keeps, hg, hop] at hb ⊢
    obtain ⟨hgrid, hreeng, hcov, href, haon, hrest⟩ := hb
    exact ⟨hgrid, hreeng, hcov, fun _ => ⟨href, haon⟩, fun hf hc => absurd h (not_or.mpr ⟨hf, hc⟩), hrest⟩
  · rw [gridLossStep_stays h]
    simp [sameSward, sameStore, hg, hre, hco, h]

/-- Settles O14: each mode change by what its entry leaves, which the rest of the transition keeps; GRID_RETURN by what it sets,
which the bus charge path keeps. -/
theorem modesOfGridAndStop : Obligations.ModesOfGridAndStop := by
  refine ⟨⟨fun s t hf hd => ?_, fun s t w ha hw => ⟨fun ht => ?_, fun ht => ?_⟩⟩, fun s t hf hv hd => ?_,
    fun s t t0 hf hv hg hi hsag hsh hr ht => ?_, fun s t hf hv hm hr hc => ?_⟩
  · have hm : s.aon.mode = .stopped := mode_of_stopClearedDue (s := s.at_ t) hd
    refine ⟨_, exec_stopCleared_due hf hd, ?_⟩
    simp only [transition_shows]
    rw [← hm]
    exact entered_stopCleared (s := s.at_ t) (by simp [hm])
  · rw [exec_stopWatchEnd t ha, watchEnd_over (s := s.at_ t) hw ht]; rfl
  · rw [exec_stopWatchEnd t ha, watchEnd_running (s := s.at_ t) hw ht]
  · exact ⟨_, exec_gridLoss_due hf hv hd, gridLossStep_shows (s.at_ t)⟩
  · obtain ⟨bc, smb, ev, hb, hev⟩ := busCharge_eq { s.at_ t with fes := { s.fes with
      event := setBit s.fes.event 1, gridPresent := true, reengageOwed := s.aon.mode == .bridging } }
    rw [exec_gridReturn_due hf hv hg hi hsag hsh hr ht, hb]
    exact ⟨_, rfl, rfl, hev 1 (getLsbD_setBit_self _ (by decide)), rfl, rfl, rfl, rfl, rfl⟩
  · refine ⟨_, exec_gridRestored_due hf hv hm hr hc, ?_⟩
    obtain ⟨haon, hrech, hev, hrest⟩ := entered_gridRestored (s := s.at_ t) (by simp [hm])
    simp only [transition_shows]
    rw [← hm]
    exact ⟨haon, hrech, transition_event hev, hrest⟩

end Sys2Proof.Machine

/-! SUPPORT. The form of a state (R31, R266, R408): every memory canonical, and the four ports of Heathline; what the lemma memory,
the tussocks and folds keep of it; and that it holds at reset (R465). -/
namespace Sys2Proof.Machine

/-! ### The form of a state -/

/-- Every tussock's SRAM is in canonical form. -/
def tusOk (l : List Tus) : Prop := ∀ k ∈ l, k.sram.wf = true

/-- The bytes of every transfer are in canonical form. -/
def xfersOk (l : List Xfer) : Prop := ∀ x ∈ l, x.data.wf = true

/-- The form of a state: every memory canonical, four ports of Heathline. -/
@[simp] abbrev State.inForm (s : State) : Prop :=
  s.ddr.wf = true ∧ s.swm.wf = true ∧ tusOk s.swd.tus ∧ xfersOk s.mbx.xfers ∧ s.htl.ports.length = 4

theorem inForm_iff (s : State) : s.inForm ↔ s.memOk ∧ s.htl.ports.length = 4 := by
  simp only [State.inForm, State.memOk, tusOk, xfersOk, and_assoc]

/-- The parts that the form speaks of are as they were. -/
@[simp] abbrev sameForm (s s' : State) : Prop :=
  s'.ddr = s.ddr ∧ s'.swm = s.swm ∧ s'.swd.tus = s.swd.tus ∧ s'.mbx.xfers = s.mbx.xfers ∧
    s'.htl.ports.length = s.htl.ports.length

@[simp] theorem foldl_tus {α : Type} (f : State → α → State) (h : ∀ b a, (f b a).swd.tus = b.swd.tus) (l : List α) (b : State) :
    (l.foldl f b).swd.tus = b.swd.tus := foldl_keeps (fun s => s.swd.tus) f h l b

@[simp] theorem foldl_xfers {α : Type} (f : State → α → State) (h : ∀ b a, (f b a).mbx.xfers = b.mbx.xfers) (l : List α)
    (b : State) : (l.foldl f b).mbx.xfers = b.mbx.xfers := foldl_keeps (fun s => s.mbx.xfers) f h l b

@[simp] theorem foldl_ports {α : Type} (f : State → α → State) (h : ∀ b a, (f b a).htl.ports.length = b.htl.ports.length)
    (l : List α) (b : State) : (l.foldl f b).htl.ports.length = b.htl.ports.length :=
  foldl_keeps (fun s => s.htl.ports.length) f h l b

@[simp] theorem ite_tus (c : Prop) [Decidable c] (a b : Swd) : (if c then a else b).tus = if c then a.tus else b.tus :=
  apply_ite Swd.tus c a b

@[simp] theorem ite_xfers (c : Prop) [Decidable c] (a b : Mbx) : (if c then a else b).xfers = if c then a.xfers else b.xfers :=
  apply_ite Mbx.xfers c a b

@[simp] theorem ite_ports (c : Prop) [Decidable c] (a b : Htl) : (if c then a else b).ports = if c then a.ports else b.ports :=
  apply_ite Htl.ports c a b

@[simp] theorem ite_length {α : Type} (c : Prop) [Decidable c] (a b : List α) :
    (if c then a else b).length = if c then a.length else b.length := apply_ite List.length c a b

@[simp] theorem updMgr_xfers (m : Mbx) (g : Mgr) (f : MgrState → MgrState) : (m.updMgr g f).xfers = m.xfers := by
  cases g <;> rfl

/-! ### Lists of tussocks and transfers -/

theorem tusOk_upd {l : List Tus} {f : Tus → Tus} (h : tusOk l) (hf : ∀ k, k.sram.wf = true → (f k).sram.wf = true) (i : Nat) :
    tusOk (upd l i f) := by
  induction l generalizing i with
  | nil => exact h
  | cons a l ih =>
    have ha := h a List.mem_cons_self
    have hl : tusOk l := fun k hk => h k (List.mem_cons_of_mem _ hk)
    cases i with
    | zero => exact fun k hk => (List.mem_cons.mp hk).elim (fun e => e ▸ hf a ha) (hl k)
    | succ i => exact fun k hk => (List.mem_cons.mp hk).elim (fun e => e ▸ ha) (ih hl i k)

theorem tusOk_map {l : List Tus} {f : Tus → Tus} (h : tusOk l) (hf : ∀ k, k.sram.wf = true → (f k).sram.wf = true) :
    tusOk (l.map f) := by
  intro k hk
  obtain ⟨a, ha, rfl⟩ := List.mem_map.mp hk
  exact hf a (h a ha)

@[simp] theorem tusOk_replicate_reset (n : Nat) : tusOk (List.replicate n Tus.reset) := by
  intro k hk
  rw [(List.mem_replicate.mp hk).2]
  rfl

@[simp] theorem tusOk_reset : tusOk Swd.reset.tus := tusOk_replicate_reset 640

@[simp] theorem tusOk_l3 {d : Swd} (h : tusOk d.tus) : tusOk d.l3.tus := by
  refine tusOk_map h (fun k hk => ?_)
  unfold Tus.l3
  split <;> exact hk

/-- Every tussock there is, and the one that stands for those that are not, has its SRAM in canonical form. -/
@[simp] theorem tus_sram_wf {s : State} (h : tusOk s.swd.tus) (i : Nat) : (s.tus i).sram.wf = true := by
  unfold State.tus
  rw [List.getD_eq_getElem?_getD]
  cases hi : s.swd.tus[i]? with
  | none => rfl
  | some k => exact h k (List.mem_of_getElem? hi)

@[simp] theorem xfersOk_nil : xfersOk [] := fun _ h => absurd h List.not_mem_nil

@[simp] theorem xfersOk_filter {l : List Xfer} (h : xfersOk l) (p : Xfer → Bool) : xfersOk (l.filter p) :=
  fun x hx => h x (List.mem_filter.mp hx).1

theorem xfersOk_append {l : List Xfer} (h : xfersOk l) {x : Xfer} (hx : x.data.wf = true) : xfersOk (l ++ [x]) := by
  intro y hy
  rcases List.mem_append.mp hy with hy | hy
  · exact h y hy
  · exact List.mem_singleton.mp hy ▸ hx

/-- A transfer takes the place of the one with its number. -/
theorem xfersOk_replace {l : List Xfer} (h : xfersOk l) {y : Xfer} (hy : y.data.wf = true) (n : Nat) :
    xfersOk (l.map fun z => if z.num == n then y else z) := by
  intro z hz
  obtain ⟨a, ha, rfl⟩ := List.mem_map.mp hz
  split
  · exact hy
  · exact h a ha

theorem xfersOk_find {l : List Xfer} (h : xfersOk l) {p : Xfer → Bool} {x : Xfer} (hx : l.find? p = some x) :
    x.data.wf = true :=
  h x (List.mem_of_find?_eq_some hx)

/-! ### Folds -/

theorem foldl_wf {α : Type} {f : Mem → α → Mem} (hf : ∀ m a, m.wf = true → (f m a).wf = true) (l : List α) {m : Mem}
    (h : m.wf = true) : (l.foldl f m).wf = true := by
  induction l generalizing m with
  | nil => exact h
  | cons a l ih => exact ih (hf m a h)

theorem foldl_inForm {α : Type} {f : State → α → State} (hf : ∀ s a, s.inForm → (f s a).inForm) (l : List α) {s : State}
    (h : s.inForm) : (l.foldl f s).inForm := by
  induction l generalizing s with
  | nil => exact h
  | cons a l ih => exact ih (hf s a h)

theorem inForm_ite {c : Prop} [Decidable c] {a b : State} (ha : c → a.inForm) (hb : ¬c → b.inForm) :
    (if c then a else b).inForm := by
  split
  · exact ha ‹_›
  · exact hb ‹_›

theorem inForm_snd_ite {α : Type} {c : Prop} [Decidable c] {a b : α × State} (ha : c → a.2.inForm) (hb : ¬c → b.2.inForm) :
    (if c then a else b).2.inForm := by
  split
  · exact ha ‹_›
  · exact hb ‹_›

theorem inForm_of_sameForm {s s' : State} (e : sameForm s s') (h : s.inForm) : s'.inForm := by
  obtain ⟨hddr, hswm, htus, hxfers, hports⟩ := e
  simp only [State.inForm, hddr, hswm, htus, hxfers, hports]
  exact h

theorem sameForm_trans {s s' s'' : State} (e : sameForm s s') (e' : sameForm s' s'') : sameForm s s'' := by
  obtain ⟨hddr, hswm, htus, hxfers, hports⟩ := e'
  simp only [sameForm, hddr, hswm, htus, hxfers, hports]
  exact e

theorem sameForm_ite {c : Prop} [Decidable c] {s a b : State} (ha : sameForm s a) (hb : sameForm s b) :
    sameForm s (if c then a else b) := by
  split
  · exact ha
  · exact hb

theorem foldl_sameForm {α : Type} {f : State → α → State} (hf : ∀ s a, sameForm s (f s a)) (l : List α) (s : State) :
    sameForm s (l.foldl f s) := by
  induction l generalizing s with
  | nil => simp
  | cons a l ih => exact sameForm_trans (hf s a) (ih (f s a))

/-- `foldl_sameForm`, with the step's outcome named: the kernel then compares no two forms of the step itself. -/
theorem foldl_sameForm_of_eq {α : Type} {f : State → α → State} (hf : ∀ s a s', f s a = s' → sameForm s s') (l : List α)
    (s : State) : sameForm s (l.foldl f s) := foldl_sameForm (fun s a => hf s a _ rfl) l s

theorem sameForm_snd_ite {α : Type} {c : Prop} [Decidable c] {s : State} {a b : α × State} (ha : sameForm s a.2)
    (hb : sameForm s b.2) : sameForm s (if c then a else b).2 := by
  split
  · exact ha
  · exact hb

/-! ### Lemmas of the lexicon in memory -/

@[simp] theorem lemSet_wf {m : Mem} (h : m.wf = true) (slot o n v : Nat) : (lemSet m slot o n v).wf = true :=
  writeBytes_wf _ _ _ h

@[simp] theorem lemSeal_wf {m : Mem} (h : m.wf = true) (slot : Nat) : (lemSeal m slot).wf = true := lemSet_wf h _ _ _ _

@[simp] theorem lemFlagSet_wf {m : Mem} (h : m.wf = true) (slot i : Nat) (v : Bool) : (lemFlagSet m slot i v).wf = true :=
  lemSeal_wf (lemSet_wf h _ _ _ _) _

@[simp] theorem lemZero_wf {m : Mem} (h : m.wf = true) (slot : Nat) : (lemZero m slot).wf = true := filter_wfFrom _ h

theorem tiersMark_wf {m : Mem} (h : m.wf = true) (slot : Nat) : (tiersMark m slot).wf = true :=
  foldl_wf (fun _ _ hm => foldl_wf (fun _ _ hm => lemSet_wf hm _ _ _ _) _ hm) _ h

theorem tierLearn_wf {m : Mem} (h : m.wf = true) (slot n a b : Nat) (series : List (Nat × Nat)) (t : Tier) :
    (tierLearn m slot n a b series t).wf = true := by
  refine foldl_wf (fun m i hm => ?_) _ h
  split
  · exact hm
  · exact lemSet_wf hm _ _ _ _

theorem tiersLearn_wf {m : Mem} (h : m.wf = true) (slot n a b : Nat) (series : List (Nat × Nat)) :
    (tiers.foldl (fun m t => tierLearn m slot n a b series t) m).wf = true :=
  foldl_wf (fun _ t hm => tierLearn_wf hm slot n a b series t) tiers h

theorem wf_ite {c : Prop} [Decidable c] {a b : Mem} (ha : a.wf = true) (hb : b.wf = true) : (if c then a else b).wf = true := by
  split
  · exact ha
  · exact hb

@[simp] theorem lemLearn_wf {m : Mem} (h : m.wf = true) (learnN confN sigma pct slot a b : Nat) (series : List (Nat × Nat)) :
    (lemLearn m learnN confN sigma pct slot a b series).wf = true := by
  unfold lemLearn
  refine lemSeal_wf (wf_ite ?_ (tiersLearn_wf (wf_ite (tiersMark_wf ?_ _) ?_) _ _ _ _ _)) _
  all_goals
    repeat apply lemSet_wf
    exact h

@[simp] theorem lemSuccessor_wf {m : Mem} (h : m.wf = true) (learnN slot key : Nat) (gap : Int) :
    (lemSuccessor m learnN slot key gap).wf = true := by
  unfold lemSuccessor
  extract_lets l total l1 past l2 total2 sorted m1 m2
  refine lemSeal_wf (foldl_wf (fun m i hm => ?_) _ (lemSet_wf h _ _ _ _)) _
  dsimp only
  split <;> exact writeBytes_wf _ _ _ hm

@[simp] theorem succRestore_wf {m : Mem} (h : m.wf = true) (slot : Nat) (b : List Byte) : (succRestore m slot b).wf = true := by
  unfold succRestore
  exact lemSeal_wf (writeBytes_wf _ _ _ (writeBytes_wf _ _ _ h)) _

/-! ### A tussock's SRAM through what is done to it -/

section
variable (k : Tus)

@[simp] theorem setReg_sram (i : Nat) (v : Word) : (k.setReg i v).sram = k.sram := by
  unfold Tus.setReg
  split <;> rfl

@[simp] theorem next_sram : k.next.sram = k.sram := rfl

@[simp] theorem events_sram (e : Events) : (k.events e).sram = k.sram := rfl

@[simp] theorem halt_sram (c : Nat) : (k.halt c).sram = k.sram := rfl

@[simp] theorem warn_sram (b : Nat) : (k.warn b).sram = k.sram := rfl

@[simp] theorem sync_sram (now : Time) : (k.sync now).sram = k.sram := rfl

@[simp] theorem count_sram (stream : Nat) : (k.count stream).sram = k.sram := by
  unfold Tus.count
  split <;> rfl

@[simp] theorem loadStart_sram : k.loadStart.sram = k.sram := by
  unfold Tus.loadStart
  dsimp only
  (repeat' split) <;> rfl

@[simp] theorem go_sram : k.go.sram = k.sram := by
  unfold Tus.go
  dsimp only
  (repeat' split) <;> rfl

@[simp] theorem draw_sram (lane : Nat) : (k.draw lane).2.sram = k.sram := rfl

@[simp] theorem round_sram (sr : Bool) (lane : Nat) : (k.round sr lane).2.sram = k.sram := by
  unfold Tus.round
  split <;> rfl
end

@[simp] theorem land_sram_wf {k : Tus} (h : k.sram.wf = true) (f : Flit) (words : List Nat) :
    (k.land f words).2.sram.wf = true := by
  unfold Tus.land
  generalize hacc : (([], k) : List (Nat × Word) × Tus) = acc
  have ha : acc.2.sram.wf = true := hacc ▸ h
  clear hacc
  induction words generalizing acc with
  | nil => exact ha
  | cons i words ih => exact ih _ (writeWord_wf _ _ _ ha)

@[simp] theorem portS_sram_wf {k : Tus} (h : k.sram.wf = true) (f : Flit) (n : List (Nat × NAcc)) (fails : Nat) (force : Bool) :
    (k.portS f n fails force).2.sram.wf = true := by
  unfold Tus.portS
  extract_lets stay go k1 _
  clear_value go stay
  have hk1 : k1.sram.wf = true := by
    unfold k1
    split <;> exact h
  have hland := land_sram_wf hk1 f go
  generalize k1.land f go = r at hland ⊢
  obtain ⟨olds, k2⟩ := r
  cases stay with
  | nil => simpa using hland
  | cons i l => exact hland

/-! ### Outcomes -/

/-- An outcome whose next state, if there is one, has the form. -/
def OutForm : Host.Outcome State Fault Refusal → Prop
  | .next s => s.inForm
  | .fault _ => True
  | .refused _ => True

@[simp] theorem outForm_next (s : State) : OutForm (.next s) ↔ s.inForm := Iff.rfl

@[simp] theorem outForm_fault (r : Fault) : OutForm (.fault r) := trivial

theorem outForm_ite {c : Prop} [Decidable c] {a b : Host.Outcome State Fault Refusal} (ha : c → OutForm a)
    (hb : ¬c → OutForm b) :
    OutForm (if c then a else b) := by
  split
  · exact ha ‹_›
  · exact hb ‹_›

/-! ### Reset -/

theorem inForm_reset : State.reset.inForm := ⟨rfl, rfl, tusOk_reset, xfersOk_nil, rfl⟩

/-- Settles O59: at reset the memories are empty and the port table has four entries. -/
theorem resetForm : Obligations.ResetForm := (inForm_iff State.reset).mp inForm_reset

end Sys2Proof.Machine

/-! SUPPORT. The form through the operations of the state up to the fabric's own: resets, sources, records, the configuration, the
managers' commands, the legs and the lanes. -/
namespace Sys2Proof.Machine

@[simp] theorem State.updPort_sameForm (s : State) (p : Port) (f : HPort → HPort) : sameForm s (s.updPort p f) := by
  simp [State.updPort]

@[simp] theorem State.emitCell_sameForm (s : State) (p : Port) (c : Cell) : sameForm s (s.emitCell p c) := by
  simp [State.emitCell]

@[simp] theorem State.emitAll_sameForm (s : State) (l : List Cell) (flags : Nat) (r : Port × Nat) :
    sameForm s (s.emitAll l flags r) := by
  simp [State.emitAll]

@[simp] theorem State.broadcast_sameForm (s : State) (l : List Cell) (dst cls seq : Nat) :
    sameForm s (s.broadcast l dst cls seq) := by
  simp only [State.broadcast]
  split <;> simp

@[simp] theorem State.htlTake_sameForm (s : State) (cls service dst : Nat) (payload : List Byte) :
    sameForm s (s.htlTake cls service dst payload).2.2 := by
  simp [State.htlTake]

@[simp] theorem State.htlSend_sameForm (s : State) (cls service dst : Nat) (payload : List Byte) :
    sameForm s (s.htlSend cls service dst payload) := by
  simp [State.htlSend]

@[simp] theorem State.htlNext_sameForm (s : State) (service : Nat) (p : Port) (payload : List Byte) :
    sameForm s (s.htlNext service p payload) := by
  simp only [State.htlNext]
  split <;> simp

@[simp] theorem State.brwSend_sameForm (s : State) (p : Port) (payload : List Byte) : sameForm s (s.brwSend p payload) := by
  simp [State.brwSend]

@[simp] theorem State.toNeighbours_sameForm (s : State) (payload : List Byte) : sameForm s (s.toNeighbours payload) := by
  simp [State.toNeighbours]

@[simp] theorem State.appendRec_sameForm (s : State) (r : BRec) : sameForm s (s.appendRec r) := by
  simp [State.appendRec]

@[simp] theorem State.stageRec_sameForm (s : State) (r : BRec) : sameForm s (s.stageRec r) := by
  simp [State.stageRec]

@[simp] theorem State.stage_sameForm (s : State) (type sub : Nat) (payload : List Byte) (flush : Bool) :
    sameForm s (s.stage type sub payload flush) := by
  simp [State.stage]

@[simp] theorem State.takeInbox_sameForm (s : State) (type : Nat) : sameForm s (s.takeInbox type) := by
  simp only [State.takeInbox]
  split <;> simp

@[simp] theorem State.takeMsg_sameForm (s : State) (service : Nat) : sameForm s (s.takeMsg service) := by
  simp only [State.takeMsg]
  split <;> simp

@[simp] theorem State.sendMsg_sameForm (s : State) (m : MsgType) (dest : Mgr) (code ref result : Nat) (payload : List Byte) :
    sameForm s (s.sendMsg m dest code ref result payload) := by
  simp [State.sendMsg]

@[simp] theorem State.item_sameForm (s : State) (type : Nat) (content : List Byte) : sameForm s (s.item type content) := by
  simp only [State.item]
  split <;> simp

@[simp] theorem State.notify_sameForm (s : State) (code : Nat) (content : List Byte) : sameForm s (s.notify code content) := by
  simp [State.notify]

@[simp] theorem State.ledgerRecord_sameForm (s : State) (e : LedgerEntry) (closing : Bool) :
    sameForm s (s.ledgerRecord e closing) := by
  simp [State.ledgerRecord]

@[simp] theorem State.openLedger_sameForm (s : State) (e : LedgerEntry) : sameForm s (s.openLedger e) := by
  simp [State.openLedger]

@[simp] theorem State.closeLedger_sameForm (s : State) (e : LedgerEntry) : sameForm s (s.closeLedger e) := by
  simp only [State.closeLedger]
  (repeat' split) <;> simp

@[simp] theorem State.closeLedgers_sameForm (s : State) (p : LedgerEntry → Bool) : sameForm s (s.closeLedgers p) := by
  simp [State.closeLedgers]

@[simp] theorem State.limitWhile_sameForm (s : State) (reason : Nat) (on : Bool) : sameForm s (s.limitWhile reason on) := by
  simp [State.limitWhile]

@[simp] theorem State.laneRecord_sameForm (s : State) (sub : Nat) (x : Lane) (kind : Nat) :
    sameForm s (s.laneRecord sub x kind) := by
  simp [State.laneRecord]

@[simp] theorem State.fence_sameForm (s : State) (x : Lane) (kind : Nat) : sameForm s (s.fence x kind) := by
  simp [State.fence]

@[simp] theorem State.fenceNow_sameForm (s : State) (x : Lane) : sameForm s (s.fenceNow x) := by
  simp [State.fenceNow]

@[simp] theorem State.disagree_sameForm (s : State) (x : Lane) (kind gate sect : Nat) :
    sameForm s (s.disagree x kind gate sect) := by
  simp [State.disagree]

@[simp] theorem State.loseDomain_inForm (s : State) (d : Dom) (h : s.inForm) : (s.loseDomain d).inForm := by
  cases d <;> simp [State.loseDomain, h]

@[simp] theorem State.enterDomain_inForm (s : State) (d : Dom) (h : s.inForm) : (s.enterDomain d).inForm := by
  simp only [State.enterDomain]
  split
  · exact h
  · split <;> simp [h]

/-- Every memory is empty at an L4 or L5, and Heathline has its four ports (R464, R465). -/
@[simp] theorem State.enterFull_inForm (s : State) : s.enterFull.inForm := ⟨rfl, rfl, tusOk_reset, xfersOk_nil, rfl⟩

@[simp] theorem State.flushStart_sameForm (s : State) (level : Nat) : sameForm s (s.flushStart level) := by
  simp [State.flushStart]

@[simp] theorem State.assertSource_inForm (s : State) (src : Src) (level : Nat) (lanes : List Lane) (hold : Bool)
    (h : s.inForm) :
    (s.assertSource src level lanes hold).inForm := by
  unfold State.assertSource
  dsimp only
  refine inForm_ite (fun _ => h) fun _ => inForm_ite (fun _ => h) fun _ => inForm_ite (fun _ => ?full) fun _ => ?part
  case full =>
    refine inForm_ite (fun _ => State.enterFull_inForm _) fun _ => inForm_ite (fun _ => h) fun _ => ?_
    exact inForm_ite (fun _ => by simp [h]) fun _ => by simp [h]
  case part =>
    exact inForm_ite (fun _ => h) fun _ => foldl_inForm (fun s d hs => s.enterDomain_inForm d hs) _ h

@[simp] theorem State.holdLatched_inForm (s : State) (h : s.inForm) : s.holdLatched.inForm := by
  refine foldl_inForm (fun s x hs => ?_) _ h
  dsimp only
  split <;> simp [hs]

@[simp] theorem State.assertReset_inForm (s : State) (src : Src) (level : Nat) (lanes : List Lane) (h : s.inForm) :
    (s.assertReset src level lanes).inForm := by
  simp [State.assertReset, h]

@[simp] theorem State.commit_sameForm (s : State) (n : Nat) : sameForm s (s.commit n) := by
  simp only [State.commit]
  split <;> simp

@[simp] theorem State.stageLoss_sameForm (s : State) : sameForm s s.stageLoss := by
  simp [State.stageLoss]

@[simp] theorem State.mirrorStaged_sameForm (s : State) : sameForm s s.mirrorStaged := by
  simp [State.mirrorStaged]

@[simp] theorem State.addOp_sameForm (s : State) (b : Nat) : sameForm s (s.addOp b) := by
  simp [State.addOp]

@[simp] theorem State.anchor_sameForm (s : State) (b pccBefore pcc source : Nat) (next : Nat) (writable : Bool) :
    sameForm s (s.anchor b pccBefore pcc source next writable) := by
  simp [State.anchor]

@[simp] theorem State.anchorQuery_sameForm (s : State) : sameForm s s.anchorQuery := by
  simp [State.anchorQuery]

@[simp] theorem State.anchorFromReplies_sameForm (s : State) : sameForm s s.anchorFromReplies := by
  simp only [State.anchorFromReplies]
  split <;> simp

@[simp] theorem State.barrowClear_sameForm (s : State) (targets epoch : Nat) (digest : List Byte) :
    sameForm s (s.barrowClear targets epoch digest) := by
  simp [State.barrowClear]

@[simp] theorem State.clkFail_sameForm (s : State) (c : Clk) (detail : Nat) : sameForm s (s.clkFail c detail) := by
  simp only [State.clkFail]
  split <;> simp

@[simp] theorem State.idsRecord_sameForm (s : State) (sub : Nat) (payload : List Byte) :
    sameForm s (s.idsRecord sub payload) := by
  simp [State.idsRecord]

@[simp] theorem State.verifyFail_sameForm (s : State) (object detail : Nat) : sameForm s (s.verifyFail object detail) := by
  simp [State.verifyFail]

@[simp] theorem State.verify_sameForm (s : State) (object : Nat) (signer message signature : List Byte) (svn : Option Nat) :
    sameForm s (s.verify object signer message signature svn).2 := by
  simp only [State.verify]
  split <;> simp

@[simp] theorem State.verifyFile_sameForm (s : State) (object : Nat) (file : List Byte) :
    sameForm s (s.verifyFile object file).2 := by
  simp only [State.verifyFile]
  split <;> simp

@[simp] theorem State.seal_sameForm (s : State) (staged : Bool) : sameForm s (s.seal staged) := by
  simp only [State.seal]
  split <;> simp

@[simp] theorem State.judgeImage_sameForm (s : State) (bs : List Byte) : sameForm s (s.judgeImage bs).2 := by
  simp [State.judgeImage]

@[simp] theorem State.sendEpoch_sameForm (s : State) (g : Mgr) (ref : Nat) : sameForm s (s.sendEpoch g ref) := by
  simp [State.sendEpoch]

@[simp] theorem State.takeEpoch_inForm (s : State) (g : Mgr) (epoch : Nat) (h : s.inForm) : (s.takeEpoch g epoch).2.inForm := by
  simp only [State.takeEpoch]
  (repeat' split) <;> simp [h]

@[simp] theorem State.heard_sameForm (s : State) : sameForm s s.heard := by
  simp [State.heard]

@[simp] theorem State.sendPart_sameForm (s : State) (h : CmdHdr) (code result : Nat) (payload : List Byte) :
    sameForm s (s.sendPart h code result payload) := by
  simp [State.sendPart]

@[simp] theorem State.sendReply_sameForm (s : State) (h : CmdHdr) (code result : Nat) (payload : List Byte) :
    sameForm s (s.sendReply h code result payload) := by
  simp [State.sendReply]

@[simp] theorem State.countCmd_sameForm (s : State) (h : CmdHdr) (code result : Nat) :
    sameForm s (s.countCmd h code result) := by
  simp [State.countCmd]

@[simp] theorem State.complete_sameForm (s : State) (h : CmdHdr) (code result : Nat) (payload : List Byte) :
    sameForm s (s.complete h code result payload) := by
  simp [State.complete]

@[simp] theorem State.takeCommand_inForm (s : State) (h : CmdHdr) (code : Nat) (needSigned : Bool) (hs : s.inForm) :
    (s.takeCommand h code needSigned).2.inForm := by
  have he := State.takeEpoch_inForm s h.mgr h.epoch hs
  unfold State.takeCommand
  generalize s.takeEpoch h.mgr h.epoch = r at he ⊢
  obtain ⟨ok, s1⟩ := r
  dsimp only at he ⊢
  (repeat' split) <;> simp [hs, he]

/-- A manager's command keeps the form where its effect does and what follows a DONE answer does. -/
theorem State.runCommand_inForm {s : State} (hs : s.inForm) (h : CmdHdr) (code : Nat) (b : Bool)
    {f : State → (Nat × List Byte) × State} {after : State → State} (hf : ∀ s, s.inForm → (f s).2.inForm)
    (ha : ∀ s, s.inForm → (after s).inForm) : (s.runCommand h code b f after).inForm := by
  have ht := State.takeCommand_inForm s h code b hs
  unfold State.runCommand
  generalize s.takeCommand h code b = r at ht ⊢
  obtain ⟨go, s1⟩ := r
  have hr := hf s1 ht
  refine inForm_ite (fun _ => ht) fun _ => ?_
  generalize f s1 = r at hr ⊢
  obtain ⟨⟨r, p⟩, s2⟩ := r
  have hc : (s2.complete h code r p).inForm := inForm_of_sameForm (State.complete_sameForm s2 h code r p) hr
  exact inForm_ite (fun _ => ha _ hc) fun _ => hc

@[simp] theorem State.writeMbx_sameForm (s : State) (o : Nat) (v : Word) : sameForm s (s.writeMbx o v) := by
  simp only [State.writeMbx]
  split <;> simp

@[simp] theorem State.cfgDone_sameForm (s : State) (op : CfgOp) (result seq : Nat) (by_ : Option CmdHdr) :
    sameForm s (s.cfgDone op result seq by_) := by
  simp only [State.cfgDone]
  split <;> simp

@[simp] theorem State.cfgWrite_sameForm (s : State) (by_ : Option CmdHdr) : sameForm s (s.cfgWrite by_) := by
  simp only [State.cfgWrite]
  split <;> simp

@[simp] theorem State.cfgWarm_sameForm (s : State) (by_ : Option CmdHdr) : sameForm s (s.cfgWarm by_) := by
  simp only [State.cfgWarm]
  split <;> simp

@[simp] theorem State.cfgFull_inForm (s : State) (by_ : Option CmdHdr) (h : s.inForm) : (s.cfgFull by_).inForm := by
  simp only [State.cfgFull]
  split <;> simp [h]

@[simp] theorem State.cfgCommand_inForm (s : State) (op : CfgOp) (by_ : Option CmdHdr) (h : s.inForm) :
    (s.cfgCommand op by_).inForm := by
  simp only [State.cfgCommand]
  (repeat' split) <;> simp [h]

@[simp] theorem State.cfgEnd_sameForm (s : State) (ok : Bool) : sameForm s (s.cfgEnd ok) := by
  simp only [State.cfgEnd]
  (repeat' split) <;> simp

@[simp] theorem State.trustCommand_sameForm (s : State) (bytes voucher : List Byte) :
    sameForm s (s.trustCommand bytes voucher).2 := by
  have hfail : ∀ d, sameForm s (s.verifyFail 4 d) := fun d => by simp
  unfold State.trustCommand
  refine sameForm_snd_ite (hfail 6) ?_
  split
  · exact hfail 4
  · iterate 6 refine sameForm_snd_ite (hfail _) ?_
    split
    · exact hfail 4
    · exact sameForm_ite (by simp) (by simp)

@[simp] theorem State.tamperFire_inForm (s : State) (d : Nat) (h : s.inForm) : (s.tamperFire d).inForm := by
  simp only [State.tamperFire]
  (repeat' split) <;> simp [h]

@[simp] theorem State.resetReaction_inForm (s : State) (source code : Nat) (h : s.inForm) :
    (s.resetReaction source code).inForm := by
  simp only [State.resetReaction]
  (repeat' split) <;> simp [h]

@[simp] theorem State.faultRecord_sameForm (s : State) (q : QMsg) : sameForm s (s.faultRecord q) := by
  simp [State.faultRecord]

@[simp] theorem State.collect_inForm (s : State) (m : FaultMsg) (h : s.inForm) : (s.collect m).inForm := by
  have hitem : ∀ (f : Flt) (q : QMsg), ((({ s with flt := f }).faultRecord q).item tFault (beBytes 8 q.word.toNat)).inForm :=
    fun f q => by simp [h]
  have hnmi : ∀ (s : State) (q : QMsg), sameForm s (s.nmi q) := fun s q => by simp
  unfold State.collect
  split
  · exact h
  · exact State.resetReaction_inForm _ _ _
      (inForm_ite (fun _ => inForm_of_sameForm (hnmi _ _) (hitem _ _)) fun _ => hitem _ _)

@[simp] theorem State.fallback_sameForm (s : State) : sameForm s s.fallback := by
  simp [State.fallback]

@[simp] theorem State.legState_sameForm (s : State) (k : Nat) (st : LegState) (f : Leg → Leg) :
    sameForm s (s.legState k st f) := by
  simp [State.legState]

@[simp] theorem State.legLoss_sameForm (s : State) (leg : Nat) (g : Group) : sameForm s (s.legLoss leg g) := by
  simp [State.legLoss]

@[simp] theorem State.departs_sameForm (s : State) (k : Nat) (st : LegState) : sameForm s (s.departs k st) := by
  simp [State.departs]

@[simp] theorem State.joinSpare_sameForm (s : State) (k : Nat) (d : Departure) : sameForm s (s.joinSpare k d) := by
  simp [State.joinSpare]

@[simp] theorem State.countLimited_sameForm (s : State) (k : Nat) : sameForm s (s.countLimited k) := by
  simp [State.countLimited]

@[simp] theorem State.classify_sameForm (s : State) (k : Nat) (sensed est : Rat) : sameForm s (s.classify k sensed est) := by
  simp [State.classify]

@[simp] theorem State.endOnTime_sameForm (s : State) (k : Nat) (d : Dir) (limited : Bool) (x : PulseIn) :
    sameForm s (s.endOnTime k d limited x) := by
  simp [State.endOnTime]

@[simp] theorem State.condemn_sameForm (s : State) (k : Nat) (st : LegState) (x : TestIn) : sameForm s (s.condemn k st x) := by
  simp [State.condemn]

@[simp] theorem State.judgeLeg_sameForm (s : State) (x : TestIn) (last : Bool) (k : Nat) :
    sameForm s (s.judgeLeg x last k) := by
  simp only [State.judgeLeg]
  (repeat' split) <;> simp

@[simp] theorem State.completePlace_sameForm (g : Group) (a : State × Bool) (p : Nat) :
    sameForm a.1 (State.completePlace g a p).1 := by
  unfold State.completePlace
  obtain ⟨s, short⟩ := a
  dsimp only
  (repeat' split) <;> simp

theorem foldl_completePlace_sameForm (g : Group) (l : List Nat) (a : State × Bool) :
    sameForm a.1 (l.foldl (State.completePlace g) a).1 := by
  induction l generalizing a with
  | nil => simp
  | cons p l ih => exact sameForm_trans (State.completePlace_sameForm g a p) (ih _)

@[simp] theorem State.completeGroups_sameForm (s : State) : sameForm s s.completeGroups := by
  have hplace := fun (g : Group) (s : State) => foldl_completePlace_sameForm g (s.places g) (s, false)
  have hs := hplace .s s
  unfold State.completeGroups
  generalize (s.places .s).foldl (State.completePlace .s) (s, false) = a at hs ⊢
  obtain ⟨s1, shortS⟩ := a
  have hb := hplace .b s1
  dsimp only at hs hb ⊢
  generalize (s1.places .b).foldl (State.completePlace .b) (s1, false) = b at hb ⊢
  obtain ⟨s2, shortB⟩ := b
  refine sameForm_trans (sameForm_trans hs hb) ?_
  simp

@[simp] theorem State.toUntested_sameForm (s : State) : sameForm s s.toUntested := by
  simp [State.toUntested]

@[simp] theorem State.stageBegin_sameForm (s : State) : sameForm s s.stageBegin := by
  simp [State.stageBegin]

@[simp] theorem State.shortCheck_sameForm (s : State) : sameForm s s.shortCheck := by
  simp [State.shortCheck]

@[simp] theorem State.refLedger_sameForm (s : State) : sameForm s s.refLedger := by
  simp [State.refLedger]

@[simp] theorem State.rejectVec_sameForm (s : State) (w : List Word) (v : Nat) : sameForm s (s.rejectVec w v) := by
  simp [State.rejectVec]

@[simp] theorem State.judgeVec_sameForm (s : State) : sameForm s s.judgeVec := by
  simp only [State.judgeVec]
  (repeat' split) <;> simp

@[simp] theorem State.rectState_sameForm (s : State) (k new : Nat) : sameForm s (s.rectState k new) := by
  simp [State.rectState]

@[simp] theorem State.endPoll_sameForm (s : State) (k : Nat) : sameForm s (s.endPoll k) := by
  simp [State.endPoll]

@[simp] theorem State.retire_sameForm (s : State) (j st : Nat) : sameForm s (s.retire j st) := by
  simp [State.retire]

@[simp] theorem State.joinFails_sameForm (s : State) (j : Nat) : sameForm s (s.joinFails j) := by
  simp [State.joinFails]

@[simp] theorem State.pollStr_sameForm (s : State) (j : Nat) (r : StrRes) : sameForm s (s.pollStr j r) := by
  simp only [State.pollStr]
  (repeat' split) <;> simp

@[simp] theorem State.shadowMark_inForm (s : State) (x : Lane) (h : s.inForm) : (s.shadowMark x).inForm := by
  simp only [State.shadowMark]
  (repeat' split) <;> simp [h]

@[simp] theorem State.entries_sameForm (s : State) : sameForm s s.entries := by
  unfold State.entries
  extract_lets s1 s2
  have hlegs : sameForm s s1 := by simp [s1]
  clear_value s1
  unfold s2
  split <;> simp [hlegs]

@[simp] theorem State.startStage_sameForm (s : State) : sameForm s s.startStage := by
  simp [State.startStage]

@[simp] theorem State.edgeUpdate_sameForm (s : State) (x : MarkIn) : sameForm s (s.edgeUpdate x) := by
  simp [State.edgeUpdate]

end Sys2Proof.Machine

/-! SUPPORT. The form through the operations of the lexicon (R228 to R245). -/
namespace Sys2Proof.Machine

@[simp] theorem State.lemFree_inForm (s : State) (slot : Nat) (h : s.inForm) : (s.lemFree slot).inForm := by
  simp [State.lemFree, h]

@[simp] theorem State.lemCheck_inForm (s : State) (slot : Nat) (h : s.inForm) : (s.lemCheck slot).inForm := by
  unfold State.lemCheck
  split <;> simp [h]

@[simp] theorem State.lemFind_inForm (s : State) (key : Nat) (h : s.inForm) : (s.lemFind key).2.inForm := by
  unfold State.lemFind
  (repeat' split) <;> simp [h]

@[simp] theorem State.prefetch_sameForm (d : Nat) (s : State) (key : Nat) : sameForm s (State.prefetch d s key) := by
  induction d generalizing s key with
  | zero =>
    unfold State.prefetch
    split <;> simp
  | succ d ih =>
    unfold State.prefetch
    split <;> simp [ih]

@[simp] theorem State.lemPlace_inForm (s : State) (slot key start : Nat) (h : s.inForm) :
    (s.lemPlace slot key start).inForm := by
  have hswm : (lemSeal (lemSet (lemSet (lemSet (lemZero s.swm slot) slot 0 8 key) slot 8 2 0x11) slot 0x10 8 start) slot).wf = true := by
    obtain ⟨-, hswm, -⟩ := h
    exact lemSeal_wf (lemSet_wf (lemSet_wf (lemSet_wf (lemZero_wf hswm _) _ _ _ _) _ _ _ _) _ _ _ _) _
  simp [State.lemPlace, h, hswm]

@[simp] theorem State.lemAlloc_inForm (s : State) (key start : Nat) (h : s.inForm) : (s.lemAlloc key start).inForm := by
  unfold State.lemAlloc
  (repeat' split) <;> simp [h]

@[simp] theorem State.keyStart_inForm (s : State) (key start : Nat) (h : s.inForm) : (s.keyStart key start).inForm := by
  have hfind := s.lemFind_inForm key h
  unfold State.keyStart
  generalize s.lemFind key = r at hfind ⊢
  obtain ⟨f, s1⟩ := r
  dsimp only at hfind ⊢
  refine inForm_ite (fun _ => h) fun _ => inForm_of_sameForm (State.prefetch_sameForm _ _ _) ?_
  split <;> simp [hfind]

@[simp] theorem State.obsEnd_inForm (s : State) (p : LPair) (b : Nat) (next : Option (Nat × Nat)) (h : s.inForm) :
    (s.obsEnd p b next).2.inForm := by
  unfold State.obsEnd
  extract_lets key
  have hfind := s.lemFind_inForm key h
  generalize s.lemFind key = r at hfind ⊢
  obtain ⟨f, s1⟩ := r
  replace hfind : s1.inForm := hfind
  dsimp -zeta only
  extract_lets s2 kept learnN followed s3
  have hs2 : s2.inForm := by
    unfold s2
    split <;> simp [hfind]
  have hfollowed : ∀ s q, s.inForm → (followed s q).inForm := by
    intro s q hs
    unfold followed
    (repeat' split) <;> simp [hs]
  have hs3 : s3.inForm := by
    unfold s3
    (repeat' split) <;> simp [hs2]
  clear_value s3 s2 followed
  split
  · split
    · exact hs2
    · exact hfollowed _ _ (by simp [hs2])
  · exact hfollowed _ _ hs3

@[simp] theorem State.phaseReport_inForm (s : State) (job group : Nat) (r : PhaseRep) (h : s.inForm) :
    (s.phaseReport job group r).inForm := by
  unfold State.phaseReport
  refine inForm_ite (fun _ => h) fun _ => ?_
  split
  next =>
    apply State.keyStart_inForm
    simp [h]
  next p hp =>
    extract_lets p' ph others _ start key
    refine inForm_ite (fun _ => by simp [h]) fun _ => ?_
    have hobs := State.obsEnd_inForm s p' start (some (key, start)) h
    generalize s.obsEnd p' start (some (key, start)) = a at hobs ⊢
    obtain ⟨prev, s1⟩ := a
    replace hobs : s1.inForm := hobs
    apply State.keyStart_inForm
    simp [hobs]

@[simp] theorem State.pairEnd_inForm (s : State) (p : LPair) (h : s.inForm) : (s.pairEnd p).inForm := by
  have ho := State.obsEnd_inForm s p s.swardRing none h
  exact ho

@[simp] theorem State.query_inForm (s : State) (op key off : Nat) (h : s.inForm) : (s.query op key off).2.inForm := by
  have hfind := s.lemFind_inForm key h
  unfold State.query
  extract_lets bytes none64
  split
  · exact h
  · generalize s.lemFind key = r at hfind ⊢
    obtain ⟨f, s1⟩ := r
    replace hfind : s1.inForm := hfind
    dsimp -zeta only
    split
    case h_2 =>
      extract_lets prior confident pick
      clear_value pick
      split <;> simp [hfind]
    all_goals (repeat' split) <;> simp [hfind]

@[simp] theorem State.lexStart_inForm (s : State) (h : s.inForm) : s.lexStart.inForm := by
  obtain ⟨hddr, hswm, htus, hxfers, hports⟩ := h
  refine inForm_ite (fun _ => ⟨hddr, hswm, htus, hxfers, hports⟩) fun _ =>
      ⟨hddr, foldl_wf (fun m p hm => ?_) _ hswm, htus, hxfers, hports⟩
  exact wf_ite (lemFlagSet_wf hm _ _ _) hm

end Sys2Proof.Machine

/-! SUPPORT. The form through a tussock's instruction (R258 to R282, R312, R313): what it does to the SRAM goes through Ctx.store. -/
namespace Sys2Proof.Machine

/-! ### A tussock's instruction -/

theorem State.updTus_inForm {s : State} (h : s.inForm) (t : Nat) {f : Tus → Tus}
    (hf : ∀ k, k.sram.wf = true → (f k).sram.wf = true) : (s.updTus t f).inForm := by
  obtain ⟨hddr, hswm, htus, hxfers, hports⟩ := h
  exact ⟨hddr, hswm, tusOk_upd htus hf t, hxfers, hports⟩

@[simp] theorem State.inject_sameForm (s : State) (f : Flit) (row col : Nat) (via : Via) (src : Nat) :
    sameForm s (s.inject f row col via src) := by
  simp [State.inject]

/-- What an instruction does keeps the SRAM's form. -/
def keepsSram (f : Ctx → Tus → TOut) : Prop := ∀ c k, k.sram.wf = true → (f c k).tus.sram.wf = true

theorem State.insn_inForm {s : State} (h : s.inForm) (x : TIns) {f : Ctx → Tus → TOut} (hf : keepsSram f) :
    (s.insn x f).inForm := by
  have hx : (s.tus x.tus).sram.wf = true := by simp [h]
  unfold State.insn
  refine inForm_ite (fun _ => h) fun _ => ?_
  refine foldl_inForm (fun s fl hs => by simp [hs]) _ (foldl_inForm (fun s r hs => by simp [hs]) _ ?_)
  exact State.updTus_inForm h _ fun _ _ => hf _ _ hx

theorem foldl_sram_wf {α : Type} {f : Tus → α → Tus} (hf : ∀ k a, k.sram.wf = true → (f k a).sram.wf = true) (l : List α)
    {k : Tus} (h : k.sram.wf = true) : (l.foldl f k).sram.wf = true := by
  induction l generalizing k with
  | nil => exact h
  | cons a l ih => exact ih (hf k a h)

theorem foldl_snd_sram_wf {α β : Type} {f : β × Tus → α → β × Tus}
    (hf : ∀ p a, p.2.sram.wf = true → (f p a).2.sram.wf = true) (l : List α) {p : β × Tus} (h : p.2.sram.wf = true) :
    (l.foldl f p).2.sram.wf = true := by
  induction l generalizing p with
  | nil => exact h
  | cons a l ih => exact ih (hf p a h)

theorem ite_sram_wf {c : Prop} [Decidable c] {a b : TOut} (ha : a.tus.sram.wf = true) (hb : b.tus.sram.wf = true) :
    (if c then a else b).tus.sram.wf = true := by
  split
  · exact ha
  · exact hb

theorem access_sram_wf {x : Ctx} {k : Tus} {rs ws : List (Nat × Nat)} {go : Tus → TOut} (h : k.sram.wf = true)
    (hgo : ∀ k', k'.sram.wf = true → (go k').tus.sram.wf = true) : (x.access k rs ws go).tus.sram.wf = true := by
  unfold Ctx.access
  extract_lets hit single double own k1 k2 reps o k3
  have hk2 : k2.sram.wf = true := by
    unfold k2
    split <;> exact h
  have hk3 : k3.sram.wf = true := by
    refine foldl_sram_wf (fun k d hk => ?_) _ hk2
    exact hk
  clear_value double k3
  cases double with
  | nil => exact hgo _ hk2
  | cons e l => exact hk3

theorem descriptor_sram_wf {x : Ctx} {k : Tus} {go : (Nat → Word) → Tus → TOut} (h : k.sram.wf = true)
    (hgo : ∀ w k', k'.sram.wf = true → (go w k').tus.sram.wf = true) : (x.descriptor k go).tus.sram.wf = true := by
  unfold Ctx.descriptor
  dsimp only
  split
  · exact h
  · exact access_sram_wf h fun k' hk' => hgo _ k' hk'

@[simp] theorem store_sram_wf {k : Tus} (h : k.sram.wf = true) (x : Ctx) (a : Nat) (l : List Byte) :
    (x.store k a l).sram.wf = true := by
  induction l generalizing k a with
  | nil => exact h
  | cons b l ih =>
    refine ih ?_ _
    split
    · exact h
    · exact write_wf _ _ _ h

/-! ### Scalar and control instructions -/

@[simp] theorem toA_sram (x : Ctx) (k : Tus) (v : Word) : (x.toA k v).tus.sram = k.sram := by
  simp [Ctx.toA, TOut.ok]

@[simp] theorem ok_tus (k : Tus) : (TOut.ok k).tus = k := rfl

@[simp] theorem seqFault_sram (k : Tus) : (seqFault k).tus.sram = k.sram := rfl

/-! ### The matrix unit -/

@[simp] theorem mmaBlock_sram (x : Ctx) (d : Mma) (ints : Bool) (src : Tus) (m n kb : Nat) (k : Tus) :
    (x.mmaBlock d ints src m n kb k).sram = k.sram := rfl

theorem mma_sram_wf {k : Tus} (h : k.sram.wf = true) (x : Ctx) (d : Mma) (ints : Bool) : (x.mma d ints k).sram.wf = true := by
  unfold Ctx.mma
  refine foldl_sram_wf (fun k c hk => foldl_sram_wf (fun k kb hk => ?_) _ hk) _ ?_
  · rw [mmaBlock_sram]
    exact hk
  · split <;> exact h

theorem convert_sram_wf {k : Tus} (h : k.sram.wf = true) (f : NFmt) (sr sat_ : Bool) (given : Option (Nat → Nat))
    (lane : Nat → Nat) (vs : List FVal) : (k.convert f sr sat_ given lane vs).2.2.sram.wf = true := by
  unfold Tus.convert
  exact foldl_snd_sram_wf (fun p iv hp => by simpa using hp) _ h

theorem drain_sram_wf {k : Tus} (h : k.sram.wf = true) (f : NFmt) (sr sat_ : Bool) (m n : Nat) :
    (Ctx.drain f sr sat_ m n k).2.sram.wf = true := by
  unfold Ctx.drain
  extract_lets row
  refine foldl_snd_sram_wf (fun p i hp => ?_) _ h
  unfold row
  extract_lets k0 es codes vs k1 cs
  have hk1 : k1.sram.wf = true := foldl_sram_wf (fun k v hk => by simpa using hk) _ hp
  have hc := convert_sram_wf hk1 f sr sat_ none (fun j => j % 64) (vs.map Prod.fst)
  generalize k1.convert f sr sat_ none (fun j => j % 64) (vs.map Prod.fst) = r at hc ⊢
  (repeat' split)
  · exact hp
  · exact hk1
  · exact hc

/-! ### The vector unit -/

@[simp] theorem floatElem_sram (op : VOp) (v : Vec) (tie : FVal) (a b c : Nat) (k : Tus) (i : Nat) :
    (op.floatElem v tie a b c k i).2.sram = k.sram := by
  unfold VOp.floatElem
  split <;> simp

@[simp] theorem intElem_sram (op : VOp) (v : Vec) (open_ : Nat) (a b c : Nat) (k : Tus) (i : Nat) :
    (op.intElem v open_ a b c k i).2.sram = k.sram := by
  unfold VOp.intElem
  dsimp only
  (repeat' split) <;> simp

/-! ### Instructions as they are executed -/

theorem instr_outForm {s : State} (h : s.inForm) (t : Time) (x : TIns) {f : Ctx → Tus → TOut} (hf : keepsSram f) :
    OutForm (s.instr t x f) := State.insn_inForm (s := s.at_ t) h x hf

theorem toA_keepsSram (v : Ctx → Tus → Word) : keepsSram (fun x k => x.toA k (v x k)) := fun c k hk => by simpa using hk

/-- An instruction that only changes its tussock keeps the SRAM's form where the tussock's change does. -/
theorem ok_keepsSram {f : Ctx → Tus → Tus} (hf : ∀ c k, (f c k).sram = k.sram) : keepsSram (fun x k => TOut.ok (f x k)) :=
  fun c k hk => by simpa [hf] using hk

theorem execScalarLoad_outForm {s : State} (h : s.inForm) (t : Time) (x : TIns) : OutForm (execScalarLoad t x s) :=
  instr_outForm h t x fun _ _ hk => access_sram_wf hk fun k' hk' => by simpa using hk'

theorem execScalarStore_outForm {s : State} (h : s.inForm) (t : Time) (x : TIns) : OutForm (execScalarStore t x s) :=
  instr_outForm h t x fun _ _ hk => access_sram_wf hk fun k' hk' => by simp [hk']

theorem execStep_outForm {s : State} (h : s.inForm) (t : Time) (x : TIns) : OutForm (execStep t x s) :=
  instr_outForm h t x fun _ _ hk => ite_sram_wf hk hk

theorem execMma_outForm {s : State} (h : s.inForm) (t : Time) (x : TIns) : OutForm (execMma t x s) := by
  refine instr_outForm h t x fun c k hk => descriptor_sram_wf hk fun w k' hk' => ?_
  split
  · split
    · exact hk'
    · exact ite_sram_wf hk' (access_sram_wf hk' fun k'' hk'' => mma_sram_wf hk'' c _ _)
  · exact hk'

theorem execDrain_outForm {s : State} (h : s.inForm) (t : Time) (x : TIns) : OutForm (execDrain t x s) := by
  refine instr_outForm h t x fun c k hk => descriptor_sram_wf hk fun w k' hk' => ?_
  split
  · exact hk'
  · refine ite_sram_wf hk' (access_sram_wf hk' fun k'' hk'' => ?_)
    exact store_sram_wf (store_sram_wf (drain_sram_wf hk'' _ _ _ _ _) _ _ _) _ _ _

theorem vecOp_outForm {s : State} (h : s.inForm) (t : Time) (x : TIns) (op : VOp) : OutForm (s.vecOp t x op) := by
  refine instr_outForm h t x fun c k hk => descriptor_sram_wf hk fun w k' hk' => ?_
  split
  · exact hk'
  · refine ite_sram_wf hk'
      (access_sram_wf hk' fun k'' hk'' => store_sram_wf (foldl_snd_sram_wf (fun p i hp => ?_) _ hk'') _ _ _)
    dsimp only
    split <;> simpa using hp

theorem vecApprox_outForm {s : State} (h : s.inForm) (t : Time) (x : TIns) (op : AOp) : OutForm (s.vecApprox t x op) := by
  refine instr_outForm h t x fun c k hk => descriptor_sram_wf hk fun w k' hk' => ?_
  split
  · exact hk'
  · refine ite_sram_wf hk'
      (access_sram_wf hk' fun k'' hk'' => store_sram_wf (foldl_snd_sram_wf (fun p i hp => ?_) _ hk'') _ _ _)
    simpa using hp

theorem execCvt_outForm {s : State} (h : s.inForm) (t : Time) (x : TIns) : OutForm (execCvt t x s) := by
  refine instr_outForm h t x fun c k hk => descriptor_sram_wf hk fun w k' hk' => ?_
  split
  next => exact hk'
  next v hv =>
    refine access_sram_wf hk' fun k'' hk'' => ?_
    extract_lets src vs k1 given
    have hk1 : k1.sram.wf = true := foldl_sram_wf (fun k v hk => by simpa using hk) _ hk''
    have hc := convert_sram_wf hk1 v.dst v.sr v.sat_ given (fun i => i % 64) (vs.map Prod.fst)
    generalize k1.convert v.dst v.sr v.sat_ given (fun i => i % 64) (vs.map Prod.fst) = r at hc ⊢
    obtain ⟨codes, scales, k2⟩ := r
    exact store_sram_wf (store_sram_wf hc _ _ _) _ _ _

theorem send_keepsSram (op : Nat) : keepsSram (Ctx.send · op) := by
  refine fun c k hk => descriptor_sram_wf hk fun w k' hk' => ite_sram_wf hk' ?_
  split
  · exact hk'
  · exact access_sram_wf hk' fun k'' hk'' => hk''

theorem atomic_keepsSram (op : Nat) : keepsSram (Ctx.atomic · op) := by
  refine fun c k hk => descriptor_sram_wf hk fun w k' hk' => ite_sram_wf hk' ?_
  exact access_sram_wf hk' fun k'' hk'' => store_sram_wf (store_sram_wf hk'' _ _ _) _ _ _

end Sys2Proof.Machine

/-! SUPPORT. The form through the mesh, the services of the periphery and the sward's registers (R280 to R323). -/
namespace Sys2Proof.Machine

@[simp] theorem State.flitLost_sameForm (s : State) (src dst : Nat) : sameForm s (s.flitLost src dst) := by
  simp [State.flitLost]

@[simp] theorem State.flitLands_inForm (s : State) (x : Nat) (f : Flit) (n : List (Nat × NAcc)) (ev : List (Nat × WordEv))
    (h : s.inForm) : (s.flitLands x f n ev).inForm := by
  have hk : (s.tus x).sram.wf = true := by simp [h]
  have hrep : ∀ (s : State) (c detail : Nat), s.inForm → (s.tusReport x c detail).inForm := fun s c d hs => by simp [hs]
  have hinj : ∀ (s : State) (g : Flit) (row : Nat), s.inForm → (s.inject g row (x % 32) .local_ x).inForm :=
    fun s g row hs => inForm_of_sameForm (State.inject_sameForm _ _ _ _ _ _) hs
  unfold State.flitLands
  extract_lets _ _ cache reply s1 s2 hot w7 atomic
  refine inForm_ite (fun _ => h) fun _ => inForm_ite (fun _ => h) fun _ => inForm_ite (fun _ => ?reject) fun _ =>
    inForm_ite (fun _ => ?cache) fun _ => inForm_ite (fun _ => ?read) fun _ => ?write
  case reject =>
    have h1 : s1.inForm := State.updTus_inForm h x fun _ hk => hk
    exact inForm_ite (fun _ => h1) fun _ => hrep _ _ _ h1
  case cache =>
    have h2 : s2.inForm := hrep _ _ _ (State.updTus_inForm h x fun _ hk => hk)
    exact inForm_ite (fun _ => hinj _ _ _ h2) fun _ => h2
  case read =>
    generalize flitErrors f ev (List.range 8) = r
    obtain ⟨one, two⟩ := r
    dsimp -zeta only
    extract_lets s3 s4
    have h3 : s3.inForm := by
      refine State.updTus_inForm (s := { s with free := s.free + 1 }) h x fun _ hk => ?_
      dsimp only
      (repeat' split) <;> exact hk
    have h4 : s4.inForm := inForm_ite (fun _ => hrep _ _ _ h3) fun _ => h3
    exact inForm_ite (fun _ => hinj _ _ _ h4) fun _ => hinj _ _ _ h4
  case write =>
    generalize (if atomic then flitErrors f ev f.enabled else (0, 0)) = r
    obtain ⟨one, two⟩ := r
    dsimp -zeta only
    extract_lets k1 s5
    have hk1 : k1.sram.wf = true := hk
    have h5 : s5.inForm := State.updTus_inForm h x fun _ _ => portS_sram_wf hk1 _ _ _ _
    refine inForm_ite (fun _ => hrep _ _ _ (State.updTus_inForm h x fun _ _ => hk1)) fun _ => ?_
    split
    · exact h5
    · exact hinj _ _ _ h5

@[simp] theorem State.beginStep_inForm (s : State) (t : Nat) (h : s.inForm) : (s.beginStep t).inForm := by
  have hk : (s.tus t).sram.wf = true := by simp [h]
  unfold State.beginStep
  refine inForm_ite (fun _ => h) fun _ => State.updTus_inForm h _ fun k _ => ?_
  dsimp only
  (repeat' split) <;> exact hk

@[simp] theorem State.tusFail_inForm (s : State) (t detail : Nat) (h : s.inForm) : (s.tusFail t detail).inForm := by
  have hu : tusOk (upd s.swd.tus t fun _ => { Tus.reset with st := .failed, cause := 2 }) :=
      tusOk_upd h.2.2.1 (fun _ _ => rfl) t
  simp [State.tusFail, h, hu]

@[simp] theorem State.fromPort_sameForm (s : State) (f : Flit) : sameForm s (s.fromPort f) := by
  simp [State.fromPort]

@[simp] theorem State.landRing_sameForm (s : State) (l : Landing) (stream p : Nat) (bs : List Byte) :
    sameForm s (s.landRing l stream p bs) := by
  simp [State.landRing]

@[simp] theorem State.deliver_sameForm (s : State) (service : Nat) (bs : List Byte) (slot : Option Nat) :
    sameForm s (s.deliver service bs slot) := by
  simp [State.deliver]

@[simp] theorem State.svcReject_sameForm (s : State) : sameForm s s.svcReject := by
  simp [State.svcReject]

@[simp] theorem State.completion_sameForm (s : State) (addr : Word) (stream : Nat) (v : Word) :
    sameForm s (s.completion addr stream v) := by
  simp [State.completion]

@[simp] theorem State.dmaLine_inForm (s : State) (d : Dma) (i : Nat) (h : s.inForm) : (s.dmaLine d i).inForm := by
  unfold State.dmaLine
  extract_lets w3 line a local_ bytes stream bytes' flit
  refine inForm_ite (fun _ => inForm_ite (fun _ => ?_) fun _ => ?_) fun _ => ?_
  · simp [h, writeBytes_wf]
  · simp [h]
  · simp [h]

theorem State.tusWrite_inForm {s : State} (h : s.inForm) (t o : Nat) {f : Tus → Tus}
    (hf : ∀ k, k.sram.wf = true → (f k).sram.wf = true) : (s.tusWrite t o f).inForm :=
  inForm_ite (fun _ => by simp [h]) fun _ => State.updTus_inForm h t hf

@[simp] theorem State.writeTus_inForm (s : State) (t o : Nat) (v : Word) (h : s.inForm) : (s.writeTus t o v).inForm := by
  have hw : ∀ (s : State) (f : Tus → Tus), s.inForm → (∀ k, (f k).sram = k.sram) → (s.tusWrite t o f).inForm :=
    fun s f hs hf => inForm_ite (fun _ => by simp [hs]) fun _ => State.updTus_inForm hs t fun k hk => (hf k).symm ▸ hk
  have hu : ∀ f : Tus → Tus, (∀ k, (f k).sram = k.sram) → (s.updTus t f).inForm :=
    fun f hf => State.updTus_inForm h t fun k hk => (hf k).symm ▸ hk
  have hr : ∀ v, (s.report 0x200 0x02 v 0).inForm := fun v => by simp [h]
  unfold State.writeTus
  extract_lets range s1
  have h1 : s1.inForm := inForm_ite (fun _ => h) fun _ => h
  split
  case h_1 => exact hw _ _ h fun _ => rfl
  case h_2 => exact hw _ _ h1 fun _ => rfl
  case h_3 => exact hu _ fun _ => rfl
  case h_4 => exact hu _ fun _ => rfl
  case h_5 => exact hu _ fun _ => rfl
  case h_6 => exact inForm_ite (fun _ => hr _) fun _ => hw _ _ h fun _ => rfl
  case h_7 => exact hw _ _ h fun _ => rfl
  case h_8 =>
    refine inForm_ite (fun _ => inForm_ite (fun _ => hr _) fun _ => ?_) fun _ => inForm_ite (fun _ => ?_) fun _ => h
    all_goals exact hw _ _ h fun _ => rfl

@[simp] theorem State.writeCeil_sameForm (s : State) (v : Word) : sameForm s (s.writeCeil v) := by
  simp [State.writeCeil]

@[simp] theorem State.writeSwd_sameForm (s : State) (o : Nat) (v : Word) : sameForm s (s.writeSwd o v) := by
  simp [State.writeSwd]

theorem State.takeService_sameForm {s s' : State} {above : Bool} {col stream : Nat} {m : Moving}
    (h : s.takeService above col stream = some (m, s')) : sameForm s s' := by
  unfold State.takeService at h
  split at h
  · cases h
  · split at h
    · cases h
    · cases h
      exact ⟨rfl, rfl, rfl, rfl, rfl⟩

@[simp] theorem State.planStart_sameForm (s : State) : sameForm s s.planStart := by
  simp [State.planStart]

end Sys2Proof.Machine

/-! SUPPORT. The form through the operations of Furze, of concord and of Heathline. -/
namespace Sys2Proof.Machine

@[simp] theorem State.shareBytes_sameForm (s : State) (b : List Byte) : sameForm s (s.shareBytes b) := by
  simp [State.shareBytes]

@[simp] theorem State.updPart_sameForm (s : State) (id : Nat) (f : Partner → Partner) : sameForm s (s.updPart id f) := by
  simp only [State.updPart]
  split <;> simp

@[simp] theorem State.setPart_sameForm (s : State) (id : Nat) (p : Partner) : sameForm s (s.setPart id p) := by
  simp [State.setPart]

@[simp] theorem State.freePart_sameForm (s : State) (id : Nat) : sameForm s (s.freePart id) := by
  simp [State.freePart]

@[simp] theorem State.mapStep_sameForm (s : State) (eff : Nat) : sameForm s (s.mapStep eff) := by
  simp [State.mapStep]

@[simp] theorem State.regrant_sameForm (s : State) (period : Nat) (extra : List Nat) : sameForm s (s.regrant period extra) := by
  unfold State.regrant
  extract_lets ids eff _ s1
  have h1 : sameForm s s1 := by simp [s1]
  refine sameForm_trans h1 (foldl_sameForm (fun s p => ?_) _ s1)
  dsimp only
  split <;> simp

@[simp] theorem State.mapChange_sameForm (s : State) (eff : Nat) : sameForm s (s.mapChange eff) := by
  simp [State.mapChange]

@[simp] theorem State.addStanding_sameForm (s : State) (id : Nat) : sameForm s (s.addStanding id) := by
  simp only [State.addStanding]
  split <;> simp

@[simp] theorem State.revokeGrants_sameForm (s : State) (id : Nat) : sameForm s (s.revokeGrants id) := by
  simp [State.revokeGrants]

@[simp] theorem State.endEnrolment_sameForm (s : State) (id : Nat) (st : PState) : sameForm s (s.endEnrolment id st) := by
  simp [State.endEnrolment]

@[simp] theorem State.expelPart_sameForm (s : State) (id reason : Nat) : sameForm s (s.expelPart id reason) := by
  simp only [State.expelPart]
  split <;> simp

@[simp] theorem State.shareBookings_sameForm (s : State) : sameForm s s.shareBookings := by
  simp [State.shareBookings]

@[simp] theorem State.admitUpdate_sameForm (s : State) : sameForm s s.admitUpdate := by
  simp [State.admitUpdate]

@[simp] theorem State.delayLedger_sameForm (s : State) (n : Nat) (b : Booking) : sameForm s (s.delayLedger n b) := by
  simp [State.delayLedger]

@[simp] theorem State.tagFail_sameForm (s : State) (id : Nat) : sameForm s (s.tagFail id) := by
  simp only [State.tagFail]
  split <;> simp

@[simp] theorem State.rejectClause_sameForm (s : State) (c : Clause) (slot v : Nat) : sameForm s (s.rejectClause c slot v) := by
  simp [State.rejectClause]

@[simp] theorem State.heardPart_sameForm (s : State) (id : Nat) : sameForm s (s.heardPart id) := by
  simp only [State.heardPart]
  (repeat' split) <;> simp

@[simp] theorem State.takeClause_sameForm (s : State) (sf slot : Nat) (c : Clause) (relayed : Bool) :
    sameForm s (s.takeClause sf slot c relayed) := by
  simp only [State.takeClause]
  (repeat' split) <;> simp

@[simp] theorem State.setScheme_sameForm (s : State) (id m : Nat) : sameForm s (s.setScheme id m) := by
  simp only [State.setScheme]
  (repeat' split) <;> simp

@[simp] theorem State.snrTake_sameForm (s : State) (id : Nat) (snr : Rat) : sameForm s (s.snrTake id snr) := by
  simp only [State.snrTake]
  split <;> simp

@[simp] theorem State.burstFail_sameForm (s : State) (id : Nat) : sameForm s (s.burstFail id) := by
  simp only [State.burstFail]
  split <;> simp

@[simp] theorem State.publishReq_sameForm (s : State) (tag : Nat) : sameForm s (s.publishReq tag) := by
  simp only [State.publishReq]
  split <;> simp

@[simp] theorem State.groupLedger_sameForm (s : State) (g : CGroup) : sameForm s (s.groupLedger g) := by
  simp [State.groupLedger]

@[simp] theorem State.enforce_sameForm (s : State) (tag : Nat) (a : Action) : sameForm s (s.enforce tag a) := by
  simp only [State.enforce]
  split <;> simp

@[simp] theorem State.takeDecision_sameForm (s : State) (d : DecRec) : sameForm s (s.takeDecision d) := by
  simp only [State.takeDecision]
  (repeat' split) <;> simp

@[simp] theorem State.sameForm_decide_ (s : State) (d : DecRec) : sameForm s (s.decide_ d) := by
  simp [State.decide_]

@[simp] theorem State.offer_sameForm (s : State) (tag : Nat) (a : Action) : sameForm s (s.offer tag a) := by
  simp only [State.offer]
  (repeat' split) <;> simp

@[simp] theorem State.steer_sameForm (s : State) (tag : Nat) : sameForm s (s.steer tag) := by
  simp only [State.steer]
  (repeat' split) <;> simp

@[simp] theorem State.emergencyPath_sameForm (s : State) (tag : Nat) : sameForm s (s.emergencyPath tag) := by
  simp only [State.emergencyPath]
  split <;> simp

@[simp] theorem State.matchUp_sameForm (s : State) (g : CGroup) : sameForm s (s.matchUp g) := by
  refine sameForm_ite (by simp) (foldl_sameForm (fun s p => ?_) _ _)
  split
  · exact sameForm_ite (by simp) (by simp)
  · simp

@[simp] theorem State.serve_sameForm (s : State) (tag : Nat) : sameForm s (s.serve tag) := by
  unfold State.serve
  split
  · simp
  · next g _ =>
    extract_lets n s1 s2 s3 inForce _ s4 joining
    have h1 : sameForm s s1 := by
      unfold s1
      split
      · simp
      · exact sameForm_ite (by simp) (by simp)
    clear_value s1
    have h2 : sameForm s s2 :=
      sameForm_trans h1 (foldl_sameForm_of_eq (fun s r s' e => by split at e <;> (subst e; simp)) _ s1)
    clear_value s2
    have h3 : sameForm s s3 := by
      unfold s3
      split
      · exact h2
      · exact sameForm_ite (sameForm_trans h2 (by simp)) h2
    clear_value s3
    have h4 : sameForm s s4 := by
      unfold s4
      split
      · simpa using h3
      · exact h3
    clear_value s4
    refine sameForm_ite h4 (sameForm_ite h4 (sameForm_ite ?_ ?_))
    · exact sameForm_trans h4 (foldl_sameForm (fun s p => by simp) _ s4)
    · split
      · exact h4
      · exact sameForm_trans h4 (foldl_sameForm (fun s p => by simp) _ s4)

@[simp] theorem State.ripen_sameForm (s : State) (tag : Nat) : sameForm s (s.ripen tag) := by
  simp only [State.ripen]
  (repeat' split) <;> simp

@[simp] theorem State.renewRecord_sameForm (s : State) (tag : Nat) : sameForm s (s.renewRecord tag) := by
  simp only [State.renewRecord]
  split <;> simp

@[simp] theorem State.clipStep_sameForm (s : State) : sameForm s s.clipStep := by
  simp only [State.clipStep]
  split <;> simp

@[simp] theorem State.sameForm_enrolled_ (s : State) (id : Nat) : sameForm s (s.enrolled_ id) := by
  simp only [State.enrolled_]
  split <;> simp

@[simp] theorem State.completeEnrol_sameForm (s : State) (id : Nat) : sameForm s (s.completeEnrol id) := by
  simp only [State.completeEnrol]
  (repeat' split) <;> simp

@[simp] theorem State.purge_sameForm (s : State) : sameForm s s.purge := by
  simp [State.purge]

@[simp] theorem State.furzeBoundary_sameForm (s : State) : sameForm s s.furzeBoundary := by
  simp [State.furzeBoundary]

@[simp] theorem State.sendItem_sameForm (s : State) (n slot : Nat) (i : DownItem) : sameForm s (s.sendItem n slot i) := by
  simp only [State.sendItem]
  split <;> simp

@[simp] theorem State.judgeSlots_sameForm (s : State) (n : Nat) : sameForm s (s.judgeSlots n) := by
  simp [State.judgeSlots]

@[simp] theorem State.dropGrants_sameForm (s : State) (n : Nat) : sameForm s (s.dropGrants n) := by
  simp [State.dropGrants]

@[simp] theorem State.bookingStep_sameForm (s : State) (n : Nat) : sameForm s (s.bookingStep n) := by
  simp [State.bookingStep]

@[simp] theorem State.dropGroups_sameForm (s : State) : sameForm s s.dropGroups := by
  simp [State.dropGroups]

@[simp] theorem State.groupBoundary_sameForm (s : State) (tag : Nat) : sameForm s (s.groupBoundary tag) := by
  simp only [State.groupBoundary]
  split <;> simp

@[simp] theorem State.concordBoundary_sameForm (s : State) : sameForm s s.concordBoundary := by
  simp [State.concordBoundary]

@[simp] theorem State.governTick_sameForm (s : State) : sameForm s s.governTick := by
  simp [State.governTick]

@[simp] theorem State.htlEvent_sameForm (s : State) (i : Nat) : sameForm s (s.htlEvent i) := by
  simp [State.htlEvent]

@[simp] theorem State.drop_sameForm (s : State) (f : Drops → Drops) : sameForm s (s.drop f) := by
  simp [State.drop]

@[simp] theorem State.keepRec_sameForm (s : State) (x : LinkRec) : sameForm s (s.keepRec x) := by
  simp [State.keepRec]

@[simp] theorem State.publishLink_sameForm (s : State) : sameForm s s.publishLink := by
  simp [State.publishLink]

@[simp] theorem State.desync_sameForm (s : State) : sameForm s s.desync := by
  simp [State.desync]

@[simp] theorem State.becomeMaster_sameForm (s : State) : sameForm s s.becomeMaster := by
  simp [State.becomeMaster]

@[simp] theorem State.takeParent_sameForm (s : State) (x : Option (Port × Nat)) : sameForm s (s.takeParent x) := by
  simp [State.takeParent]

@[simp] theorem State.chooseMaster_sameForm (s : State) (force : Bool) : sameForm s (s.chooseMaster force) := by
  simp only [State.chooseMaster]
  (repeat' split) <;> simp

@[simp] theorem State.captureRecord_sameForm (s : State) (p : Port) (sub frozen : Nat) :
    sameForm s (s.captureRecord p sub frozen) := by
  simp [State.captureRecord]

@[simp] theorem State.setFrozen_sameForm (s : State) (p : Port) (x : Option Nat) : sameForm s (s.setFrozen p x) := by
  simp only [State.setFrozen]
  split <;> simp

@[simp] theorem State.freezeRing_sameForm (s : State) (p : Port) : sameForm s (s.freezeRing p) := by
  simp [State.freezeRing]

@[simp] theorem State.rejudge_sameForm (s : State) : sameForm s s.rejudge := by
  unfold State.rejudge
  extract_lets now gone _ s1 s2
  have h1 : sameForm s s1 := ⟨rfl, rfl, rfl, rfl, rfl⟩
  have h2 : sameForm s1 s2 := foldl_sameForm (fun s p => by
    split
    · exact sameForm_ite (by simp) (by simp)
    · simp) _ s1
  exact sameForm_trans (sameForm_trans h1 h2) (State.chooseMaster_sameForm s2 false)

@[simp] theorem State.headStep_sameForm (s : State) : sameForm s s.headStep := by
  simp [State.headStep]

@[simp] theorem State.portChanged_sameForm (s : State) : sameForm s s.portChanged := by
  simp [State.portChanged]

@[simp] theorem State.testRecord_sameForm (s : State) (port member : Nat) (abandoned : Bool) :
    sameForm s (s.testRecord port member abandoned) := by
  simp [State.testRecord]

@[simp] theorem State.abandonTest_sameForm (s : State) (p : Port) : sameForm s (s.abandonTest p) := by
  simp [State.abandonTest]

@[simp] theorem State.abandonTests_sameForm (s : State) (p : Port) : sameForm s (s.abandonTests p) := by
  simp [State.abandonTests]

@[simp] theorem State.stallPort_sameForm (s : State) (p : Port) : sameForm s (s.stallPort p) := by
  simp [State.stallPort]

@[simp] theorem State.enterDown_sameForm (s : State) (p : Port) (detail : Nat) : sameForm s (s.enterDown p detail) := by
  simp [State.enterDown]

@[simp] theorem State.errorCheck_sameForm (s : State) (p : Port) : sameForm s (s.errorCheck p) := by
  simp [State.errorCheck]

@[simp] theorem State.refusePort_sameForm (s : State) (p : Port) : sameForm s (s.refusePort p) := by
  simp [State.refusePort]

@[simp] theorem State.heldCell_sameForm (p : Port) (s : State) (c : Cell) : sameForm s (State.heldCell p s c) := by
  simp [State.heldCell]

@[simp] theorem State.sendHeld_sameForm (s : State) (p : Port) : sameForm s (s.sendHeld p) := by
  simp [State.sendHeld]

@[simp] theorem State.usePort_sameForm (s : State) (p : Port) : sameForm s (s.usePort p) := by
  simp [State.usePort]

@[simp] theorem State.enterUp_sameForm (s : State) (p : Port) : sameForm s (s.enterUp p) := by
  simp [State.enterUp]

@[simp] theorem State.takeSummary_sameForm (s : State) (src : Nat) (b : List Byte) : sameForm s (s.takeSummary src b) := by
  simp [State.takeSummary]

@[simp] theorem State.takeStream_inForm (s : State) (src : Nat) (b : List Byte) (h : s.inForm) :
    (s.takeStream src b).inForm := by
  refine inForm_ite (fun _ => h) fun _ => foldl_inForm (fun s x hs => ?_) _ h
  split
  · exact hs
  · refine inForm_ite (fun _ => hs) fun _ => ?_
    exact ⟨hs.1, foldl_wf (fun _ _ hm => writeBytes_wf _ _ _ hm) _ (writeBytes_wf _ _ _ hs.2.1), hs.2.2⟩

@[simp] theorem State.deliverMsg_inForm (s : State) (m : Delivered) (h : s.inForm) : (s.deliverMsg m).inForm := by
  simp only [State.deliverMsg]
  (repeat' split) <;> simp [h]

@[simp] theorem State.takeCell_inForm (s : State) (c : Cell) (h : s.inForm) : (s.takeCell c).inForm := by
  simp only [State.takeCell]
  (repeat' split) <;> simp [h]

@[simp] theorem State.localCell_inForm (s : State) (c : Cell) (h : s.inForm) : (s.localCell c).inForm := by
  simp only [State.localCell]
  split <;> simp [h]

@[simp] theorem State.drainQueue_inForm (s : State) (h : s.inForm) : s.drainQueue.inForm :=
  foldl_inForm (fun s c hs => s.takeCell_inForm c hs) _ h

@[simp] theorem State.ageParts_sameForm (s : State) : sameForm s s.ageParts := by
  simp [State.ageParts]

@[simp] theorem State.publishSummary_sameForm (s : State) : sameForm s s.publishSummary := by
  simp [State.publishSummary]

@[simp] theorem State.startTest_sameForm (s : State) (p : Port) : sameForm s (s.startTest p) := by
  simp [State.startTest]

@[simp] theorem State.writeHtl_sameForm (s : State) (o : Nat) (v : Word) : sameForm s (s.writeHtl o v) := by
  simp only [State.writeHtl]
  split <;> simp

@[simp] theorem State.forward_sameForm (s : State) (p : Port) (c : Cell) : sameForm s (s.forward p c) := by
  simp [State.forward]

@[simp] theorem State.startPort_sameForm (s : State) (p : Port) : sameForm s (s.startPort p) := by
  simp [State.startPort]

@[simp] theorem State.startPorts_sameForm (s : State) : sameForm s s.startPorts := by
  simp [State.startPorts]

@[simp] theorem State.stepRing_sameForm (s : State) : sameForm s s.stepRing := by
  simp only [State.stepRing]
  split <;> simp

@[simp] theorem State.domainFormed_sameForm (s : State) : sameForm s s.domainFormed := by
  simp [State.domainFormed]

@[simp] theorem State.htlBoundary_sameForm (s : State) : sameForm s s.htlBoundary := by
  simp [State.htlBoundary]

@[simp] theorem State.lanesBoundary_sameForm (s : State) : sameForm s s.lanesBoundary := by
  simp [State.lanesBoundary]

@[simp] theorem State.fillSlots_sameForm (s : State) (n : Nat) (l : List Nat) : sameForm s (s.fillSlots n l) := by
  induction l generalizing s with
  | nil => simp [State.fillSlots]
  | cons j l ih =>
    rw [State.fillSlots]
    generalize s.burst 3 [] _ = r
    obtain ⟨b, rest⟩ := r
    dsimp -zeta only
    extract_lets _ s1
    have h1 : sameForm s s1 := ⟨rfl, rfl, rfl, rfl, rfl⟩
    refine sameForm_trans (sameForm_trans h1 ?_) (ih _)
    exact foldl_sameForm (fun s i => State.sendItem_sameForm s _ _ i) _ s1

@[simp] theorem State.nextTest_sameForm (s : State) (l : List LinkTest) : sameForm s (s.nextTest l) := by
  induction l generalizing s with
  | nil => exact ⟨rfl, rfl, rfl, rfl, rfl⟩
  | cons x l ih =>
    rw [State.nextTest]
    refine sameForm_ite (sameForm_ite ?_ ?_) ?_
    · simp
    · simp
    · exact sameForm_trans (State.testRecord_sameForm _ _ _ _) (ih _)

theorem State.takeAcc_sameForm {s s' : State} {verb : Nat} {a : Acc} (h : s.takeAcc verb = some (a, s')) : sameForm s s' := by
  unfold State.takeAcc at h
  split at h
  · cases h
  · split at h
    · cases h
    · split at h
      · cases h
        exact ⟨rfl, rfl, rfl, rfl, rfl⟩
      · cases h

end Sys2Proof.Machine

/-! SUPPORT. The form through the modes, the converter mark, the thermal actions, register access, transfers, posted commands and the
program load. -/
namespace Sys2Proof.Machine

@[simp] theorem State.onRelease_inForm (s : State) (d : Dom) (h : s.inForm) : (s.onRelease d).inForm := by
  simp only [State.onRelease]
  (repeat' split) <;> simp [h]

@[simp] theorem State.writeOwed_sameForm (s : State) (d : Dom) : sameForm s (s.writeOwed d) := by
  simp [State.writeOwed]

@[simp] theorem State.fenceAll_inForm (s : State) (h : s.inForm) : s.fenceAll.inForm :=
  foldl_inForm (fun _ _ hs => inForm_ite (fun _ => hs) fun _ => State.assertSource_inForm _ _ _ _ _ hs) _ h

@[simp] theorem State.modeEntry_inForm (s : State) (old m : Mode) (c : Cause) (h : s.inForm) :
    (s.modeEntry old m c).inForm := by
  simp only [State.modeEntry]
  (repeat' split) <;> simp [h]

@[simp] theorem State.transition_inForm (s : State) (m : Mode) (c : Cause) (h : s.inForm) : (s.transition m c).inForm := by
  simp [State.transition, h]

@[simp] theorem State.stopNow_inForm (s : State) (h : s.inForm) : (s.stopNow).inForm := by
  simp only [State.stopNow]
  (repeat' split) <;> simp [h]

@[simp] theorem State.gridLossStep_inForm (s : State) (h : s.inForm) : (s.gridLossStep).inForm := by
  simp only [State.gridLossStep]
  split <;> simp [h]

@[simp] theorem State.runModes_inForm (s : State) (h : s.inForm) : (s.runModes).inForm := by
  simp only [State.runModes]
  (repeat' split) <;> simp [h]

@[simp] theorem State.evalModes_inForm (s : State) (h : s.inForm) : s.evalModes.inForm := by
  unfold State.evalModes
  extract_lets m hold release shed restart _ _ s1 s2
  have h1 : s1.inForm := h
  clear_value s1
  have h2 : s2.inForm := by
    unfold s2
    split <;> simp [h1]
  clear_value s2
  have htr : ∀ m c, (s1.transition m c).inForm := fun m c => s1.transition_inForm m c h1
  have hloss : s1.gridLossStep.inForm := s1.gridLossStep_inForm h1
  refine inForm_ite (fun _ => htr _ _) fun _ => inForm_ite (fun _ => htr _ _) fun _ => inForm_ite
    (fun _ => s1.stopNow_inForm h1) fun _ => ?_
  cases m with
  | bridging =>
    exact inForm_ite (fun _ => by simp [h1]) fun _ => inForm_ite (fun _ => hloss) fun _ => inForm_ite (fun _ => htr _ _)
      fun _ => h1
  | conducting =>
    exact inForm_ite (fun _ => hloss) fun _ => inForm_ite (fun _ => htr _ _) fun _ => inForm_ite (fun _ => htr _ _)
      fun _ => s1.runModes_inForm h1
  | fallow => exact inForm_ite (fun _ => hloss) fun _ => h1
  | stopped => exact inForm_ite (fun _ => s2.transition_inForm _ _ h2) fun _ => h2
  | held => exact inForm_ite (fun _ => by simp [h1]) fun _ => h1

@[simp] theorem State.fabricModes_inForm (s : State) (h : s.inForm) : (s.fabricModes).inForm := by
  simp [State.fabricModes, h]

@[simp] theorem State.takeRetained_sameForm (s : State) : sameForm s s.takeRetained := by
  unfold State.takeRetained
  refine sameForm_ite (by simp) ?_
  extract_lets s1 _
  have h1 : sameForm s s1 := by
    unfold s1
    refine foldl_sameForm_of_eq (fun s k s' e => ?_) _ s
    split at e
    · subst e; simp
    · split at e <;> (subst e; simp)
  clear_value s1
  exact h1

@[simp] theorem State.formVote_sameForm (s : State) : sameForm s s.formVote := by
  simp [State.formVote]

@[simp] theorem State.strobes_sameForm (s : State) (x : MarkIn) : sameForm s (s.strobes x) := by
  simp [State.strobes]

@[simp] theorem State.warmRestart_inForm (s : State) (h : s.inForm) : (s.warmRestart).inForm := by
  simp only [State.warmRestart]
  (repeat' split) <;> simp [h]

@[simp] theorem State.planMark_inForm (s : State) (h : s.inForm) : (s.planMark).inForm := by
  simp only [State.planMark]
  (repeat' split) <;> simp [h]

@[simp] theorem State.converterMark_sameForm (s : State) (x : MarkIn) : sameForm s (s.converterMark x) := by
  simp [State.converterMark]

@[simp] theorem State.shedSward_inForm (s : State) (h : s.inForm) : (s.shedSward).inForm := by
  simp [State.shedSward, h]

@[simp] theorem State.startImage_sameForm (s : State) (k : Bool) (im : Image) : sameForm s (s.startImage k im) := by
  simp [State.startImage]

@[simp] theorem State.sample_sameForm (s : State) (i : Nat) (r : Reading) : sameForm s (s.sample i r) := by
  simp only [State.sample]
  (repeat' split) <;> simp

@[simp] theorem State.swardBackstop_inForm (s : State) (h : s.inForm) : (s.swardBackstop).inForm := by
  simp only [State.swardBackstop]
  (repeat' split) <;> simp [h]

@[simp] theorem State.dieBackstop_inForm (s : State) (h : s.inForm) : (s.dieBackstop).inForm := by
  simp only [State.dieBackstop]
  (repeat' split) <;> simp [h]

@[simp] theorem State.derateUpdate_sameForm (s : State) : sameForm s s.derateUpdate := by
  simp [State.derateUpdate]

@[simp] theorem State.coolNotify_sameForm (s : State) : sameForm s s.coolNotify := by
  simp [State.coolNotify]

@[simp] theorem State.moduleStep_sameForm (s : State) (ppk pg : Rat) : sameForm s (s.moduleStep ppk pg) := by
  simp [State.moduleStep]

@[simp] theorem State.shelfStep_sameForm (s : State) : sameForm s s.shelfStep := by
  simp only [State.shelfStep]
  (repeat' split) <;> simp

@[simp] theorem State.readEffect_sameForm (s : State) (a : Nat) : sameForm s (s.readEffect a) := by
  simp only [State.readEffect]
  split <;> simp

@[simp] theorem State.regRead_sameForm (s : State) (a width : Nat) : sameForm s (s.regRead a width).2 := by
  simp only [State.regRead]
  split <;> simp

@[simp] theorem State.writePlain_inForm (s : State) (a : Nat) (v : Word) (h : s.inForm) : (s.writePlain a v).inForm := by
  simp only [State.writePlain]
  split <;> simp [h]

@[simp] theorem State.landChunk_inForm (s : State) (x : Xfer) (off : Nat) (data : List Byte) (h : s.inForm)
    (hx : x.data.wf = true) : (s.landChunk x off data).inForm := by
  unfold State.landChunk
  extract_lets y _ s1
  have hy : y.data.wf = true := writeBytes_wf _ _ _ hx
  have h1 : s1.inForm := ⟨h.1, h.2.1, h.2.2.1, xfersOk_replace h.2.2.2.1 hy _, h.2.2.2.2⟩
  clear_value s1
  split
  · exact ⟨writeBytes_wf _ _ _ h1.1, h1.2⟩
  · simp [h1]
  · exact h1

@[simp] theorem State.emptyDest_inForm (s : State) (x : Xfer) (h : s.inForm) : (s.emptyDest x).inForm := by
  unfold State.emptyDest
  split
  · exact ⟨writeBytes_wf _ _ _ h.1, h.2⟩
  · exact h
  · simp [h]

@[simp] theorem State.xferBegin_inForm (s : State) (c : CmdHdr) (kind length : Nat) (digest : List Byte) (h : s.inForm) :
    (s.xferBegin c kind length digest).2.inForm := by
  unfold State.xferBegin
  exact inForm_snd_ite (fun _ => h) fun _ => inForm_snd_ite (fun _ => h) fun _ =>
    ⟨h.1, h.2.1, h.2.2.1, xfersOk_append h.2.2.2.1 (x := ⟨_, _, _, _, _, _, [], 0⟩) rfl, h.2.2.2.2⟩

@[simp] theorem State.xferChunk_inForm (s : State) (num off : Nat) (data : List Byte) (h : s.inForm) :
    (s.xferChunk num off data).2.inForm := by
  unfold State.xferChunk
  split
  · exact h
  · next x hx =>
    split
    · exact h
    · exact State.landChunk_inForm s x off data h (xfersOk_find h.2.2.2.1 hx)

@[simp] theorem State.xferEnd_inForm (s : State) (num : Nat) (h : s.inForm) : (s.xferEnd num).2.inForm := by
  simp only [State.xferEnd]
  (repeat' split) <;> simp [h]

@[simp] theorem State.fwActivate_sameForm (s : State) : sameForm s (s.fwActivate).2 := by
  simp [State.fwActivate]

@[simp] theorem State.readObject_sameForm (s : State) (x : List Byte) : sameForm s (s.readObject x).2 := by
  simp only [State.readObject]
  (repeat' split) <;> simp

@[simp] theorem State.setHold_sameForm (s : State) (want : Bool) (epoch : Nat) : sameForm s (s.setHold want epoch).2 := by
  simp [State.setHold]

@[simp] theorem State.releaseLane_sameForm (s : State) (x : Lane) : sameForm s (s.releaseLane x) := by
  simp [State.releaseLane]

@[simp] theorem State.rackCapCmd_sameForm (s : State) (epoch kw window mask capId : Nat) :
    sameForm s (s.rackCapCmd epoch kw window mask capId).2 := by
  unfold State.rackCapCmd
  iterate 3 refine sameForm_snd_ite (by simp [only]) ?_
  simp [done]

@[simp] theorem State.setWall_sameForm (s : State) (wall : Nat) : sameForm s (s.setWall wall) := by
  simp [State.setWall]

@[simp] theorem State.clearCmd_sameForm (s : State) (h : CmdHdr) (targets : Nat) (digest : List Byte) :
    sameForm s (s.clearCmd h targets digest).2 := by
  unfold State.clearCmd
  iterate 3 refine sameForm_snd_ite (by simp [only]) ?_
  simp [done]

@[simp] theorem State.turnAway_sameForm (s : State) (h : CmdHdr) (code result : Nat) :
    sameForm s (s.turnAway h code result) := by
  simp [State.turnAway]

@[simp] theorem State.postCommand_inForm (s : State) (m : CmdMsg) (relay : Option Nat) (h : s.inForm) :
    (s.postCommand m relay).inForm := by
  unfold State.postCommand
  extract_lets g c
  refine inForm_ite (fun _ => by simp [h]) fun _ => ?_
  have he := State.takeEpoch_inForm s g m.hdr.epoch h
  generalize s.takeEpoch g m.hdr.epoch = r at he ⊢
  obtain ⟨ok, s1⟩ := r
  replace he : s1.inForm := he
  dsimp -zeta only
  refine inForm_ite (fun _ => by simp [he]) fun _ => ?_
  extract_lets _ s2 s3
  have h2 : s2.inForm := inForm_ite (fun _ => by simp [he]) fun _ => he
  clear_value s2
  have h3 : s3.inForm := by simp [s3, h2]
  clear_value s3
  refine inForm_ite (fun _ => by simp [h2]) fun _ => inForm_ite (fun _ => by simp [h2]) fun _ => ?_
  have h4 : (if m.signed then s3.verify 5 m.signer m.message m.signature none else (!(signedCode m.code).getD false, s3)).2.inForm :=
    inForm_snd_ite (fun _ => by simp [h3]) fun _ => h3
  exact inForm_ite (fun _ => inForm_of_sameForm (State.turnAway_sameForm _ _ _ _) h4) fun _ =>
    inForm_ite (fun _ => inForm_of_sameForm (State.turnAway_sameForm _ _ _ _) h4) fun _ => h4

@[simp] theorem State.nextRecheck_sameForm (s : State) (d : Departure) : sameForm s (s.nextRecheck d) := by
  simp only [State.nextRecheck]
  split <;> simp

@[simp] theorem State.checkEntry_sameForm (s : State) (k : Nat) (done : List Loaded) (as : List Area) :
    sameForm s (s.checkEntry k done as).2.2 := by
  simp only [State.checkEntry]
  (repeat' split) <;> simp

@[simp] theorem State.refuseEntry_sameForm (s : State) (k result : Nat) : sameForm s (s.refuseEntry k result) := by
  simp [State.refuseEntry]

@[simp] theorem State.loadTus_inForm (s : State) (l : Loaded) (b : BundleTus) (h : s.inForm) : (s.loadTus l b).inForm :=
  State.updTus_inForm h _ fun _ _ => place_wf _ _ _ rfl

@[simp] theorem State.finding_sameForm (s : State) (k : Nat) (bytes : List Byte) : sameForm s (s.finding k bytes) := by
  simp [State.finding]

@[simp] theorem State.readRegs_sameForm (s : State) (a n : Nat) : sameForm s (s.readRegs a n).2 := by
  induction n generalizing s a with
  | zero => simp [State.readRegs]
  | succ n ih =>
    rw [State.readRegs]
    exact sameForm_trans (s.regRead_sameForm a 32) (ih _ _)

@[simp] theorem State.checkEntries_sameForm (s : State) (l : List Nat) (done : List Loaded) (as : List Area) :
    sameForm s (s.checkEntries l done as).2.2 := by
  induction l generalizing s done as with
  | nil => simp [State.checkEntries]
  | cons k l ih =>
    rw [State.checkEntries]
    have hc := State.checkEntry_sameForm s k done as
    generalize s.checkEntry k done as = r at hc ⊢
    obtain ⟨res, got, s1⟩ := r
    replace hc : sameForm s s1 := hc
    cases got with
    | none =>
      refine sameForm_trans (sameForm_trans hc ?_) (ih _ _ _)
      split <;> simp
    | some p => exact sameForm_trans (sameForm_trans hc ⟨rfl, rfl, rfl, rfl, rfl⟩) (ih _ _ _)

end Sys2Proof.Machine

/-! SUPPORT. The form through every command, and so through every step. -/
namespace Sys2Proof.Machine

/-! ### What the dispatch arms share -/

theorem takeAcc_inForm {s s' : State} {verb : Nat} {a : Acc} (hs : s.takeAcc verb = some (a, s')) (h : s.inForm) : s'.inForm :=
  inForm_of_sameForm (State.takeAcc_sameForm hs) h

theorem takeService_inForm {s s' : State} {above : Bool} {col stream : Nat} {m : Moving}
    (hs : s.takeService above col stream = some (m, s')) (h : s.inForm) : s'.inForm :=
  inForm_of_sameForm (State.takeService_sameForm hs) h

theorem ite_sram {c : Prop} [Decidable c] {k a b : Tus} (ha : a.sram = k.sram) (hb : b.sram = k.sram) :
    (if c then a else b).sram = k.sram := by
  split
  · exact ha
  · exact hb

theorem seqFault_keepsSram : keepsSram fun _ k => seqFault k := fun _ _ hk => hk

@[simp] theorem placePrior_wf {m : Mem} (h : m.wf = true) (slot : Nat) (b : List Byte) : (placePrior m slot b).wf = true :=
  lemSeal_wf (lemSet_wf (writeBytes_wf _ _ _ (lemZero_wf h _)) _ _ _ _) _

theorem execJournalCommit_outForm {s : State} (h : s.inForm) (t : Time) : OutForm (execJournalCommit t s) := by
  simp only [execJournalCommit]
  (repeat' split) <;> simp [h]

theorem execCommitComplete_outForm {s : State} (h : s.inForm) (t : Time) (ok : Bool) : OutForm (execCommitComplete t ok s) := by
  simp only [execCommitComplete]
  (repeat' split) <;> simp [h]

theorem execCommitRetry_outForm {s : State} (h : s.inForm) (t : Time) : OutForm (execCommitRetry t s) := by
  simp only [execCommitRetry]
  (repeat' split) <;> simp [h]

theorem execCheckpoint_outForm {s : State} (h : s.inForm) (t : Time) : OutForm (execCheckpoint t s) := by
  simp only [execCheckpoint]
  (repeat' split) <;> simp [h]

theorem execBarrowRestoration_outForm {s : State} (h : s.inForm) (t : Time) (readable : Bool) :
    OutForm (execBarrowRestoration t readable s) := by
  simp only [execBarrowRestoration]
  (repeat' split) <;> simp [h]

theorem execL4Replay_outForm {s : State} (h : s.inForm) (t : Time) (readable : Bool) : OutForm (execL4Replay t readable s) := by
  simp only [execL4Replay]
  split <;> simp [h]

theorem execAnchorReply_outForm {s : State} (h : s.inForm) (t : Time) (p : Port) (optime pcc : Nat) :
    OutForm (execAnchorReply t p optime pcc s) := by
  simp only [execAnchorReply]
  split <;> simp [h]

theorem execAnchorQueryTimeout_outForm {s : State} (h : s.inForm) (t : Time) : OutForm (execAnchorQueryTimeout t s) := by
  simp only [execAnchorQueryTimeout]
  split <;> simp [h]

theorem execAnchorQuery_outForm {s : State} (h : s.inForm) (t : Time) (p : Port) (member : Nat) :
    OutForm (execAnchorQuery t p member s) := by
  simp only [execAnchorQuery]
  split <;> simp [h]

theorem execRecord_outForm {s : State} (h : s.inForm) (t : Time) (p : Port) (member : Nat) (r : NbrRec) :
    OutForm (execRecord t p member r s) := by
  simp only [execRecord]
  (repeat' split) <;> simp [h]

theorem execLoad_outForm {s : State} (h : s.inForm) (t : Time) (area : BrwArea) : OutForm (execLoad t area s) := by
  simp [execLoad, h]

theorem execNext_outForm {s : State} (h : s.inForm) (t : Time) (area : BrwArea) : OutForm (execNext t area s) := by
  simp [execNext, h]

theorem execOldest_outForm {s : State} (h : s.inForm) (t : Time) (area : BrwArea) : OutForm (execOldest t area s) := by
  simp [execOldest, h]

theorem execNewest_outForm {s : State} (h : s.inForm) (t : Time) (area : BrwArea) : OutForm (execNewest t area s) := by
  simp [execNewest, h]

theorem execBarrowCommandComplete_outForm {s : State} (h : s.inForm) (t : Time) (io : IoResult) :
    OutForm (execBarrowCommandComplete t io s) := by
  unfold execBarrowCommandComplete
  extract_lets s1
  have h1 : s1.inForm := h
  clear_value s1
  split
  · exact h1
  · refine outForm_ite (fun _ => h1) fun _ => ?_
    extract_lets newest c
    clear_value c
    cases c with
    | none => exact h1
    | some c =>
      dsimp only
      (repeat' split) <;> simp [h1]

theorem execRecordStageGo_outForm {s : State} (h : s.inForm) (t : Time) (value : Word) :
    OutForm (execRecordStageGo t value s) := by
  simp only [execRecordStageGo]
  (repeat' split) <;> simp [h]

theorem execClockWindowEnd_outForm {s : State} (h : s.inForm) (t : Time) (clk : Clk) (ppm : Int) :
    OutForm (execClockWindowEnd t clk ppm s) := by
  simp only [execClockWindowEnd]
  (repeat' split) <;> simp [h]

theorem execClockEdgeTimeout_outForm {s : State} (h : s.inForm) (t : Time) (clk : Clk) :
    OutForm (execClockEdgeTimeout t clk s) := by
  simp [execClockEdgeTimeout, h]

theorem execPllLockLoss_outForm {s : State} (h : s.inForm) (t : Time) (clk : Clk) : OutForm (execPllLockLoss t clk s) := by
  simp only [execPllLockLoss]
  split <;> simp [h]

theorem execAonXtalFail_outForm {s : State} (h : s.inForm) (t : Time) (noEdge : Bool) :
    OutForm (execAonXtalFail t noEdge s) := by
  simp only [execAonXtalFail]
  (repeat' split) <;> simp [h]

theorem execRingTimeUpdate_outForm {s : State} (h : s.inForm) (t : Time) (isl : Island) :
    OutForm (execRingTimeUpdate t isl s) := by
  simp only [execRingTimeUpdate]
  split <;> simp [h]

theorem execRingHoldoverEntry_outForm {s : State} (h : s.inForm) (t : Time) : OutForm (execRingHoldoverEntry t s) := by
  simp only [execRingHoldoverEntry]
  split <;> simp [h]

theorem execRingHoldoverEnd_outForm {s : State} (h : s.inForm) (t : Time) : OutForm (execRingHoldoverEnd t s) := by
  simp only [execRingHoldoverEnd]
  split <;> simp [h]

theorem execChannelReopen_outForm {s : State} (h : s.inForm) (t : Time) (ch : Chan) : OutForm (execChannelReopen t ch s) := by
  simp only [execChannelReopen]
  split <;> simp [h]

theorem execEpochSet_outForm {s : State} (h : s.inForm) (t : Time) : OutForm (execEpochSet t s) := by
  simp only [execEpochSet]
  split <;> simp [h]

theorem execHeartbeat_outForm {s : State} (h : s.inForm) (t : Time) (m : MsgHdr) : OutForm (execHeartbeat t m s) := by
  simp only [execHeartbeat]
  (repeat' split) <;> simp [h]

theorem execDtlsHandshake_outForm {s : State} (h : s.inForm) (t : Time) (mgr : Mgr) (portB : Bool) (key : List Byte) :
    OutForm (execDtlsHandshake t mgr portB key s) := by
  simp only [execDtlsHandshake]
  split <;> simp [h]

theorem execAlone_outForm {s : State} (h : s.inForm) (t : Time) : OutForm (execAlone t s) := by
  simp only [execAlone]
  split <;> simp [h]

theorem State.cfgStart_outForm {s : State} (h : s.inForm) (op : CfgOp) : OutForm (s.cfgStart op) := by
  simp only [State.cfgStart]
  (repeat' split) <;> simp [h]

theorem execCfgOperationComplete_outForm {s : State} (h : s.inForm) (t : Time) (ok : Bool) :
    OutForm (execCfgOperationComplete t ok s) := by
  simp [execCfgOperationComplete, h]

theorem execTrustStoreLoad_outForm {s : State} (h : s.inForm) (t : Time) (ok : Bool) : OutForm (execTrustStoreLoad t ok s) := by
  simp only [execTrustStoreLoad]
  (repeat' split) <;> simp [h]

theorem execTrustCommand_outForm {s : State} (h : s.inForm) (t : Time) (bytes voucher : List Byte) :
    OutForm (execTrustCommand t bytes voucher s) := by
  simp only [execTrustCommand]
  split <;> simp [h]

theorem execMeasurementExtend_outForm {s : State} (h : s.inForm) (t : Time) (bytes : List Byte) :
    OutForm (execMeasurementExtend t bytes s) := by
  simp only [execMeasurementExtend]
  split <;> simp [h]

theorem execBarrowSeal_outForm {s : State} (h : s.inForm) (t : Time) : OutForm (execBarrowSeal t s) := by
  simp only [execBarrowSeal]
  split <;> simp [h]

theorem execTelemetrySeal_outForm {s : State} (h : s.inForm) (t : Time) : OutForm (execTelemetrySeal t s) := by
  simp only [execTelemetrySeal]
  split <;> simp [h]

theorem execTamperDetect_outForm {s : State} (h : s.inForm) (t : Time) (d : Nat) : OutForm (execTamperDetect t d s) := by
  simp only [execTamperDetect]
  (repeat' split) <;> simp [h]

theorem execTamperLoopRestored_outForm {s : State} (h : s.inForm) (t : Time) (d : Nat) :
    OutForm (execTamperLoopRestored t d s) := by
  simp only [execTamperLoopRestored]
  (repeat' split) <;> simp [h]

theorem execFaultMessage_outForm {s : State} (h : s.inForm) (t : Time) (x : FaultIn) : OutForm (execFaultMessage t x s) := by
  simp only [execFaultMessage]
  (repeat' split) <;> simp [h]

theorem execFaultBinBoundary_outForm {s : State} (h : s.inForm) (t : Time) (source : Nat) :
    OutForm (execFaultBinBoundary t source s) := by
  simp [execFaultBinBoundary, h]

theorem execFaultQueueRead_outForm {s : State} (h : s.inForm) (t : Time) : OutForm (execFaultQueueRead t s) := by
  simp only [execFaultQueueRead]
  (repeat' split) <;> simp [h]

theorem execTrapAck_outForm {s : State} (h : s.inForm) (t : Time) (value : Word) : OutForm (execTrapAck t value s) := by
  simp only [execTrapAck]
  (repeat' split) <;> simp [h]

theorem execFaultClear_outForm {s : State} (h : s.inForm) (t : Time) (value : Word) : OutForm (execFaultClear t value s) := by
  simp only [execFaultClear]
  (repeat' split) <;> simp [h]

theorem execFirmwareSlotSelect_outForm {s : State} (h : s.inForm) (t : Time) : OutForm (execFirmwareSlotSelect t s) := by
  simp only [execFirmwareSlotSelect]
  (repeat' split) <;> simp [h]

theorem execFirmwareVerify_outForm {s : State} (h : s.inForm) (t : Time) : OutForm (execFirmwareVerify t s) := by
  simp only [execFirmwareVerify]
  (repeat' split) <;> simp [h]

theorem execFirmwareRunning_outForm {s : State} (h : s.inForm) (t : Time) (value : Word) :
    OutForm (execFirmwareRunning t value s) := by
  simp only [execFirmwareRunning]
  (repeat' split) <;> simp [h]

theorem execFirmwareConfirm_outForm {s : State} (h : s.inForm) (t : Time) : OutForm (execFirmwareConfirm t s) := by
  simp only [execFirmwareConfirm]
  split <;> simp [h]

theorem execFirmwarePolicyLoad_outForm {s : State} (h : s.inForm) (t : Time) : OutForm (execFirmwarePolicyLoad t s) := by
  simp only [execFirmwarePolicyLoad]
  (repeat' split) <;> simp [h]

theorem execSetpointStep_outForm {s : State} (h : s.inForm) (t : Time) (agreed : Bool) :
    OutForm (execSetpointStep t agreed s) := by
  simp only [execSetpointStep]
  (repeat' split) <;> simp [h]

theorem execPlanRelease_outForm {s : State} (h : s.inForm) (t : Time) : OutForm (execPlanRelease t s) := by
  simp only [execPlanRelease]
  (repeat' split) <;> simp [h]

theorem execSwardWatchdog_outForm {s : State} (h : s.inForm) (t : Time) : OutForm (execSwardWatchdog t s) := by
  simp only [execSwardWatchdog]
  split <;> simp [h]

theorem execPmbusPoll_outForm {s : State} (h : s.inForm) (t : Time) : OutForm (execPmbusPoll t s) := by
  simp only [execPmbusPoll]
  split <;> simp [h]

theorem execPmbAlert_outForm {s : State} (h : s.inForm) (t : Time) : OutForm (execPmbAlert t s) := by
  simp only [execPmbAlert]
  split <;> simp [h]

theorem execBusTransactionEnd_outForm {s : State} (h : s.inForm) (t : Time) (pmbus : Bool) (r : TxRes) :
    OutForm (execBusTransactionEnd t pmbus r s) := by
  simp only [execBusTransactionEnd]
  (repeat' split) <;> simp [h]

theorem execStringPoll_outForm {s : State} (h : s.inForm) (t : Time) (x : List StrRes) (batt : StrRes) :
    OutForm (execStringPoll t x batt s) := by
  simp only [execStringPoll]
  split <;> simp [h]

theorem execPrechargeTimeout_outForm {s : State} (h : s.inForm) (t : Time) (j : Nat) :
    OutForm (execPrechargeTimeout t j s) := by
  simp only [execPrechargeTimeout]
  split <;> simp [h]

theorem execDacUpdate_outForm {s : State} (h : s.inForm) (t : Time) (x : DacIn) : OutForm (execDacUpdate t x s) := by
  simp only [execDacUpdate]
  (repeat' split) <;> simp [h]

theorem execFlitRoute_outForm {s : State} (h : s.inForm) (t : Time) (row col : Nat) (via : Via) (reply : Bool) :
    OutForm (execFlitRoute t row col via reply s) := by
  unfold execFlitRoute
  extract_lets s1 here
  refine outForm_ite (fun _ => h) fun _ => ?_
  split
  · exact h
  · next m _ _ =>
    extract_lets gone
    have hg : gone.inForm := h
    clear_value gone
    split
    · simp [hg]
    · split
      · exact h
      · simp [hg]
      · exact outForm_ite (fun _ => by simp [hg]) fun _ => outForm_ite (fun _ => h) fun _ =>
          inForm_of_sameForm (State.inject_sameForm _ _ _ _ _ _) hg

theorem execFlitArrival_outForm {s : State} (h : s.inForm) (t : Time) (row col : Nat) (via : Via) (reply : Bool)
    (n : List (Nat × NAcc)) (ev : List (Nat × WordEv)) : OutForm (execFlitArrival t row col via reply n ev s) := by
  refine outForm_ite (fun _ => h) fun _ => ?_
  split
  · exact h
  · exact outForm_ite (fun _ => h) fun _ => outForm_ite (fun _ => h) fun _ => State.flitLands_inForm _ _ _ _ _ h

theorem execPortSRetry_outForm {s : State} (h : s.inForm) (t : Time) (tus bank : Nat) (n : List (Nat × NAcc)) :
    OutForm (execPortSRetry t tus bank n s) := by
  unfold execPortSRetry
  extract_lets s1 k
  have h1 : s1.inForm := h
  have hk : k.sram.wf = true := tus_sram_wf h1.2.2.1 tus
  refine outForm_ite (fun _ => h1) fun _ => ?_
  split
  · exact h1
  · next r _ =>
    dsimp -zeta only
    extract_lets k1 force k2 s2
    have hk1 : k1.sram.wf = true := hk
    have hk2 : k2.sram.wf = true := by
      unfold k2
      split <;> exact portS_sram_wf hk1 _ _ _ _
    have h2 : s2.inForm := State.updTus_inForm h1 tus fun _ _ => hk2
    split
    · exact h2
    · exact inForm_of_sameForm (State.inject_sameForm _ _ _ _ _ _) h2

theorem execBurstReceived_outForm {s : State} (h : s.inForm) (t : Time) (x : BurstIn) : OutForm (execBurstReceived t x s) := by
  simp only [execBurstReceived]
  (repeat' split) <;> simp [h]

theorem execClauseRelay_outForm {s : State} (h : s.inForm) (t : Time) (sf slot : Nat) (c : Clause) :
    OutForm (execClauseRelay t sf slot c s) := by
  simp only [execClauseRelay]
  split <;> simp [h]

theorem execPhase_outForm {s : State} (h : s.inForm) (t : Time) : OutForm (execPhase t s) := by
  unfold execPhase
  extract_lets _
  split
  · exact h
  · next _ s1 hs =>
    have h1 : s1.inForm := takeAcc_inForm hs h
    dsimp only
    (repeat' split) <;> simp [h1]

theorem execStepClause_outForm {s : State} (h : s.inForm) (t : Time) : OutForm (execStepClause t s) := by
  unfold execStepClause
  extract_lets _
  split
  · exact h
  · next _ s1 hs =>
    have h1 : s1.inForm := takeAcc_inForm hs h
    dsimp only
    (repeat' split) <;> simp [h1]

theorem execVftable_outForm {s : State} (h : s.inForm) (t : Time) : OutForm (execVftable t s) := by
  unfold execVftable
  extract_lets _
  split
  · exact h
  · next _ s1 hs =>
    have h1 : s1.inForm := takeAcc_inForm hs h
    simp [h1]

theorem execThrottle_outForm {s : State} (h : s.inForm) (t : Time) : OutForm (execThrottle t s) := by
  unfold execThrottle
  extract_lets _
  split
  · exact h
  · next _ s1 hs =>
    have h1 : s1.inForm := takeAcc_inForm hs h
    simp [h1]

theorem execAck_outForm {s : State} (h : s.inForm) (t : Time) : OutForm (execAck t s) := by
  unfold execAck
  extract_lets _
  split
  · exact h
  · next _ s1 hs =>
    have h1 : s1.inForm := takeAcc_inForm hs h
    dsimp only
    (repeat' split) <;> simp [h1]

theorem execJoin_outForm {s : State} (h : s.inForm) (t : Time) : OutForm (execJoin t s) := by
  unfold execJoin
  extract_lets _
  split
  · exact h
  · next _ s1 hs =>
    have h1 : s1.inForm := takeAcc_inForm hs h
    dsimp only
    (repeat' split) <;> simp [h1]

theorem execKeyx_outForm {s : State} (h : s.inForm) (t : Time) : OutForm (execKeyx t s) := by
  unfold execKeyx
  extract_lets _
  split
  · exact h
  · next _ s1 hs =>
    have h1 : s1.inForm := takeAcc_inForm hs h
    dsimp only
    (repeat' split) <;> simp [h1]

theorem execStartReq_outForm {s : State} (h : s.inForm) (t : Time) : OutForm (execStartReq t s) := by
  unfold execStartReq
  extract_lets _
  split
  · exact h
  · next _ s1 hs =>
    have h1 : s1.inForm := takeAcc_inForm hs h
    dsimp only
    (repeat' split) <;> simp [h1]

theorem execLeave_outForm {s : State} (h : s.inForm) (t : Time) : OutForm (execLeave t s) := by
  unfold execLeave
  extract_lets _
  split
  · exact h
  · next _ s1 hs =>
    have h1 : s1.inForm := takeAcc_inForm hs h
    simp [h1]

theorem execHello_outForm {s : State} (h : s.inForm) (t : Time) : OutForm (execHello t s) := by
  unfold execHello
  extract_lets _
  split
  · exact h
  · next _ s1 hs =>
    have h1 : s1.inForm := takeAcc_inForm hs h
    simp [h1]

theorem execEnrolTimeout_outForm {s : State} (h : s.inForm) (t : Time) (id : Nat) : OutForm (execEnrolTimeout t id s) := by
  simp only [execEnrolTimeout]
  (repeat' split) <;> simp [h]

theorem execSilentLapse_outForm {s : State} (h : s.inForm) (t : Time) (id : Nat) : OutForm (execSilentLapse t id s) := by
  simp only [execSilentLapse]
  (repeat' split) <;> simp [h]

theorem execIdHoldExpiry_outForm {s : State} (h : s.inForm) (t : Time) (id : Nat) : OutForm (execIdHoldExpiry t id s) := by
  simp only [execIdHoldExpiry]
  (repeat' split) <;> simp [h]

theorem execRekeyTimeout_outForm {s : State} (h : s.inForm) (t : Time) (id : Nat) : OutForm (execRekeyTimeout t id s) := by
  simp only [execRekeyTimeout]
  (repeat' split) <;> simp [h]

theorem execEpochGraceExpiry_outForm {s : State} (h : s.inForm) (t : Time) (id : Nat) :
    OutForm (execEpochGraceExpiry t id s) := by
  simp [execEpochGraceExpiry, h]

theorem execStrangerExpiry_outForm {s : State} (h : s.inForm) (t : Time) : OutForm (execStrangerExpiry t s) := by
  simp [execStrangerExpiry, h]

theorem execElection_outForm {s : State} (h : s.inForm) (t : Time) (x : ElectIn) : OutForm (execElection t x s) := by
  simp only [execElection]
  split <;> simp [h]

theorem execSpeakerState_outForm {s : State} (h : s.inForm) (t : Time) (x : SpeakerIn) : OutForm (execSpeakerState t x s) := by
  simp only [execSpeakerState]
  (repeat' split) <;> simp [h]

theorem execFurzeSuperframe_outForm {s : State} (h : s.inForm) (t : Time) : OutForm (execFurzeSuperframe t s) := by
  simp only [execFurzeSuperframe]
  (repeat' split) <;> simp [h]

theorem execKbcRotation_outForm {s : State} (h : s.inForm) (t : Time) : OutForm (execKbcRotation t s) := by
  simp only [execKbcRotation]
  (repeat' split) <;> simp [h]

theorem execKbcSwitch_outForm {s : State} (h : s.inForm) (t : Time) : OutForm (execKbcSwitch t s) := by
  simp only [execKbcSwitch]
  (repeat' split) <;> simp [h]

theorem execRequest_outForm {s : State} (h : s.inForm) (t : Time) (x : ReqRec) : OutForm (execRequest t x s) := by
  simp only [execRequest]
  split <;> simp [h]

theorem execDecision_outForm {s : State} (h : s.inForm) (t : Time) (x : DecRec) : OutForm (execDecision t x s) := by
  simp only [execDecision]
  split <;> simp [h]

theorem execGovernorRelease_outForm {s : State} (h : s.inForm) (t : Time) : OutForm (execGovernorRelease t s) := by
  simp only [execGovernorRelease]
  split <;> simp [h]

theorem execMatchRelease_outForm {s : State} (h : s.inForm) (t : Time) (id : Nat) : OutForm (execMatchRelease t id s) := by
  simp only [execMatchRelease]
  (repeat' split) <;> simp [h]

theorem execPairIdleEnd_outForm {s : State} (h : s.inForm) (t : Time) (job group : Nat) :
    OutForm (execPairIdleEnd t job group s) := by
  simp only [execPairIdleEnd]
  (repeat' split) <;> simp [h]

theorem execLookup_outForm {s : State} (h : s.inForm) (t : Time) : OutForm (execLookup t s) := by
  simp [execLookup, h]

theorem execBest_outForm {s : State} (h : s.inForm) (t : Time) : OutForm (execBest t s) := by
  simp [execBest, h]

theorem execPin_outForm {s : State} (h : s.inForm) (t : Time) : OutForm (execPin t s) := by
  simp [execPin, h]

theorem execUnpin_outForm {s : State} (h : s.inForm) (t : Time) : OutForm (execUnpin t s) := by
  simp [execUnpin, h]

theorem execRead_outForm {s : State} (h : s.inForm) (t : Time) (off : Nat) : OutForm (execRead t off s) := by
  simp [execRead, h]

theorem execLexOperationComplete_outForm {s : State} (h : s.inForm) (t : Time) : OutForm (execLexOperationComplete t s) := by
  simp only [execLexOperationComplete]
  (repeat' split) <;> simp [h]

theorem execPriorsLoad_outForm {s : State} (h : s.inForm) (t : Time) : OutForm (execPriorsLoad t s) := by
  unfold execPriorsLoad
  extract_lets _ old m1 _
  have hm1 : m1.wf = true := foldl_wf (fun _ _ hm => lemZero_wf hm _) _ h.2.1
  split
  · exact h
  · next im _ =>
    refine outForm_ite (fun _ => h) fun _ => ?_
    extract_lets cores m2
    have hm2 : m2.wf = true := foldl_wf (fun _ _ hm => placePrior_wf hm _ _) _ hm1
    exact foldl_inForm (fun s c hs => by simp [hs]) _ ⟨h.1, hm2, h.2.2⟩

theorem execLexiconScanEnd_outForm {s : State} (h : s.inForm) (t : Time) : OutForm (execLexiconScanEnd t s) := by
  refine outForm_ite (fun _ => h) fun _ => ?_
  exact foldl_inForm (fun s slot hs => s.lemCheck_inForm slot hs) _ h

theorem execHistoryBlockWrite_outForm {s : State} (h : s.inForm) (t : Time) (frames : List Byte) (lost : Bool) :
    OutForm (execHistoryBlockWrite t frames lost s) := by
  refine outForm_ite (fun _ => h) fun _ => ?_
  rw [outForm_next]
  simp [h, writeBytes_wf]

theorem execDecimatedBlockWrite_outForm {s : State} (h : s.inForm) (t : Time) (body : List Byte) (lost : Nat) :
    OutForm (execDecimatedBlockWrite t body lost s) := by
  simp only [execDecimatedBlockWrite]
  split <;> simp [h]

theorem execCellArrival_outForm {s : State} (h : s.inForm) (t : Time) (p : Port) (c : Cell) (tag : TagRes) :
    OutForm (execCellArrival t p c tag s) := by
  simp only [execCellArrival]
  (repeat' split) <;> simp [h]

theorem execPortPresenceLost_outForm {s : State} (h : s.inForm) (t : Time) (p : Port) :
    OutForm (execPortPresenceLost t p s) := by
  simp only [execPortPresenceLost]
  split <;> simp [h]

theorem execPortPresenceFitted_outForm {s : State} (h : s.inForm) (t : Time) (p : Port) :
    OutForm (execPortPresenceFitted t p s) := by
  simp only [execPortPresenceFitted]
  split <;> simp [h]

theorem execTrainingLock_outForm {s : State} (h : s.inForm) (t : Time) (p : Port) : OutForm (execTrainingLock t p s) := by
  simp only [execTrainingLock]
  split <;> simp [h]

theorem execLinkCell_outForm {s : State} (h : s.inForm) (t : Time) (p : Port) (x : LinkCellIn) :
    OutForm (execLinkCell t p x s) := by
  simp only [execLinkCell]
  (repeat' split) <;> simp [h]

theorem execHopRekey_outForm {s : State} (h : s.inForm) (t : Time) (p : Port) : OutForm (execHopRekey t p s) := by
  simp only [execHopRekey]
  split <;> simp [h]

theorem execLinkStall_outForm {s : State} (h : s.inForm) (t : Time) (p : Port) : OutForm (execLinkStall t p s) := by
  simp only [execLinkStall]
  (repeat' split) <;> simp [h]

theorem execFaultCell_outForm {s : State} (h : s.inForm) (t : Time) (p : Port) : OutForm (execFaultCell t p s) := by
  simp only [execFaultCell]
  split <;> simp [h]

theorem execLinkDown_outForm {s : State} (h : s.inForm) (t : Time) (p : Port) : OutForm (execLinkDown t p s) := by
  simp only [execLinkDown]
  split <;> simp [h]

theorem execLinkSymbolsReturn_outForm {s : State} (h : s.inForm) (t : Time) (p : Port) :
    OutForm (execLinkSymbolsReturn t p s) := by
  simp only [execLinkSymbolsReturn]
  split <;> simp [h]

theorem execRejoinHoldExpiry_outForm {s : State} (h : s.inForm) (t : Time) (p : Port) :
    OutForm (execRejoinHoldExpiry t p s) := by
  simp only [execRejoinHoldExpiry]
  split <;> simp [h]

theorem execRefusedRetry_outForm {s : State} (h : s.inForm) (t : Time) (p : Port) : OutForm (execRefusedRetry t p s) := by
  simp only [execRefusedRetry]
  split <;> simp [h]

theorem execTimeCell_outForm {s : State} (h : s.inForm) (t : Time) (p : Port) (x : TimeIn) :
    OutForm (execTimeCell t p x s) := by
  unfold execTimeCell
  extract_lets s0 own t2 d theirs keep _ s1 _ s2 offset n c counter near good _ s3 far _ s4 short
  have h0 : s0.inForm := h
  have h1 : s1.inForm := inForm_ite (fun _ => h0) fun _ => h0
  have h2 : s2.inForm := inForm_ite (fun _ => h0) fun _ => inForm_ite (fun _ => h1) fun _ => h1
  have h3 : s3.inForm := h2
  have h4 : s4.inForm := inForm_ite (fun _ => inForm_of_sameForm (State.desync_sameForm s3) h3) fun _ =>
    inForm_ite (fun _ => h3) fun _ => h3
  exact outForm_ite (fun _ => h0) fun _ => outForm_ite (fun _ => h2) fun _ =>
    inForm_ite (fun _ => inForm_of_sameForm (State.chooseMaster_sameForm s4 true) h4) fun _ => h4

theorem execTimeCellSend_outForm {s : State} (h : s.inForm) (t : Time) (fec : List (Nat × Nat)) :
    OutForm (execTimeCellSend t fec s) := by
  simp only [execTimeCellSend]
  split <;> simp [h]

theorem execParentTimeout_outForm {s : State} (h : s.inForm) (t : Time) : OutForm (execParentTimeout t s) := by
  simp only [execParentTimeout]
  split <;> simp [h]

theorem execLinkState_outForm {s : State} (h : s.inForm) (t : Time) (x : LinkRec) : OutForm (execLinkState t x s) := by
  simp only [execLinkState]
  split <;> simp [h]

theorem execHeadChange_outForm {s : State} (h : s.inForm) (t : Time) : OutForm (execHeadChange t s) := by
  simp only [execHeadChange]
  split <;> simp [h]

theorem execMirrorSend_outForm {s : State} (h : s.inForm) (t : Time) (frames : List Byte) :
    OutForm (execMirrorSend t frames s) := by
  simp only [execMirrorSend]
  split <;> simp [h]

theorem execMirror_outForm {s : State} (h : s.inForm) (t : Time) (p : Port) (block : List Byte) :
    OutForm (execMirror t p block s) := by
  simp only [execMirror]
  (repeat' split) <;> simp [h]

theorem execCaptureComplete_outForm {s : State} (h : s.inForm) (t : Time) (p : Port) : OutForm (execCaptureComplete t p s) := by
  simp only [execCaptureComplete]
  (repeat' split) <;> simp [h]

theorem execSubscriptionRequest_outForm {s : State} (h : s.inForm) (t : Time) (x : SubIn) :
    OutForm (execSubscriptionRequest t x s) := by
  simp only [execSubscriptionRequest]
  (repeat' split) <;> simp [h]

theorem execBertStart_outForm {s : State} (h : s.inForm) (t : Time) (x : BertStart) : OutForm (execBertStart t x s) := by
  simp only [execBertStart]
  (repeat' split) <;> simp [h]

theorem execBertPeriodic_outForm {s : State} (h : s.inForm) (t : Time) : OutForm (execBertPeriodic t s) := by
  simp only [execBertPeriodic]
  (repeat' split) <;> simp [h]

theorem execBertEnd_outForm {s : State} (h : s.inForm) (t : Time) (p : Port) (err0 err1 : Nat) :
    OutForm (execBertEnd t p err0 err1 s) := by
  simp only [execBertEnd]
  split <;> simp [h]

theorem execSuperframeBoundary_outForm {s : State} (h : s.inForm) (t : Time) (isl : SfIsland) :
    OutForm (execSuperframeBoundary t isl s) := by
  simp only [execSuperframeBoundary]
  split <;> simp [h]

theorem execResetPin_outForm {s : State} (h : s.inForm) (t : Time) (low : Bool) : OutForm (execResetPin t low s) := by
  simp only [execResetPin]
  split <;> simp [h]

theorem execResetPulseEnd_outForm {s : State} (h : s.inForm) (t : Time) (src : Src) : OutForm (execResetPulseEnd t src s) := by
  simp only [execResetPulseEnd]
  split <;> simp [h]

theorem execFlushWindowEnd_outForm {s : State} (h : s.inForm) (t : Time) (committed : Bool) :
    OutForm (execFlushWindowEnd t committed s) := by
  simp only [execFlushWindowEnd]
  (repeat' split) <;> simp [h]

theorem execDomainRelease_outForm {s : State} (h : s.inForm) (t : Time) (d : Dom) : OutForm (execDomainRelease t d s) := by
  simp only [execDomainRelease]
  split <;> simp [h]

theorem execIdsolReady_outForm {s : State} (h : s.inForm) (t : Time) (ok : Bool) : OutForm (execIdsolReady t ok s) := by
  simp only [execIdsolReady]
  (repeat' split) <;> simp [h]

theorem execIdsolTimeout_outForm {s : State} (h : s.inForm) (t : Time) : OutForm (execIdsolTimeout t s) := by
  simp only [execIdsolTimeout]
  split <;> simp [h]

theorem execMgmtWdog_outForm {s : State} (h : s.inForm) (t : Time) : OutForm (execMgmtWdog t s) := by
  simp only [execMgmtWdog]
  (repeat' split) <;> simp [h]

theorem execMwdogKick_outForm {s : State} (h : s.inForm) (t : Time) (value : Word) : OutForm (execMwdogKick t value s) := by
  simp only [execMwdogKick]
  split <;> simp [h]

theorem execLaneWatchdog_outForm {s : State} (h : s.inForm) (t : Time) (x : Lane) : OutForm (execLaneWatchdog t x s) := by
  simp only [execLaneWatchdog]
  (repeat' split) <;> simp [h]

theorem execVotedMark_outForm {s : State} (h : s.inForm) (t : Time) (x : MarkIn) : OutForm (execVotedMark t x s) := by
  unfold execVotedMark
  extract_lets s0 s1 s2 s3 s4 s5 s6 s7 _
  have h0 : s0.inForm := h
  clear_value s0
  have h1 : s1.inForm := by simp [s1, h0]
  clear_value s1
  have h2 : s2.inForm := by simp [s2, h1]
  clear_value s2
  have h3 : s3.inForm := by simp [s3, h2]
  clear_value s3
  have h4 : s4.inForm := foldl_inForm (fun s y hs => by simp [hs]) _ h3
  clear_value s4
  have h5 : s5.inForm := by simp [s5, h4]
  clear_value s5
  have h6 : s6.inForm := inForm_ite (fun _ => s5.planMark_inForm h5) fun _ => h5
  clear_value s6
  have h7 : s7.inForm := by simp [s7, h6]
  clear_value s7
  exact outForm_ite (fun _ => h0) fun _ => outForm_ite (fun _ => s1.stopNow_inForm h1) fun _ => h7

theorem execPlanningTick_outForm {s : State} (h : s.inForm) (t : Time) : OutForm (execPlanningTick t s) := by
  simp only [execPlanningTick]
  (repeat' split) <;> simp [h]

theorem execFabricModeEvaluation_outForm {s : State} (h : s.inForm) (t : Time) : OutForm (execFabricModeEvaluation t s) := by
  simp only [execFabricModeEvaluation]
  split <;> simp [h]

theorem execStopCleared_outForm {s : State} (h : s.inForm) (t : Time) : OutForm (execStopCleared t s) := by
  simp only [execStopCleared]
  split <;> simp [h]

theorem execStopWatchEnd_outForm {s : State} (h : s.inForm) (t : Time) : OutForm (execStopWatchEnd t s) := by
  simp only [execStopWatchEnd]
  split <;> simp [h]

theorem execGateDisagreement_outForm {s : State} (h : s.inForm) (t : Time) (x : Lane) (gate : Nat) :
    OutForm (execGateDisagreement t x gate s) := by
  simp only [execGateDisagreement]
  split <;> simp [h]

theorem execSnapshotJudgement_outForm {s : State} (h : s.inForm) (t : Time) (ab ac bc : Pair) :
    OutForm (execSnapshotJudgement t ab ac bc s) := by
  unfold execSnapshotJudgement
  extract_lets s0 all pairs voting s1 n out s2
  have h0 : s0.inForm := h
  have h1 : s1.inForm := foldl_inForm (fun s x hs => inForm_of_sameForm (by simp) hs) _ h0
  clear_value s1
  have h2 : s2.inForm := foldl_inForm (fun s x hs => by simp [hs]) _ h1
  clear_value s2
  exact outForm_ite (fun _ => h0) fun _ => outForm_ite (fun _ => by simp [h1]) fun _ => outForm_ite (fun _ => by simp [h1])
    fun _ => by simp [h2]

theorem execLaneReady_outForm {s : State} (h : s.inForm) (t : Time) (x : Lane) (crcOk : Bool) :
    OutForm (execLaneReady t x crcOk s) := by
  simp only [execLaneReady]
  (repeat' split) <;> simp [h]

theorem execFormationWaitExpiry_outForm {s : State} (h : s.inForm) (t : Time) : OutForm (execFormationWaitExpiry t s) := by
  simp only [execFormationWaitExpiry]
  (repeat' split) <;> simp [h]

theorem execStageKill_outForm {s : State} (h : s.inForm) (t : Time) (low : Bool) : OutForm (execStageKill t low s) := by
  simp only [execStageKill]
  (repeat' split) <;> simp [h]

theorem execGridLoss_outForm {s : State} (h : s.inForm) (t : Time) : OutForm (execGridLoss t s) := by
  simp only [execGridLoss]
  split <;> simp [h]

theorem execGridReturn_outForm {s : State} (h : s.inForm) (t : Time) : OutForm (execGridReturn t s) := by
  simp only [execGridReturn]
  (repeat' split) <;> simp [h]

theorem execGridRestored_outForm {s : State} (h : s.inForm) (t : Time) : OutForm (execGridRestored t s) := by
  simp only [execGridRestored]
  split <;> simp [h]

theorem execSegmentLoss_outForm {s : State} (h : s.inForm) (t : Time) (member : Nat) :
    OutForm (execSegmentLoss t member s) := by
  simp only [execSegmentLoss]
  split <;> simp [h]

theorem execSegmentLossClear_outForm {s : State} (h : s.inForm) (t : Time) : OutForm (execSegmentLossClear t s) := by
  simp only [execSegmentLossClear]
  (repeat' split) <;> simp [h]

theorem execAuxInputFault_outForm {s : State} (h : s.inForm) (t : Time) (inputB high : Bool) :
    OutForm (execAuxInputFault t inputB high s) := by
  simp [execAuxInputFault, h]

theorem execAuxInputReconnect_outForm {s : State} (h : s.inForm) (t : Time) (inputB : Bool) :
    OutForm (execAuxInputReconnect t inputB s) := by
  simp [execAuxInputReconnect, h]

theorem execPowerOnRelease_outForm {s : State} (h : s.inForm) (t : Time) : OutForm (execPowerOnRelease t s) := by
  simp only [execPowerOnRelease]
  split <;> simp [h]

theorem execPowerFail_outForm {s : State} (h : s.inForm) (t : Time) (railMv : Nat) : OutForm (execPowerFail t railMv s) := by
  unfold execPowerFail
  extract_lets s0 _ _ _ s1 s2 s3 s4 s5 _ s6 _ s7
  have h0 : s0.inForm := h
  have h1 : s1.inForm := h
  clear_value s1
  have h2 : s2.inForm := by simp [s2, h1]
  clear_value s2
  have h3 : s3.inForm := inForm_ite (fun _ => h2) fun _ => by simp [h2]
  clear_value s3
  have h4 : s4.inForm := inForm_ite (fun _ => s3.transition_inForm _ _ h3) fun _ => h3
  clear_value s4
  have h5 : s5.inForm := s4.shedSward_inForm h4
  clear_value s5
  have h6 : s6.inForm := ⟨h5.1, rfl, h5.2.2⟩
  have h7 : s7.inForm := h6
  exact outForm_ite (fun _ => h0) fun _ => outForm_ite (fun _ => h6) fun _ =>
    inForm_of_sameForm (State.stage_sameForm _ _ _ _ _) h7

theorem execFinalFlushStagingClose_outForm {s : State} (h : s.inForm) (t : Time) :
    OutForm (execFinalFlushStagingClose t s) := by
  simp only [execFinalFlushStagingClose]
  (repeat' split) <;> simp [h]

theorem execFinalFlushEnd_outForm {s : State} (h : s.inForm) (t : Time) (railUp : Bool) :
    OutForm (execFinalFlushEnd t railUp s) := by
  unfold execFinalFlushEnd
  extract_lets s0 s1 owed _ s2 x s3
  have h0 : s0.inForm := h
  have h1 : s1.inForm := inForm_ite (fun _ => by simp [h0]) fun _ => h0
  clear_value s1
  have h2 : s2.inForm := h1
  clear_value s2
  have h3 : s3.inForm := by simp [s3, h2]
  clear_value s3
  split
  · exact h0
  · exact foldl_inForm (fun s d hs => by simp [hs]) _ h3

theorem execRailRecovery_outForm {s : State} (h : s.inForm) (t : Time) : OutForm (execRailRecovery t s) := by
  simp only [execRailRecovery]
  split <;> simp [h]

theorem execHoldupFault_outForm {s : State} (h : s.inForm) (t : Time) (dj : Nat) : OutForm (execHoldupFault t dj s) := by
  simp only [execHoldupFault]
  split <;> simp [h]

theorem execHoldupRecharged_outForm {s : State} (h : s.inForm) (t : Time) (dj : Nat) :
    OutForm (execHoldupRecharged t dj s) := by
  simp only [execHoldupRecharged]
  split <;> simp [h]

theorem execImageSelection_outForm {s : State} (h : s.inForm) (t : Time) : OutForm (execImageSelection t s) := by
  simp only [execImageSelection]
  (repeat' split) <;> simp [h]

theorem execBringupEnd_outForm {s : State} (h : s.inForm) (t : Time) : OutForm (execBringupEnd t s) := by
  unfold execBringupEnd
  extract_lets s0 late span _ _ s1 s2 s3 f s4
  have h0 : s0.inForm := h
  have h1 : s1.inForm := h
  clear_value s1
  have h2 : s2.inForm := inForm_ite (fun _ => by simp [h1]) fun _ => h1
  clear_value s2
  have h3 : s3.inForm := inForm_ite (fun _ => by simp [h2]) fun _ => by simp [h2]
  clear_value s3
  have h4 : s4.inForm := by simp [s4, h3]
  clear_value s4
  exact outForm_ite (fun _ => h0) fun _ => inForm_ite (fun _ => h4) fun _ => s4.drainQueue_inForm h4

theorem execSensorSample_outForm {s : State} (h : s.inForm) (t : Time) (samples : List Reading) :
    OutForm (execSensorSample t samples s) := by
  refine outForm_ite (fun _ => h) fun _ => ?_
  have h1 : ((List.range 88).foldl (fun (s : State) i => s.sample i (samples.getD i .error)) (s.at_ t)).inForm :=
    foldl_inForm (fun s i hs => inForm_of_sameForm (s.sample_sameForm i _) hs) _ h
  generalize (List.range 88).foldl (fun (s : State) i => s.sample i (samples.getD i .error)) (s.at_ t) = s1 at h1 ⊢
  simp [h1]

theorem execFlowUpdate_outForm {s : State} (h : s.inForm) (t : Time) (x : FlowIn) : OutForm (execFlowUpdate t x s) := by
  simp only [execFlowUpdate]
  (repeat' split) <;> simp [h]

theorem execSwardShed_outForm {s : State} (h : s.inForm) (t : Time) : OutForm (execSwardShed t s) := by
  simp only [execSwardShed]
  split <;> simp [h]

theorem execCoolantRestore_outForm {s : State} (h : s.inForm) (t : Time) : OutForm (execCoolantRestore t s) := by
  simp only [execCoolantRestore]
  split <;> simp [h]

theorem execSwardThermalEvaluation_outForm {s : State} (h : s.inForm) (t : Time) :
    OutForm (execSwardThermalEvaluation t s) := by
  simp only [execSwardThermalEvaluation]
  (repeat' split) <;> simp [h]

theorem execShelfThermalEvaluation_outForm {s : State} (h : s.inForm) (t : Time) (ppk pg : Rat) :
    OutForm (execShelfThermalEvaluation t ppk pg s) := by
  simp only [execShelfThermalEvaluation]
  split <;> simp [h]

theorem State.regWrite_outForm {s : State} (h : s.inForm) (a : Nat) (v : Word) : OutForm (s.regWrite a v) := by
  unfold State.regWrite
  split
  · exact execMwdogKick_outForm h _ v
  · exact execTrapAck_outForm h _ v
  · exact execFaultClear_outForm h _ v
  · exact execBertStart_outForm h _ _
  · split <;> simp [h]
  · split
    · exact State.cfgStart_outForm h _
    · simp [h]
  · exact execRecordStageGo_outForm h _ v
  · exact execFirmwareRunning_outForm h _ v
  · simp [h]

theorem execRegisterWrite_outForm {s : State} (h : s.inForm) (t : Time) (addr width : Nat) (value : Word) :
    OutForm (execRegisterWrite t addr width value s) := by
  unfold execRegisterWrite
  extract_lets s1
  have h1 : s1.inForm := h
  clear_value s1
  split
  · simp [h1]
  · exact State.regWrite_outForm h1 addr value

theorem execLoReadLatch_outForm {s : State} (h : s.inForm) (t : Time) (addr : Nat) : OutForm (execLoReadLatch t addr s) := by
  simp [execLoReadLatch, h]

theorem execBadRegisterRead_outForm {s : State} (h : s.inForm) (t : Time) (addr width : Nat) :
    OutForm (execBadRegisterRead t addr width s) := by
  simp [execBadRegisterRead, h]

theorem execReadRegisters_outForm {s : State} (h : s.inForm) (t : Time) (c : CmdHdr) (addr count : Nat) :
    OutForm (execReadRegisters t c addr count s) :=
  State.runCommand_inForm (s := s.at_ t) h c 0x01 false (fun s hs => inForm_snd_ite (fun _ => hs) fun _ => by simp [hs])
      (fun _ hs => hs)

theorem execReadObject_outForm {s : State} (h : s.inForm) (t : Time) (c : CmdHdr) (operand : List Byte) :
    OutForm (execReadObject t c operand s) :=
  State.runCommand_inForm (s := s.at_ t) h c 0x02 false (fun s hs => by simp [hs]) (fun _ hs => hs)

theorem execHold_outForm {s : State} (h : s.inForm) (t : Time) (c : CmdHdr) : OutForm (execHold t c s) :=
  State.runCommand_inForm (s := s.at_ t) h c 0x10 true (fun s hs => by simp [hs]) (fun _ hs => hs)

theorem execReleaseHold_outForm {s : State} (h : s.inForm) (t : Time) (c : CmdHdr) : OutForm (execReleaseHold t c s) :=
  State.runCommand_inForm (s := s.at_ t) h c 0x11 true (fun s hs => by simp [hs]) (fun _ hs => hs)

theorem execStopRelease_outForm {s : State} (h : s.inForm) (t : Time) (c : CmdHdr) : OutForm (execStopRelease t c s) :=
  State.runCommand_inForm (s := s.at_ t) h c 0x12 true (fun _ hs => hs) (fun _ hs => hs)

theorem execLaneRelease_outForm {s : State} (h : s.inForm) (t : Time) (c : CmdHdr) (lane : Nat) :
    OutForm (execLaneRelease t c lane s) :=
  State.runCommand_inForm (s := s.at_ t) h c 0x13 true (fun s hs => by split <;> simp [only, done, hs]) (fun _ hs => hs)

theorem execReset_outForm {s : State} (h : s.inForm) (t : Time) (c : CmdHdr) (level : Nat) : OutForm (execReset t c level s) :=
  State.runCommand_inForm (s := s.at_ t) h c 0x14 true (fun s hs => inForm_snd_ite (fun _ => hs) fun _ => hs)
      (fun s hs => by simp [hs])

theorem execRackCap_outForm {s : State} (h : s.inForm) (t : Time) (c : CmdHdr) (kw window mask capId : Nat) :
    OutForm (execRackCap t c kw window mask capId s) :=
  State.runCommand_inForm (s := s.at_ t) h c 0x20 true (fun s hs => by simp [hs]) (fun _ hs => hs)

theorem execClearFault_outForm {s : State} (h : s.inForm) (t : Time) (c : CmdHdr) (all : Bool) (source : Nat) :
    OutForm (execClearFault t c all source s) :=
  State.runCommand_inForm (s := s.at_ t) h c 0x21 true (fun _ hs => inForm_snd_ite (fun _ => hs) fun _ => hs) (fun _ hs => hs)

theorem execSetTime_outForm {s : State} (h : s.inForm) (t : Time) (c : CmdHdr) (wall : Nat) :
    OutForm (execSetTime t c wall s) :=
  State.runCommand_inForm (s := s.at_ t) h c 0x22 true (fun s hs => by simp [done, hs]) (fun _ hs => hs)

theorem execExpel_outForm {s : State} (h : s.inForm) (t : Time) (c : CmdHdr) (partner : Nat) :
    OutForm (execExpel t c partner s) :=
  State.runCommand_inForm (s := s.at_ t) h c 0x23 true
      (fun _ hs => inForm_snd_ite (fun _ => hs) fun _ => inForm_snd_ite (fun _ => hs) fun _ => by simp [done, hs])
      (fun _ hs => hs)

theorem execBertInstall_outForm {s : State} (h : s.inForm) (t : Time) (c : CmdHdr) : OutForm (execBertInstall t c s) :=
  State.runCommand_inForm (s := s.at_ t) h c 0x24 true (fun _ hs => inForm_snd_ite (fun _ => hs) fun _ => hs) (fun _ hs => hs)

theorem execBarrowClear_outForm {s : State} (h : s.inForm) (t : Time) (c : CmdHdr) (targets : Nat) (digest : List Byte) :
    OutForm (execBarrowClear t c targets digest s) :=
  State.runCommand_inForm (s := s.at_ t) h c 0x25 true (fun s hs => by simp [hs]) (fun _ hs => hs)

theorem execTrust_outForm {s : State} (h : s.inForm) (t : Time) (c : CmdHdr) (bytes voucher : List Byte) :
    OutForm (execTrust t c bytes voucher s) := by
  refine State.runCommand_inForm (s := s.at_ t) h c 0x26 false (fun s hs => ?_) fun _ hs => hs
  have ht := inForm_of_sameForm (s.trustCommand_sameForm bytes voucher) hs
  generalize s.trustCommand bytes voucher = r at ht ⊢
  obtain ⟨_ | d, s1⟩ := r
  · exact ht
  · exact ht

theorem execCfgOp_outForm {s : State} (h : s.inForm) (t : Time) (c : CmdHdr) (op : Nat) : OutForm (execCfgOp t c op s) := by
  simp only [execCfgOp]
  (repeat' split) <;> simp [h]

theorem execFwActivate_outForm {s : State} (h : s.inForm) (t : Time) (c : CmdHdr) : OutForm (execFwActivate t c s) :=
  State.runCommand_inForm (s := s.at_ t) h c 0x31 true (fun s hs => by simp [hs]) (fun _ hs => hs)

theorem execBundleDelete_outForm {s : State} (h : s.inForm) (t : Time) (c : CmdHdr) (digest : List Byte) :
    OutForm (execBundleDelete t c digest s) :=
  State.runCommand_inForm (s := s.at_ t) h c 0x32 true
      (fun _ hs => inForm_snd_ite (fun _ => hs) fun _ => inForm_snd_ite (fun _ => hs) fun _ => hs) (fun _ hs => hs)

theorem execXferBegin_outForm {s : State} (h : s.inForm) (t : Time) (c : CmdHdr) (kind length : Nat) (digest : List Byte) :
    OutForm (execXferBegin t c kind length digest s) :=
  State.runCommand_inForm (s := s.at_ t) h c 0x40 true (fun s hs => s.xferBegin_inForm c kind length digest hs) (fun _ hs => hs)

theorem execXferChunk_outForm {s : State} (h : s.inForm) (t : Time) (c : CmdHdr) (num offset : Nat) (data : List Byte) :
    OutForm (execXferChunk t c num offset data s) :=
  State.runCommand_inForm (s := s.at_ t) h c 0x41 false (fun s hs => s.xferChunk_inForm num offset data hs) (fun _ hs => hs)

theorem execXferEnd_outForm {s : State} (h : s.inForm) (t : Time) (c : CmdHdr) (num : Nat) : OutForm (execXferEnd t c num s) :=
  State.runCommand_inForm (s := s.at_ t) h c 0x42 true (fun s hs => s.xferEnd_inForm num hs) (fun _ hs => hs)

theorem State.badOperand_outForm {s : State} (h : s.inForm) (c : CmdHdr) (code : Nat) : OutForm (s.badOperand c code) :=
  State.runCommand_inForm h c code _ (fun _ hs => hs) fun _ hs => hs

theorem State.runPosted_outForm {s : State} (h : s.inForm) (c : CmdHdr) (code : Nat) (x : List Byte) :
    OutForm (s.runPosted c code x) := by
  have hbad := State.badOperand_outForm h c code
  unfold State.runPosted
  dsimp only
  split
  · exact outForm_ite (fun _ => execReadRegisters_outForm h _ c _ _) fun _ => hbad
  · exact execReadObject_outForm h _ c x
  · exact outForm_ite (fun _ => execHold_outForm h _ c) fun _ => hbad
  · exact outForm_ite (fun _ => execReleaseHold_outForm h _ c) fun _ => hbad
  · exact outForm_ite (fun _ => execStopRelease_outForm h _ c) fun _ => hbad
  · exact outForm_ite (fun _ => execLaneRelease_outForm h _ c _) fun _ => hbad
  · exact outForm_ite (fun _ => execReset_outForm h _ c _) fun _ => hbad
  · exact outForm_ite (fun _ => execRackCap_outForm h _ c _ _ _ _) fun _ => hbad
  · exact outForm_ite (fun _ => execClearFault_outForm h _ c _ _) fun _ => hbad
  · exact outForm_ite (fun _ => execSetTime_outForm h _ c _) fun _ => hbad
  · exact outForm_ite (fun _ => execExpel_outForm h _ c _) fun _ => hbad
  · exact outForm_ite (fun _ => execBertInstall_outForm h _ c) fun _ => hbad
  · exact outForm_ite (fun _ => execBarrowClear_outForm h _ c _ _) fun _ => hbad
  · exact execTrust_outForm h _ c _ _
  · exact outForm_ite (fun _ => execCfgOp_outForm h _ c _) fun _ => hbad
  · exact outForm_ite (fun _ => execFwActivate_outForm h _ c) fun _ => hbad
  · exact execBundleDelete_outForm h _ c x
  · exact outForm_ite (fun _ => execXferBegin_outForm h _ c _ _ _) fun _ => hbad
  · exact outForm_ite (fun _ => execXferChunk_outForm h _ c _ _ _) fun _ => hbad
  · exact outForm_ite (fun _ => execXferEnd_outForm h _ c _) fun _ => hbad
  · exact State.runCommand_inForm h c _ _ (fun _ hs => hs) fun _ hs => hs

theorem execCommandExecution_outForm {s : State} (h : s.inForm) (t : Time) (x : CmdStep) :
    OutForm (execCommandExecution t x s) := by
  unfold execCommandExecution
  extract_lets s1
  have h1 : s1.inForm := h
  clear_value s1
  cases x with
  | arrive m => exact outForm_ite (fun _ => h1) fun _ => s1.postCommand_inForm m none h1
  | execute =>
    refine outForm_ite (fun _ => h1) fun _ => ?_
    split
    · exact h1
    · next p rest _ => exact State.runPosted_outForm (s := { s1 with mbx := { s1.mbx with box := rest } }) h1 _ _ _

theorem execCommandRecord_outForm {s : State} (h : s.inForm) (t : Time) (x : RelayRec) : OutForm (execCommandRecord t x s) := by
  simp only [execCommandRecord]
  (repeat' split) <;> simp [h]

theorem execTelemetryStatus_outForm {s : State} (h : s.inForm) (t : Time) : OutForm (execTelemetryStatus t s) := by
  simp only [execTelemetryStatus]
  split <;> simp [h]

theorem execBusTrip_outForm {s : State} (h : s.inForm) (t : Time) (lower upper : Bool) (pair : Option Nat) :
    OutForm (execBusTrip t lower upper pair s) := by
  simp only [execBusTrip]
  split <;> simp [h]

theorem execTripWait_outForm {s : State} (h : s.inForm) (t : Time) : OutForm (execTripWait t s) := by
  simp only [execTripWait]
  split <;> simp [h]

theorem execBlankExpiry_outForm {s : State} (h : s.inForm) (t : Time) (lower upper : Bool) :
    OutForm (execBlankExpiry t lower upper s) := by
  simp only [execBlankExpiry]
  split <;> simp [h]

theorem execOnTimeExpiry_outForm {s : State} (h : s.inForm) (t : Time) (k : Nat) (x : PulseIn) :
    OutForm (execOnTimeExpiry t k x s) := by
  simp only [execOnTimeExpiry]
  (repeat' split) <;> simp [h]

theorem execPeakLimitTrip_outForm {s : State} (h : s.inForm) (t : Time) (k : Nat) (x : PulseIn) :
    OutForm (execPeakLimitTrip t k x s) := by
  simp only [execPeakLimitTrip]
  (repeat' split) <;> simp [h]

theorem execHiccupTimeExpiry_outForm {s : State} (h : s.inForm) (t : Time) (k : Nat) :
    OutForm (execHiccupTimeExpiry t k s) := by
  simp only [execHiccupTimeExpiry]
  split <;> simp [h]

theorem execZeroCross_outForm {s : State} (h : s.inForm) (t : Time) (k : Nat) : OutForm (execZeroCross t k s) := by
  simp only [execZeroCross]
  (repeat' split) <;> simp [h]

theorem execIdleCheck_outForm {s : State} (h : s.inForm) (t : Time) (k : Nat) (mean : Rat) :
    OutForm (execIdleCheck t k mean s) := by
  simp only [execIdleCheck]
  split <;> simp [h]

theorem execBoardRemoved_outForm {s : State} (h : s.inForm) (t : Time) (j : Nat) : OutForm (execBoardRemoved t j s) := by
  refine outForm_ite (fun _ => h) fun _ => foldl_inForm (fun s k hs => ?_) _ h
  dsimp only
  (repeat' split) <;> simp [hs]

theorem execBoardRefitted_outForm {s : State} (h : s.inForm) (t : Time) (j : Nat) : OutForm (execBoardRefitted t j s) := by
  simp only [execBoardRefitted]
  split <;> simp [h]

theorem execTestAttemptStart_outForm {s : State} (h : s.inForm) (t : Time) (windowS windowB : Bool) :
    OutForm (execTestAttemptStart t windowS windowB s) := by
  simp only [execTestAttemptStart]
  (repeat' split) <;> simp [h]

theorem execTestJudgement_outForm {s : State} (h : s.inForm) (t : Time) (x : TestIn) : OutForm (execTestJudgement t x s) := by
  unfold execTestJudgement
  extract_lets s0 s1 _ s2
  have h0 : s0.inForm := h
  clear_value s0
  have h1 : s1.inForm := by
    unfold s1
    refine foldl_inForm (fun s k hs => ?_) _ h0
    simp [hs]
  clear_value s1
  have h2 : s2.inForm := h1
  clear_value s2
  exact outForm_ite (fun _ => h0) fun _ => outForm_ite (fun _ => h2) fun _ => by simp [h2]

theorem execSpareRecheckJudgement_outForm {s : State} (h : s.inForm) (t : Time) (x : TestIn) :
    OutForm (execSpareRecheckJudgement t x s) := by
  simp only [execSpareRecheckJudgement]
  (repeat' split) <;> simp [h]

theorem execDvfsGrant_outForm {s : State} (h : s.inForm) (t : Time) (tus : Nat) : OutForm (execDvfsGrant t tus s) := by
  simp only [execDvfsGrant]
  split <;> simp [h]

theorem execDvfsSupplyArrival_outForm {s : State} (h : s.inForm) (t : Time) (tus : Nat) :
    OutForm (execDvfsSupplyArrival t tus s) := by
  unfold execDvfsSupplyArrival
  extract_lets _
  split
  · exact h
  · exact outForm_ite (fun _ => h) fun _ => State.updTus_inForm (s := s.at_ t) h tus fun _ hk => hk

theorem execDvfsClockRestart_outForm {s : State} (h : s.inForm) (t : Time) (tus : Nat) :
    OutForm (execDvfsClockRestart t tus s) := by
  unfold execDvfsClockRestart
  extract_lets _
  split
  · exact h
  · refine outForm_ite (fun _ => h) fun _ => State.beginStep_inForm _ _ ?_
    exact State.updTus_inForm (s := s.at_ t) h tus fun _ hk => hk

theorem execGovernorMeasure_outForm {s : State} (h : s.inForm) (t : Time) (power : Rat) :
    OutForm (execGovernorMeasure t power s) := by
  simp only [execGovernorMeasure]
  (repeat' split) <;> simp [h]

theorem execTussockClockFail_outForm {s : State} (h : s.inForm) (t : Time) (tus detail : Nat) :
    OutForm (execTussockClockFail t tus detail s) := by
  simp only [execTussockClockFail]
  split <;> simp [h]

theorem execTussockPllLock_outForm {s : State} (h : s.inForm) (t : Time) (tus : Nat) (clockOk : Bool) :
    OutForm (execTussockPllLock t tus clockOk s) := by
  unfold execTussockPllLock
  extract_lets s1 _ s2 s3
  have h2 : s2.inForm := h
  clear_value s2
  have h3 : s3.inForm :=
    inForm_ite (fun _ => State.updTus_inForm h2 tus fun _ hk => hk) fun _ => State.tusFail_inForm s2 tus 0 h2
  clear_value s3
  exact outForm_ite (fun _ => h) fun _ => h3

theorem execSeedWrite_outForm {s : State} (h : s.inForm) (t : Time) (tus : Nat) (hi : Bool) (value : Word) :
    OutForm (execSeedWrite t tus hi value s) := by
  simp only [execSeedWrite]
  split <;> simp [h]

theorem execCeilWrite_outForm {s : State} (h : s.inForm) (t : Time) (value : Word) : OutForm (execCeilWrite t value s) := by
  simp [execCeilWrite, h]

theorem execProgramLoad_outForm {s : State} (h : s.inForm) (t : Time) : OutForm (execProgramLoad t s) := by
  unfold execProgramLoad
  extract_lets +onlyGivenNames s0
  have h0 : s0.inForm := h
  clear_value s0
  refine outForm_ite (fun _ => h0) fun _ => ?_
  extract_lets -lift +onlyGivenNames old
  generalize hv : ({ s0 with swd := _ } : State) = v
  have h1 : v.inForm := by
    rw [← hv]
    exact ⟨h0.1, h0.2.1, tusOk_map h0.2.2.1 fun k hk => by simpa using hk, h0.2.2.2⟩
  clear hv
  extract_lets -lift +onlyGivenNames s1
  have h2 := inForm_of_sameForm (State.checkEntries_sameForm s1 (List.range 8) [] []) h1
  generalize s1.checkEntries (List.range 8) [] [] = r at h2 ⊢
  obtain ⟨done, as, s2⟩ := r
  replace h2 : s2.inForm := h2
  dsimp -zeta only
  extract_lets -lift imports mem s3 ids
  have hm : mem.wf = true := foldl_wf (fun m a hm => fillArea_wf _ _ _ _ _ hm) _ h2.2.1
  have h3 : s3.inForm := foldl_inForm (fun s l hs => foldl_inForm (fun s b hs => s.loadTus_inForm l b hs) _ hs) _ h2
  clear_value s3 mem
  exact ⟨h3.1, hm, h3.2.2⟩

theorem execGo_outForm {s : State} (h : s.inForm) (t : Time) : OutForm (execGo t s) := by
  unfold execGo
  extract_lets _
  split
  · exact h
  · refine outForm_ite (fun _ => h) fun _ => foldl_inForm (fun s p hs => by simp [hs]) _ ?_
    exact ⟨h.1, h.2.1, tusOk_map h.2.2.1 fun k hk => by simpa using hk, h.2.2.2⟩

theorem execEmit_outForm {s : State} (h : s.inForm) (t : Time) (above : Bool) (col : Nat) :
    OutForm (execEmit t above col s) := by
  unfold execEmit
  extract_lets _
  split
  · exact h
  · next _ s1 hs =>
    have h1 : s1.inForm := takeService_inForm hs h
    dsimp only
    (repeat' split) <;> simp [h1]

theorem execObserve_outForm {s : State} (h : s.inForm) (t : Time) (above : Bool) (col : Nat) :
    OutForm (execObserve t above col s) := by
  unfold execObserve
  extract_lets _
  split
  · exact h
  · next _ s1 hs =>
    have h1 : s1.inForm := takeService_inForm hs h
    simp [h1]

theorem execLemmaRequest_outForm {s : State} (h : s.inForm) (t : Time) (above : Bool) (col : Nat) :
    OutForm (execLemmaRequest t above col s) := by
  unfold execLemmaRequest
  extract_lets _
  split
  · exact h
  · next _ s1 hs =>
    have h1 : s1.inForm := takeService_inForm hs h
    dsimp only
    (repeat' split) <;> simp [h1]

theorem execSummaryOut_outForm {s : State} (h : s.inForm) (t : Time) (above : Bool) (col : Nat) :
    OutForm (execSummaryOut t above col s) := by
  unfold execSummaryOut
  extract_lets _
  split
  · exact h
  · next _ s1 hs =>
    have h1 : s1.inForm := takeService_inForm hs h
    dsimp only
    (repeat' split) <;> simp [h1]

theorem execReport_outForm {s : State} (h : s.inForm) (t : Time) (above : Bool) (col : Nat) :
    OutForm (execReport t above col s) := by
  unfold execReport
  extract_lets _
  split
  · exact h
  · next _ s1 hs =>
    have h1 : s1.inForm := takeService_inForm hs h
    dsimp only
    (repeat' split) <;> simp [h1]

theorem execRow_outForm {s : State} (h : s.inForm) (t : Time) (above : Bool) (col dst channel : Nat) :
    OutForm (execRow t above col dst channel s) := by
  unfold execRow
  extract_lets _
  split
  · exact h
  · next _ s1 hs =>
    have h1 : s1.inForm := takeService_inForm hs h
    simp [h1]

theorem execDmaDescriptor_outForm {s : State} (h : s.inForm) (t : Time) (above : Bool) (col entry : Nat) :
    OutForm (execDmaDescriptor t above col entry s) := by
  refine outForm_ite (fun _ => h) fun _ => ?_
  split
  · exact h
  · next _ s1 hs =>
    have h1 : s1.inForm := takeService_inForm hs h
    exact outForm_ite (fun _ => h1) fun _ => by simp [h1]

theorem execDmaComplete_outForm {s : State} (h : s.inForm) (t : Time) (entry : Nat) : OutForm (execDmaComplete t entry s) := by
  refine outForm_ite (fun _ => h) fun _ => ?_
  split
  · exact h
  · next d _ =>
    extract_lets moved s1 _ s2
    have h1 : s1.inForm := foldl_inForm (fun s i hs => s.dmaLine_inForm d i hs) _ h
    clear_value s1
    have h2 : s2.inForm := h1
    clear_value s2
    simp [h2]

theorem execSamplesDelivery_outForm {s : State} (h : s.inForm) (t : Time) (frame : List Byte) :
    OutForm (execSamplesDelivery t frame s) := by
  simp [execSamplesDelivery, h]

/-! ### Every command -/

/-- Each command keeps the form, arm by arm of the dispatch. -/
theorem exec_outForm {s : State} (h : s.inForm) (i : Instr) : OutForm (exec i s) := by
  unfold exec
  cases i with
  | registerWrite t addr width value => exact execRegisterWrite_outForm h t addr width value
  | loReadLatch t addr => exact execLoReadLatch_outForm h t addr
  | votedMark t x => exact execVotedMark_outForm h t x
  | fabricModeEvaluation t => exact execFabricModeEvaluation_outForm h t
  | stopCleared t => exact execStopCleared_outForm h t
  | stopWatchEnd t => exact execStopWatchEnd_outForm h t
  | dacUpdate t x => exact execDacUpdate_outForm h t x
  | busTrip t lower upper pair => exact execBusTrip_outForm h t lower upper pair
  | tripWait t => exact execTripWait_outForm h t
  | blankExpiry t lower upper => exact execBlankExpiry_outForm h t lower upper
  | onTimeExpiry t k x => exact execOnTimeExpiry_outForm h t k x
  | peakLimitTrip t k x => exact execPeakLimitTrip_outForm h t k x
  | hiccupTimeExpiry t k => exact execHiccupTimeExpiry_outForm h t k
  | zeroCross t k => exact execZeroCross_outForm h t k
  | idleCheck t k mean => exact execIdleCheck_outForm h t k mean
  | boardRemoved t j => exact execBoardRemoved_outForm h t j
  | boardRefitted t j => exact execBoardRefitted_outForm h t j
  | testAttemptStart t windowS windowB => exact execTestAttemptStart_outForm h t windowS windowB
  | testJudgement t x => exact execTestJudgement_outForm h t x
  | spareRecheckJudgement t x => exact execSpareRecheckJudgement_outForm h t x
  | gateDisagreement t x gate => exact execGateDisagreement_outForm h t x gate
  | snapshotJudgement t ab ac bc => exact execSnapshotJudgement_outForm h t ab ac bc
  | laneReady t x crcOk => exact execLaneReady_outForm h t x crcOk
  | formationWaitExpiry t => exact execFormationWaitExpiry_outForm h t
  | stageKill t low => exact execStageKill_outForm h t low
  | laneWatchdog t x => exact execLaneWatchdog_outForm h t x
  | clockWindowEnd t clk ppm => exact execClockWindowEnd_outForm h t clk ppm
  | clockEdgeTimeout t clk => exact execClockEdgeTimeout_outForm h t clk
  | pllLockLoss t clk => exact execPllLockLoss_outForm h t clk
  | aonXtalFail t noEdge => exact execAonXtalFail_outForm h t noEdge
  | ringTimeUpdate t isl => exact execRingTimeUpdate_outForm h t isl
  | ringHoldoverEntry t => exact execRingHoldoverEntry_outForm h t
  | ringHoldoverEnd t => exact execRingHoldoverEnd_outForm h t
  | channelReopen t ch => exact execChannelReopen_outForm h t ch
  | auxInputFault t inputB high => exact execAuxInputFault_outForm h t inputB high
  | auxInputReconnect t inputB => exact execAuxInputReconnect_outForm h t inputB
  | powerOnRelease t => exact execPowerOnRelease_outForm h t
  | powerFail t railMv => exact execPowerFail_outForm h t railMv
  | finalFlushStagingClose t => exact execFinalFlushStagingClose_outForm h t
  | finalFlushEnd t railUp => exact execFinalFlushEnd_outForm h t railUp
  | railRecovery t => exact execRailRecovery_outForm h t
  | holdupFault t dj => exact execHoldupFault_outForm h t dj
  | setpointStep t agreed => exact execSetpointStep_outForm h t agreed
  | pmbusPoll t => exact execPmbusPoll_outForm h t
  | pmbAlert t => exact execPmbAlert_outForm h t
  | busTransactionEnd t pmbus r => exact execBusTransactionEnd_outForm h t pmbus r
  | stringPoll t x batt => exact execStringPoll_outForm h t x batt
  | prechargeTimeout t j => exact execPrechargeTimeout_outForm h t j
  | gridLoss t => exact execGridLoss_outForm h t
  | gridReturn t => exact execGridReturn_outForm h t
  | gridRestored t => exact execGridRestored_outForm h t
  | segmentLoss t member => exact execSegmentLoss_outForm h t member
  | segmentLossClear t => exact execSegmentLossClear_outForm h t
  | superframeBoundary t isl => exact execSuperframeBoundary_outForm h t isl
  | planningTick t => exact execPlanningTick_outForm h t
  | planRelease t => exact execPlanRelease_outForm h t
  | swardWatchdog t => exact execSwardWatchdog_outForm h t
  | phase t => exact execPhase_outForm h t
  | pairIdleEnd t job group => exact execPairIdleEnd_outForm h t job group
  | observe t above col => exact execObserve_outForm h t above col
  | lookup t => exact execLookup_outForm h t
  | best t => exact execBest_outForm h t
  | pin t => exact execPin_outForm h t
  | unpin t => exact execUnpin_outForm h t
  | read t off => exact execRead_outForm h t off
  | lemmaRequest t above col => exact execLemmaRequest_outForm h t above col
  | priorsLoad t => exact execPriorsLoad_outForm h t
  | lexiconScanEnd t => exact execLexiconScanEnd_outForm h t
  | historyBlockWrite t frames lost => exact execHistoryBlockWrite_outForm h t frames lost
  | decimatedBlockWrite t body lost => exact execDecimatedBlockWrite_outForm h t body lost
  | scalarAdd t x => exact instr_outForm h t x (toA_keepsSram _)
  | scalarSub t x => exact instr_outForm h t x (toA_keepsSram _)
  | scalarMul t x => exact instr_outForm h t x (toA_keepsSram _)
  | scalarAnd t x => exact instr_outForm h t x (toA_keepsSram _)
  | scalarOr t x => exact instr_outForm h t x (toA_keepsSram _)
  | scalarXor t x => exact instr_outForm h t x (toA_keepsSram _)
  | scalarShl t x => exact instr_outForm h t x (toA_keepsSram _)
  | scalarShr t x => exact instr_outForm h t x (toA_keepsSram _)
  | scalarSar t x => exact instr_outForm h t x (toA_keepsSram _)
  | scalarSlt t x => exact instr_outForm h t x (toA_keepsSram _)
  | scalarLoad t x => exact execScalarLoad_outForm h t x
  | scalarStore t x => exact execScalarStore_outForm h t x
  | cycleLo t x => exact instr_outForm h t x (toA_keepsSram _)
  | cycleHi t x => exact instr_outForm h t x (toA_keepsSram _)
  | nop t x => exact instr_outForm h t x (ok_keepsSram fun _ _ => rfl)
  | jump t x => exact instr_outForm h t x (ok_keepsSram fun _ _ => rfl)
  | bnz t x => exact instr_outForm h t x (ok_keepsSram fun _ _ => ite_sram rfl rfl)
  | bz t x => exact instr_outForm h t x (ok_keepsSram fun _ _ => ite_sram rfl rfl)
  | wait t x => exact instr_outForm h t x (ok_keepsSram fun _ _ => ite_sram rfl rfl)
  | take t x => exact instr_outForm h t x (ok_keepsSram fun _ _ => rfl)
  | fence t x => exact instr_outForm h t x (ok_keepsSram fun _ _ => ite_sram rfl rfl)
  | step t x => exact execStep_outForm h t x
  | halt t x => exact instr_outForm h t x (ok_keepsSram fun _ _ => rfl)
  | mma t x => exact execMma_outForm h t x
  | drain t x => exact execDrain_outForm h t x
  | vectorAdd t x => exact vecOp_outForm h t x _
  | vectorSub t x => exact vecOp_outForm h t x _
  | vectorMul t x => exact vecOp_outForm h t x _
  | vectorFma t x => exact vecOp_outForm h t x _
  | vectorDiv t x => exact vecOp_outForm h t x _
  | vectorSqrt t x => exact vecOp_outForm h t x _
  | vectorMax t x => exact vecOp_outForm h t x _
  | vectorMin t x => exact vecOp_outForm h t x _
  | cvt t x => exact execCvt_outForm h t x
  | recip t x => exact vecApprox_outForm h t x _
  | rsqrt t x => exact vecApprox_outForm h t x _
  | exp2 t x => exact vecApprox_outForm h t x _
  | exp t x => exact vecApprox_outForm h t x _
  | log2 t x => exact vecApprox_outForm h t x _
  | tanh t x => exact vecApprox_outForm h t x _
  | sigmoid t x => exact vecApprox_outForm h t x _
  | sin t x => exact vecApprox_outForm h t x _
  | cos t x => exact vecApprox_outForm h t x _
  | vectorShl t x => exact vecOp_outForm h t x _
  | vectorShr t x => exact vecOp_outForm h t x _
  | vectorSar t x => exact vecOp_outForm h t x _
  | send t x => exact instr_outForm h t x (send_keepsSram _)
  | sendAddI32 t x => exact instr_outForm h t x (send_keepsSram _)
  | sendAddF32 t x => exact instr_outForm h t x (send_keepsSram _)
  | streamRead t x => exact instr_outForm h t x (send_keepsSram _)
  | streamSwap t x => exact instr_outForm h t x (send_keepsSram _)
  | addI32 t x => exact instr_outForm h t x (atomic_keepsSram _)
  | addF32 t x => exact instr_outForm h t x (atomic_keepsSram _)
  | swap t x => exact instr_outForm h t x (atomic_keepsSram _)
  | flitRoute t row col via reply => exact execFlitRoute_outForm h t row col via reply
  | flitArrival t row col via reply n ev => exact execFlitArrival_outForm h t row col via reply n ev
  | portSRetry t tus bank n => exact execPortSRetry_outForm h t tus bank n
  | dvfsGrant t tus => exact execDvfsGrant_outForm h t tus
  | dvfsSupplyArrival t tus => exact execDvfsSupplyArrival_outForm h t tus
  | dvfsClockRestart t tus => exact execDvfsClockRestart_outForm h t tus
  | governorMeasure t power => exact execGovernorMeasure_outForm h t power
  | tussockClockFail t tus detail => exact execTussockClockFail_outForm h t tus detail
  | seedWrite t tus hi value => exact execSeedWrite_outForm h t tus hi value
  | ceilWrite t value => exact execCeilWrite_outForm h t value
  | programLoad t => exact execProgramLoad_outForm h t
  | go t => exact execGo_outForm h t
  | emit t above col => exact execEmit_outForm h t above col
  | summaryOut t above col => exact execSummaryOut_outForm h t above col
  | report t above col => exact execReport_outForm h t above col
  | row t above col dst channel => exact execRow_outForm h t above col dst channel
  | dmaDescriptor t above col entry => exact execDmaDescriptor_outForm h t above col entry
  | dmaComplete t entry => exact execDmaComplete_outForm h t entry
  | furzeSuperframe t => exact execFurzeSuperframe_outForm h t
  | election t x => exact execElection_outForm h t x
  | speakerState t x => exact execSpeakerState_outForm h t x
  | burstReceived t x => exact execBurstReceived_outForm h t x
  | clauseRelay t sf slot c => exact execClauseRelay_outForm h t sf slot c
  | stepClause t => exact execStepClause_outForm h t
  | vftable t => exact execVftable_outForm h t
  | throttle t => exact execThrottle_outForm h t
  | ack t => exact execAck_outForm h t
  | join t => exact execJoin_outForm h t
  | keyx t => exact execKeyx_outForm h t
  | startReq t => exact execStartReq_outForm h t
  | leave t => exact execLeave_outForm h t
  | hello t => exact execHello_outForm h t
  | enrolTimeout t id => exact execEnrolTimeout_outForm h t id
  | silentLapse t id => exact execSilentLapse_outForm h t id
  | idHoldExpiry t id => exact execIdHoldExpiry_outForm h t id
  | rekeyTimeout t id => exact execRekeyTimeout_outForm h t id
  | epochGraceExpiry t id => exact execEpochGraceExpiry_outForm h t id
  | strangerExpiry t => exact execStrangerExpiry_outForm h t
  | request t x => exact execRequest_outForm h t x
  | decision t x => exact execDecision_outForm h t x
  | governorRelease t => exact execGovernorRelease_outForm h t
  | matchRelease t id => exact execMatchRelease_outForm h t id
  | cellArrival t p c tag => exact execCellArrival_outForm h t p c tag
  | linkCell t p x => exact execLinkCell_outForm h t p x
  | timeCell t p x => exact execTimeCell_outForm h t p x
  | timeCellSend t fec => exact execTimeCellSend_outForm h t fec
  | parentTimeout t => exact execParentTimeout_outForm h t
  | faultCell t p => exact execFaultCell_outForm h t p
  | portPresenceLost t p => exact execPortPresenceLost_outForm h t p
  | portPresenceFitted t p => exact execPortPresenceFitted_outForm h t p
  | trainingLock t p => exact execTrainingLock_outForm h t p
  | linkStall t p => exact execLinkStall_outForm h t p
  | linkDown t p => exact execLinkDown_outForm h t p
  | linkSymbolsReturn t p => exact execLinkSymbolsReturn_outForm h t p
  | rejoinHoldExpiry t p => exact execRejoinHoldExpiry_outForm h t p
  | refusedRetry t p => exact execRefusedRetry_outForm h t p
  | linkState t x => exact execLinkState_outForm h t x
  | headChange t => exact execHeadChange_outForm h t
  | mirrorSend t frames => exact execMirrorSend_outForm h t frames
  | mirror t p block => exact execMirror_outForm h t p block
  | subscriptionRequest t x => exact execSubscriptionRequest_outForm h t x
  | bertStart t x => exact execBertStart_outForm h t x
  | bertPeriodic t => exact execBertPeriodic_outForm h t
  | bertEnd t p err0 err1 => exact execBertEnd_outForm h t p err0 err1
  | hopRekey t p => exact execHopRekey_outForm h t p
  | imageSelection t => exact execImageSelection_outForm h t
  | write t => exact State.cfgStart_outForm (s := s.at_ t) h _
  | applyWarm t => exact State.cfgStart_outForm (s := s.at_ t) h _
  | applyFull t => exact State.cfgStart_outForm (s := s.at_ t) h _
  | erase t => exact State.cfgStart_outForm (s := s.at_ t) h _
  | resetPin t low => exact execResetPin_outForm h t low
  | flushWindowEnd t committed => exact execFlushWindowEnd_outForm h t committed
  | domainRelease t d => exact execDomainRelease_outForm h t d
  | idsolReady t ok => exact execIdsolReady_outForm h t ok
  | idsolTimeout t => exact execIdsolTimeout_outForm h t
  | bringupEnd t => exact execBringupEnd_outForm h t
  | mgmtWdog t => exact execMgmtWdog_outForm h t
  | mwdogKick t value => exact execMwdogKick_outForm h t value
  | faultMessage t x => exact execFaultMessage_outForm h t x
  | faultBinBoundary t source => exact execFaultBinBoundary_outForm h t source
  | faultQueueRead t => exact execFaultQueueRead_outForm h t
  | trapAck t value => exact execTrapAck_outForm h t value
  | faultClear t value => exact execFaultClear_outForm h t value
  | barrowRestoration t readable => exact execBarrowRestoration_outForm h t readable
  | l4Replay t readable => exact execL4Replay_outForm h t readable
  | anchorQueryTimeout t => exact execAnchorQueryTimeout_outForm h t
  | anchorReply t p optime pcc => exact execAnchorReply_outForm h t p optime pcc
  | anchorQuery t p member => exact execAnchorQuery_outForm h t p member
  | record t p member r => exact execRecord_outForm h t p member r
  | journalCommit t => exact execJournalCommit_outForm h t
  | commitComplete t ok => exact execCommitComplete_outForm h t ok
  | commitRetry t => exact execCommitRetry_outForm h t
  | checkpoint t => exact execCheckpoint_outForm h t
  | captureComplete t p => exact execCaptureComplete_outForm h t p
  | load t area => exact execLoad_outForm h t area
  | next t area => exact execNext_outForm h t area
  | oldest t area => exact execOldest_outForm h t area
  | newest t area => exact execNewest_outForm h t area
  | recordStageGo t value => exact execRecordStageGo_outForm h t value
  | trustStoreLoad t ok => exact execTrustStoreLoad_outForm h t ok
  | trustCommand t bytes voucher => exact execTrustCommand_outForm h t bytes voucher
  | firmwareVerify t => exact execFirmwareVerify_outForm h t
  | measurementExtend t bytes => exact execMeasurementExtend_outForm h t bytes
  | barrowSeal t => exact execBarrowSeal_outForm h t
  | telemetrySeal t => exact execTelemetrySeal_outForm h t
  | tamperDetect t d => exact execTamperDetect_outForm h t d
  | kbcRotation t => exact execKbcRotation_outForm h t
  | kbcSwitch t => exact execKbcSwitch_outForm h t
  | sensorSample t samples => exact execSensorSample_outForm h t samples
  | flowUpdate t x => exact execFlowUpdate_outForm h t x
  | swardShed t => exact execSwardShed_outForm h t
  | coolantRestore t => exact execCoolantRestore_outForm h t
  | swardThermalEvaluation t => exact execSwardThermalEvaluation_outForm h t
  | shelfThermalEvaluation t ppk pg => exact execShelfThermalEvaluation_outForm h t ppk pg
  | firmwareSlotSelect t => exact execFirmwareSlotSelect_outForm h t
  | firmwareRunning t value => exact execFirmwareRunning_outForm h t value
  | firmwareConfirm t => exact execFirmwareConfirm_outForm h t
  | firmwarePolicyLoad t => exact execFirmwarePolicyLoad_outForm h t
  | epochSet t => exact execEpochSet_outForm h t
  | heartbeat t m => exact execHeartbeat_outForm h t m
  | commandRecord t x => exact execCommandRecord_outForm h t x
  | commandExecution t x => exact execCommandExecution_outForm h t x
  | readRegisters t m addr count => exact execReadRegisters_outForm h t m addr count
  | readObject t m operand => exact execReadObject_outForm h t m operand
  | hold t m => exact execHold_outForm h t m
  | releaseHold t m => exact execReleaseHold_outForm h t m
  | stopRelease t m => exact execStopRelease_outForm h t m
  | laneRelease t m lane => exact execLaneRelease_outForm h t m lane
  | reset t m level => exact execReset_outForm h t m level
  | rackCap t m kw window mask capId => exact execRackCap_outForm h t m kw window mask capId
  | clearFault t m all source => exact execClearFault_outForm h t m all source
  | setTime t m wall => exact execSetTime_outForm h t m wall
  | expel t m partner => exact execExpel_outForm h t m partner
  | bertInstall t m => exact execBertInstall_outForm h t m
  | barrowClear t m targets digest => exact execBarrowClear_outForm h t m targets digest
  | trust t m bytes voucher => exact execTrust_outForm h t m bytes voucher
  | cfgOp t m op => exact execCfgOp_outForm h t m op
  | fwActivate t m => exact execFwActivate_outForm h t m
  | bundleDelete t m digest => exact execBundleDelete_outForm h t m digest
  | xferBegin t m kind length digest => exact execXferBegin_outForm h t m kind length digest
  | xferChunk t m num offset data => exact execXferChunk_outForm h t m num offset data
  | xferEnd t m num => exact execXferEnd_outForm h t m num
  | alone t => exact execAlone_outForm h t
  | telemetryStatus t => exact execTelemetryStatus_outForm h t
  | badRegisterRead t addr width => exact execBadRegisterRead_outForm h t addr width
  | holdupRecharged t dj => exact execHoldupRecharged_outForm h t dj
  | cfgOperationComplete t ok => exact execCfgOperationComplete_outForm h t ok
  | tamperLoopRestored t d => exact execTamperLoopRestored_outForm h t d
  | resetPulseEnd t src => exact execResetPulseEnd_outForm h t src
  | tussockPllLock t tus clockOk => exact execTussockPllLock_outForm h t tus clockOk
  | samplesDelivery t frame => exact execSamplesDelivery_outForm h t frame
  | undecodableInstruction t tus => exact instr_outForm h t _ seqFault_keepsSram
  | dtlsHandshake t mgr portB key => exact execDtlsHandshake_outForm h t mgr portB key
  | lexOperationComplete t => exact execLexOperationComplete_outForm h t
  | barrowCommandComplete t io => exact execBarrowCommandComplete_outForm h t io

theorem step_outForm {s : State} (h : s.inForm) : OutForm (step s) := by
  unfold step
  split
  · exact h
  · next c rest _ => exact exec_outForm (s := { s with pending := rest }) h c

/-- Settles O58: every command keeps the form, which is what the statement asks of a step. -/
theorem stepKeepsForm : Obligations.StepKeepsForm := by
  intro s s' hmem hports hstep
  have h := step_outForm ((inForm_iff s).mpr ⟨hmem, hports⟩)
  rw [hstep] at h
  exact (inForm_iff s').mp h

end Sys2Proof.Machine

/-! SUPPORT. Auxiliary supply, the power-fail sequence and hold-up (R42 to R52, R509). -/
namespace Sys2Proof.Machine

/-! ### The hold-up bank -/

section
variable (s : State) (t : Time) (dj : Nat)

/-- HOLDUP_FAULT leaves the mode. -/
theorem execHoldupFault_mode {s' : State} (h : execHoldupFault t dj s = .next s') : s'.aon.mode = s.aon.mode := by
  simp only [execHoldupFault] at h
  split at h
  · obtain rfl := Host.Outcome.next.inj h
    simp
  · obtain rfl := Host.Outcome.next.inj h
    simp

theorem execHoldupRecharged_mode {s' : State} (h : execHoldupRecharged t dj s = .next s') : s'.aon.mode = s.aon.mode := by
  simp only [execHoldupRecharged] at h
  split at h
  · obtain rfl := Host.Outcome.next.inj h
    simp
  · obtain rfl := Host.Outcome.next.inj h
    simp
end

/-- Settles O25. -/
theorem holdupBank : Obligations.HoldupBank := by
  refine ⟨fun s t dj hb hup haon hdj hready => ?_, fun s t dj hup haon hdj => ?_, fun s t dj s' h => ?_⟩
  · have hgo : ¬((s.at_ t).core.bringup = true ∨ (!(s.at_ t).pin.railUp) = true ∨ (s.at_ t).inRst .aon = true ∨
        holdupFull ≤ dj ∨ (!(s.at_ t).aon.holdupReady) = true) := by
      simp [hb, hup, haon, hready, holdupFull, hdj]
    exact if_neg hgo
  · have hgo : ¬((!(s.at_ t).pin.railUp) = true ∨ (s.at_ t).inRst .aon = true ∨ dj < holdupFull) := by
      simp [hup, haon, holdupFull, hdj]
    exact if_neg hgo
  · exact h.elim (execHoldupFault_mode s t dj) (execHoldupRecharged_mode s t dj)

/-! ### Auxiliary inputs and rail recovery -/

theorem exec_auxInputFault {s : State} (t : Time) (high : Bool) (h : s.inRst .aon = false) :
    exec (.auxInputFault t false high) s = .next (({ s.at_ t with
      pin := { s.pin with auxA := false }, aon := { s.aon with auxFault := true, auxAOk := false } }).report 0x000 0x10 0
        (if high then 1 else 0)) ∧
    exec (.auxInputFault t true high) s = .next (({ s.at_ t with
      pin := { s.pin with auxB := false }, aon := { s.aon with auxFault := true, auxBOk := false } }).report 0x000 0x10 1
        (if high then 1 else 0)) := by
  simp only [State.inRst, List.getD_eq_getElem?_getD] at h
  show execAuxInputFault t false high s = _ ∧ execAuxInputFault t true high s = _
  cases high <;> simp [execAuxInputFault, State.inRst, h, b2n]

theorem exec_auxInputReconnect {s : State} (t : Time) (h : s.inRst .aon = false) :
    exec (.auxInputReconnect t false) s = .next { s.at_ t with
      pin := { s.pin with auxA := true }, aon := { s.aon with auxAOk := true } } ∧
    exec (.auxInputReconnect t true) s = .next { s.at_ t with
      pin := { s.pin with auxB := true }, aon := { s.aon with auxBOk := true } } := by
  simp only [State.inRst, List.getD_eq_getElem?_getD] at h
  show execAuxInputReconnect t false s = _ ∧ execAuxInputReconnect t true s = _
  simp [execAuxInputReconnect, State.inRst, h]

theorem exec_railRecovery {s : State} (t : Time) (h : s.srcOn .brownOut = true) :
    exec (.railRecovery t) s = .next ((({ s.at_ t with pin := { s.pin with railUp := true } }).assertReset .powerOn
      (s.fused .powerOn)).releaseSrc .brownOut) :=
  if_neg (by simp [State.srcOn] at h ⊢; exact h)

/-! ### A source asserted and released -/

/-- A release of an asserted source touches the always-on core alone, and no domain yet (R472). -/
theorem releaseSrc_core {s : State} {x : Src} (hon : s.srcOn x = true) (hl : x.code < s.core.srcs.length) :
    ∃ c, s.releaseSrc x = { s with core := c } ∧ (c.srcs.getD x.code ⟨false, 0, none, 0, []⟩).asserted = false ∧
      (c.srcs.getD x.code ⟨false, 0, none, 0, []⟩).released = s.now ∧ c.doms = s.core.doms := by
  have hgo : (!(s.core.srcs.getD x.code ⟨false, 0, none, 0, []⟩).asserted) = true → False := by
    intro h
    simp [State.srcOn] at hon h
    simp [hon] at h
  unfold State.releaseSrc
  dsimp only
  rw [if_neg hgo]
  split
  · exact ⟨_, rfl, by simp [hl], by simp [hl], rfl⟩
  · exact ⟨_, rfl, by simp [hl], by simp [hl], rfl⟩

theorem exec_powerOnRelease {s : State} (t : Time) (hon : s.srcOn .powerOn = true) (hl : s.core.srcs.length = 15) :
    ∃ c, exec (.powerOnRelease t) s = .next { s.at_ t with core := c, pin := { s.pin with railUp := true, holdup := true } } ∧
      (c.srcs.getD 0 ⟨false, 0, none, 0, []⟩).asserted = false ∧
      (c.srcs.getD 0 ⟨false, 0, none, 0, []⟩).released = max s.now t ∧ c.doms = s.core.doms := by
  obtain ⟨c, hc, hrest⟩ := releaseSrc_core (s := { s.at_ t with pin := { s.pin with railUp := true, holdup := true } })
    (x := .powerOn) hon (by simp [hl, Src.code])
  have hgo : ¬(!(s.at_ t).srcOn .powerOn) = true := by
    rw [show (s.at_ t).srcOn .powerOn = true from hon]
    decide
  exact ⟨c, (if_neg hgo).trans (congrArg _ hc), hrest⟩

/-! ### Staging closes -/

/-- A commit of all that is staged leaves nothing staged (R509). -/
theorem commit_all_staging (s : State) : (s.commit s.brw.staging.length).brw.staging = [] := by
  unfold State.commit
  dsimp only
  split
  · next h => simpa using h
  · simp

/-- Of the non-volatile memory a commit changes the UFS (LU 3) alone. -/
theorem commit_nv (s : State) (n : Nat) : ∃ l, (s.commit n).nv = { s.nv with lu3 := l } := by
  unfold State.commit
  dsimp only
  split
  · exact ⟨s.nv.lu3, rfl⟩
  · exact ⟨_, rfl⟩

theorem commit_mbx (s : State) (n : Nat) : (s.commit n).mbx = s.mbx := by
  unfold State.commit
  dsimp only
  split <;> rfl

theorem exec_stagingClose_early {s : State} {t0 : Time} (t : Time) (hp : s.pin.powerFail = some t0)
    (ht : max s.now t < t0 + 1000000) : exec (.finalFlushStagingClose t) s = .next (s.at_ t) := by
  have hw : (s.at_ t).elapsed t0 ms = false := by
    simpa [State.elapsed, ms] using ht
  show execFinalFlushStagingClose t s = _
  simp [execFinalFlushStagingClose, hp, hw]

theorem exec_stagingClose_due {s : State} {t0 : Time} (t : Time) (hp : s.pin.powerFail = some t0)
    (ho : s.pin.stagingClosed = false) (ht : t0 + 1000000 ≤ max s.now t) (hf : s.inRst .fabric = false)
    (ha : s.brw.anchored = true) (hi : s.brw.ioFail = false) :
    exec (.finalFlushStagingClose t) s = .next { ((s.at_ t).seal true).commit ((s.at_ t).seal true).brw.staging.length with
      pin := { s.pin with stagingClosed := true } } := by
  have hw : (s.at_ t).elapsed t0 ms = true := by
    simpa [State.elapsed, ms] using ht
  have hf' : (s.at_ t).inRst .fabric = false := hf
  show execFinalFlushStagingClose t s = _
  simp [execFinalFlushStagingClose, hp, ho, hw, hf', ha, hi]

theorem stagingClose_shows (s : State) :
    let s' := { (s.seal true).commit (s.seal true).brw.staging.length with pin := { s.pin with stagingClosed := true } }
    s'.brw.staging = [] ∧ sameStage s s' ∧ sameSward s s' ∧ s'.core = s.core ∧ s'.aon = s.aon ∧ s'.mbx = s.mbx ∧
      s'.cfg = s.cfg ∧ s'.nv.fuse = s.nv.fuse ∧ s'.nv.slot0 = s.nv.slot0 ∧ s'.nv.trust = s.nv.trust := by
  obtain ⟨l, hl⟩ := commit_nv (s.seal true) (s.seal true).brw.staging.length
  simp [sameStage, sameSward, commit_all_staging, commit_mbx, hl]

/-! ### The end of the final flush -/

/-- No lane is latched after an L4 or L5, so the voter holds none (R139, R464). -/
theorem enterFull_holdLatched (s : State) : s.enterFull.holdLatched = s.enterFull := by
  have h : ∀ x, (s.enterFull.lane x).vote ≠ .latched := by
    intro x
    cases x <;> exact Vote.noConfusion
  simp [State.holdLatched, Lane.all, h]

theorem enterFull_inRst (s : State) (d : Dom) : s.enterFull.inRst d = true := by
  unfold State.inRst State.enterFull
  dsimp only
  split <;> (cases d with | lane x => cases x <;> rfl | _ => rfl)

/-- Power-on or brown-out at L5 puts every domain in reset at once, its source asserted (R466, R471). -/
theorem assertReset_l5 {s : State} {x : Src} (hx : x = .powerOn ∨ x = .brownOut) (hp : s.pin.powerFail = none)
    (hl : s.core.srcs.length = 15) (hlast : s.core.lastLevel ≤ 5) :
    ∃ c, s.assertReset x 5 = ({ s with core := c } : State).enterFull ∧ c.lastLevel = 5 ∧
      (c.srcs.getD x.code ⟨false, 0, none, 0, []⟩).asserted = true := by
  have hcode : x.code < s.core.srcs.length := by
    rcases hx with rfl | rfl <;> simp [hl, Src.code]
  have hmax : max s.core.lastLevel 5 = 5 := Nat.max_eq_right hlast
  unfold State.assertReset State.assertSource
  rw [if_neg (by decide), if_neg (by simp [hp])]
  dsimp only
  rw [if_pos (by decide), if_pos hx, enterFull_holdLatched]
  refine ⟨_, rfl, ?_, ?_⟩
  · dsimp only
    split
    · exact hmax
    · rfl
  · dsimp only
    rw [List.getD_eq_getElem?_getD, List.getElem?_set_self hcode]
    dsimp only [Option.getD]
    split
    · assumption
    · rfl

theorem enterFull_l5 {s : State} (h : s.core.lastLevel = 5) :
    s.enterFull.core.srcs = s.core.srcs ∧ s.enterFull.core.lastLevel = 5 := by
  simp [State.enterFull, h]

/-- With the checkpoint written or not, the state before the resets differs in the recorder and its part of the UFS alone. -/
theorem ckpt_if_eq (s : State) (c : Bool) :
    ∃ l b, (if c then s.writeCkpt else s) = { s with nv := { s.nv with lu3 := l }, brw := b } := by
  cases c
  · exact ⟨_, _, rfl⟩
  · exact ⟨_, _, rfl⟩

theorem exec_finalFlushEnd {s : State} {t0 : Time} (t : Time) (up : Bool) (hp : s.pin.powerFail = some t0)
    (hd : s.pin.deferred = []) (hl : s.core.srcs.length = 15) (hon : s.fused .powerOn = 5) (hbr : s.fused .brownOut = 5)
    (hlast : s.core.lastLevel ≤ 5) :
    ∃ s', exec (.finalFlushEnd t up) s = .next s' ∧ s'.pin.powerFail = none ∧ s'.pin.railUp = up ∧
      s'.srcOn (if up then .powerOn else .brownOut) = true ∧ (∀ d, s'.inRst d = true) ∧ s'.core.lastLevel = 5 ∧
      s'.aon.mode = .held ∧ s'.nv.fuse = s.nv.fuse ∧ s'.nv.trust = s.nv.trust ∧ s'.nv.slot0 = s.nv.slot0 ∧
      s'.nv.slot1 = s.nv.slot1 := by
  obtain ⟨l, b, hckpt⟩ := ckpt_if_eq (s.at_ t) ((s.at_ t).pin.stagingClosed && !(s.at_ t).inRst .fabric &&
    (s.at_ t).brw.anchored && !(s.at_ t).brw.ioFail)
  obtain ⟨c, hc, hlev, hsrc⟩ := assertReset_l5 (x := if up then .powerOn else .brownOut)
    (s := { s.at_ t with
      nv := { s.nv with lu3 := l }, brw := b
      pin := { s.pin with powerFail := none, stagingClosed := false, railUp := up, holdup := false, deferred := [] } })
    (by cases up <;> simp) rfl hl hlast
  have hfused : s.fused (if up then .powerOn else .brownOut) = 5 := by
    cases up
    · exact hbr
    · exact hon
  obtain ⟨hsrcs, hlast'⟩ := enterFull_l5 (s := { s.at_ t with
      core := c, nv := { s.nv with lu3 := l }, brw := b
      pin := { s.pin with powerFail := none, stagingClosed := false, railUp := up, holdup := false, deferred := [] } }) hlev
  refine ⟨_, ?_, rfl, rfl, ?_, enterFull_inRst _, hlast', rfl, rfl, rfl, rfl, rfl⟩
  · rw [← hc]
    show execFinalFlushEnd t up s = _
    simp only [execFinalFlushEnd]
    have hp' : (s.at_ t).pin.powerFail = some t0 := hp
    rw [hp']
    dsimp only
    rw [hckpt]
    dsimp only
    rw [show (s.at_ t).pin.deferred = [] from hd, List.foldl_nil]
    exact congrArg (fun n => Host.Outcome.next (State.assertReset _ _ n)) hfused
  · rw [State.srcOn, hsrcs]
    exact hsrc

/-! ### Gates low -/

/-- No leg is driven. -/
def State.undriven (s : State) : Prop := ∀ l ∈ s.pool.legs, l.drive = .off

theorem gatesLow_undriven (s : State) : s.gatesLow.undriven := by
  intro l hl
  obtain ⟨a, -, rfl⟩ := List.mem_map.mp hl
  split
  · assumption
  · rfl

theorem forall_mem_upd {α : Type} {P : α → Prop} {f : α → α} {l : List α} (h : ∀ a ∈ l, P a) (hf : ∀ a, P a → P (f a))
    (i : Nat) :
    ∀ a ∈ upd l i f, P a := by
  induction l generalizing i with
  | nil => exact h
  | cons a l ih =>
    obtain ⟨ha, hl⟩ := List.forall_mem_cons.mp h
    cases i with
    | zero => exact List.forall_mem_cons.mpr ⟨hf a ha, hl⟩
    | succ i => exact List.forall_mem_cons.mpr ⟨ha, ih hl i⟩

/-- A change of a leg's state drives no gate (R94). -/
theorem legState_undriven {s : State} (h : s.undriven) (k : Nat) (st : LegState) {f : Leg → Leg}
    (hf : ∀ l, (f l).drive = l.drive) :
    (s.legState k st f).undriven := by
  unfold State.legState
  dsimp only
  split
  · exact forall_mem_upd h (fun l hl => (hf l).trans hl) k
  · have hs : (s.stage 0x12 0 ([k, (s.leg k).state.code, st.code, (s.leg k).group.code, (s.leg k).limited,
        s.hiccupCount (s.leg k), (s.leg k).openSuspect, (s.leg k).senseSuspect].map (BitVec.ofNat 8))).undriven := by
      simpa [State.undriven] using h
    refine forall_mem_upd hs (fun l hl => (hf _).trans ?_) k
    split
    · exact hl
    · rfl

theorem toUntested_undriven (s : State) : s.toUntested.undriven := by
  refine List.foldlRecOn (motive := State.undriven) _ _ (gatesLow_undriven s) fun s hs k _ => ?_
  dsimp only
  split
  · exact legState_undriven hs k .untested fun l => rfl
  · exact hs

/-! ### The stop -/

theorem countStop_mode (s : State) : s.countStop.aon.mode = s.aon.mode ∧ s.countStop.aon.cause = s.aon.cause := by
  unfold State.countStop State.watchEnd
  dsimp only
  (repeat' split) <;> exact ⟨rfl, rfl⟩

/-- The entry into STOPPED by the kill drives no gate and leaves the voter, the core and the pins (R20, R145). -/
theorem entered_stageKill {s : State} (h : s.aon.mode ≠ .held) :
    let e := s.entered .stopped .stageKill
    e.aon.mode = .stopped ∧ e.aon.cause = .stageKill ∧ e.undriven ∧ e.vot = s.vot ∧ e.core = s.core ∧ e.pin = s.pin ∧
      e.ddr = s.ddr := by
  have hpin : (s.announced .stopped .stageKill).pin = s.pin := by simp [State.announced]
  have hu : (s.entered .stopped .stageKill).undriven := by
    simpa [State.entered, State.modeEntry, State.undriven, h]
      using toUntested_undriven (s.announced .stopped .stageKill).countStop
  refine ⟨?_, ?_, hu, ?_, ?_, ?_, ?_⟩ <;> simp [hpin, State.entered, State.modeEntry, h, countStop_mode, Aon.moved]

theorem transition_stageKill {s : State} (h : s.aon.mode.live = true) :
    let s' := s.transition .stopped .stageKill
    s'.aon.mode = .stopped ∧ s'.aon.cause = .stageKill ∧ s'.undriven ∧ s'.vot = s.vot ∧ s'.core = s.core ∧ s'.pin = s.pin ∧
      s'.ddr = s.ddr := by
  have hheld : s.aon.mode ≠ .held := by
    intro e
    simp [e, Mode.live] at h
  have he := entered_stageKill hheld
  simp only [transition_eq]
  split <;> simpa [State.undriven] using he

/-! ### The sward is shed -/

theorem enterDomain_inRst (s : State) {d d' : Dom} (h : d'.bit ≠ d.bit) : (s.enterDomain d).inRst d' = s.inRst d' := by
  unfold State.enterDomain
  split
  · rfl
  · cases d <;> simp [State.inRst, upd_getElem?_other _ _ _ _ h]

theorem enterDomain_power (s : State) (d : Dom) (h : d = .planning ∨ d = .swardPower) :
    (s.enterDomain d).pool = s.pool ∧ (s.enterDomain d).vot = s.vot ∧ (s.enterDomain d).swd.shed = s.swd.shed := by
  unfold State.enterDomain
  split
  · simp
  · rcases h with rfl | rfl <;> simp [State.loseDomain, State.closeChans, Swd.l3]

theorem shedSward_shows (s : State) :
    s.shedSward.swd.shed = true ∧ s.shedSward.swd.powered = false ∧ s.shedSward.pool = s.pool ∧
      s.shedSward.vot = { s.vot with shedCond := true } ∧ s.shedSward.inRst .fabric = s.inRst .fabric := by
  unfold State.shedSward
  extract_lets _ _ s1 s2
  obtain ⟨hpool, hvot, hshed⟩ := enterDomain_power s1 .planning (.inl rfl)
  obtain ⟨hpool', hvot', hshed'⟩ := enterDomain_power (s1.enterDomain .planning) .swardPower (.inr rfl)
  have hrst : s2.inRst .fabric = s1.inRst .fabric :=
    (enterDomain_inRst _ (by decide)).trans (enterDomain_inRst s1 (by decide))
  exact ⟨hshed'.trans hshed, rfl, hpool'.trans hpool, hvot'.trans hvot, hrst⟩


/-! ### The power-fail sequence begins -/

theorem killSet_shows (s : State) :
    s.killSet.undriven ∧ s.killSet.vot.killLatch = true ∧ s.killSet.vot.killLine = s.vot.killLine :=
  ⟨gatesLow_undriven s, rfl, rfl⟩

/-- A live mode goes to STOPPED, any other stays (R20, R44); what the kill has done stands. -/
theorem stopIfLive_shows {s : State} (hu : s.undriven) :
    let s' := if s.aon.mode.live then s.transition .stopped .stageKill else s
    s'.undriven ∧ s'.vot = s.vot ∧ s'.core = s.core ∧ s'.pin = s.pin ∧ s'.nv = s.nv ∧ s'.ddr = s.ddr ∧
      (s.aon.mode.live = true → s'.aon.mode = .stopped ∧ s'.aon.cause = .stageKill) ∧
      (s.aon.mode.live = false → s'.aon.mode = s.aon.mode) := by
  dsimp only
  split
  · next hl =>
    obtain ⟨hm, hc, hu', hv, hco, hpi, hd⟩ := transition_stageKill hl
    exact ⟨hu', hv, hco, hpi, by simp, hd, fun _ => ⟨hm, hc⟩, fun hn => Bool.noConfusion (hn.symm.trans hl)⟩
  · next hl => exact ⟨hu, rfl, rfl, rfl, rfl, rfl, fun h => absurd h hl, fun _ => rfl⟩

@[simp] theorem stage_flush (s : State) (type sub : Nat) (payload : List Byte) (flush : Bool) :
    (s.stage type sub payload flush).brw.flush = s.brw.flush := by
  unfold State.stage State.stageRec State.appendRec
  dsimp only
  (repeat' split) <;> simp [State.toNeighbours, State.brwSend]

/-- POWER_FAIL is taken up only with no power-fail sequence under way and the rail's sources released (R44). -/
theorem exec_powerFail {s : State} (t : Time) (mv : Nat) (hon : s.srcOn .powerOn = false) (hbr : s.srcOn .brownOut = false)
    (hp : s.pin.powerFail = none) (hf : s.inRst .fabric = false) :
    ∃ s', exec (.powerFail t mv) s = .next s' ∧ s'.pin.powerFail = some (max s.now t) ∧ s'.pin.railUp = false ∧
      s'.vot.killLatch = true ∧ s'.vot.killLine = true ∧ (∀ l ∈ s'.pool.legs, l.drive = .off) ∧ s'.fes.link = 0 ∧
      s'.swd.shed = true ∧ s'.swd.powered = false ∧ s'.swm = [] ∧ s'.lex = Lex.reset ∧ s'.brw.flush = true ∧
      (s.aon.mode.live = true → s'.aon.mode = .stopped ∧ s'.aon.cause = .stageKill) ∧
      (s.aon.mode.live = false → s'.aon.mode = s.aon.mode) ∧ s'.nv = s.nv ∧ s'.ddr = s.ddr := by
  have hgo : ¬((s.at_ t).srcOn .powerOn = true ∨ (s.at_ t).srcOn .brownOut = true ∨ (s.at_ t).pin.powerFail.isSome = true) := by
    rw [show (s.at_ t).srcOn .powerOn = false from hon, show (s.at_ t).srcOn .brownOut = false from hbr,
      show (s.at_ t).pin.powerFail = none from hp]
    decide
  show ∃ s', execPowerFail t mv s = .next s' ∧ _
  unfold execPowerFail
  extract_lets s0 _ _ _ s1 s2 s3 s4 s5 _ s6 _ s7
  have h3 : s3 = s1.driveKill.killSet := if_neg (by simp [s2, s1, State.inRst] at hf ⊢; exact hf)
  have hlive : s3.aon.mode = s.aon.mode := by
    rw [h3]
    simp only [State.killSet_keeps, State.driveKill_keeps, s1]
    split <;> rfl
  obtain ⟨hu3, hlatch3, hline3⟩ := killSet_shows s1.driveKill
  have hu3' : s3.undriven := by
    rw [h3]
    exact hu3
  obtain ⟨hu4, hv4, hco4, hpi4, hnv4, hd4, hstop, hstay⟩ := stopIfLive_shows hu3'
  obtain ⟨hshed, hpow, hpool5, hvot5, hrst5⟩ := shedSward_shows s4
  have hrst3 : s3.inRst .fabric = false := by
    rw [h3]
    exact hf
  have hf5 : s5.inRst .fabric = false :=
    hrst5.trans ((congrArg (fun c : Core => (c.doms.getD Dom.fabric.bit ⟨true, 0, 0⟩).inReset) hco4).trans hrst3)
  have hpin : s5.pin = s1.pin := (State.shedSward_keeps s4).2.2.2.2.1.trans (hpi4.trans (by rw [h3]; rfl))
  have hvot : s7.vot = { s3.vot with shedCond := true } := hvot5.trans (by rw [hv4])
  have hk3 : s3.vot.killLatch = true ∧ s3.vot.killLine = true := by
    rw [h3]
    exact ⟨hlatch3, hline3⟩
  have haon : s7.aon = s4.aon := by simp [s7, s6, s5]
  have hnv5 : s5.nv = s4.nv := by simp [s5]
  have hddr5 : s5.ddr = s4.ddr := by simp [s5]
  have hnv : s7.nv = s.nv := hnv5.trans (hnv4.trans (by rw [h3]; rfl))
  have hddr : s7.ddr = s.ddr := hddr5.trans (hd4.trans (by rw [h3]; rfl))
  refine ⟨_, (if_neg hgo).trans (if_neg (by simpa [s6, State.inRst] using hf5)), ?_⟩
  simp only [State.stage_keeps, stage_flush]
  exact ⟨congrArg Pins.powerFail hpin, congrArg Pins.railUp hpin, (congrArg Vot.killLatch hvot).trans hk3.1,
    (congrArg Vot.killLine hvot).trans hk3.2, fun l hl => hu4 l (hpool5 ▸ hl), rfl, hshed, hpow, rfl, rfl, rfl,
    fun h => haon ▸ hstop (hlive ▸ h), fun h => (congrArg Aon.mode haon).trans ((hstay (hlive ▸ h)).trans hlive), hnv, hddr⟩

/-! ### The settling theorem -/

/-- Settles O24, from what each supply command and each step of the power-fail sequence shows. -/
theorem supplyAndPowerFail : Obligations.SupplyAndPowerFail :=
  ⟨⟨fun _ t high h => ⟨(exec_auxInputFault t high h).1, (exec_auxInputFault t high h).2, (exec_auxInputReconnect t h).1,
        (exec_auxInputReconnect t h).2⟩,
      fun _ t => exec_powerOnRelease t, fun _ t => exec_railRecovery t⟩,
    fun _ t mv => exec_powerFail t mv,
    fun s t _ hp ho ht hf ha hi => ⟨_, exec_stagingClose_due t hp ho ht hf ha hi, rfl, stagingClose_shows (s.at_ t)⟩,
    fun _ t _ hp _ ht => exec_stagingClose_early t hp ht,
    fun _ t _ up => exec_finalFlushEnd t up⟩

end Sys2Proof.Machine

/-! SUPPORT. A voted mark (R63, R81): what the period measured and the mark's own count and instant stand through the rest of the
mark's work: resets of lanes, the modes, the plan. -/
namespace Sys2Proof.Machine

/-! ### What a voted mark has taken -/

/-- What the period measured, the count and the instant of the mark, and conductor LPDDR5X are as they were. -/
@[simp] abbrev sameMark (s s' : State) : Prop :=
  s'.fes.period = s.fes.period ∧ s'.vot.mark = s.vot.mark ∧ s'.vot.markAt = s.vot.markAt ∧ s'.ddr = s.ddr

@[simp] theorem foldl_period {α : Type} (f : State → α → State) (h : ∀ b a, (f b a).fes.period = b.fes.period) (l : List α)
    (b : State) : (l.foldl f b).fes.period = b.fes.period := foldl_keeps (fun s => s.fes.period) f h l b

@[simp] theorem foldl_mark {α : Type} (f : State → α → State) (h : ∀ b a, (f b a).vot.mark = b.vot.mark) (l : List α)
    (b : State) : (l.foldl f b).vot.mark = b.vot.mark := foldl_keeps (fun s => s.vot.mark) f h l b

@[simp] theorem foldl_markAt {α : Type} (f : State → α → State) (h : ∀ b a, (f b a).vot.markAt = b.vot.markAt) (l : List α)
    (b : State) : (l.foldl f b).vot.markAt = b.vot.markAt := foldl_keeps (fun s => s.vot.markAt) f h l b

@[simp] theorem ite_period (c : Prop) [Decidable c] (a b : Fes) : (if c then a else b).period = if c then a.period else b.period :=
  apply_ite Fes.period c a b

@[simp] theorem ite_mark (c : Prop) [Decidable c] (a b : Vot) : (if c then a else b).mark = if c then a.mark else b.mark :=
  apply_ite Vot.mark c a b

@[simp] theorem ite_markAt (c : Prop) [Decidable c] (a b : Vot) : (if c then a else b).markAt = if c then a.markAt else b.markAt :=
  apply_ite Vot.markAt c a b

/-! ### Resets -/

@[simp] theorem State.disagreeStop_sameMark (s : State) (detail : Nat) : sameMark s (s.disagreeStop detail) := by
  simp [State.disagreeStop, State.votEvent]

@[simp] theorem State.fence_sameMark (s : State) (x : Lane) (kind : Nat) : sameMark s (s.fence x kind) := by
  simp [State.fence, State.votEvent]

@[simp] theorem State.enterDomain_sameMark (s : State) (d : Dom) : sameMark s (s.enterDomain d) := by
  unfold State.enterDomain
  cases d <;> simp [State.fenceNow]

@[simp] theorem State.driveKill_sameMark (s : State) : sameMark s s.driveKill := by
  simp [State.driveKill]

/-- A voter's fence resets domains at once only at L1, L2 and L3, which reach neither the voter nor the front end; at L4 and L5 a
flush window comes first (R464, R471). -/
@[simp] theorem State.assertSource_fence_sameMark (s : State) (x : Lane) (level : Nat) (lanes : List Lane) (hold : Bool) :
    sameMark s (s.assertSource (.fence x) level lanes hold) := by
  simp [State.assertSource]

@[simp] theorem State.holdLatched_sameMark (s : State) : sameMark s s.holdLatched := by
  simp [State.holdLatched]

@[simp] theorem State.fenceAll_sameMark (s : State) : sameMark s s.fenceAll := by
  simp [State.fenceAll]

/-! ### Transitions -/

@[simp] theorem State.busCharge_sameMark (s : State) : sameMark s s.busCharge := by
  obtain ⟨bc, smb, ev, hb, -⟩ := busCharge_eq s
  simp [hb]

@[simp] theorem State.stageStart_period (s : State) : s.stageStart.fes.period = s.fes.period := by
  simp [State.stageStart, State.writeVout]

@[simp] theorem State.modeEntry_sameMark (s : State) (old m : Mode) (c : Cause) : sameMark s (s.modeEntry old m c) := by
  unfold State.modeEntry
  cases m
  case fallow => cases c <;> simp [State.fesEvent]
  all_goals simp

@[simp] theorem State.transition_sameMark (s : State) (m : Mode) (c : Cause) : sameMark s (s.transition m c) := by
  simp [State.transition]

@[simp] theorem State.stopNow_sameMark (s : State) : sameMark s s.stopNow := by
  unfold State.stopNow
  (repeat' split) <;> simp

@[simp] theorem State.gridLost_sameMark (s : State) : sameMark s s.gridLost := by
  simp [State.gridLost, State.fesEvent]

@[simp] theorem State.gridLossStep_sameMark (s : State) : sameMark s s.gridLossStep := by
  simp [State.gridLossStep]

@[simp] theorem State.runModes_sameMark (s : State) : sameMark s s.runModes := by
  simp [State.runModes]

@[simp] theorem State.evalModes_sameMark (s : State) : sameMark s s.evalModes := by
  unfold State.evalModes
  cases s.aon.mode <;> simp

/-! ### The rest of a mark -/

@[simp] theorem State.killClear_sameMark (s : State) : sameMark s s.killClear := by
  simp only [State.killClear]
  (repeat' split) <;> simp

@[simp] theorem State.markRing_sameMark (s : State) : sameMark s s.markRing := by
  simp [State.markRing]

@[simp] theorem State.retain_sameMark (s : State) : sameMark s s.retain := by
  simp [State.retain]

@[simp] theorem State.shadowMark_sameMark (s : State) (x : Lane) : sameMark s (s.shadowMark x) := by
  have hassert (s : State) (level : Nat) (lanes : List Lane) : sameMark s (s.assertReset (.fence x) level lanes) := by
    simp [State.assertReset]
  simp only [State.shadowMark]
  (repeat' split) <;> simp [hassert, State.votEvent]

@[simp] theorem State.warmRestart_sameMark (s : State) : sameMark s s.warmRestart := by
  simp [State.warmRestart]

@[simp] theorem State.clearTimer_sameMark (s : State) : sameMark s s.clearTimer := by
  simp [State.clearTimer]

@[simp] theorem State.planMark_sameMark (s : State) : sameMark s s.planMark := by
  simp only [State.planMark]
  (repeat' split) <;> simp

@[simp] theorem State.groupB_period (s : State) : s.groupB.fes.period = s.fes.period := by
  simp [State.groupB]

/-! ### The mark itself -/

/-- The lanes that vote are told by their votes alone. -/
theorem voting_congr {s s' : State} (h : ∀ y, (s'.lane y).vote = (s.lane y).vote) : s'.voting = s.voting := by
  simp [State.voting, h]

theorem updLane_vote {f : LaneSt → LaneSt} (hf : ∀ l, (f l).vote = l.vote) (s : State) (x y : Lane) :
    ((s.updLane x f).lane y).vote = (s.lane y).vote := by
  by_cases h : y = x
  · rw [h, updLane_self, hf]
  · rw [updLane_other s x y f h]

theorem busMeans_vote (s : State) (x : MarkIn) (y : Lane) : ((s.busMeans x).lane y).vote = (s.lane y).vote :=
  foldl_keeps (fun s => (s.lane y).vote) _ (fun s z => updLane_vote (fun l => by split <;> rfl) s z y) Lane.all s

/-- A mark with every strobe in time notes the strobes and counts no disagreement (R63, R128). -/
theorem strobes_inTime {x : MarkIn} (hl : x.late = []) (hs : x.silent = []) (s : State) :
    (∀ y, ((s.strobes x).lane y).vote = (s.lane y).vote) ∧ (s.strobes x).now = s.now ∧
      (s.strobes x).pending = s.pending ∧ (s.strobes x).nv = s.nv ∧ (s.strobes x).vot = s.vot ∧
      (s.strobes x).ddr = s.ddr := by
  unfold State.strobes
  rw [hl, hs]
  refine ⟨fun y => foldl_keeps (fun s => (s.lane y).vote) _ (fun s z => ?_) Lane.all s, by simp⟩
  split
  · exact updLane_vote (f := fun l => { l with strobeAt := some s.now }) (fun _ => rfl) s z y
  · rfl

/-- With no lane latched the voter's fence holds none (R139). -/
theorem holdLatched_of_not_latched {s : State} (h : ∀ y, (s.lane y).vote ≠ .latched) : s.holdLatched = s := by
  simp [State.holdLatched, Lane.all, h]

@[simp] theorem State.entries_keeps (s : State) :
    s.entries.now = s.now ∧ s.entries.pending = s.pending ∧ s.entries.nv = s.nv ∧ s.entries.vot = s.vot ∧
      s.entries.fes = s.fes ∧ s.entries.ddr = s.ddr := by
  unfold State.entries
  dsimp only
  split <;> simp

@[simp] theorem State.frontMark_period (s : State) :
    s.fallowUpdate.fes.period = s.fes.period ∧ (∀ x, (s.edgeUpdate x).fes.period = s.fes.period) ∧
      (∀ start, (s.gridUpdate start).fes.period = s.fes.period) ∧ s.reengageStart.fes.period = s.fes.period := by
  simp [State.fallowUpdate, State.edgeUpdate, State.fesEvent, State.gridUpdate, State.reengageStart]

/-- What the period measured stands through the rest of the converter's work at the boundary (R81). -/
theorem converterMark_keeps (s : State) (x : MarkIn) :
    (s.converterMark x).fes.period = ((s.busMeans x).measure x).fes.period ∧
      (s.converterMark x).now = s.now ∧ (s.converterMark x).pending = s.pending ∧ (s.converterMark x).nv = s.nv ∧
      (s.converterMark x).vot = s.vot ∧ (s.converterMark x).ddr = s.ddr := by
  unfold State.converterMark
  simp

/-- The period's record holds the mean over the lanes that vote of their bus means (R81). -/
theorem converterMark_period (s : State) (x : MarkIn) :
    ∃ pst vgSq, (s.converterMark x).fes.period = ⟨x.grid, meanRat (s.voting.map (busOf x)), x.stoS, x.stoB, pst, vgSq⟩ := by
  obtain ⟨hp, -⟩ := converterMark_keeps s x
  rw [← voting_congr (busMeans_vote s x)]
  exact ⟨_, _, hp⟩

/-- What a voted mark does after the converter: the period opens, the shadow lanes go on, the modes and the plan follow (R63). -/
def State.afterConverter (s : State) : State :=
  let s := s.openPeriod.killClear.markRing.retain
  let s := Lane.all.foldl (fun (s : State) y => (s.shadowMark y).firstMark y) s
  let s := s.warmRestart.clearTimer.evalModes
  let s := if s.vot.formed then s.planMark else s
  let s := s.endpoints.groupB.startRecheck.snapshots.emitMark
  { s with vot := { s.vot with fresh := false } }

theorem exec_votedMark_inTime {s : State} {x : MarkIn} (t : Time) (hf : s.inRst .fabric = false) (hv : s.vot.formed = true)
    (hl : x.late = []) (hs : x.silent = []) (hn : ∀ y, (s.lane y).vote ≠ .latched) :
    exec (.votedMark t x) s = .next ((((s.at_ t).strobes x).converterMark x).afterConverter) := by
  obtain ⟨hvote, -, -, -, hvot, -⟩ := strobes_inTime hl hs (s.at_ t)
  have hhold : ((s.at_ t).strobes x).holdLatched = (s.at_ t).strobes x :=
    holdLatched_of_not_latched fun y => by rw [hvote, at_lane]; exact hn y
  show execVotedMark t x s = _
  unfold execVotedMark
  dsimp only
  rw [if_neg (by simp [hf, hv]), hhold, if_neg (by simp [hvot, hv])]
  rfl

@[simp] theorem openPeriod_vot (s : State) : s.openPeriod.vot = { s.vot with mark := s.vot.mark + 1, markAt := s.now } := rfl

/-- After the converter a mark counts itself, takes its instant, and leaves what the period measured. -/
theorem afterConverter_shows (s : State) :
    let s' := s.afterConverter
    s'.fes.period = s.fes.period ∧ s'.vot.mark = s.vot.mark + 1 ∧ s'.vot.markAt = s.now ∧ s'.vot.fresh = false ∧ s'.nv = s.nv ∧
      s'.ddr = s.ddr ∧ s'.pending = s.pending := by
  unfold State.afterConverter
  simp

/-- Settles O15: the converter takes what the period measured, and the rest of the mark counts it and leaves that. -/
theorem votedMarkOpensPeriod : Obligations.VotedMarkOpensPeriod := by
  intro s t x hf hv hl hs hn
  obtain ⟨hvote, hnow, hpend, hnv, hvot, hddr⟩ := strobes_inTime hl hs (s.at_ t)
  obtain ⟨-, cnow, cpend, cnv, cvot, cddr⟩ := converterMark_keeps ((s.at_ t).strobes x) x
  obtain ⟨aper, amark, amarkAt, afresh, anv, addr, apend⟩ := afterConverter_shows (((s.at_ t).strobes x).converterMark x)
  obtain ⟨pst, vgSq, hper⟩ := converterMark_period ((s.at_ t).strobes x) x
  have hvoting : ((s.at_ t).strobes x).voting = s.voting :=
    voting_congr fun y => (hvote y).trans (congrArg LaneSt.vote (at_lane s t y))
  rw [hvoting] at hper
  refine ⟨_, exec_votedMark_inTime t hf hv hl hs hn, ?_⟩
  rw [aper, amark, amarkAt, afresh, anv, addr, apend, hper, cnow, cpend, cnv, cvot, cddr, hnow, hpend, hnv, hvot, hddr]
  exact ⟨rfl, rfl, rfl, rfl, rfl, rfl, rfl, rfl, rfl, rfl⟩

end Sys2Proof.Machine

/-! SUPPORT. Clock monitors, the islands' copies of ring time and the handshake channels (chapter 3): what each command of
theirs comes to, by whether a failure is a lane's clock, whether a copy is behind, and whether both ends of a channel run. -/
namespace Sys2Proof.Machine

/-! ### Clock monitors (R73 to R76) -/

/-- The failure of a clock that is no lane's sets its bit and reports it (R74). -/
theorem clkFail_of_no_lane {c : Clk} (hc : clkLane c = none) (s : State) (detail : Nat) :
    s.clkFail c detail =
      ({ s with aon := { s.aon with clkFault := setBit s.aon.clkFault (clkBit c) } }).report 0x001 0x12 (clkBit c) detail := by
  simp [State.clkFail, hc]

/-- The failure of a lane's clock fences that lane too (R74, R133). -/
theorem clkFail_of_lane {c : Clk} {x : Lane} (hc : clkLane c = some x) (s : State) (detail : Nat) :
    s.clkFail c detail =
      ((({ s with aon := { s.aon with clkFault := setBit s.aon.clkFault (clkBit c) } }).report 0x001 0x12 (clkBit c)
        detail).updLane x (fun l => { l with clockFailed := true })).fenceNow x := by
  simp [State.clkFail, hc]

/-- A window is judged once the clock's domain has run for 40 µs (R73). -/
theorem clockWindow_judged {s : State} {t : Time} {c : Clk} (hj : s.clkJudged c = true)
    (ht : (s.dom (clkDom c)).release + 40000 ≤ max s.now t) :
    ¬((!(s.at_ t).clkJudged c) = true ∨ (!(s.at_ t).elapsed ((s.at_ t).dom (clkDom c)).release (40 * us)) = true) := by
  have he : (s.at_ t).elapsed ((s.at_ t).dom (clkDom c)).release (40 * us) = true := (elapsed_iff _ _ _).mpr ht
  have hj' : (s.at_ t).clkJudged c = true := hj
  simp [he, hj']

/-- The window of a clock that is no lane's shows nothing; beyond 1000 ppm, the crystal running, the clock has failed (R73, R75). -/
theorem exec_clockWindowEnd_of_no_lane {s : State} {t : Time} {c : Clk} (ppm : Int) (hj : s.clkJudged c = true)
    (ht : (s.dom (clkDom c)).release + 40000 ≤ max s.now t) (hc : clkLane c = none) :
    exec (.clockWindowEnd t c ppm) s =
      .next (if !s.core.aonRc && decide (1000 < ppm.natAbs) then (s.at_ t).clkFail c 0 else s.at_ t) := by
  refine (if_neg (clockWindow_judged hj ht)).trans ?_
  cases c
  case lna | lnb | lnc => exact absurd hc (by decide)
  all_goals rfl

theorem exec_clockWindowEnd_lna {s : State} {t : Time} {ppm : Int} (hj : s.clkJudged .lna = true)
    (ht : (s.dom (.lane .a)).release + 40000 ≤ max s.now t) (hp : ppm.natAbs ≤ 1000) :
    exec (.clockWindowEnd t .lna ppm) s = .next { s.at_ t with aon := { s.aon with ppmA := max (-128) (min 127 ppm) } } := by
  refine (if_neg (clockWindow_judged hj ht)).trans (congrArg _ (if_neg ?_))
  simp [Nat.not_lt.mpr hp]

theorem exec_clockEdgeTimeout_judged {s : State} {c : Clk} (t : Time) (hj : s.clkJudged c = true) :
    exec (.clockEdgeTimeout t c) s = .next ((s.at_ t).clkFail c 1) :=
  congrArg _ (if_pos hj)

theorem exec_pllLockLoss_judged {s : State} {c : Clk} (t : Time) (hj : s.clkJudged c = true) :
    exec (.pllLockLoss t c) s =
      .next (State.clkFail { s.at_ t with aon := { s.aon with locks := clrBit s.aon.locks (clkBit c) } } c 2) := by
  have hj' : (s.at_ t).clkJudged c = true := hj
  exact if_neg (by simp [hj'])

theorem exec_aonXtalFail_on_crystal {s : State} (t : Time) (b : Bool) (hr : s.core.aonRc = false) (ha : s.inRst .aon = false) :
    exec (.aonXtalFail t b) s = .next (({ s.at_ t with
      core := { s.core with aonRc := true }, aon := { s.aon with clkFault := setBit s.aon.clkFault 14 } }).report 0x001 0x12 14
        (if b then 1 else 0)) := by
  refine (if_neg (by simp [hr])).trans (if_neg ?_)
  simpa [State.inRst] using ha

theorem exec_aonXtalFail_on_rc {s : State} (t : Time) (b : Bool) (hr : s.core.aonRc = true) :
    exec (.aonXtalFail t b) s = .next (s.at_ t) :=
  if_pos hr

/-! ### The islands' copies of ring time (R66, R67) -/

@[simp] theorem rings_get_set_self (r : Rings) (i : Island) (c : RingCopy) : (r.set i c).get i = c := by
  cases i <;> rfl

theorem rings_get_set_other (r : Rings) {i j : Island} (c : RingCopy) (h : j ≠ i) : (r.set i c).get j = r.get j := by
  cases i <;> cases j <;> simp_all [Rings.set, Rings.get]

@[simp] theorem rings_set_rejoining (r : Rings) (i : Island) (c : RingCopy) : (r.set i c).rejoining = r.rejoining := by
  cases i <;> rfl

theorem correct_of_behind {c : RingCopy} {ring now : Nat} (h : c.now now ≤ ring) : c.correct ring now = ⟨ring, now, false⟩ :=
  if_pos h

/-- A copy ahead of ring time is never turned back: it holds still (R66). -/
theorem correct_of_ahead {c : RingCopy} {ring now : Nat} (h : ring < c.now now) (hc : c.holdover = false) :
    c.correct ring now = ⟨c.now now, now + min 8 (c.now now - ring), false⟩ := by
  rw [RingCopy.correct, if_neg (Nat.not_le.mpr h)]
  simp [hc]

theorem exec_ringTimeUpdate_in_step {s : State} {t : Time} {i : Island} (hf : s.inRst .htlFrz = false)
    (hi : (s.at_ t).islandRst i = false) (hs : s.htl.sync = true) (hh : (s.rings.get i).holdover = false) :
    exec (.ringTimeUpdate t i) s = .next (State.holdoverBit { s.at_ t with
      rings := s.rings.set i ((s.rings.get i).correct (s.at_ t).ringTime (max s.now t)) }) :=
  if_neg (by simp [hf, hi, hs, hh])

theorem enterHoldover_get (s : State) (i : Island) :
    s.enterHoldover.rings.get i = { s.rings.get i with holdover := true } := by
  cases i <;> rfl

theorem exec_ringHoldoverEntry_out_of_step {s : State} (t : Time) (h : s.htl.sync = false ∨ s.inRst .htlFrz = true) :
    exec (.ringHoldoverEntry t) s = .next (s.at_ t).enterHoldover := by
  refine if_neg ?_
  rcases h with h | h <;> simp [h]

theorem exec_ringHoldoverEnd_in_step {s : State} (t : Time) (hf : s.inRst .htlFrz = false) (hs : s.htl.sync = true) :
    exec (.ringHoldoverEnd t) s = .next { s.at_ t with rings := { s.rings with rejoining := true } } :=
  if_neg (by simp [hf, hs])

/-! ### Handshake channels (R68) -/

theorem exec_channelReopen_ends_run {s : State} {ch : Chan} (t : Time) (h : ∀ d ∈ ch.ends, s.inRst d = false) :
    exec (.channelReopen t ch) s = .next { s.at_ t with
      closed := s.closed.filter (fun c => c != ch), closureReported := s.closureReported.filter (fun c => c != ch) } :=
  if_neg (by simpa using h)

theorem exec_channelReopen_end_held {s : State} {ch : Chan} {d : Dom} (t : Time) (hd : d ∈ ch.ends) (hr : s.inRst d = true) :
    exec (.channelReopen t ch) s = .next (s.at_ t) :=
  if_pos (by simpa using ⟨d, hd, hr⟩)

/-- Settles O23: a monitor's command by whose clock has failed, an update by whether the copy is behind, a reopening by whether
both ends run. -/
theorem clocksAndCopies : Obligations.ClocksAndCopies := by
  refine ⟨⟨fun s t c ppm hj ht hc => ⟨fun hr hp => ?_, fun hp => ?_⟩, fun s t ppm hj ht hp => exec_clockWindowEnd_lna hj ht hp,
      fun s t c hj hc => ⟨?_, ?_⟩, fun s t c x hj hc => ?_, fun s t b hr ha => exec_aonXtalFail_on_crystal t b hr ha,
      fun s t b hr => exec_aonXtalFail_on_rc t b hr⟩,
    fun s t i hf hi hs hh => ?_, fun s t h => ?_, fun s t hf hs => exec_ringHoldoverEnd_in_step t hf hs, fun s t ch h => ?_,
    fun s t ch d hd hr => exec_channelReopen_end_held t hd hr⟩
  · rw [exec_clockWindowEnd_of_no_lane ppm hj ht hc, if_pos (by simp [hr, hp]), clkFail_of_no_lane hc]; rfl
  · rw [exec_clockWindowEnd_of_no_lane ppm hj ht hc, if_neg (by rcases hp with hp | hp <;> simp [hp])]
  · rw [exec_clockEdgeTimeout_judged t hj, clkFail_of_no_lane hc]; rfl
  · rw [exec_pllLockLoss_judged t hj, clkFail_of_no_lane hc]
  · rw [exec_clockEdgeTimeout_judged t hj, clkFail_of_lane hc]; rfl
  · refine ⟨_, _, exec_ringTimeUpdate_in_step hf hi hs hh, fun j hj => rings_get_set_other _ _ hj, rings_set_rejoining _ _ _,
      fun hb => ?_, fun ha => ?_⟩
    · rw [rings_get_set_self, correct_of_behind hb]
    · rw [rings_get_set_self, correct_of_ahead ha hh]
  · exact ⟨_, exec_ringHoldoverEntry_out_of_step t h, enterHoldover_get (s.at_ t), rfl⟩
  · refine ⟨_, _, exec_channelReopen_ends_run t h, ?_⟩
    simp +contextual [List.mem_filter]

end Sys2Proof.Machine

/-! SUPPORT. Heathline's links through its shared operations (chapter 13): what is not the links' own stays, no event is cleared,
and a port not under test stays in its state, but for one that goes DOWN. -/
namespace Sys2Proof.Machine

/-! ### The states of the ports through the messages sent -/

/-- HTL_EVENT and the states of the ports. -/
@[simp] abbrev sameLinks (s s' : State) : Prop :=
  s'.htl.event = s.htl.event ∧ s'.htl.ports.map HPort.state = s.htl.ports.map HPort.state

@[simp] theorem foldl_event {α : Type} (f : State → α → State) (h : ∀ b a, (f b a).htl.event = b.htl.event) (l : List α)
    (b : State) : (l.foldl f b).htl.event = b.htl.event := foldl_keeps (fun s => s.htl.event) f h l b

@[simp] theorem foldl_portStates {α : Type} (f : State → α → State)
    (h : ∀ b a, (f b a).htl.ports.map HPort.state = b.htl.ports.map HPort.state) (l : List α) (b : State) :
    (l.foldl f b).htl.ports.map HPort.state = b.htl.ports.map HPort.state :=
  foldl_keeps (fun s => s.htl.ports.map HPort.state) f h l b

@[simp] theorem ite_event (c : Prop) [Decidable c] (a b : Htl) : (if c then a else b).event = if c then a.event else b.event :=
  apply_ite Htl.event c a b

@[simp] theorem ite_portStates (c : Prop) [Decidable c] (a b : List HPort) :
    (if c then a else b).map HPort.state = if c then a.map HPort.state else b.map HPort.state :=
  apply_ite (List.map HPort.state) c a b

@[simp] theorem upd_portStates (l : List HPort) (i : Nat) (f : HPort → HPort) (h : ∀ q, (f q).state = q.state) :
    (upd l i f).map HPort.state = l.map HPort.state := by
  induction l generalizing i with
  | nil => rfl
  | cons a l ih => cases i <;> simp [upd, h, ih]

@[simp] theorem updPort_event (s : State) (p : Port) (f : HPort → HPort) : (s.updPort p f).htl.event = s.htl.event := rfl

@[simp] theorem State.emitCell_sameLinks (s : State) (p : Port) (c : Cell) : sameLinks s (s.emitCell p c) := by
  simp [State.emitCell]

@[simp] theorem State.emitAll_sameLinks (s : State) (l : List Cell) (flags : Nat) (r : Port × Nat) :
    sameLinks s (s.emitAll l flags r) := by
  simp [State.emitAll]

@[simp] theorem State.broadcast_sameLinks (s : State) (l : List Cell) (dst cls seq : Nat) :
    sameLinks s (s.broadcast l dst cls seq) := by
  simp only [State.broadcast]
  split <;> simp

@[simp] theorem State.htlSend_sameLinks (s : State) (cls service dst : Nat) (payload : List Byte) :
    sameLinks s (s.htlSend cls service dst payload) := by
  simp [State.htlSend, State.htlTake]

@[simp] theorem State.htlNext_sameLinks (s : State) (service : Nat) (p : Port) (payload : List Byte) :
    sameLinks s (s.htlNext service p payload) := by
  simp only [State.htlNext, State.htlTake]
  split <;> simp

@[simp] theorem State.stage_sameLinks (s : State) (type sub : Nat) (payload : List Byte) (flush : Bool) :
    sameLinks s (s.stage type sub payload flush) := by
  simp [State.stage, State.stageRec, State.appendRec, State.toNeighbours, State.brwSend]

@[simp] theorem State.publishLink_sameLinks (s : State) : sameLinks s s.publishLink := by
  simp [State.publishLink, State.keepRec]

@[simp] theorem State.desync_sameLinks (s : State) : sameLinks s s.desync := by
  simp [State.desync]

@[simp] theorem State.takeParent_sameLinks (s : State) (x : Option (Port × Nat)) : sameLinks s (s.takeParent x) := by
  simp [State.takeParent]

@[simp] theorem State.chooseMaster_sameLinks (s : State) (force : Bool) : sameLinks s (s.chooseMaster force) := by
  simp only [State.chooseMaster, State.becomeMaster]
  (repeat' split) <;> simp

@[simp] theorem State.freezeRing_sameLinks (s : State) (p : Port) : sameLinks s (s.freezeRing p) := by
  simp only [State.freezeRing, State.captureRecord, State.setFrozen]
  (repeat' split) <;> simp

/-! ### What stands of the links -/

theorem offLinks_refl (s : State) : offLinks s s := by
  simp [offLinks, sameStage, sameSward, sameStore, sameBus]

theorem offLinks_trans {s s' s'' : State} (h : offLinks s s') (h' : offLinks s' s'') : offLinks s s'' := by
  simp only [offLinks, sameStage, sameSward, sameStore, sameBus] at h h' ⊢
  simp only [h', h, and_self]

/-- Nothing off the links has changed, no event has been cleared, and every port but `x` that is not under test is in the state
in which it was. -/
structure LinksStand (x : Option Port) (s s' : State) : Prop where
  off : offLinks s s'
  events : ∀ i, s.htl.event.getLsbD i = true → s'.htl.event.getLsbD i = true
  states : ∀ q, some q ≠ x → (s.port q).state ≠ .test → (s'.port q).state = (s.port q).state

namespace LinksStand
variable {x : Option Port} {s s' s'' : State}

theorem refl (x : Option Port) (s : State) : LinksStand x s s := ⟨offLinks_refl s, fun _ h => h, fun _ _ _ => rfl⟩

theorem trans (h : LinksStand x s s') (h' : LinksStand x s' s'') : LinksStand x s s'' where
  off := offLinks_trans h.off h'.off
  events i hi := h'.events i (h.events i hi)
  states q hq ht := by
    have e := h.states q hq ht
    exact (h'.states q hq (e ▸ ht)).trans e

/-- With no port excepted, as with one. -/
theorem but (h : LinksStand none s s') (x : Option Port) : LinksStand x s s' :=
  ⟨h.off, h.events, fun q _ => h.states q (Option.some_ne_none q)⟩

theorem ite {c : Prop} [Decidable c] {a b : State} (ha : LinksStand x s a) (hb : LinksStand x s b) :
    LinksStand x s (if c then a else b) := by
  split
  · exact ha
  · exact hb

theorem foldl {α : Type} {f : State → α → State} (hf : ∀ s a, LinksStand x s (f s a)) (l : List α) (s : State) :
    LinksStand x s (l.foldl f s) := by
  induction l generalizing s with
  | nil => exact refl x s
  | cons a l ih => exact (hf s a).trans (ih (f s a))

/-- The state of a port is the entry of the list of states. -/
theorem of_sameLinks (ho : offLinks s s') (h : sameLinks s s') : LinksStand x s s' where
  off := ho
  events i hi := h.1 ▸ hi
  states q _ _ := by
    have e (s : State) : (s.port q).state = (s.htl.ports.map HPort.state).getD q.num HPort.reset.state := by
      rw [State.port, List.getD_map]
    rw [e, e, h.2]

/-- A port under test may be excepted or not. -/
theorem of_test {p : Port} (h : LinksStand (some p) s s') (ht : (s.port p).state = .test) : LinksStand none s s' where
  off := h.off
  events := h.events
  states q _ hq := h.states q (fun e => hq (Option.some.inj e ▸ ht)) hq

end LinksStand

theorem publishLink_stand (s : State) : LinksStand none s s.publishLink :=
  .of_sameLinks (by simp [offLinks, sameStage, sameSward, sameStore, sameBus]) s.publishLink_sameLinks

theorem desync_offLinks (s : State) : offLinks s s.desync := by
  simp [offLinks, sameStage, sameSward, sameStore, sameBus]

theorem chooseMaster_stand (s : State) (force : Bool) : LinksStand none s (s.chooseMaster force) := by
  refine .of_sameLinks ?_ (s.chooseMaster_sameLinks force)
  simp only [State.chooseMaster, offLinks, sameStage, sameSward, sameStore, sameBus, State.becomeMaster]
  (repeat' split) <;> simp

theorem freezeRing_stand (s : State) (p : Port) : LinksStand none s (s.freezeRing p) :=
  .of_sameLinks (by simp [offLinks, sameStage, sameSward, sameStore, sameBus]) (s.freezeRing_sameLinks p)

/-- Presence, rings and master follow the ports and change none of them (R425, R430). -/
theorem rejudge_stand (s : State) : LinksStand none s s.rejudge := by
  unfold State.rejudge
  extract_lets now gone _ s1 s2
  have h1 : LinksStand none s s1 := .of_sameLinks (offLinks_refl s) ⟨rfl, rfl⟩
  have h2 : LinksStand none s1 s2 := .foldl (fun s p => by
    split
    · exact .ite (freezeRing_stand s p) (.refl _ s)
    · exact .refl _ s) _ s1
  exact (h1.trans h2).trans (chooseMaster_stand s2 false)

theorem portChanged_stand (s : State) : LinksStand none s s.portChanged := (rejudge_stand s).trans (publishLink_stand s.rejudge)

theorem htlEvent_stand (s : State) (i : Nat) : LinksStand none s (s.htlEvent i) :=
  ⟨by simp [offLinks, sameStage, sameSward, sameStore, sameBus], fun _ h => getLsbD_setBit_of_getLsbD i h, fun _ _ _ => rfl⟩

theorem updPort_offLinks (s : State) (p : Port) (f : HPort → HPort) : offLinks s (s.updPort p f) := by
  simp [offLinks, sameStage, sameSward, sameStore, sameBus]

/-- A port may be changed freely where it is the one excepted. -/
theorem updPort_stand_self (s : State) (p : Port) (f : HPort → HPort) : LinksStand (some p) s (s.updPort p f) where
  off := updPort_offLinks s p f
  events _ h := h
  states q hq _ := by rw [updPort_other s p q f (fun e => hq (congrArg some e))]

theorem stage_stand (s : State) (type sub : Nat) (payload : List Byte) (flush : Bool) :
    LinksStand none s (s.stage type sub payload flush) :=
  .of_sameLinks (by simp [offLinks, sameStage, sameSward, sameStore, sameBus]) (s.stage_sameLinks type sub payload flush)

theorem report_stand (s : State) (source kind inst detail : Nat) (voted : Bool) :
    LinksStand none s (s.report source kind inst detail voted) :=
  .of_sameLinks (by simp [offLinks, sameStage, sameSward, sameStore, sameBus]) (by simp)

/-- Only a port under test leaves its state by an abandoned test (R434). -/
theorem abandonTest_stand (s : State) (p : Port) : LinksStand none s (s.abandonTest p) := by
  unfold State.abandonTest
  split
  · exact .refl _ s
  · next ht =>
    extract_lets s1
    have h1 : LinksStand none s s1 := (updPort_stand_self s p _).of_test (not_not.mp ht)
    have h2 : LinksStand none s1 { s1 with htl := { s1.htl with bert := none } } := .of_sameLinks (offLinks_refl s1) ⟨rfl, rfl⟩
    exact (h1.trans h2).trans ((htlEvent_stand _ 7).trans (stage_stand _ _ _ _ _))

theorem abandonTests_stand (s : State) (p : Port) : LinksStand none s (s.abandonTests p) :=
  .foldl (fun s q => abandonTest_stand s q) _ s

/-- A port that goes DOWN is DOWN, shows event 1, and leaves every other link as it stands (R426, R439). -/
theorem enterDown_shows (s : State) (p : Port) (detail : Nat) :
    LinksStand (some p) s (s.enterDown p detail) ∧ (s.enterDown p detail).htl.event.getLsbD 1 = true ∧
      (p.num < s.htl.ports.length → ((s.enterDown p detail).port p).state = .down) := by
  unfold State.enterDown
  extract_lets q s1 s2 _ s3 s4
  have h1 : LinksStand (some p) s s1 := .of_sameLinks (offLinks_refl s) ⟨rfl, rfl⟩
  have h2 : LinksStand (some p) s1 s2 := updPort_stand_self s1 p _
  have h3 : LinksStand none s2 s3 := .of_sameLinks (offLinks_refl s2) ⟨rfl, rfl⟩
  have h4 : LinksStand none s3 s4 := (htlEvent_stand s3 1).trans (report_stand _ _ _ _ _ _)
  have h5 : LinksStand none s4 ((s4.freezeRing p).abandonTests p).portChanged :=
    ((freezeRing_stand s4 p).trans (abandonTests_stand _ p)).trans (portChanged_stand _)
  have he : s4.htl.event.getLsbD 1 = true := by
    simp only [s4, State.report_keeps]
    exact getLsbD_setBit_self _ (by decide)
  refine ⟨(h1.trans h2).trans (((h3.trans h4).trans h5).but _), h5.events 1 he, fun hp => ?_⟩
  have hd : (s2.port p).state = .down := congrArg HPort.state (updPort_self s1 p _ hp)
  exact (((h3.trans h4).trans h5).states p (Option.some_ne_none p) (by simp [hd])).trans hd

end Sys2Proof.Machine

/-! SUPPORT. Ring time (R424, R430 to R432): what a TIME cell of the parent makes of the counter and of synchronisation, what its
absence does, and what a port that sends one shows. -/
namespace Sys2Proof.Machine

/-! ### TIME cells sent (R414, R424, R430) -/

/-- A port that sends a TIME cell at `now` and takes its codeword counts of the last 1 ms, corrected and uncorrectable. -/
def HPort.counted (q : HPort) (now : Time) (e : Nat × Nat) : HPort :=
  { q with timeSent := now, corrMs := e.1, uncorr := q.uncorr + e.2
           uncErrs := if e.2 = 0 then q.uncErrs else (now, e.2) :: q.uncErrs }

/-- What one port does when TIME cells are sent: in UP it sends one, and its errors are judged. -/
def State.sendTime (fec : List (Nat × Nat)) (s : State) (p : Port) : State :=
  if (s.port p).state ≠ .up then s
  else (s.updPort p (fun q => q.counted s.now (fec.getD p.num (0, 0)))).errorCheck p

theorem exec_timeCellSend {s : State} (t : Time) (fec : List (Nat × Nat)) (hu : s.htlUp = true) :
    exec (.timeCellSend t fec) s = .next (Port.all.foldl (State.sendTime fec) (s.at_ t)) := by
  have hu' : (s.at_ t).htlUp = true := hu
  exact if_neg (by simp [hu'])

theorem lt_ports_length_of_up {s : State} {p : Port} (h : (s.port p).state = .up) : p.num < s.htl.ports.length := by
  by_contra hn
  rw [State.port, List.getD_eq_default _ _ (Nat.not_lt.mp hn)] at h
  exact absurd h (by decide)

/-! #### A port with too many errors -/

theorem errorCheck_stand (s : State) (p : Port) : LinksStand (some p) s (s.errorCheck p) := by
  unfold State.errorCheck
  extract_lets s1 q
  have h1 : LinksStand (some p) s s1 := updPort_stand_self s p _
  exact .ite (h1.trans (enterDown_shows s1 p 2).1) h1

theorem le_sumNat_cons (n : Nat) (l : List Nat) : n ≤ sumNat (n :: l) := by
  rw [sumNat, ← List.sum_eq_foldl, List.sum_cons]
  exact Nat.le_add_right n l.sum

/-- A newest error of more than 16 codewords within the last 1 ms puts a port in UP DOWN (R424). -/
theorem errorCheck_down {s : State} {p : Port} {e : Time × Nat} {l : List (Time × Nat)} (hs : (s.port p).state = .up)
    (he : (s.port p).uncErrs = e :: l) (ht : s.now < e.1 + ms) (hn : 16 < e.2) :
    ((s.errorCheck p).port p).state = .down ∧ (s.errorCheck p).htl.event.getLsbD 1 = true := by
  have hp := lt_ports_length_of_up hs
  unfold State.errorCheck
  extract_lets s1 q
  have hp1 : p.num < s1.htl.ports.length := by simpa [s1] using hp
  have hq : q.state = .up := by
    simp only [q, s1]
    rw [updPort_self _ _ _ hp]
    exact hs
  have hsum : 16 < sumNat (q.uncErrs.map Prod.snd) := by
    simp only [q, s1]
    rw [updPort_self _ _ _ hp, he, List.filter_cons_of_pos (by simpa using ht)]
    exact hn.trans_le (le_sumNat_cons _ _)
  obtain ⟨-, hev, hd⟩ := enterDown_shows s1 p 2
  rw [if_pos ⟨hq, .inr hsum⟩]
  exact ⟨hd hp1, hev⟩

theorem sendTime_stand (fec : List (Nat × Nat)) (s : State) (p : Port) : LinksStand (some p) s (s.sendTime fec p) :=
  .ite (.refl _ s) ((updPort_stand_self s p _).trans (errorCheck_stand _ p))

theorem sendTime_of_up {fec : List (Nat × Nat)} {s : State} {p : Port} (h : (s.port p).state = .up) :
    s.sendTime fec p = (s.updPort p (fun q => q.counted s.now (fec.getD p.num (0, 0)))).errorCheck p :=
  if_neg (not_not_intro h)

theorem sendTime_of_not_up {fec : List (Nat × Nat)} {s : State} {p : Port} (h : (s.port p).state ≠ .up) : s.sendTime fec p = s :=
  if_pos h

/-- More than 16 uncorrectable codewords put a port in UP DOWN at once (R424). -/
theorem sendTime_down {fec : List (Nat × Nat)} {s : State} {p : Port} (hs : (s.port p).state = .up)
    (hu : 16 < (fec.getD p.num (0, 0)).2) :
    ((s.sendTime fec p).port p).state = .down ∧ (s.sendTime fec p).htl.event.getLsbD 1 = true := by
  have hq := updPort_self s p (fun q => q.counted s.now (fec.getD p.num (0, 0))) (lt_ports_length_of_up hs)
  have h0 : (fec.getD p.num (0, 0)).2 ≠ 0 := by omega
  rw [sendTime_of_up hs]
  refine errorCheck_down (e := (s.now, (fec.getD p.num (0, 0)).2)) (l := (s.port p).uncErrs) ?_ ?_
    (Nat.lt_add_of_pos_right (by decide)) hu
  · rw [hq]
    exact hs
  · rw [hq]
    exact if_neg h0

/-- A port that is in UP before its turn, or DOWN after it with the event shown, is DOWN once all ports have sent. -/
theorem foldl_sendTime_down {fec : List (Nat × Nat)} {p : Port} (hu : 16 < (fec.getD p.num (0, 0)).2) (l : List Port) {s : State}
    (h : (p ∈ l ∧ (s.port p).state = .up) ∨ ((s.port p).state = .down ∧ s.htl.event.getLsbD 1 = true)) :
    ((l.foldl (State.sendTime fec) s).port p).state = .down ∧ (l.foldl (State.sendTime fec) s).htl.event.getLsbD 1 = true := by
  induction l generalizing s with
  | nil => exact h.resolve_left fun h => List.not_mem_nil h.1
  | cons r l ih =>
    have hstand := sendTime_stand fec s r
    refine ih ?_
    by_cases hr : r = p
    · subst hr
      right
      rcases h with ⟨-, hs⟩ | ⟨hd, he⟩
      · exact sendTime_down hs hu
      · rw [sendTime_of_not_up (by simp [hd])]
        exact ⟨hd, he⟩
    · have hne : some p ≠ some r := fun e => hr (Option.some.inj e).symm
      rcases h with ⟨hm, hs⟩ | ⟨hd, he⟩
      · exact .inl ⟨(List.mem_cons.mp hm).resolve_left (Ne.symm hr), (hstand.states p hne (by simp [hs])).trans hs⟩
      · exact .inr ⟨(hstand.states p hne (by simp [hd])).trans hd, hstand.events 1 he⟩

theorem foldl_sendTime_offLinks (fec : List (Nat × Nat)) (l : List Port) (s : State) :
    offLinks s (l.foldl (State.sendTime fec) s) := by
  induction l generalizing s with
  | nil => exact offLinks_refl s
  | cons r l ih => exact offLinks_trans (sendTime_stand fec s r).off (ih _)

/-! #### Ports without errors -/

/-- A port that sends a TIME cell at `now`, its codewords of the last 1 ms correctable. -/
def HPort.sentTime (q : HPort) (now : Time) (corr : Nat) : HPort :=
  if q.state = .up then { q with timeSent := now, corrMs := corr } else q

/-- The update of a port is told by what it makes of that port. -/
theorem updPort_congr {s : State} {p : Port} {f g : HPort → HPort} (h : f (s.port p) = g (s.port p)) :
    s.updPort p f = s.updPort p g := by
  have hl (l : List HPort) (i : Nat) (h : f (l.getD i HPort.reset) = g (l.getD i HPort.reset)) : upd l i f = upd l i g := by
    induction l generalizing i with
    | nil => rfl
    | cons a l ih =>
      cases i with
      | zero => exact congrArg (· :: l) h
      | succ i => exact congrArg (a :: ·) (ih i h)
  rw [State.updPort, State.updPort, hl _ _ h]

theorem updPort_of_fixed {s : State} {p : Port} {f : HPort → HPort} (h : f (s.port p) = s.port p) : s.updPort p f = s := by
  rw [updPort_congr (g := fun q => q) h, State.updPort, upd_id _ _ _ fun _ _ => rfl]

theorem errorCheck_clean {s : State} {p : Port} (ht : (s.port p).tagErrs = []) (hu : (s.port p).uncErrs = []) :
    s.errorCheck p = s := by
  have hs : s.updPort p (fun q => { q with tagErrs := q.tagErrs.filter (fun t => decide (s.now < t + ms))
                                           uncErrs := q.uncErrs.filter (fun e => decide (s.now < e.1 + ms)) }) = s := by
    refine updPort_of_fixed ?_
    generalize s.port p = q at ht hu ⊢
    cases q
    cases ht
    cases hu
    rfl
  unfold State.errorCheck
  dsimp only
  rw [hs, if_neg (by simp [ht, hu, sumNat])]

theorem counted_clean {q : HPort} {e : Nat × Nat} (now : Time) (hq : q.state = .up) (he : e.2 = 0) :
    q.counted now e = q.sentTime now e.1 := by
  simp [HPort.counted, HPort.sentTime, hq, he]

theorem sentTime_of_not_up {q : HPort} {now : Time} {corr : Nat} (h : q.state ≠ .up) : q.sentTime now corr = q := if_neg h

theorem sendTime_clean {fec : List (Nat × Nat)} {s : State} {p : Port} (hf : (fec.getD p.num (0, 0)).2 = 0)
    (ht : (s.port p).tagErrs = []) (hu : (s.port p).uncErrs = []) :
    s.sendTime fec p = s.updPort p (fun q => q.sentTime s.now (fec.getD p.num (0, 0)).1) := by
  by_cases hs : (s.port p).state = .up
  · have hq := updPort_self s p (fun q => q.counted s.now (fec.getD p.num (0, 0))) (lt_ports_length_of_up hs)
    rw [sendTime_of_up hs, errorCheck_clean (hq ▸ ht) (hq ▸ (if_pos hf).trans hu)]
    exact updPort_congr (counted_clean s.now hs hf)
  · rw [sendTime_of_not_up hs]
    refine (updPort_of_fixed ?_).symm
    exact sentTime_of_not_up hs

@[simp] theorem sentTime_sentTime (q : HPort) (now : Time) (corr : Nat) :
    (q.sentTime now corr).sentTime now corr = q.sentTime now corr := by
  unfold HPort.sentTime
  split <;> simp [*]

@[simp] theorem sentTime_errs (q : HPort) (now : Time) (corr : Nat) :
    (q.sentTime now corr).tagErrs = q.tagErrs ∧ (q.sentTime now corr).uncErrs = q.uncErrs := by
  unfold HPort.sentTime
  split <;> simp

/-- With no port in error the ports in UP send, and nothing else changes. -/
theorem foldl_sendTime_clean {fec : List (Nat × Nat)} (hf : ∀ p : Port, (fec.getD p.num (0, 0)).2 = 0) (l : List Port) {s : State}
    (hlen : s.htl.ports.length = 4) (hs : ∀ p : Port, (s.port p).tagErrs = [] ∧ (s.port p).uncErrs = []) :
    ∃ ports, l.foldl (State.sendTime fec) s = { s with htl := { s.htl with ports := ports } } ∧
      ∀ p : Port, ports.getD p.num HPort.reset =
        if p ∈ l then (s.port p).sentTime s.now (fec.getD p.num (0, 0)).1 else s.port p := by
  induction l generalizing s with
  | nil => exact ⟨s.htl.ports, rfl, fun p => rfl⟩
  | cons r l ih =>
    have hr : r.num < s.htl.ports.length := by cases r <;> simp [hlen, Port.num]
    have hstep := sendTime_clean (hf r) (hs r).1 (hs r).2
    have hport (p : Port) : (s.sendTime fec r).port p =
        if p = r then (s.port p).sentTime s.now (fec.getD p.num (0, 0)).1 else s.port p := by
      rw [hstep]
      split
      · next hp =>
        subst hp
        exact updPort_self _ _ _ hr
      · next hp => exact updPort_other _ _ _ _ hp
    obtain ⟨ports, he, hg⟩ := ih (s := s.sendTime fec r) (by simp [hstep, hlen]) fun p => by
      rw [hport]
      split <;> simp [hs p]
    refine ⟨ports, ?_, fun p => ?_⟩
    · rw [List.foldl_cons, he, hstep]
      rfl
    · rw [hg p, hport p, show (s.sendTime fec r).now = s.now by rw [hstep]; rfl]
      by_cases hp : p = r <;> simp [hp]

/-! ### TIME cells received (R430 to R432) -/

/-- The parent's offset against this member's counter, in ns, by a TIME cell at the instant reached (R430). -/
def State.timeOffset (s : State) (p : Port) (x : TimeIn) : Rat :=
  let d : Rat := ((s.ringTime + x.sub - x.t1) + (x.t4 - x.t3)) / 2 + (s.rfld .heathlineAsymPs p.num : Rat) / 1000
  s.ringTime + x.sub - (x.t1 + d)

/-- A TIME cell of the parent has moved the counter and is counted (R430, R431). -/
def State.steered (s : State) (p : Port) (x : TimeIn) : State :=
  let o := s.timeOffset p x
  let n := roundEven o
  { s with htl := { s.htl with
      counter := if n < 0 then ⟨s.ringTime + n.natAbs, s.now, s.htl.counter.holdover⟩
        else ⟨s.ringTime, s.now + min 8 n.natAbs, s.htl.counter.holdover⟩
      offset := o
      good := if decide (-2 ≤ o) && decide (o ≤ 2) && x.sync then s.htl.good + 1 else 0
      timeAt := s.now } }

/-- Synchronisation after a TIME cell of the parent: ended by an unsynchronised parent or an offset beyond 4 ns, begun by the
64th good cell in a row (R431). -/
def State.synced (s : State) (p : Port) (x : TimeIn) : State :=
  let o := s.timeOffset p x
  let s := s.steered p x
  if !x.sync ∨ !(decide (-4 ≤ o) && decide (o ≤ 4)) then s.desync
  else if 64 ≤ s.htl.good then { s with htl := { s.htl with sync := true, holding := true } } else s

@[simp] theorem desync_htl (s : State) : s.desync.htl = { s.htl with sync := false, good := 0 } := by
  unfold State.desync
  dsimp only
  split <;> rfl

/-- The end of synchronisation takes the islands' copies into holdover (R67). -/
theorem desync_holdover {s : State} (h : s.htl.sync = true) :
    s.desync.rings.fabric.holdover = true ∧ s.desync.rings.lanes.holdover = true ∧ s.desync.aon.ringHoldover = true := by
  have hd : s.desync = State.enterHoldover { s with htl := { s.htl with sync := false, good := 0 } } := if_pos h
  rw [hd]
  exact ⟨rfl, rfl, rfl⟩

theorem desync_unsynced {s : State} (h : s.htl.sync = false) :
    s.desync = { s with htl := { s.htl with sync := false, good := 0 } } :=
  if_neg (by simp [h])

/-- A TIME cell of the parent ends synchronisation, begins it, or leaves it (R431). -/
theorem synced_cases (s : State) (p : Port) (x : TimeIn) :
    s.synced p x = (s.steered p x).desync ∨
      s.synced p x = { s.steered p x with htl := { (s.steered p x).htl with sync := true, holding := true } } ∨
      s.synced p x = s.steered p x := by
  unfold State.synced
  dsimp only
  split
  · exact .inl rfl
  · split
    · exact .inr (.inl rfl)
    · exact .inr (.inr rfl)

/-- A TIME cell of the parent leaves what is off ring time, and of Heathline what is neither the counter's nor synchronisation's. -/
theorem synced_keeps (s : State) (p : Port) (x : TimeIn) :
    let s' := s.synced p x
    s'.htl.offset = s.timeOffset p x ∧ s'.htl.counter = (s.steered p x).htl.counter ∧ s'.htl.timeAt = s.now ∧
      s'.htl.parent = s.htl.parent ∧ s'.htl.master = s.htl.master ∧ s'.htl.ports = s.htl.ports ∧ s'.htl.recs = s.htl.recs ∧
      offLinks s s' ∧ sameLog s s' ∧ s'.ids = s.ids ∧ s'.pin = s.pin := by
  rcases synced_cases s p x with h | h | h <;>
    simp [h, offLinks, sameStage, sameSward, sameStore, sameBus, sameLog, State.steered]

/-- An unsynchronised parent or an offset beyond 4 ns ends synchronisation (R431). -/
theorem synced_of_far {s : State} {p : Port} {x : TimeIn}
    (h : x.sync = false ∨ s.timeOffset p x < -4 ∨ 4 < s.timeOffset p x) : s.synced p x = (s.steered p x).desync := by
  refine if_pos ?_
  rcases h with h | h | h <;> simp [h]

/-- An offset within 2 ns from a synchronised parent is one more in a row; the 64th synchronises (R431). -/
theorem synced_of_near {s : State} {p : Port} {x : TimeIn} (hx : x.sync = true) (hlo : -2 ≤ s.timeOffset p x)
    (hhi : s.timeOffset p x ≤ 2) :
    (s.synced p x).htl.good = s.htl.good + 1 ∧
      (s.synced p x).htl.sync = (s.htl.sync || decide (64 ≤ s.htl.good + 1)) ∧ (s.synced p x).rings = s.rings ∧
      (s.synced p x).aon = s.aon := by
  have hgood : (s.steered p x).htl.good = s.htl.good + 1 := if_pos (by simp [hx, hlo, hhi])
  have hfar : ¬((!x.sync) = true ∨ (!(decide (-4 ≤ s.timeOffset p x) && decide (s.timeOffset p x ≤ 4))) = true) := by
    have h4 : -4 ≤ s.timeOffset p x ∧ s.timeOffset p x ≤ 4 := ⟨by linarith, by linarith⟩
    simp [hx, h4]
  unfold State.synced
  dsimp only
  rw [if_neg hfar]
  split
  · next h64 => exact ⟨hgood, by simp [hgood ▸ h64], rfl, rfl⟩
  · next h64 => exact ⟨hgood, by simp [hgood ▸ h64, State.steered], rfl, rfl⟩

/-- The routes to the master are told by the ports, the records and the topology. -/
theorem parentPorts_congr {s s' : State} (hp : s'.htl.ports = s.htl.ports) (hr : s'.htl.recs = s.htl.recs) (hc : s'.cfg = s.cfg)
    (m : Nat) : s'.parentPorts m = s.parentPorts m := by
  simp only [State.parentPorts, State.reach, State.linkOk, State.endOk, State.recOf, State.shape, State.port, State.member,
    State.lfldN, State.lfld, hp, hr, hc]

theorem le_foldl_min {n a : Nat} {l : List Nat} (ha : n ≤ a) (h : ∀ b ∈ l, n ≤ b) : n ≤ l.foldl min a := by
  induction l generalizing a with
  | nil => exact ha
  | cons b l ih => exact ih (le_min ha (h b List.mem_cons_self)) fun c hc => h c (List.mem_cons_of_mem b hc)

section
variable {s : State} {p : Port} {x : TimeIn} (t : Time) (hu : s.htlUp = true) (hs : (s.port p).state = .up)
  (hh : x.holding = false)
include hu hs hh

/-- A TIME cell that is not the parent's, of a member that does not hold ring time, only moves the clock (R430). -/
theorem exec_timeCell_other (hp : s.htl.parent ≠ some p) : exec (.timeCell t p x) s = .next (s.at_ t) := by
  have hu' : (s.at_ t).htlUp = true := hu
  show execTimeCell t p x s = _
  unfold execTimeCell
  extract_lets s0 own t2 d theirs keep _ s1 _ s2
  have h2 : s2 = s.at_ t := if_pos (by simp [hh])
  rw [if_neg (by simp [s0, hu', hs]), h2]
  exact if_pos hp

/-- A TIME cell of a parent on a shortest route to the master steers the counter and is judged (R430, R431). -/
theorem exec_timeCell_parent (hp : s.htl.parent = some p) (h64 : x.hops + 1 ≤ 64)
    (hr : ∀ r ∈ s.parentPorts (s.htl.master.getD s.member), x.hops + 1 ≤ r.2) :
    exec (.timeCell t p x) s = .next ((s.at_ t).synced p x) := by
  have hu' : (s.at_ t).htlUp = true := hu
  obtain ⟨-, -, -, -, hmaster, hports, hrecs, hoff, -⟩ := synced_keeps (s.at_ t) p x
  obtain ⟨-, -, -, -, -, hcfg, -⟩ := hoff
  show execTimeCell t p x s = _
  unfold execTimeCell
  extract_lets s0 own t2 d theirs keep _ s1 _ s2 offset n c counter near good _ s3 far _ s4 short
  have h2 : s2 = s.at_ t := if_pos (by simp [hh])
  have h4 : s4 = (s.at_ t).synced p x := by
    clear_value s2
    subst h2
    rfl
  have hshort : x.hops + 1 ≤ short := by
    refine le_foldl_min h64 fun b hb => ?_
    obtain ⟨r, hm, rfl⟩ := List.mem_map.mp hb
    refine hr r ?_
    have hmember : ((s.at_ t).synced p x).member = s.member := by
      rw [State.member, State.lfldN, State.lfld, hcfg]
      rfl
    rw [h4, parentPorts_congr hports hrecs hcfg, hmaster, hmember] at hm
    exact hm
  rw [if_neg (by simp [s0, hu', hs]), if_neg (by simp [h2, hp]), if_neg (by omega), h4]
end

theorem exec_parentTimeout_due {s : State} {t : Time} {p : Port} (hu : s.htlUp = true) (hp : s.htl.parent = some p)
    (ht : s.htl.timeAt + 5000 ≤ max s.now t) : exec (.parentTimeout t) s = .next (s.at_ t).desync := by
  have hu' : (s.at_ t).htlUp = true := hu
  have he : (s.at_ t).elapsed s.htl.timeAt (5 * us) = true := (elapsed_iff _ _ _).mpr ht
  exact if_neg (by simp [hu', he, hp])

theorem exec_parentTimeout_early {s : State} {t : Time} (ht : max s.now t < s.htl.timeAt + 5000) :
    exec (.parentTimeout t) s = .next (s.at_ t) := by
  have he : ¬(s.at_ t).elapsed (s.at_ t).htl.timeAt (5 * us) = true := (elapsed_iff _ _ _).not.mpr (Nat.not_le.mpr ht)
  exact if_pos (.inr (.inr (by simpa using he)))

/-- Settles O54: a TIME cell of another port only moves the clock, the parent's steers the counter and is judged, its absence ends
synchronisation; of the ports that send, those with too many errors go DOWN. -/
theorem ringTimeFollowsParent : Obligations.RingTimeFollowsParent := by
  refine ⟨fun s t p x hu hs hp hh => exec_timeCell_other t hu hs hh hp, fun s t p x hu hs hp hh h64 hr => ?_,
    fun s t p hu hp => ⟨fun ht => ?_, fun ht => ?_⟩, fun s t fec hu hlen h => ?_, fun s t fec p hu hs hf => ?_⟩
  · obtain ⟨hoff, hcount, hat, hpar, hmas, hports, -, hrest⟩ := synced_keeps (s.at_ t) p x
    refine ⟨_, exec_timeCell_parent t hu hs hh hp h64 hr, hoff, fun hn => hcount.trans (if_pos hn),
      fun hn => hcount.trans (if_neg (Int.not_lt.mpr hn)), fun hx hlo hhi => synced_of_near hx hlo hhi, fun hx => ?_, hat, hpar,
      hmas, hports, hrest⟩
    rw [synced_of_far hx, desync_htl]
    refine ⟨rfl, rfl, fun hsync => ?_⟩
    obtain ⟨hfabric, -, haon⟩ := desync_holdover (s := (s.at_ t).steered p x) hsync
    exact ⟨hfabric, haon⟩
  · refine ⟨_, exec_parentTimeout_due hu hp ht, desync_htl _, fun hsync => desync_holdover (s := s.at_ t) hsync, fun hsync => ?_,
      desync_offLinks (s.at_ t), by simp [sameLog], by simp⟩
    rw [desync_unsynced (s := s.at_ t) hsync]
    exact ⟨rfl, rfl, rfl, rfl⟩
  · exact exec_parentTimeout_early ht
  · obtain ⟨l, he, hl⟩ := foldl_sendTime_clean (s := s.at_ t) (fun p => (h p).1) Port.all hlen fun p => (h p).2
    refine ⟨l, (exec_timeCellSend t fec hu).trans (congrArg _ he), fun p => (hl p).trans (if_pos ?_)⟩
    cases p <;> decide
  · obtain ⟨hd, he⟩ := foldl_sendTime_down hf Port.all (s := s.at_ t) (.inl ⟨by cases p <;> decide, hs⟩)
    exact ⟨_, exec_timeCellSend t fec hu, hd, he, foldl_sendTime_offLinks fec Port.all (s.at_ t)⟩

end Sys2Proof.Machine

/-! SUPPORT. The converter's step of 50 ns and the setpoint frames (chapters 4 and 6): which parts of the state each touches, what a
step makes of one lane, and what a frame takes of one module. -/
namespace Sys2Proof.Machine

/-! ### The lanes through a step (R84, R85, R120) -/

/-- What a step of 50 ns in state `s` makes of a lane: one that is compared moves its target towards the rounded endpoint by the slew,
or holds it at 0 while the stage is not started, and sums it. -/
def State.stepsLane (s : State) (l l' : LaneSt) : Prop :=
  (l.vote.compared = false → l' = l) ∧
  (l.vote.compared = true →
    l'.target = (if s.pool.stageRun then
      towards l.target ((roundEven (1000000 * l.endpoint) : Rat) / 1000000) ((s.lfld .loadlineSlew : Rat) / 20000) else 0) ∧
    l'.tSum = l.tSum + l'.target ∧ l'.tCount = l.tCount + 1 ∧ l'.endpoint = l.endpoint ∧ l'.vote = l.vote)

theorem dacLane_steps (s : State) (q : Rat) (x : Lane) : s.stepsLane (s.lane x) ((s.dacLane q x).lane x) := by
  have h := updLane_self s x
  unfold State.dacLane
  dsimp only
  rw [h]
  refine ⟨fun hc => if_pos (by simp [hc]), fun hc => ?_⟩
  rw [if_neg (by simp [hc])]
  exact ⟨rfl, rfl, rfl, rfl, rfl⟩

/-- The update of the three lanes changes them alone, each by the step of its own (R85). -/
theorem foldl_dacLane (s : State) (q : Rat) :
    ∃ a b c, Lane.all.foldl (fun (s : State) y => s.dacLane q y) s = { s with laneA := a, laneB := b, laneC := c } ∧
      s.stepsLane s.laneA a ∧ s.stepsLane s.laneB b ∧ s.stepsLane s.laneC c :=
  ⟨_, _, _, rfl, dacLane_steps s q .a, dacLane_steps (s.dacLane q .a) q .b, dacLane_steps ((s.dacLane q .a).dacLane q .b) q .c⟩

/-! ### The pool through a pulse (R91, R178) -/

/-- The end of a freewheel changes legs alone. -/
theorem endNextFreewheel_eq (s : State) (g : Group) : ∃ l, s.endNextFreewheel g = { s with pool := { s.pool with legs := l } } := by
  unfold State.endNextFreewheel
  split
  · exact ⟨_, rfl⟩
  · exact ⟨_, rfl⟩

/-- A pulse changes the pool alone, and not what the converters sampled. -/
theorem launch_eq (s : State) (g : Group) (d : Dir) (k : Nat) :
    ∃ p, s.launch g d k = { s with pool := p } ∧ p.samples = s.pool.samples := by
  unfold State.launch
  dsimp only
  obtain ⟨l, hl⟩ := endNextFreewheel_eq _ g
  rw [hl]
  exact ⟨_, rfl, rfl⟩

theorem groupBPulse_eq (s : State) : ∃ p, s.groupBPulse = { s with pool := p } ∧ p.samples = s.pool.samples := by
  unfold State.groupBPulse
  dsimp only
  split
  · exact ⟨_, rfl, rfl⟩
  split
  · exact ⟨_, rfl, rfl⟩
  split
  · exact ⟨_, rfl, rfl⟩
  · exact launch_eq s .b _ _

/-- With a vote formed a step of 50 ns takes the samples, brings the estimates up, steps the lanes, and fires group B when a pulse of
it is due (R84 to R87, R178). -/
theorem exec_dacUpdate_formed {s : State} (t : Time) (x : DacIn) (hf : s.inRst .fabric = false) (hv : s.vot.formed = true) :
    ∃ p q, exec (.dacUpdate t x) s =
        .next (Lane.all.foldl (fun (s : State) y => s.dacLane q y) { s.at_ t with pool := p }).groupBPulse ∧
      p.samples = ⟨x.busA, x.busB, x.busC, x.stoS, x.stoB⟩ ∧ p.stageRun = s.pool.stageRun := by
  refine ⟨_, _, (if_neg (by simp [hf])).trans (if_neg ?_), rfl, rfl⟩
  simp [hv]

/-! ### The units through a step of 1 µs (R151 to R154) -/

/-- The rectifiers and strings, what the last period measured, and all that the stage, the plan, the mode, the sward and the devices
hold are as they were. -/
@[simp] abbrev sameUnits (s s' : State) : Prop :=
  s'.fes.rects = s.fes.rects ∧ s'.fes.strs = s.fes.strs ∧ s'.fes.period = s.fes.period ∧ s'.pool = s.pool ∧ s'.vot = s.vot ∧
    s'.plan = s.plan ∧ s'.aon = s.aon ∧ sameSward s s' ∧ sameStore s s'

theorem handover_sameUnits (s : State) (type : Nat) : sameUnits s (s.handover type) := by
  unfold State.handover
  split <;> simp [sameSward, sameStore]

theorem rampStep_sameUnits (s : State) : sameUnits s s.rampStep := by
  unfold State.rampStep
  split <;> simp [sameSward, sameStore]

theorem refStep_sameUnits (s : State) : sameUnits s s.refStep := by
  simp [State.refStep, sameSward, sameStore]

theorem sameUnits_trans {s s' s'' : State} (h : sameUnits s s') (h' : sameUnits s' s'') : sameUnits s s'' := by
  simp only [sameUnits, sameSward, sameStore] at h h' ⊢
  simp only [h', h, and_self]

theorem exec_setpointStep_unlinked {s : State} {t : Time} {agreed : Bool} (hf : s.inRst .fabric = false)
    (h : (s.at_ t).linkType agreed = 0) :
    exec (.setpointStep t agreed) s = .next { s.at_ t with fes := { s.fes with link := 0 } } :=
  (if_neg (by simp [hf])).trans (if_pos h)

/-- With a frame to carry, the reference moves and the frames go out (R151, R159). -/
theorem exec_setpointStep_linked {s : State} {t : Time} {agreed : Bool} (hf : s.inRst .fabric = false)
    (h : (s.at_ t).linkType agreed ≠ 0) :
    ∃ r, exec (.setpointStep t agreed) s = .next (r.sendFrames ((s.at_ t).linkType agreed)).refLedger ∧ sameUnits s r := by
  refine ⟨_, (if_neg (by simp [hf])).trans (if_neg h), ?_⟩
  have hramp := sameUnits_trans (handover_sameUnits (s.at_ t) ((s.at_ t).linkType agreed)) (rampStep_sameUnits _)
  refine sameUnits_trans (s := s.at_ t) hramp ?_
  generalize State.rampStep _ = u
  show sameUnits u (match (s.at_ t).linkType agreed with
    | 1 => u.refStep
    | 3 => { u with fes := { u.fes with ref := 0 } }
    | _ => u)
  split
  · exact refStep_sameUnits u
  · simp [sameSward, sameStore]
  · simp [sameSward, sameStore]

/-! ### The frames (R151 to R153, R158) -/

theorem sendFrames_fes {type : Nat} (h : type ≠ 0) (s : State) :
    (s.sendFrames type).fes.link = type ∧ (s.sendFrames type).fes.strs = s.fes.strs ∧
      (s.sendFrames type).fes.period = s.fes.period := by
  unfold State.sendFrames
  rw [if_neg h]
  exact ⟨rfl, rfl, rfl⟩

/-- A module's entry after the frames: one not fitted stays, another has sent a frame, with a current only when it is IN_SERVICE and
the frame a REFERENCE one. -/
theorem sendFrames_rect {type k : Nat} (h : type ≠ 0) (s : State) (hk : k < 6) :
    (s.sendFrames type).fes.rect k =
      if (s.fes.rect k).state = 0 then s.fes.rect k else
        { s.fes.rect k with
          frame := frame type (s.fes.rect k).seq (if type = 1 ∧ (s.fes.rect k).state = 1 then s.iRefShare else 0) s.aon.mode.code k
          seq := ((s.fes.rect k).seq + 1) % 16 } := by
  unfold State.sendFrames
  rw [if_neg h, Fes.rect]
  simp [List.getD_eq_getElem?_getD, hk]

/-- What stands after the frames of a step whose reference left the units of `s`, and what each module's entry has become. -/
theorem framesSent_of_sameUnits {s r s' : State} {type : Nat} (h : type ≠ 0) (hr : sameUnits s r)
    (hs' : (r.sendFrames type).refLedger = s') :
    s'.fes.link = type ∧
      (∀ k, k < 6 → s'.fes.rect k = if (s.fes.rect k).state = 0 then s.fes.rect k else
        { s.fes.rect k with
          frame := frame type (s.fes.rect k).seq (if type = 1 ∧ (s.fes.rect k).state = 1 then r.iRefShare else 0) s.aon.mode.code k
          seq := ((s.fes.rect k).seq + 1) % 16 }) ∧
      s'.fes.strs = s.fes.strs ∧ s'.fes.period = s.fes.period ∧ s'.pool = s.pool ∧ s'.vot = s.vot ∧ s'.plan = s.plan ∧
      s'.aon = s.aon ∧ sameSward s s' ∧ sameStore s s' := by
  obtain ⟨hrects, hstrs, hperiod, hpool, hvot, hplan, haon, hsward, hstore⟩ := hr
  obtain ⟨hlink, hs, hp⟩ := sendFrames_fes h r
  have hrect (k : Nat) : r.fes.rect k = s.fes.rect k := by rw [Fes.rect, hrects]; rfl
  subst hs'
  simp only [State.refLedger_keeps, State.sendFrames_keeps, sameSward, sameStore] at hsward hstore ⊢
  refine ⟨hlink, fun k hk => ?_, hs.trans hstrs, hp.trans hperiod, hpool, hvot, hplan, haon, hsward, hstore⟩
  rw [sendFrames_rect h r hk, hrect, haon]

/-- With a vote formed a step of 50 ns changes the converter and the lanes alone, each lane by its own step. -/
theorem exec_dacUpdate_steps {s : State} (t : Time) (x : DacIn) (hf : s.inRst .fabric = false) (hv : s.vot.formed = true) :
    ∃ p a b c, exec (.dacUpdate t x) s = .next { s.at_ t with pool := p, laneA := a, laneB := b, laneC := c } ∧
      p.samples = ⟨x.busA, x.busB, x.busC, x.stoS, x.stoB⟩ ∧
      s.stepsLane s.laneA a ∧ s.stepsLane s.laneB b ∧ s.stepsLane s.laneC c := by
  obtain ⟨p0, q, he, hsamples, hrun⟩ := exec_dacUpdate_formed t x hf hv
  obtain ⟨a, b, c, hfold, hsteps⟩ := foldl_dacLane { s.at_ t with pool := p0 } q
  obtain ⟨p, hp, hps⟩ := groupBPulse_eq { s.at_ t with pool := p0, laneA := a, laneB := b, laneC := c }
  rw [hfold, hp] at he
  refine ⟨p, a, b, c, he, hps.trans hsamples, ?_⟩
  unfold State.stepsLane at hsteps ⊢
  rwa [← hrun]

/-- Settles O17: the samples, estimates and group B touch the pool alone and each lane takes its own step; the reference's step leaves
the units, and the frames take each fitted module on. -/
theorem targetsAndSetpoints : Obligations.TargetsAndSetpoints := by
  refine ⟨fun s t x hf hv => ?_, fun s t agreed hf => ⟨exec_setpointStep_unlinked hf, fun hl => ?_⟩⟩
  · obtain ⟨p, a, b, c, he, hsamples, ha, hb, hc⟩ := exec_dacUpdate_steps t x hf hv
    refine ⟨p, a, b, c, he, hsamples, fun l l' hm => ?_⟩
    simp only [List.mem_cons, Prod.mk.injEq, List.not_mem_nil, or_false] at hm
    obtain ⟨rfl, rfl⟩ | ⟨rfl, rfl⟩ | ⟨rfl, rfl⟩ := hm
    · exact ha
    · exact hb
    · exact hc
  · obtain ⟨r, he, hr⟩ := exec_setpointStep_linked hf hl
    generalize hs' : (r.sendFrames _).refLedger = s' at he
    obtain ⟨hlink, hrect, hrest⟩ := framesSent_of_sameUnits hl hr hs'
    refine ⟨s', he, hlink, fun k hk hfit => ?_, fun k hk hfit => (hrect k hk).trans (if_pos hfit), hrest⟩
    rw [hrect k hk, if_neg hfit, hlink]
    refine ⟨rfl, _, rfl, fun h => if_neg ?_⟩
    rintro ⟨h1, h2⟩
    exact h.elim (· h1) (· h2)

end Sys2Proof.Machine

/-! SUPPORT. Legs through the operations of the pool (chapter 4): what each leaves of the rest of the state, what it makes of one leg,
and a pass over legs that changes each by itself. -/
namespace Sys2Proof.Machine

/-! ### What stands beside the legs -/

/-- The clock, the pins, the configuration, the mode, the voter, the front end, the sward and the devices are as they were. -/
def besideLegs (s s' : State) : Prop :=
  s'.now = s.now ∧ s'.pin = s.pin ∧ s'.cfg = s.cfg ∧ s'.vot = s.vot ∧ s'.fes = s.fes ∧ s'.aon = s.aon ∧ sameSward s s' ∧
    sameStore s s'

theorem besideLegs_refl (s : State) : besideLegs s s := ⟨rfl, rfl, rfl, rfl, rfl, rfl, ⟨rfl, rfl, rfl, rfl⟩, rfl, rfl⟩

theorem besideLegs_trans {s s' s'' : State} (h : besideLegs s s') (h' : besideLegs s' s'') : besideLegs s s'' := by
  simp only [besideLegs, sameSward, sameStore] at h h' ⊢
  simp only [h', h, and_self]

theorem besideLegs_ite {c : Prop} [Decidable c] {s a b : State} (ha : besideLegs s a) (hb : besideLegs s b) :
    besideLegs s (if c then a else b) := by
  split
  · exact ha
  · exact hb

theorem foldl_besideLegs {α : Type} {f : State → α → State} (hf : ∀ s a, besideLegs s (f s a)) (l : List α) (s : State) :
    besideLegs s (l.foldl f s) := by
  induction l generalizing s with
  | nil => exact besideLegs_refl s
  | cons a l ih => exact besideLegs_trans (hf s a) (ih _)

theorem legEvent_besideLegs (s : State) (i : Nat) : besideLegs s (s.legEvent i) := besideLegs_refl s

theorem updLeg_besideLegs (s : State) (k : Nat) (f : Leg → Leg) : besideLegs s (s.updLeg k f) := besideLegs_refl s

theorem legState_besideLegs (s : State) (k : Nat) (st : LegState) (f : Leg → Leg := id) : besideLegs s (s.legState k st f) := by
  simp [besideLegs, sameSward, sameStore]

theorem departs_besideLegs (s : State) (k : Nat) (st : LegState) : besideLegs s (s.departs k st) := by
  simp [besideLegs, sameSward, sameStore]

theorem legLoss_besideLegs (s : State) (leg : Nat) (g : Group) : besideLegs s (s.legLoss leg g) := by
  simp [besideLegs, sameSward, sameStore]

theorem limitWhile_besideLegs (s : State) (reason : Nat) (on : Bool) : besideLegs s (s.limitWhile reason on) := by
  simp [besideLegs, sameSward, sameStore]

theorem judgeLeg_besideLegs (s : State) (x : TestIn) (last : Bool) (k : Nat) : besideLegs s (s.judgeLeg x last k) := by
  simp [besideLegs, sameSward, sameStore]

/-- A change of state that sets its bit of LEG_EVENT. -/
theorem legState_legEvent_besideLegs (s : State) (k : Nat) (st : LegState) (i : Nat) :
    besideLegs s ((s.legState k st).legEvent i) :=
  besideLegs_trans (legState_besideLegs s k st) (legEvent_besideLegs _ i)

theorem nextRecheck_besideLegs (s : State) (d : Departure) : besideLegs s (s.nextRecheck d) := by
  unfold State.nextRecheck
  split
  · exact besideLegs_refl s
  · exact legLoss_besideLegs { s with pool := { s.pool with recheck := none } } _ _

/-! ### The completion of the groups (R106, R588) -/

theorem completePlace_besideLegs (g : Group) (a : State × Bool) (p : Nat) : besideLegs a.1 (State.completePlace g a p).1 := by
  obtain ⟨s, short⟩ := a
  unfold State.completePlace
  dsimp only
  generalize s.holder p = h
  split
  · exact besideLegs_refl s
  split
  next k _ =>
    generalize hu : (if (s.leg h).row5 = true ∧ (s.leg h).group = g then (s.legState h .failedSense).legEvent 4 else s) = u
    have hcondemned : besideLegs s u := hu ▸ besideLegs_ite (legState_legEvent_besideLegs s h _ 4) (besideLegs_refl s)
    generalize hv : State.legEvent _ 6 = v
    have hfilled : besideLegs u v := hv ▸ besideLegs_refl u
    exact besideLegs_trans hcondemned (besideLegs_ite (besideLegs_trans hfilled (legEvent_besideLegs v 7)) hfilled)
  next =>
    split
    · exact besideLegs_trans (legState_besideLegs s h .blind)
        (besideLegs_trans (updLeg_besideLegs _ h _) (legEvent_besideLegs _ 5))
    · exact besideLegs_refl s

theorem foldl_completePlace_besideLegs (g : Group) (l : List Nat) (a : State × Bool) :
    besideLegs a.1 (l.foldl (State.completePlace g) a).1 := by
  induction l generalizing a with
  | nil => exact besideLegs_refl a.1
  | cons p l ih => exact besideLegs_trans (completePlace_besideLegs g a p) (ih _)

/-- The completion of the groups ends the attempt and touches nothing beside the legs. -/
theorem completeGroups_besideLegs (s : State) : besideLegs s s.completeGroups ∧ s.completeGroups.pool.running = false := by
  have hplace (g : Group) (s : State) := foldl_completePlace_besideLegs g (s.places g) (s, false)
  generalize hc : s.completeGroups = c
  have hs := hplace .s s
  unfold State.completeGroups at hc
  generalize (s.places .s).foldl (State.completePlace .s) (s, false) = a at hs hc
  obtain ⟨s1, shortS⟩ := a
  have hb := hplace .b s1
  dsimp -zeta only at hs hb hc
  generalize (s1.places .b).foldl (State.completePlace .b) (s1, false) = b at hb hc
  obtain ⟨s2, shortB⟩ := b
  dsimp -zeta only at hb hc
  extract_lets u v w p z any bits at hc
  have hjudged : besideLegs s2 u := foldl_besideLegs (fun v k => besideLegs_trans (besideLegs_ite (besideLegs_refl v)
    (besideLegs_ite (legState_legEvent_besideLegs v k _ 4) (legState_besideLegs v k _))) (updLeg_besideLegs _ k _)) _ s2
  have hlossS : besideLegs u v := besideLegs_ite (legLoss_besideLegs u _ _) (besideLegs_refl u)
  have hlossB : besideLegs v w := besideLegs_ite (legLoss_besideLegs v _ _) (besideLegs_refl v)
  have hledger : besideLegs w z := besideLegs_ite (besideLegs_refl w)
    (limitWhile_besideLegs { w with pool := { w.pool with lossEntry := false } } 5 false)
  have hall : besideLegs s z :=
    besideLegs_trans hs (besideLegs_trans hb (besideLegs_trans hjudged (besideLegs_trans hlossS (besideLegs_trans hlossB hledger))))
  clear_value z
  subst hc
  split
  · exact ⟨hall, rfl⟩
  · refine ⟨besideLegs_trans hall ?_, ?_⟩
    · simp [besideLegs, sameSward, sameStore]
    · simp

/-! ### One leg -/

theorem leg_updLeg_self {s : State} {k : Nat} (h : k < s.pool.legs.length) (f : Leg → Leg) : (s.updLeg k f).leg k = f (s.leg k) :=
  upd_getD_self _ _ _ _ h

theorem leg_congr {s s' : State} (h : s'.pool.legs = s.pool.legs) (k : Nat) : s'.leg k = s.leg k := by
  rw [State.leg, State.leg, h]

theorem leg_mem {s : State} {k : Nat} (h : k < s.pool.legs.length) : s.leg k ∈ s.pool.legs := by
  rw [State.leg, List.getD_eq_getElem _ _ h]
  exact List.getElem_mem h

theorem State.stage_pool (s : State) (type sub : Nat) (payload : List Byte) (flush : Bool) :
    (s.stage type sub payload flush).pool = s.pool := by
  simp

/-- A change of a leg's state gives it that state, and may turn its switches off (R98). -/
theorem legState_eq (s : State) (k : Nat) (st : LegState) (f : Leg → Leg) :
    ∃ g : Leg → Leg, (s.legState k st f).pool.legs = upd s.pool.legs k g ∧
      ∃ d t, g (s.leg k) = f { s.leg k with state := st, drive := d, lowSince := t } := by
  unfold State.legState
  dsimp only
  split
  next h => exact ⟨f, rfl, (s.leg k).drive, (s.leg k).lowSince, by rw [← h]⟩
  next =>
    refine ⟨_, by rw [updLeg_legs, State.stage_pool], ?_⟩
    split
    · exact ⟨_, _, rfl⟩
    · exact ⟨_, _, rfl⟩

theorem leg_legState_self {s : State} {k : Nat} (h : k < s.pool.legs.length) (st : LegState) (f : Leg → Leg) :
    ∃ d t, (s.legState k st f).leg k = f { s.leg k with state := st, drive := d, lowSince := t } := by
  obtain ⟨g, hg, d, t, he⟩ := legState_eq s k st f
  refine ⟨d, t, ?_⟩
  rw [← he, State.leg, hg]
  exact upd_getD_self _ _ _ _ h

@[simp] theorem legLoss_legs (s : State) (leg : Nat) (g : Group) : (s.legLoss leg g).pool.legs = s.pool.legs := by
  simp [State.legLoss, State.legEvent]

/-- What a departure adds to the change of the leg's state leaves the legs (R114, R116). -/
@[simp] theorem departs_legs (s : State) (k : Nat) (st : LegState) : (s.departs k st).pool.legs = (s.legState k st).pool.legs := by
  simp only [State.departs]
  (repeat' split) <;> simp

@[simp] theorem nextRecheck_legs (s : State) (d : Departure) : (s.nextRecheck d).pool.legs = s.pool.legs := by
  unfold State.nextRecheck
  split <;> simp

/-! ### One leg at a time -/

/-- Nothing beside the legs has changed, and of the legs only `k`. -/
structure TouchesLeg (k : Nat) (s s' : State) : Prop where
  beside : besideLegs s s'
  length : s'.pool.legs.length = s.pool.legs.length
  others : ∀ j, j ≠ k → s'.leg j = s.leg j

namespace TouchesLeg
variable {k : Nat} {s s' s'' : State}

theorem refl (k : Nat) (s : State) : TouchesLeg k s s := ⟨besideLegs_refl s, rfl, fun _ _ => rfl⟩

theorem trans (h : TouchesLeg k s s') (h' : TouchesLeg k s' s'') : TouchesLeg k s s'' where
  beside := besideLegs_trans h.beside h'.beside
  length := h'.length.trans h.length
  others j hj := (h'.others j hj).trans (h.others j hj)

theorem ite {c : Prop} [Decidable c] {a b : State} (ha : TouchesLeg k s a) (hb : TouchesLeg k s b) :
    TouchesLeg k s (if c then a else b) := by
  split
  · exact ha
  · exact hb

theorem of_upd {f : Leg → Leg} (hb : besideLegs s s') (hl : s'.pool.legs = upd s.pool.legs k f) : TouchesLeg k s s' where
  beside := hb
  length := by rw [hl, upd_length]
  others j hj := by rw [State.leg, hl]; exact upd_getD_other _ _ _ _ _ hj

theorem of_legs (hb : besideLegs s s') (hl : s'.pool.legs = s.pool.legs) : TouchesLeg k s s' :=
  ⟨hb, by rw [hl], fun j _ => leg_congr hl j⟩

theorem updLeg (s : State) (k : Nat) (f : Leg → Leg) : TouchesLeg k s (s.updLeg k f) :=
  of_upd (updLeg_besideLegs s k f) rfl

theorem legState (s : State) (k : Nat) (st : LegState) (f : Leg → Leg) : TouchesLeg k s (s.legState k st f) := by
  obtain ⟨g, hg, -⟩ := legState_eq s k st f
  exact of_upd (legState_besideLegs s k st f) hg

theorem departs (s : State) (k : Nat) (st : LegState) : TouchesLeg k s (s.departs k st) := by
  obtain ⟨g, hg, -⟩ := legState_eq s k st id
  exact of_upd (departs_besideLegs s k st) ((departs_legs s k st).trans hg)

/-- A pass over legs of which each step touches its own leg: the rest of the state and the legs it does not come to stay, and each
leg it comes to is what its step makes of it. -/
theorem foldl {f : State → Nat → State} (hf : ∀ s k, TouchesLeg k s (f s k)) {l : List Nat} (hl : l.Nodup) (s : State) :
    besideLegs s (l.foldl f s) ∧ (∀ k, k ∉ l → (l.foldl f s).leg k = s.leg k) ∧
      ∀ k ∈ l, ∃ u, besideLegs s u ∧ u.pool.legs.length = s.pool.legs.length ∧ u.leg k = s.leg k ∧
        (l.foldl f s).leg k = (f u k).leg k := by
  induction l generalizing s with
  | nil => exact ⟨besideLegs_refl s, fun _ _ => rfl, fun _ h => absurd h List.not_mem_nil⟩
  | cons a l ih =>
    obtain ⟨ha, hl⟩ := List.nodup_cons.mp hl
    obtain ⟨hbeside, hout, hin⟩ := ih hl (f s a)
    have hstep := hf s a
    refine ⟨besideLegs_trans hstep.beside hbeside, fun k hk => ?_, fun k hk => ?_⟩
    · obtain ⟨hka, hkl⟩ := not_or.mp (List.mem_cons.not.mp hk)
      exact (hout k hkl).trans (hstep.others k hka)
    · rcases List.mem_cons.mp hk with rfl | hkl
      · exact ⟨s, besideLegs_refl s, rfl, rfl, hout k ha⟩
      · obtain ⟨u, hu, hlen, hleg, hres⟩ := hin k hkl
        have hka : k ≠ a := fun e => ha (e ▸ hkl)
        exact ⟨u, besideLegs_trans hstep.beside hu, hlen.trans hstep.length, hleg.trans (hstep.others k hka), hres⟩

end TouchesLeg

end Sys2Proof.Machine

/-! SUPPORT. Boards removed and refitted, test attempts and rechecks (chapter 4): what each command makes of one leg. -/
namespace Sys2Proof.Machine

/-! ### Boards (R79) -/

theorem mem_boardLegs {j k : Nat} : k ∈ boardLegs j ↔ k / 4 = j := by
  simp only [boardLegs, List.mem_map, List.mem_range]
  exact ⟨fun ⟨i, hi, he⟩ => by omega, fun h => ⟨k % 4, by omega, by omega⟩⟩

theorem boardLegs_nodup (j : Nat) : (boardLegs j).Nodup :=
  List.nodup_range.map fun _ _ h => Nat.add_left_cancel h

/-- A pass over a board whose presence has changed: the other boards' legs and what stands beside the legs stay, and each leg of the
board is what its step makes of it as it was. -/
theorem foldl_boardLegs {s : State} {t : Time} {j : Nat} {b : BitVec 8} {f : State → Nat → State}
    (hf : ∀ u k, TouchesLeg k u (f u k)) {s' : State}
    (h : (boardLegs j).foldl f { s.at_ t with pin := { s.pin with boardAbsent := b } } = s') :
    s'.pin = { s.pin with boardAbsent := b } ∧
      (∀ k, k / 4 = j → ∃ u, u.cfg = s.cfg ∧ u.pool.legs.length = s.pool.legs.length ∧ u.leg k = s.leg k ∧
        s'.leg k = (f u k).leg k) ∧
      (∀ k, k < 32 → k / 4 ≠ j → s'.leg k = s.leg k) ∧ s'.vot = s.vot ∧ s'.fes = s.fes ∧ s'.aon = s.aon ∧ sameSward s s' ∧
      sameStore s s' := by
  subst h
  obtain ⟨⟨-, hpin, -, hbeside⟩, hout, hin⟩ :=
    TouchesLeg.foldl hf (boardLegs_nodup j) { s.at_ t with pin := { s.pin with boardAbsent := b } }
  refine ⟨hpin, fun k hk => ?_, fun k _ hk => hout k (mem_boardLegs.not.mpr hk), hbeside⟩
  obtain ⟨u, ⟨-, -, hcfg, -⟩, hlen, hleg, hres⟩ := hin k (mem_boardLegs.mpr hk)
  exact ⟨u, hcfg, hlen, hleg, hres⟩

/-- A board's removal takes its legs out one by one, each ABSENT and back in its home group. -/
theorem exec_boardRemoved {s : State} {j : Nat} (t : Time) (hj : j < 8) :
    ∃ f, exec (.boardRemoved t j) s = .next ((boardLegs j).foldl f
        { s.at_ t with pin := { s.pin with boardAbsent := setBit s.pin.boardAbsent j } }) ∧
      ∀ u k, TouchesLeg k u (f u k) ∧
        (k < u.pool.legs.length → ((f u k).leg k).state = .absent ∧ ((f u k).leg k).group = (u.leg k).home) := by
  refine ⟨_, if_neg (by omega), fun u k => ?_⟩
  dsimp only
  generalize hv : ((u.departs k .absent).updLeg k fun l => { l with fills := none, group := l.home }) = v
  have hout : TouchesLeg k u v := hv ▸ (TouchesLeg.departs u k .absent).trans (TouchesLeg.updLeg _ k _)
  have hleg (h : k < u.pool.legs.length) : (v.leg k).state = .absent ∧ (v.leg k).group = (u.leg k).home := by
    obtain ⟨d, t, hd⟩ := leg_legState_self h .absent id
    rw [← hv, leg_updLeg_self (by rwa [(TouchesLeg.departs u k .absent).length]), leg_congr (departs_legs u k .absent), hd]
    exact ⟨rfl, rfl⟩
  have hnext (d : Departure) : TouchesLeg k v (v.nextRecheck d) :=
    .of_legs (nextRecheck_besideLegs v d) (nextRecheck_legs v d)
  split
  · split
    · exact ⟨hout.trans (hnext _), fun h => by rw [leg_congr (nextRecheck_legs v _)]; exact hleg h⟩
    · exact ⟨hout, hleg⟩
  · exact ⟨hout, hleg⟩

/-- A board's refitting makes each leg of it that is configured and ABSENT an UNTESTED one as at reset, but for its home group, and
leaves another leg. -/
theorem exec_boardRefitted {s : State} {j : Nat} (t : Time) (hj : j < 8) :
    ∃ f, exec (.boardRefitted t j) s = .next ((boardLegs j).foldl f
        { s.at_ t with pin := { s.pin with boardAbsent := clrBit s.pin.boardAbsent j } }) ∧
      ∀ u k, TouchesLeg k u (f u k) ∧
        (k < u.pool.legs.length → (u.lfldN .legsActive).testBit k = true → (u.leg k).state = .absent →
          ∃ g a b c d, (f u k).leg k = { Leg.reset with
            state := .untested, home := (u.leg k).home, group := g, lowSince := a, estAt := b, lastOnEnd := c, drive := d }) := by
  refine ⟨_, if_neg (by omega), fun u k => ⟨?_, fun hk ha hs => ?_⟩⟩
  · exact .ite (.refl k u) (.legState u k _ _)
  dsimp only
  rw [if_neg (by simp [ha, hs])]
  obtain ⟨d, t, hd⟩ := leg_legState_self hk .untested _
  rw [hd]
  exact ⟨_, _, _, _, _, rfl⟩

/-! ### Test attempts (R102, R103, R106) -/

/-- A leg that awaits judgement and whose group's storage condition holds: it may enter an attempt (R102, R106). -/
def Leg.mayEnter (windowS windowB : Bool) (l : Leg) : Bool :=
  (l.state == .untested || (l.state == .testing && !l.row5)) && (match l.group with | .b => windowB | _ => windowS)

/-- One leg's part in the start of an attempt. -/
def State.enterAttempt (windowS windowB : Bool) (s : State) (k : Nat) : State :=
  if (s.leg k).mayEnter windowS windowB then s.legState k .testing else s

theorem mayEnter_of_not_testing {l : Leg} (h : l.state ≠ .testing) (window : Bool) :
    l.mayEnter window window = (l.state == .untested && window) := by
  have hwindow : (match l.group with | .b => window | _ => window) = window := by cases l.group <;> rfl
  have htesting : (l.state == .testing) = false := beq_false_of_ne h
  unfold Leg.mayEnter
  simp [htesting, hwindow]

theorem enterAttempt_touches (windowS windowB : Bool) (s : State) (k : Nat) : TouchesLeg k s (s.enterAttempt windowS windowB k) :=
  .ite (.legState s k _ _) (.refl k s)

/-- With the storage condition met an UNTESTED leg enters the attempt and a leg in another state, TESTING apart, stays out. -/
theorem leg_enterAttempt {s : State} {k : Nat} (hk : k < s.pool.legs.length) (h : (s.leg k).state ≠ .testing) :
    ((s.leg k).state = .untested → ((s.enterAttempt true true k).leg k).state = .testing) ∧
      ((s.leg k).state ≠ .untested → (s.enterAttempt true true k).leg k = s.leg k) := by
  unfold State.enterAttempt
  rw [mayEnter_of_not_testing h]
  refine ⟨fun hu => ?_, fun hu => by rw [if_neg (by simp [hu])]⟩
  obtain ⟨d, t, hd⟩ := leg_legState_self hk .testing id
  rw [if_pos (by simp [hu]), hd]
  rfl

/-- The legs after an attempt's start, the storage condition met and no leg under test before it. -/
theorem foldl_enterAttempt {s : State} (t : Time) (hlen : s.pool.legs.length = 32) (hnone : ∀ l ∈ s.pool.legs, l.state ≠ .testing)
    {v : State} (hv : (List.range 32).foldl (State.enterAttempt true true) (s.at_ t) = v) :
    v.now = max s.now t ∧
      (v.vot = s.vot ∧ v.fes = s.fes ∧ v.aon = s.aon ∧ sameSward s v ∧ sameStore s v) ∧
      ∀ k, k < 32 → ((s.leg k).state = .untested → (v.leg k).state = .testing) ∧
        ((s.leg k).state ≠ .untested → v.leg k = s.leg k) := by
  obtain ⟨hbeside, -, hin⟩ := TouchesLeg.foldl (enterAttempt_touches true true) List.nodup_range (s.at_ t) (l := List.range 32)
  rw [hv] at hbeside hin
  obtain ⟨hnow, -, -, hrest⟩ := hbeside
  refine ⟨hnow, hrest, fun k hk => ?_⟩
  obtain ⟨u, -, hulen, huleg, hres⟩ := hin k (List.mem_range.mpr hk)
  have hks : k < s.pool.legs.length := hk.trans_eq hlen.symm
  have henters := leg_enterAttempt (s := u) (hks.trans_eq hulen.symm) (by rw [huleg]; exact hnone _ (leg_mem hks))
  rwa [huleg, ← hres] at henters

/-- With no leg under test an attempt starts when a leg may enter it, and else the test waits (R102). -/
theorem exec_testAttemptStart_none_testing {s : State} (t : Time) (windowS windowB : Bool) (htest : s.pool.testing = true)
    (hrun : s.pool.running = false) (howed : s.fes.settleOwed = false) (hpre : ∀ y ∈ s.fes.strs, y.state ≠ 2)
    (hnone : ∀ l ∈ s.pool.legs, l.state ≠ .testing)
    {u : State} (hu : (List.range 32).foldl (State.enterAttempt windowS windowB) (s.at_ t) = u) :
    exec (.testAttemptStart t windowS windowB) s =
      if s.pool.legs.any (Leg.mayEnter windowS windowB) then
        .next { u with pool := { u.pool with running := true, windowWait := false, attempt := 0, attemptStart := u.now } }
      else .next { s.at_ t with pool := { s.pool with windowWait := true } } := by
  have hundecided : ¬((s.at_ t).pool.legs.any fun (l : Leg) => l.state == .testing && !l.row5) = true := by
    simpa using fun l hl h => absurd h (hnone l hl)
  have hready : ¬((!(s.at_ t).pool.testing) = true ∨ (s.at_ t).pool.running = true ∨ (s.at_ t).fes.settleOwed = true ∨
      ((s.at_ t).fes.strs.any fun (y : Str) => y.state == 2) = true) := by
    simpa [htest, hrun, howed] using hpre
  show execTestAttemptStart t windowS windowB s = _
  subst hu
  unfold execTestAttemptStart
  dsimp only
  rw [if_neg hready]
  generalize List.range 32 = legs
  refine if_congr Iff.rfl ?_ (if_neg hundecided)
  rw [if_neg hundecided]
  rfl

/-! ### Judgements (R103 to R107) -/

/-- The judgement 2.248 ms after an attempt began ends it, whether another attempt follows or the groups are completed. -/
theorem exec_testJudgement_due {s : State} {t : Time} (x : TestIn) (hr : s.pool.running = true)
    (ht : s.pool.attemptStart + 2248000 ≤ max s.now t) :
    ∃ s', exec (.testJudgement t x) s = .next s' ∧ besideLegs (s.at_ t) s' ∧ s'.pool.running = false := by
  have helapsed : (s.at_ t).elapsed s.pool.attemptStart attemptNs = true := (elapsed_iff _ _ _).mpr ht
  show ∃ s', execTestJudgement t x s = _ ∧ _
  unfold execTestJudgement
  dsimp only
  rw [if_neg (by simp [hr, helapsed])]
  generalize hu : (List.range 32).foldl _ (s.at_ t) = u
  have hjudged : besideLegs (s.at_ t) u := hu ▸ foldl_besideLegs (fun v k => judgeLeg_besideLegs v x _ k) _ _
  split
  · exact ⟨_, rfl, hjudged, rfl⟩
  · obtain ⟨hgroups, hrun⟩ := completeGroups_besideLegs _
    exact ⟨_, rfl, besideLegs_trans hjudged hgroups, hrun⟩

/-- A spare that passes its recheck joins at the next boundary (R107). -/
theorem exec_spareRecheckJudgement_passed {s : State} {t : Time} {x : TestIn} {k n : Nat} {d : Departure}
    (hr : s.pool.recheck = some (k, d, n)) (ht : s.pool.recheckStart + 64000 ≤ max s.now t)
    (hj : (s.at_ t).judgeRow x k (s.leg k) = 4) :
    exec (.spareRecheckJudgement t x) s =
      .next { s.at_ t with pool := { s.pool with recheck := none, joinOwed := some (k, d) } } := by
  have helapsed : (s.at_ t).elapsed s.pool.recheckStart (64 * us) = true := (elapsed_iff _ _ _).mpr ht
  show execSpareRecheckJudgement t x s = _
  unfold execSpareRecheckJudgement
  simp [hr, helapsed, hj]

/-- Settles O21: a board's legs one by one, each by its own step; an attempt by whether the condition holds; a judgement by its end,
a recheck by its row. -/
theorem boardsAndTests : Obligations.BoardsAndTests := by
  refine ⟨⟨fun s t j hj hlen _ => ?_, fun s t j hj hlen => ?_⟩, fun s t htest hrun howed hpre hlen hsome hnone => ?_,
    fun s t htest hrun howed hpre hnone => ?_, fun s t x hr ht => ?_,
    fun s t x k n d hr ht hj => exec_spareRecheckJudgement_passed hr ht hj⟩
  · obtain ⟨f, he, hf⟩ := exec_boardRemoved (s := s) t hj
    generalize hs' : (boardLegs j).foldl f _ = s' at he
    obtain ⟨hpin, hin, hrest⟩ := foldl_boardLegs (fun u k => (hf u k).1) hs'
    refine ⟨s', he, hpin, fun k hk hkj => ?_, hrest⟩
    obtain ⟨u, -, hulen, huleg, hres⟩ := hin k hkj
    obtain ⟨hstate, hgroup⟩ := (hf u k).2 (hk.trans_eq (hulen.trans hlen).symm)
    rw [hres, hgroup, huleg]
    exact ⟨hstate, rfl⟩
  · obtain ⟨f, he, hf⟩ := exec_boardRefitted (s := s) t hj
    generalize hs' : (boardLegs j).foldl f _ = s' at he
    obtain ⟨hpin, hin, hrest⟩ := foldl_boardLegs (fun u k => (hf u k).1) hs'
    refine ⟨s', he, hpin, fun k hk hkj hactive habsent => ?_, hrest⟩
    obtain ⟨u, hcfg, hulen, huleg, hres⟩ := hin k hkj
    have hu : u.lfldN .legsActive = s.lfldN .legsActive := by rw [State.lfldN, State.lfld, hcfg]; rfl
    obtain ⟨g, a, b, c, d, hleg⟩ := (hf u k).2 (hk.trans_eq (hulen.trans hlen).symm) (by rwa [hu]) (by rwa [huleg])
    rw [hres, hleg, huleg]
    exact ⟨rfl, rfl, rfl, rfl, rfl, rfl, rfl⟩
  · generalize hv : (List.range 32).foldl (State.enterAttempt true true) (s.at_ t) = v
    obtain ⟨hnow, hbeside, hlegs⟩ := foldl_enterAttempt t hlen hnone hv
    obtain ⟨l, hl, hstate⟩ := hsome
    have hany : s.pool.legs.any (Leg.mayEnter true true) = true :=
      List.any_eq_true.mpr ⟨l, hl, by simp [mayEnter_of_not_testing (hnone l hl), hstate]⟩
    exact ⟨_, (exec_testAttemptStart_none_testing t true true htest hrun howed hpre hnone hv).trans (if_pos hany), rfl, rfl, rfl,
      hnow, hlegs, hbeside⟩
  · refine (exec_testAttemptStart_none_testing t false false htest hrun howed hpre hnone rfl).trans (if_neg fun h => ?_)
    obtain ⟨l, hl, hu⟩ := List.any_eq_true.mp h
    rw [mayEnter_of_not_testing (hnone l hl), Bool.and_false] at hu
    exact Bool.false_ne_true hu
  · obtain ⟨s', he, ⟨-, -, -, hvot, hfes, haon, hsward, hstore⟩, hrun⟩ := exec_testJudgement_due x hr ht
    exact ⟨s', he, hrun, hvot, hfes, haon, hsward, hstore⟩

end Sys2Proof.Machine

/-! SUPPORT. The stop and the voter's counting (chapter 5): what a latched stop leaves standing through resets and the transition to
STOPPED, one disagreement noted, the judgement of three lanes' snapshots. -/
namespace Sys2Proof.Machine

/-! ### What a latched stop leaves standing -/

/-- The stop latch, the vote, the voter's events, the links and the kill pin are as they were; a kill latch that was set is set, and
gates that were low are low. -/
structure StopStands (s s' : State) : Prop where
  stopLatch : s'.vot.stopLatch = s.vot.stopLatch
  formed : s'.vot.formed = s.vot.formed
  event : s'.vot.event = s.vot.event
  killLatch : s.vot.killLatch = true → s'.vot.killLatch = true
  link : s'.fes.link = s.fes.link
  killPin : s'.pin.stageKill = s.pin.stageKill
  undriven : s.undriven → s'.undriven

namespace StopStands
variable {s s' s'' : State}

theorem refl (s : State) : StopStands s s := ⟨rfl, rfl, rfl, id, rfl, rfl, id⟩

theorem trans (h : StopStands s s') (h' : StopStands s' s'') : StopStands s s'' where
  stopLatch := h'.stopLatch.trans h.stopLatch
  formed := h'.formed.trans h.formed
  event := h'.event.trans h.event
  killLatch := h'.killLatch ∘ h.killLatch
  link := h'.link.trans h.link
  killPin := h'.killPin.trans h.killPin
  undriven := h'.undriven ∘ h.undriven

theorem of_eq (hv : s'.vot = s.vot) (hf : s'.fes.link = s.fes.link) (hk : s'.pin.stageKill = s.pin.stageKill)
    (hp : s'.pool = s.pool) : StopStands s s' :=
  ⟨by rw [hv], by rw [hv], by rw [hv], by rw [hv]; exact id, hf, hk, by rw [State.undriven, State.undriven, hp]; exact id⟩

theorem ite {c : Prop} [Decidable c] {a b : State} (ha : StopStands s a) (hb : StopStands s b) :
    StopStands s (if c then a else b) := by
  split
  · exact ha
  · exact hb

end StopStands

/-! ### Resets under a latched stop -/

theorem fence_of_stopLatch {s : State} (h : s.vot.stopLatch = true) (x : Lane) (kind : Nat) : s.fence x kind = s :=
  if_pos (.inr h)

/-- A domain that enters reset touches neither the voter nor the converter once the stage has stopped (R133, R465). -/
theorem enterDomain_stands {s : State} (h : s.vot.stopLatch = true) (d : Dom) : StopStands s (s.enterDomain d) := by
  have hd : (s.enterDomain d).vot = s.vot ∧ (s.enterDomain d).fes = s.fes ∧ (s.enterDomain d).pool = s.pool := by
    unfold State.enterDomain
    split
    · exact ⟨rfl, rfl, rfl⟩
    · cases d <;> simp [State.fenceNow, fence_of_stopLatch, h]
  obtain ⟨hv, hf, hp⟩ := hd
  exact .of_eq hv (by rw [hf]) (by simp) hp

theorem foldl_enterDomain_stands (l : List Dom) {s : State} (h : s.vot.stopLatch = true) :
    StopStands s (l.foldl (fun s d => s.enterDomain d) s) := by
  induction l generalizing s with
  | nil => exact .refl s
  | cons d l ih =>
    have hd := enterDomain_stands h d
    exact hd.trans (ih (hd.stopLatch.trans h))

theorem flushStart_stands (s : State) (level : Nat) : StopStands s (s.flushStart level) :=
  .of_eq (by simp) (by simp) (by simp) (by simp)

/-- A voter's fence resets domains that are neither the voter nor the converter, or begins a flush window with the gates low (R464,
R470, R471). -/
theorem assertSource_fence_stands {s : State} (h : s.vot.stopLatch = true) (x : Lane) (level : Nat) (lanes : List Lane)
    (hold : Bool) : StopStands s (s.assertSource (.fence x) level lanes hold) := by
  have hsrc : ¬(Src.fence x = .powerOn ∨ Src.fence x = .brownOut) := by simp
  unfold State.assertSource
  extract_lets _ _ _ _ _ _ _ _ _ _ _ _ _ flushing _ _ _ counted
  refine .ite (.refl s) (.ite (.of_eq rfl rfl rfl rfl) (.ite ?flush (.ite (.of_eq rfl rfl rfl rfl) ?domains)))
  case flush =>
    have hlow : StopStands s flushing := ⟨rfl, rfl, rfl, fun _ => rfl, rfl, rfl, fun _ => gatesLow_undriven _⟩
    rw [if_neg hsrc]
    exact .ite (.of_eq rfl rfl rfl rfl) (.ite hlow (hlow.trans (flushStart_stands flushing level)))
  case domains =>
    have hcounted : StopStands s counted := ⟨rfl, rfl, rfl, id, rfl, rfl, id⟩
    exact hcounted.trans (foldl_enterDomain_stands _ h)

theorem assertSource_fence_aon (s : State) (x : Lane) (level : Nat) (lanes : List Lane) (hold : Bool) :
    (s.assertSource (.fence x) level lanes hold).aon = s.aon := by
  simp [State.assertSource]

/-- Every lane reset through its fence source leaves the stop and the mode (R143). -/
theorem fenceAll_stands {s : State} (h : s.vot.stopLatch = true) : StopStands s s.fenceAll ∧ s.fenceAll.aon = s.aon := by
  refine List.foldlRecOn (motive := fun u => StopStands s u ∧ u.aon = s.aon) _ _ ⟨.refl s, rfl⟩ fun u hu x _ => ?_
  split
  · exact hu
  · obtain ⟨hs, ha⟩ := hu
    exact ⟨hs.trans (assertSource_fence_stands (hs.stopLatch.trans h) x _ _ _), (assertSource_fence_aon u x _ _ _).trans ha⟩

/-! ### STOPPED -/

theorem ne_held_of_live {m : Mode} (h : m.live = true) : m ≠ .held := by
  rintro rfl
  exact Bool.noConfusion h

/-- No re-engagement goes on or is owed (R183). -/
def State.endReengage (s : State) : State := { s with fes := { s.fes with reengage := false, reengageOwed := false } }

theorem endReengage_stands (s : State) : StopStands s s.endReengage := .of_eq rfl rfl rfl rfl

/-- The entry into STOPPED as far as every cause has it: the count of stops, the legs UNTESTED, no re-engagement (R27, R101). -/
def State.legsStopped (s : State) (c : Cause) : State :=
  (s.announced .stopped c).countStop.toUntested.endReengage

theorem entered_stopped_eq {s : State} (c : Cause) (hm : s.aon.mode ≠ .held) :
    s.entered .stopped c = if c = .laneDisagree then (s.legsStopped c).fenceAll else s.legsStopped c := by
  unfold State.entered State.modeEntry
  rw [if_neg (fun h => hm h.1)]
  rfl

theorem countStop_prevMode (s : State) : s.countStop.aon.prevMode = s.aon.prevMode := by
  unfold State.countStop State.watchEnd
  dsimp only
  (repeat' split) <;> rfl

theorem legsStopped_shows (s : State) (c : Cause) :
    StopStands s (s.legsStopped c) ∧ (s.legsStopped c).undriven ∧ (s.legsStopped c).aon.mode = .stopped ∧
      (s.legsStopped c).aon.cause = c ∧ (s.legsStopped c).aon.prevMode = s.aon.mode := by
  have hu : (s.legsStopped c).undriven := (endReengage_stands _).undriven (toUntested_undriven _)
  have hvot : (s.legsStopped c).vot = s.vot := by simp [State.legsStopped, State.endReengage]
  have hlink : (s.legsStopped c).fes.link = s.fes.link := by simp [State.legsStopped, State.endReengage]
  have hpin : (s.legsStopped c).pin = s.pin := by simp [State.legsStopped, State.endReengage, State.announced]
  have haon : (s.legsStopped c).aon = (s.announced .stopped c).countStop.aon := by simp [State.legsStopped, State.endReengage]
  obtain ⟨hmode, hcause⟩ := countStop_mode (s.announced .stopped c)
  refine ⟨⟨by rw [hvot], by rw [hvot], by rw [hvot], by rw [hvot]; exact id, hlink, by rw [hpin], fun _ => hu⟩, hu, ?_⟩
  rw [haon, hmode, hcause, countStop_prevMode, announced_aon]
  exact ⟨rfl, rfl, rfl⟩

/-- A live mode's transition to STOPPED, by the lanes' disagreement only once the stop is latched (R20, R23, R143). -/
theorem transition_stopped {s : State} {c : Cause} (hl : s.aon.mode.live = true)
    (h : c = .laneDisagree → s.vot.stopLatch = true) :
    let s' := s.transition .stopped c
    StopStands s s' ∧ s'.undriven ∧ s'.aon.mode = .stopped ∧ s'.aon.cause = c ∧ s'.aon.prevMode = s.aon.mode := by
  obtain ⟨hstands, hu, haon⟩ := legsStopped_shows s c
  have he : StopStands s (s.entered .stopped c) ∧ (s.entered .stopped c).undriven ∧
      (s.entered .stopped c).aon = (s.legsStopped c).aon := by
    rw [entered_stopped_eq c (ne_held_of_live hl)]
    split
    · next hc =>
      obtain ⟨hf, ha⟩ := fenceAll_stands (hstands.stopLatch.trans (h hc))
      exact ⟨hstands.trans hf, hf.undriven hu, ha⟩
    · exact ⟨hstands, hu, rfl⟩
  obtain ⟨hes, heu, hea⟩ := he
  have hafter : StopStands (s.entered .stopped c) (s.transition .stopped c) := by
    obtain ⟨bc, smb, ev, hb, -⟩ := busCharge_eq (s.entered .stopped c)
    rw [transition_eq, hb]
    exact .ite (.of_eq rfl rfl rfl rfl) (.of_eq (by simp) (by simp) (by simp) (by simp))
  refine ⟨hes.trans hafter, hafter.undriven heu, ?_⟩
  simp only [transition_shows, hea]
  exact haon

theorem stopNow_of_not_live {s : State} (h : s.aon.mode.live = false) : s.stopNow = s := if_pos (by simp [h])

theorem stopNow_of_stopCause_none {s : State} (h : s.stopCause = none) : s.stopNow = s := by
  unfold State.stopNow
  split
  · rfl
  · rw [h]

theorem stopNow_of_laneDisagree {s : State} (hl : s.aon.mode.live = true) (h : s.stopCause = some .laneDisagree) :
    s.stopNow = (s.disagreeStop 1).transition .stopped .laneDisagree := by
  unfold State.stopNow
  rw [if_neg (by simp [hl]), h]

theorem stopNow_of_stageKill {s : State} (hl : s.aon.mode.live = true) (h : s.stopCause = some .stageKill) :
    s.stopNow = s.gatesLow.transition .stopped .stageKill := by
  unfold State.stopNow
  rw [if_neg (by simp [hl]), h]

theorem disagreeStop_of_stopLatch {s : State} (h : s.vot.stopLatch = true) (detail : Nat) : s.disagreeStop detail = s := if_pos h

/-- The stop drives no gate, sets its latch and event, ends the vote and takes the links to high impedance (R140 to R142). -/
theorem disagreeStop_shows {s : State} (h : s.vot.stopLatch = false) (detail : Nat) :
    let s' := s.disagreeStop detail
    s'.vot.stopLatch = true ∧ s'.vot.formed = false ∧ s'.fes.link = 0 ∧ s'.undriven ∧ s'.vot.killLatch = s.vot.killLatch ∧
      s'.vot.event = setBit s.vot.event 8 := by
  have hu : (s.disagreeStop detail).undriven := by
    unfold State.disagreeStop
    rw [if_neg (by simp [h])]
    simp only [State.undriven, State.report_keeps, State.votEvent_keeps]
    exact gatesLow_undriven s
  refine ⟨?_, ?_, ?_, hu, ?_, ?_⟩ <;> simp [State.disagreeStop, h, State.votEvent]

theorem stopCause_of_stopLatch {s : State} (h : s.vot.stopLatch = true) : s.stopCause = some .laneDisagree := if_pos (.inl h)

/-- The stage stopped by its lanes: STOPPED at once out of a live mode, and no other mode changes (R23, R140). -/
theorem disagreeStop_stopNow {s : State} (h : s.vot.stopLatch = false) (detail : Nat) :
    let s' := (s.disagreeStop detail).stopNow
    s'.vot.stopLatch = true ∧ s'.vot.formed = false ∧ s'.fes.link = 0 ∧ s'.undriven ∧
      (s.aon.mode.live = true → s'.aon.mode = .stopped ∧ s'.aon.cause = .laneDisagree ∧ s'.aon.prevMode = s.aon.mode) ∧
      (s.aon.mode.live = false → s'.aon = s.aon) ∧ s'.nv = s.nv ∧ s'.ddr = s.ddr := by
  obtain ⟨hlatch, hformed, hlink, hu, -, -⟩ := disagreeStop_shows h detail
  have haon : (s.disagreeStop detail).aon = s.aon := by simp
  by_cases hl : s.aon.mode.live = true
  · have hl' : (s.disagreeStop detail).aon.mode.live = true := by rw [haon]; exact hl
    have hstop : (s.disagreeStop detail).stopNow = (s.disagreeStop detail).transition .stopped .laneDisagree := by
      rw [stopNow_of_laneDisagree hl' (stopCause_of_stopLatch hlatch), disagreeStop_of_stopLatch hlatch]
    obtain ⟨hs, hu', hmode, hcause, hprev⟩ := transition_stopped hl' (fun _ : Cause.laneDisagree = .laneDisagree => hlatch)
    rw [haon] at hprev
    simp only [hstop]
    exact ⟨hs.stopLatch.trans hlatch, hs.formed.trans hformed, hs.link.trans hlink, hu', fun _ => ⟨hmode, hcause, hprev⟩,
      fun hn => absurd hl (by simp [hn]), by simp, by simp⟩
  · rw [stopNow_of_not_live (by simpa [haon] using hl)]
    exact ⟨hlatch, hformed, hlink, hu, fun hn => absurd hn hl, fun _ => haon, by simp, by simp⟩

@[simp] theorem disagreeStop_lane (s : State) (detail : Nat) (x : Lane) : (s.disagreeStop detail).lane x = s.lane x := by
  cases x <;> simp [State.lane]

/-! ### One disagreement counted -/

/-- A lane with one disagreement more at mark `m`, in a window of `w` periods (R128, R132). -/
def LaneSt.disagreed (l : LaneSt) (m w kind gate : Nat) : LaneSt :=
  { l with counted := disKey kind gate :: l.counted, window := m :: l.window.filter (fun y => decide (m < y + w))
           total := l.total + 1, lastKind := kind, dirty := true }

/-- The disagreement counted and shown in VOT_LAST; whether it completes a fence or stops the stage comes after (R128, R149). -/
def State.noted (s : State) (x : Lane) (kind gate sect : Nat) : State :=
  { s.updLane x (fun l => l.disagreed s.vot.mark.toNat (s.lfldN .lanesFenceWindow) kind gate) with
    vot := { s.vot with lastLane := x.num, lastKind := kind, lastGate := if kind = 0 then gate else 0
                        lastSection := if kind = 2 then sect else 0, lastMark := s.vot.mark.toNat } }

theorem noted_lane_self (s : State) (x : Lane) (kind gate sect : Nat) :
    (s.noted x kind gate sect).lane x =
      (s.lane x).disagreed s.vot.mark.toNat (s.lfldN .lanesFenceWindow) kind gate := by
  cases x <;> rfl

theorem noted_vote (s : State) (x y : Lane) (kind gate sect : Nat) :
    ((s.noted x kind gate sect).lane y).vote = (s.lane y).vote := by
  cases x <;> cases y <;> rfl

theorem noted_voting (s : State) (x : Lane) (kind gate sect : Nat) : (s.noted x kind gate sect).voting = s.voting :=
  voting_congr fun y => noted_vote s x y kind gate sect

theorem noted_frame (s : State) (x : Lane) (kind gate sect : Nat) :
    (s.noted x kind gate sect).aon = s.aon ∧ (s.noted x kind gate sect).nv = s.nv ∧
      (s.noted x kind gate sect).ddr = s.ddr ∧ (s.noted x kind gate sect).vot.stopLatch = s.vot.stopLatch ∧
      (s.noted x kind gate sect).killFree = s.killFree ∧
      (∀ f, (s.noted x kind gate sect).lfldN f = s.lfldN f) := by
  cases x <;> exact ⟨rfl, rfl, rfl, rfl, rfl, fun _ => rfl⟩

theorem noted_stopCause (s : State) (x : Lane) (kind gate sect : Nat) :
    (s.noted x kind gate sect).stopCause = s.stopCause := by
  obtain ⟨-, -, -, hlatch, hkill, -⟩ := noted_frame s x kind gate sect
  unfold State.stopCause
  rw [hlatch, hkill, noted_voting]

/-- One disagreement adds at most one to the window (R132). -/
theorem noted_windowCount_le (s : State) (x : Lane) (kind gate sect : Nat) :
    (s.noted x kind gate sect).windowCount x ≤ s.windowCount x + 1 := by
  obtain ⟨-, -, -, -, -, hfld⟩ := noted_frame s x kind gate sect
  have hmark : (s.noted x kind gate sect).vot.mark = s.vot.mark := rfl
  unfold State.windowCount
  rw [noted_lane_self, hfld, hmark, LaneSt.disagreed, List.filter_cons, List.filter_filter]
  simp only [Bool.and_self]
  split
  · exact le_rfl
  · exact Nat.le_succ _

theorem disagree_of_counted {s : State} {x : Lane} {kind gate : Nat} (sect : Nat) (h : disKey kind gate ∈ (s.lane x).counted) :
    s.disagree x kind gate sect = s :=
  if_pos (.inr (.inr (by simpa using h)))

/-- A voting lane's first disagreement of its kind in the period is noted; then the stage stops, or the count may complete a fence
(R128, R132, R140). -/
theorem disagree_of_voting {s : State} {x : Lane} {kind gate : Nat} (sect : Nat) (hv : (s.lane x).vote = .voting)
    (hs : s.vot.stopLatch = false) (hc : disKey kind gate ∉ (s.lane x).counted) :
    s.disagree x kind gate sect =
      if s.voting.length ≤ 2 ∧ kind < 2 then (s.noted x kind gate sect).disagreeStop 0
      else if s.lfldN .lanesFenceN ≤ (s.noted x kind gate sect).windowCount x then (s.noted x kind gate sect).fence x kind
      else s.noted x kind gate sect := by
  obtain ⟨-, -, -, -, -, hfld⟩ := noted_frame s x kind gate sect
  unfold State.disagree
  extract_lets l m updated last shown
  have hnoted : shown = s.noted x kind gate sect := by
    cases x <;> rfl
  rw [if_neg (by simp [l, hv, hs, hc, Vote.compared]), hnoted, if_neg (by simp [l, hv]), noted_voting, hfld]

/-- With fewer than `lanes.fence_n` disagreements in the window and three lanes voting, noting it is all (R132). -/
theorem disagree_of_few {s : State} {x : Lane} {kind gate : Nat} (sect : Nat) (hv : (s.lane x).vote = .voting)
    (hs : s.vot.stopLatch = false) (hc : disKey kind gate ∉ (s.lane x).counted) (h3 : s.voting.length = 3)
    (hw : s.windowCount x + 1 < s.lfldN .lanesFenceN) : s.disagree x kind gate sect = s.noted x kind gate sect := by
  have hle := noted_windowCount_le s x kind gate sect
  rw [disagree_of_voting sect hv hs hc, if_neg (by omega), if_neg (by omega)]

/-- With two lanes voting a gate or strobe disagreement stops the stage (R140). -/
theorem disagree_of_two {s : State} {x : Lane} {kind gate : Nat} (sect : Nat) (hv : (s.lane x).vote = .voting)
    (hs : s.vot.stopLatch = false) (hc : disKey kind gate ∉ (s.lane x).counted) (h2 : s.voting.length = 2) (hk : kind < 2) :
    s.disagree x kind gate sect = (s.noted x kind gate sect).disagreeStop 0 := by
  rw [disagree_of_voting sect hv hs hc, if_pos ⟨h2.le, hk⟩]

/-! ### Three lanes voting -/

theorem voting_of_length_three {s : State} (h : s.voting.length = 3) (x : Lane) : (s.lane x).vote = .voting := by
  have hlen : (Lane.all.filter (fun x => (s.lane x).vote == .voting)).length = Lane.all.length := h
  simpa using List.length_filter_eq_length_iff.mp hlen x (by cases x <;> decide)

theorem not_latched_of_length_three {s : State} (h : s.voting.length = 3) (x : Lane) : (s.lane x).vote ≠ .latched := by
  rw [voting_of_length_three h x]
  exact Vote.noConfusion

theorem stopCause_of_three {s : State} (h3 : s.voting.length = 3) (hs : s.vot.stopLatch = false) (hk : s.killFree = true) :
    s.stopCause = none := by
  simp [State.stopCause, h3, hs, hk]

/-- With no lane latched and no condition for STOPPED the voter does no more (R139, R140). -/
theorem holdLatched_stopNow_of_quiet {s : State} (h : ∀ y, (s.lane y).vote ≠ .latched) (hc : s.stopCause = none) :
    s.holdLatched.stopNow = s := by
  rw [holdLatched_of_not_latched h, stopNow_of_stopCause_none hc]

/-! ### Gate disagreements -/

theorem exec_gateDisagreement {s : State} (t : Time) (x : Lane) {g : Nat} (hf : s.inRst .fabric = false)
    (hv : s.vot.formed = true) (hg : g < 64) :
    exec (.gateDisagreement t x g) s = .next (((s.at_ t).disagree x 0 g 0).holdLatched.stopNow) := by
  have hgo : ¬((s.at_ t).inRst .fabric = true ∨ (!(s.at_ t).vot.formed) = true ∨ 64 ≤ g) := by
    rintro (h | h | h)
    · exact Bool.noConfusion (hf.symm.trans h)
    · rw [show (s.at_ t).vot.formed = true from hv] at h
      exact Bool.noConfusion h
    · omega
  exact if_neg hgo

theorem disKey_gate {g : Nat} (hg : g < 64) : disKey 0 g = g := Nat.mod_eq_of_lt hg

theorem updLane_eq_const (s : State) (x : Lane) (f : LaneSt → LaneSt) :
    s.updLane x f = s.updLane x (fun _ => f (s.lane x)) := by
  cases x <;> rfl

theorem exec_gateDisagreement_of_few {s : State} (t : Time) {x : Lane} {g : Nat} (hf : s.inRst .fabric = false)
    (hv : s.vot.formed = true) (hs : s.vot.stopLatch = false) (hg : g < 64) (h3 : s.voting.length = 3)
    (hc : g ∉ (s.lane x).counted) (hk : s.killFree = true) (hw : s.windowCount x + 1 < s.lfldN .lanesFenceN) :
    exec (.gateDisagreement t x g) s = .next ((s.at_ t).noted x 0 g 0) := by
  have h3' : (s.at_ t).voting.length = 3 := h3
  have hc' : disKey 0 g ∉ ((s.at_ t).lane x).counted := by rwa [disKey_gate hg, at_lane]
  have hstop : (s.at_ t).stopCause = none := stopCause_of_three h3' hs hk
  rw [exec_gateDisagreement t x hf hv hg, disagree_of_few 0 (voting_of_length_three h3' x) hs hc' h3' hw,
    holdLatched_stopNow_of_quiet]
  · intro y
    rw [noted_vote]
    exact not_latched_of_length_three h3' y
  · rw [noted_stopCause, hstop]

theorem exec_gateDisagreement_of_counted {s : State} (t : Time) {x : Lane} {g : Nat} (hf : s.inRst .fabric = false)
    (hv : s.vot.formed = true) (hg : g < 64) (hc : g ∈ (s.lane x).counted) (hn : ∀ y, (s.lane y).vote ≠ .latched)
    (hstop : s.stopCause = none) : exec (.gateDisagreement t x g) s = .next (s.at_ t) := by
  have hc' : disKey 0 g ∈ ((s.at_ t).lane x).counted := by rwa [disKey_gate hg, at_lane]
  have hn' : ∀ y, ((s.at_ t).lane y).vote ≠ .latched := fun y => by rw [at_lane]; exact hn y
  rw [exec_gateDisagreement t x hf hv hg, disagree_of_counted 0 hc', holdLatched_stopNow_of_quiet hn' hstop]

theorem exec_gateDisagreement_of_two {s : State} (t : Time) {x : Lane} {g : Nat} (hf : s.inRst .fabric = false)
    (hv : s.vot.formed = true) (hs : s.vot.stopLatch = false) (hg : g < 64) (hx : (s.lane x).vote = .voting)
    (h2 : s.voting.length = 2) (hc : g ∉ (s.lane x).counted) (hn : ∀ y, (s.lane y).vote ≠ .latched) :
    exec (.gateDisagreement t x g) s = .next (((s.at_ t).noted x 0 g 0).disagreeStop 0).stopNow := by
  have hx' : ((s.at_ t).lane x).vote = .voting := by rwa [at_lane]
  have hc' : disKey 0 g ∉ ((s.at_ t).lane x).counted := by rwa [disKey_gate hg, at_lane]
  rw [exec_gateDisagreement t x hf hv hg, disagree_of_two 0 hx' hs hc' h2 (by decide), holdLatched_of_not_latched]
  intro y
  rw [disagreeStop_lane, noted_vote, at_lane]
  exact hn y

/-! ### Snapshots of three voting lanes -/

/-- The lanes as a judgement of three voting lanes leaves them: each by whether it agrees with both others (R129, R131). -/
def State.snapped (s : State) (ab ac bc : Pair) : State :=
  { s with laneA := { s.laneA with snapOk := pairOk ab && pairOk ac }
           laneB := { s.laneB with snapOk := pairOk ab && pairOk bc }
           laneC := { s.laneC with snapOk := pairOk ac && pairOk bc } }

/-- The three pairs of lanes with their verdicts. -/
def threePairs (ab ac bc : Pair) : List (Lane × Lane × Pair) := [(.a, .b, ab), (.a, .c, ac), (.b, .c, bc)]

/-- An outvoted lane's disagreement, by the first section that differs (R131, R149). -/
def State.outvote (l : List (Lane × Lane × Pair)) (s : State) (x : Lane) : State :=
  let k := pairKind ((lanePairs l x).filter (fun p => !pairOk p))
  s.disagree x k.1 0 k.2

theorem exec_snapshotJudgement_three {s : State} (t : Time) (ab ac bc : Pair) (hf : s.inRst .fabric = false)
    (hv : s.vot.formed = true) (h3 : s.voting.length = 3) :
    exec (.snapshotJudgement t ab ac bc) s = .next
      (if (threePairs ab ac bc).all (fun p => !pairOk p.2.2) = true then (((s.at_ t).snapped ab ac bc).disagreeStop 2).stopNow
       else ((outvoted (threePairs ab ac bc)).foldl (State.outvote (threePairs ab ac bc))
          ((s.at_ t).snapped ab ac bc)).holdLatched.stopNow) := by
  show execSnapshotJudgement t ab ac bc s = _
  unfold execSnapshotJudgement
  extract_lets s0 all pairs voting s1 n out judged
  have hpairs : pairs = threePairs ab ac bc := by
    simp [pairs, all, voting_of_length_three h3, s0, threePairs, Vote.compared]
  have hs1 : s1 = (s.at_ t).snapped ab ac bc := by
    have hA : s.laneA.vote = .voting := voting_of_length_three h3 .a
    have hB : s.laneB.vote = .voting := voting_of_length_three h3 .b
    have hC : s.laneC.vote = .voting := voting_of_length_three h3 .c
    simp only [s1, hpairs, Lane.all, List.foldl_cons, List.foldl_nil]
    simp [State.updLane, State.snapped, threePairs, lanePairs, Vote.compared, s0, State.at_, hA, hB, hC]
  have hn : n = 3 := by
    simp only [n, hs1]
    exact (congrArg List.length (voting_congr (s := s) fun y => by cases y <;> rfl)).trans h3
  have hout : out = outvoted (threePairs ab ac bc) := by
    simp only [out, hpairs]
    exact if_pos rfl
  have hjudged : judged = (outvoted (threePairs ab ac bc)).foldl (State.outvote (threePairs ab ac bc))
      ((s.at_ t).snapped ab ac bc) := by
    rw [← hout, ← hs1, ← hpairs]
    rfl
  rw [if_neg (by simp [s0, hf, hv]), if_neg (by omega), hjudged, hs1, hpairs]
  split
  · next h => rw [if_pos h.2]
  · next h => rw [if_neg (fun h' => h ⟨hn, h'⟩)]

theorem snapped_voting (s : State) (ab ac bc : Pair) : (s.snapped ab ac bc).voting = s.voting :=
  voting_congr fun y => by cases y <;> rfl

theorem snapped_stopCause (s : State) (ab ac bc : Pair) : (s.snapped ab ac bc).stopCause = s.stopCause := by
  unfold State.stopCause
  rw [snapped_voting]
  rfl

/-- With all three in agreement nothing is counted (R131). -/
theorem exec_snapshotJudgement_agree {s : State} (t : Time) (hf : s.inRst .fabric = false) (hv : s.vot.formed = true)
    (h3 : s.voting.length = 3) (hstop : s.stopCause = none) :
    exec (.snapshotJudgement t .agree .agree .agree) s = .next ((s.at_ t).snapped .agree .agree .agree) := by
  have h3' : ((s.at_ t).snapped .agree .agree .agree).voting.length = 3 := by rw [snapped_voting]; exact h3
  rw [exec_snapshotJudgement_three t _ _ _ hf hv h3, if_neg (by decide)]
  exact congrArg _ (holdLatched_stopNow_of_quiet (not_latched_of_length_three h3') ((snapped_stopCause _ _ _ _).trans hstop))

/-- Lane C outvoted by the two others counts a snapshot disagreement (R128, R131). -/
theorem exec_snapshotJudgement_outvoted {s : State} (t : Time) (k : Nat) (hf : s.inRst .fabric = false)
    (hv : s.vot.formed = true) (h3 : s.voting.length = 3) (hs : s.vot.stopLatch = false) (hk : s.killFree = true)
    (hc : 65 ∉ s.laneC.counted) (hw : s.windowCount .c + 1 < s.lfldN .lanesFenceN) :
    exec (.snapshotJudgement t .agree (.differ k) (.differ k)) s =
      .next (((s.at_ t).snapped .agree (.differ k) (.differ k)).noted .c 2 0 k) := by
  have h3' : ((s.at_ t).snapped .agree (.differ k) (.differ k)).voting.length = 3 := by rw [snapped_voting]; exact h3
  have hstop : ((s.at_ t).snapped .agree (.differ k) (.differ k)).stopCause = none := stopCause_of_three h3' hs hk
  have hout : outvoted (threePairs .agree (.differ k) (.differ k)) = [.c] := by
    simp [outvoted, threePairs, lanePairs, pairOk, Lane.all]
  have hkind : pairKind ((lanePairs (threePairs .agree (.differ k) (.differ k)) .c).filter (fun p => !pairOk p)) = (2, k) := by
    simp [pairKind, threePairs, lanePairs, pairOk]
  have hdis : State.outvote (threePairs .agree (.differ k) (.differ k)) ((s.at_ t).snapped .agree (.differ k) (.differ k)) .c =
      ((s.at_ t).snapped .agree (.differ k) (.differ k)).noted .c 2 0 k := by
    simp only [State.outvote, hkind]
    exact disagree_of_few k (voting_of_length_three h3' .c) hs hc h3' hw
  rw [exec_snapshotJudgement_three t _ _ _ hf hv h3, if_neg (by simp [threePairs, pairOk]), hout, List.foldl_cons,
    List.foldl_nil, hdis, holdLatched_stopNow_of_quiet]
  · intro y
    rw [noted_vote]
    exact not_latched_of_length_three h3' y
  · rw [noted_stopCause, hstop]

/-- With no two in agreement the stage stops (R140). -/
theorem exec_snapshotJudgement_differ {s : State} (t : Time) (k : Nat) (hf : s.inRst .fabric = false)
    (hv : s.vot.formed = true) (h3 : s.voting.length = 3) :
    exec (.snapshotJudgement t (.differ k) (.differ k) (.differ k)) s =
      .next (((s.at_ t).snapped (.differ k) (.differ k) (.differ k)).disagreeStop 2).stopNow := by
  rw [exec_snapshotJudgement_three t _ _ _ hf hv h3, if_pos (by simp [threePairs, pairOk])]

/-- Settles O18: a disagreement noted, and what the voter does after it by the lanes that vote. -/
theorem disagreementsCounted : Obligations.DisagreementsCounted := by
  refine ⟨⟨fun s t x g hf hv hs hg hx h3 hc hk hw => ?_, fun s t x g hf hv hg hc hn hstop =>
      exec_gateDisagreement_of_counted t hf hv hg hc hn hstop,
    fun s t x g hf hv hs hg hx h2 hc hn => ?_⟩, fun s t hf hv h3 hstop => ?_, fun s t k hf hv h3 hs hk hc hw => ?_,
    fun s t k hf hv h3 hs => ?_⟩
  · rw [exec_gateDisagreement_of_few t hf hv hs hg h3 hc hk hw, State.noted, updLane_eq_const, at_lane]
    exact ⟨_, rfl, rfl, congrArg (· :: _) (disKey_gate hg), hx, rfl⟩
  · obtain ⟨haon, hnv, hddr, hlatch, -, -⟩ := noted_frame (s.at_ t) x 0 g 0
    obtain ⟨hstop, hformed, hlink, hlow, hlive, hstill, hnv', hddr'⟩ := disagreeStop_stopNow (hlatch.trans hs) 0
    rw [haon] at hlive hstill
    exact ⟨_, exec_gateDisagreement_of_two t hf hv hs hg hx h2 hc hn, hstop, hformed, hlink, hlow, hlive, hstill,
      congrArg Nv.fuse (hnv'.trans hnv), hddr'.trans hddr⟩
  · rw [exec_snapshotJudgement_agree t hf hv h3 hstop]
    exact ⟨_, _, _, rfl, rfl, rfl, rfl⟩
  · rw [exec_snapshotJudgement_outvoted t k hf hv h3 hs hk hc hw]
    exact ⟨_, _, _, _, rfl, rfl, rfl, rfl, rfl, rfl, rfl, rfl, hs⟩
  · obtain ⟨hstop, hformed, -, hlow, -, -, hnv, hddr⟩ :=
      disagreeStop_stopNow (s := (s.at_ t).snapped (.differ k) (.differ k) (.differ k)) hs 2
    exact ⟨_, exec_snapshotJudgement_differ t k hf hv h3, hstop, hformed, hlow, congrArg Nv.fuse hnv, hddr⟩


end Sys2Proof.Machine

/-! SUPPORT. The vote and the kill (chapter 5): ready signals, the lanes that join at the wait's end, what the fall of the kill line
sets and every stop keeps, the lanes' watchdog. -/
namespace Sys2Proof.Machine

/-! ### Ready signals -/

section
variable {s : State} {x : Lane} (t : Time) (hf : s.inRst .fabric = false) (hx : s.inRst (.lane x) = false)
  (hc : (s.lane x).clockFailed = false) (hr : (s.lane x).ready = false) (hi : s.cfg.lane.isSome = true)
  (hl : (s.lane x).vote ≠ .latched)
include hf hx hc hr hi hl

theorem laneReady_taken : ¬((s.at_ t).inRst .fabric = true ∨ (s.at_ t).inRst (.lane x) = true ∨
    ((s.at_ t).lane x).clockFailed = true ∨ ((s.at_ t).lane x).ready = true ∨ (s.at_ t).cfg.lane.isNone = true ∨
    ((s.at_ t).lane x).vote = .latched) := by
  have hi' : s.cfg.lane ≠ none := Option.isSome_iff_ne_none.mp hi
  simp [hf, hx, hc, hr, hi', hl]

/-- A lane ready with the vote formed awaits the next voted mark (R65, R453). -/
theorem exec_laneReady_formed (hv : s.vot.formed = true) :
    exec (.laneReady t x true) s = .next ((s.at_ t).updLane x (fun l => { l with ready := true, awaitingMark := true })) := by
  have hv' : (s.at_ t).vot.formed = true := hv
  show execLaneReady t x true s = _
  unfold execLaneReady
  dsimp only
  rw [if_neg (laneReady_taken t hf hx hc hr hi hl), if_neg (by decide), if_pos (by simpa using hv), hv']

/-- A copy that fails its CRC is reported and holds the lane by its fence source (R453). -/
theorem exec_laneReady_badCopy :
    exec (.laneReady t x false) s = .next
      ((({ s.at_ t with cfg := { s.cfg with retainedOk := false } }).report 0xB03 0x71 0).assertSource (.fence x)
        (s.fused (.fence x)) [x] true) :=
  (if_neg (laneReady_taken t hf hx hc hr hi hl)).trans (if_pos rfl)

end

/-! ### The vote forms -/

/-- A ready lane joins the vote that forms (R144). -/
def State.joinVote (s : State) (x : Lane) : State :=
  s.updLane x (fun l => { l with vote := .voting, awaitingMark := false, reloadIn := 0, clean := 0, dirty := false, window := []
                                 counted := [], reloads := 0, own := false, strobeAt := some s.now })

theorem foldl_joinVote_eq (l : List Lane) (s : State) :
    ∃ a b c, l.foldl State.joinVote s = { s with laneA := a, laneB := b, laneC := c } := by
  induction l generalizing s with
  | nil => exact ⟨_, _, _, rfl⟩
  | cons x l ih =>
    obtain ⟨a, b, c, h⟩ := ih (s.joinVote x)
    exact ⟨a, b, c, by rw [List.foldl_cons, h]; cases x <;> rfl⟩

/-- The lanes that join vote, and no other lane changes. -/
theorem foldl_joinVote_lane (l : List Lane) (s : State) (y : Lane) :
    (y ∈ l → ((l.foldl State.joinVote s).lane y).vote = .voting) ∧
      (y ∉ l → (l.foldl State.joinVote s).lane y = s.lane y) := by
  induction l generalizing s with
  | nil => simp
  | cons x l ih =>
    obtain ⟨hin, hout⟩ := ih (s.joinVote x)
    refine ⟨fun h => ?_, fun h => ?_⟩
    · by_cases hl : y ∈ l
      · exact hin hl
      · obtain rfl : y = x := (List.mem_cons.mp h).resolve_right hl
        rw [List.foldl_cons, hout hl, State.joinVote, updLane_self]
    · rw [List.mem_cons, not_or] at h
      rw [List.foldl_cons, hout h.2, State.joinVote, updLane_other s x y _ h.1]

theorem legState_lane (s : State) (k : Nat) (st : LegState) (x : Lane) : (s.legState k st).lane x = s.lane x := by
  cases x <;> simp [State.lane]

/-- The retained leg record is taken once; beside the legs nothing changes (R143). -/
theorem takeRetained_shows (s : State) :
    s.takeRetained.vot = { s.vot with useRetained := false } ∧ (∀ x, s.takeRetained.lane x = s.lane x) ∧
      s.takeRetained.aon = s.aon ∧ s.takeRetained.fes = s.fes ∧ sameSward s s.takeRetained ∧ sameStore s s.takeRetained := by
  unfold State.takeRetained
  split
  · next h =>
    have hu : s.vot.useRetained = false := by simpa using h
    exact ⟨by rw [← hu], fun _ => rfl, rfl, rfl, ⟨rfl, rfl, rfl, rfl⟩, rfl, rfl⟩
  · extract_lets u
    have hpass : besideLegs s u ∧ ∀ x, u.lane x = s.lane x := by
      refine List.foldlRecOn (motive := fun v => besideLegs s v ∧ ∀ x, v.lane x = s.lane x) _ _
        ⟨besideLegs_refl s, fun _ => rfl⟩ fun v hv k _ => ?_
      have hleg : ∀ st, besideLegs s (v.legState k st) ∧ ∀ x, (v.legState k st).lane x = s.lane x := fun st =>
        ⟨besideLegs_trans hv.1 (legState_besideLegs v k st), fun x => (legState_lane v k st x).trans (hv.2 x)⟩
      split
      · exact hleg _
      · split
        · exact hv
        · exact hleg _
    clear_value u
    obtain ⟨⟨-, -, -, hvot, hfes, haon, hsward, hstore⟩, hlanes⟩ := hpass
    refine ⟨congrArg (fun v : Vot => { v with useRetained := false }) hvot, fun x => ?_, haon, hfes, hsward, hstore⟩
    rw [← hlanes x]
    cases x <;> rfl

/-- The state in which the ready lanes have joined and the first voted mark is issued (R144). -/
def State.firstVote (s : State) (ready : List Lane) : State :=
  let s := ready.foldl State.joinVote s
  let f := s.rings.fabric
  { s with
    vot := { s.vot with formed := true, stopLatch := false, mark := 0, period := 10000, markAt := s.now, offSince := some 0
                        fresh := true, clearSince := none }
    plan := { s.plan with ticking := false, rounded := 0, tickDue := false, basis := [], tickOk := false }
    rings := { s.rings with lanes := ⟨f.now s.now, s.now, f.holdover⟩ } }

/-- The lanes ready of those awaited (R144). -/
def State.readyLanes (s : State) : List Lane := s.awaited.filter (fun x => (s.lane x).ready)

/-- The wait is over. -/
def State.waited (s : State) : State := { s with vot := { s.vot with waitSince := none } }

theorem formVote_of_two_ready {s : State} (h : 2 ≤ s.readyLanes.length) :
    s.formVote = (s.waited.firstVote s.readyLanes).takeRetained :=
  if_neg (Nat.not_lt.mpr h)

theorem formVote_of_few_ready {s : State} (h : s.readyLanes.length < 2) : s.formVote = s.waited.disagreeStop 1 :=
  if_pos h

theorem firstVote_shows (s : State) (l : List Lane) :
    let s' := s.firstVote l
    s'.vot.formed = true ∧ s'.vot.stopLatch = false ∧ s'.vot.mark = 0 ∧ s'.vot.waitSince = s.vot.waitSince ∧
      (∀ y, s'.lane y = (l.foldl State.joinVote s).lane y) ∧ s'.aon = s.aon ∧ s'.fes = s.fes ∧ sameSward s s' ∧
      sameStore s s' := by
  obtain ⟨a, b, c, h⟩ := foldl_joinVote_eq l s
  unfold State.firstVote
  rw [h]
  exact ⟨rfl, rfl, rfl, rfl, fun y => by cases y <;> rfl, rfl, rfl, ⟨rfl, rfl, rfl, rfl⟩, rfl, rfl⟩

/-- The wait's end comes to the vote's forming (R144). -/
theorem exec_formationWaitExpiry_due {s : State} {t t0 : Time} (hf : s.inRst .fabric = false) (hv : s.vot.formed = false)
    (hw : s.vot.waitSince = some t0) (ht : t0 + s.lfldN .lanesFormationWait * 100000 ≤ max s.now t) :
    exec (.formationWaitExpiry t) s = .next (s.at_ t).formVote.stopNow := by
  have he : (s.at_ t).elapsed t0 ((s.at_ t).lfldN .lanesFormationWait * 100 * us) = true := by
    rw [elapsed_iff, Nat.mul_assoc]
    exact ht
  show execFormationWaitExpiry t s = _
  unfold execFormationWaitExpiry
  dsimp only
  rw [show (s.at_ t).vot.waitSince = some t0 from hw]
  exact if_neg (by simp [hf, hv, he])

theorem sameSward_trans {s s' s'' : State} (h : sameSward s s') (h' : sameSward s' s'') : sameSward s s'' := by
  simp only [sameSward] at h h' ⊢
  simp only [h', h, and_self]

theorem sameStore_trans {s s' s'' : State} (h : sameStore s s') (h' : sameStore s' s'') : sameStore s s'' :=
  ⟨h'.1.trans h.1, h'.2.trans h.2⟩

/-- With at least two lanes ready they vote from mark 0, and beside the legs nothing else changes (R144). -/
theorem formVote_ready_shows {s : State} (h : 2 ≤ s.readyLanes.length) :
    let s' := s.formVote
    s'.vot.formed = true ∧ s'.vot.stopLatch = false ∧ s'.vot.mark = 0 ∧ s'.vot.waitSince = none ∧
      (∀ x, (x ∈ s.readyLanes → (s'.lane x).vote = .voting) ∧ (x ∉ s.readyLanes → s'.lane x = s.lane x)) ∧
      s'.aon = s.aon ∧ s'.fes = s.fes ∧ sameSward s s' ∧ sameStore s s' := by
  obtain ⟨hformed, hlatch, hmark, hwait, hlanes, haon, hfes, hsward, hstore⟩ := firstVote_shows s.waited s.readyLanes
  obtain ⟨kvot, klanes, kaon, kfes, ksward, kstore⟩ := takeRetained_shows (s.waited.firstVote s.readyLanes)
  rw [formVote_of_two_ready h]
  simp only [kvot, klanes, kaon, kfes]
  refine ⟨hformed, hlatch, hmark, hwait, fun x => ?_, haon, hfes, sameSward_trans hsward ksward,
    sameStore_trans hstore kstore⟩
  obtain ⟨hin, hout⟩ := foldl_joinVote_lane s.readyLanes s.waited x
  rw [hlanes]
  exact ⟨hin, fun hx => (hout hx).trans (by cases x <;> rfl)⟩

theorem mem_readyLanes {s : State} {x : Lane} : x ∈ s.readyLanes ↔ x ∈ s.awaited ∧ (s.lane x).ready = true :=
  List.mem_filter

theorem exec_formationWaitExpiry_ready {s : State} {t t0 : Time} (hf : s.inRst .fabric = false) (hv : s.vot.formed = false)
    (hw : s.vot.waitSince = some t0) (ht : t0 + s.lfldN .lanesFormationWait * 100000 ≤ max s.now t)
    (hr : 2 ≤ s.readyLanes.length) (hl : s.aon.mode.live = false) :
    ∃ s', exec (.formationWaitExpiry t) s = .next s' ∧ s'.vot.formed = true ∧ s'.vot.stopLatch = false ∧ s'.vot.mark = 0 ∧
      s'.vot.waitSince = none ∧
      (∀ x, (x ∈ s.awaited ∧ (s.lane x).ready = true → (s'.lane x).vote = .voting) ∧
        (x ∉ s.awaited ∨ (s.lane x).ready = false → s'.lane x = s.lane x)) ∧
      s'.aon = s.aon ∧ s'.fes = s.fes ∧ sameSward s s' ∧ sameStore s s' := by
  have hr' : (s.at_ t).readyLanes = s.readyLanes := rfl
  obtain ⟨hformed, hlatch, hmark, hwait, hlanes, haon, hrest⟩ := formVote_ready_shows (hr'.symm ▸ hr)
  have hstill : (s.at_ t).formVote.stopNow = (s.at_ t).formVote := stopNow_of_not_live (by rw [haon]; exact hl)
  rw [exec_formationWaitExpiry_due hf hv hw ht, hstill]
  refine ⟨_, rfl, hformed, hlatch, hmark, hwait, fun x => ?_, haon, hrest⟩
  obtain ⟨hin, hout⟩ := hlanes x
  rw [at_lane] at hout
  refine ⟨fun h => hin (mem_readyLanes.mpr h), fun h => hout fun hx => ?_⟩
  obtain ⟨ha, hready⟩ := mem_readyLanes.mp hx
  exact h.elim (· ha) fun hno => Bool.noConfusion (hno.symm.trans hready)

theorem exec_formationWaitExpiry_few {s : State} {t t0 : Time} (hf : s.inRst .fabric = false) (hv : s.vot.formed = false)
    (hw : s.vot.waitSince = some t0) (ht : t0 + s.lfldN .lanesFormationWait * 100000 ≤ max s.now t)
    (hr : s.readyLanes.length < 2) (hl : s.aon.mode.live = false) :
    exec (.formationWaitExpiry t) s = .next ((s.at_ t).waited.disagreeStop 1) := by
  have hr' : (s.at_ t).readyLanes.length < 2 := hr
  rw [exec_formationWaitExpiry_due hf hv hw ht, formVote_of_few_ready hr', stopNow_of_not_live]
  simpa [State.waited, State.at_] using hl

/-! ### The stage kill -/

/-- The kill stands: its line low, its latch and event set, no gate driven (R145). -/
structure State.Killed (s : State) : Prop where
  pin : s.pin.stageKill = true
  latch : s.vot.killLatch = true
  event : s.vot.event.getLsbD 9 = true
  undriven : s.undriven

theorem StopStands.killed {s s' : State} (h : StopStands s s') (hk : s.Killed) : s'.Killed :=
  ⟨h.killPin.trans hk.pin, h.killLatch hk.latch, by rw [h.event]; exact hk.event, h.undriven hk.undriven⟩

theorem killSet_killed {s : State} (h : s.pin.stageKill = true) : s.killSet.Killed :=
  ⟨h, rfl, getLsbD_setBit_self _ (by decide), gatesLow_undriven s⟩

theorem disagreeStop_killed {s : State} (h : s.Killed) (detail : Nat) :
    (s.disagreeStop detail).Killed ∧ (s.disagreeStop detail).vot.stopLatch = true := by
  by_cases hs : s.vot.stopLatch = true
  · rw [disagreeStop_of_stopLatch hs]
    exact ⟨h, hs⟩
  · obtain ⟨hlatch, -, -, hu, hkill, hev⟩ := disagreeStop_shows (Bool.eq_false_iff.mpr hs) detail
    refine ⟨⟨by simpa using h.pin, hkill.trans h.latch, ?_, hu⟩, hlatch⟩
    rw [hev]
    exact getLsbD_setBit_of_getLsbD 8 h.event

theorem stopCause_cases (s : State) :
    s.stopCause = none ∨ s.stopCause = some .laneDisagree ∨ s.stopCause = some .stageKill := by
  unfold State.stopCause
  split
  · exact .inr (.inl rfl)
  · split
    · exact .inl rfl
    · exact .inr (.inr rfl)

/-- Whichever condition takes the stage to STOPPED, the kill stands (R23, R145). -/
theorem stopNow_killed {s : State} (h : s.Killed) : s.stopNow.Killed := by
  by_cases hl : s.aon.mode.live = true
  · rcases stopCause_cases s with hc | hc | hc
    · rw [stopNow_of_stopCause_none hc]
      exact h
    · obtain ⟨hk, hlatch⟩ := disagreeStop_killed h 1
      rw [stopNow_of_laneDisagree hl hc]
      exact (transition_stopped (by simpa using hl) fun _ => hlatch).1.killed hk
    · have hlow : s.gatesLow.Killed := ⟨h.pin, h.latch, h.event, gatesLow_undriven s⟩
      rw [stopNow_of_stageKill hl hc]
      exact (transition_stopped (by simpa using hl) (by simp)).1.killed hlow
  · rw [stopNow_of_not_live (Bool.eq_false_iff.mpr hl)]
    exact h

/-- With two lanes voting and no stop latched, the kill is what takes a live mode to STOPPED (R20, R145). -/
theorem stopNow_of_killed {s : State} (h : s.Killed) (hl : s.aon.mode.live = true) (hs : s.vot.stopLatch = false)
    (hv : 2 ≤ s.voting.length) :
    s.stopNow.aon.mode = .stopped ∧ s.stopNow.aon.cause = .stageKill ∧ s.stopNow.aon.prevMode = s.aon.mode := by
  have hc : s.stopCause = some .stageKill := by
    simp [State.stopCause, State.killFree, hs, h.pin, Nat.not_lt.mpr hv]
  obtain ⟨-, -, haon⟩ := transition_stopped (s := s.gatesLow) (c := .stageKill) (by simpa using hl) (by simp)
  rw [stopNow_of_stageKill hl hc]
  simpa using haon

/-- The line of the stage kill falls, or rises. -/
def State.withKillPin (s : State) (low : Bool) : State := { s with pin := { s.pin with stageKill := low } }

theorem exec_stageKill_low {s : State} (t : Time) (hf : s.inRst .fabric = false) :
    exec (.stageKill t true) s = .next ((s.at_ t).withKillPin true).killSet.stopNow := by
  have hgo : ¬((s.at_ t).withKillPin true).inRst .fabric = true := fun h => Bool.noConfusion (hf.symm.trans h)
  exact (if_neg hgo).trans (if_pos rfl)

theorem exec_stageKill_high {s : State} (t : Time) (hf : s.inRst .fabric = false) (hk : s.vot.killLine = false) :
    exec (.stageKill t false) s = .next { s.at_ t with
      pin := { s.pin with stageKill := false }, vot := { s.vot with killHighSince := some (max s.now t) } } := by
  have hgo : ¬((s.at_ t).withKillPin false).inRst .fabric = true := fun h => Bool.noConfusion (hf.symm.trans h)
  refine (if_neg hgo).trans ((if_neg (by decide)).trans ?_)
  simp [State.at_, hk]

/-! ### The lanes' watchdog -/

theorem exec_laneWatchdog_due {s : State} {t t0 : Time} {x : Lane} (h : (s.lane x).strobeAt = some t0)
    (hv : (s.lane x).vote = .voting ∨ (s.lane x).vote = .shadow) (ht : t0 + 80000 ≤ max s.now t) :
    exec (.laneWatchdog t x) s = .next ((s.at_ t).assertReset (.laneWdog x) (s.fused (.laneWdog x)) [x]) := by
  have he : (s.at_ t).elapsed t0 (80 * us) = true := (elapsed_iff _ _ _).mpr ht
  show execLaneWatchdog t x s = _
  unfold execLaneWatchdog
  dsimp only
  rw [at_lane, h]
  exact if_pos ⟨hv, he⟩

theorem exec_laneWatchdog_early {s : State} {t t0 : Time} {x : Lane} (h : (s.lane x).strobeAt = some t0)
    (ht : max s.now t < t0 + 80000) : exec (.laneWatchdog t x) s = .next (s.at_ t) := by
  have he : ¬(s.at_ t).elapsed t0 (80 * us) = true := fun he => Nat.not_le.mpr ht ((elapsed_iff _ _ _).mp he)
  show execLaneWatchdog t x s = _
  unfold execLaneWatchdog
  dsimp only
  rw [at_lane, h]
  exact if_neg fun h => he h.2

/-- Settles O19: the vote by the lanes that are ready, the kill by what its line's fall sets and every stop keeps, the watchdog by
the time since the last strobe. -/
theorem voteFormsAndStops : Obligations.VoteFormsAndStops := by
  refine ⟨⟨fun s t x hf hx hc hr hi hl hv => exec_laneReady_formed t hf hx hc hr hi hl hv,
      fun s t x hf hx hc hr hi hl => exec_laneReady_badCopy t hf hx hc hr hi hl,
      fun s t t0 hf hv hw ht hr hl => exec_formationWaitExpiry_ready hf hv hw ht hr hl,
      fun s t t0 hf hv hw ht hr hl hs => ?_⟩,
    fun s t hf => ?_, fun s t hf hk => exec_stageKill_high t hf hk,
    fun s t t0 x h hv ht => exec_laneWatchdog_due h hv ht, fun s t t0 x h ht => exec_laneWatchdog_early h ht⟩
  · obtain ⟨hlatch, hformed, -⟩ := disagreeStop_shows (s := (s.at_ t).waited) hs 1
    refine ⟨_, exec_formationWaitExpiry_few hf hv hw ht hr hl, hformed, hlatch, ?_⟩
    simp [sameSward, sameStore, State.waited, State.at_]
  · have hk : ((s.at_ t).withKillPin true).killSet.Killed := killSet_killed rfl
    obtain ⟨hpin, hlatch, hev, hlow⟩ := stopNow_killed hk
    refine ⟨_, exec_stageKill_low t hf, hpin, hlatch, hev, hlow, fun hl hs hv => stopNow_of_killed hk hl hs hv, fun hl => ?_⟩
    rw [stopNow_of_not_live (s := ((s.at_ t).withKillPin true).killSet) hl]
    exact ⟨rfl, ⟨rfl, rfl, rfl, rfl⟩, ⟨rfl, rfl, rfl⟩, ⟨rfl, rfl⟩, ⟨rfl, rfl, rfl⟩, rfl, rfl⟩

end Sys2Proof.Machine

/-! SUPPORT. Superframe boundaries (R165, R587): the superframe that the Heathline island has taken stands through the rest of the
boundary's work, what a boundary taken again leaves, and what the lanes' boundary makes of the grid power. -/
namespace Sys2Proof.Machine

/-! ### The boundary taken stands -/

/-- The commands that wait, and the superframe of the last boundary that the Heathline island has taken. -/
@[simp] abbrev sameTaken (s s' : State) : Prop := s'.pending = s.pending ∧ s'.htl.sf = s.htl.sf

theorem sameTaken_refl (s : State) : sameTaken s s := ⟨rfl, rfl⟩

theorem sameTaken_trans {s s' s'' : State} (h : sameTaken s s') (h' : sameTaken s' s'') : sameTaken s s'' :=
  ⟨h'.1.trans h.1, h'.2.trans h.2⟩

theorem sameTaken_ite {c : Prop} [Decidable c] {s a b : State} (ha : sameTaken s a) (hb : sameTaken s b) :
    sameTaken s (if c then a else b) := by
  split
  · exact ha
  · exact hb

theorem foldl_sameTaken {α : Type} {f : State → α → State} (hf : ∀ s a, sameTaken s (f s a)) (l : List α) (s : State) :
    sameTaken s (l.foldl f s) := by
  induction l generalizing s with
  | nil => exact sameTaken_refl s
  | cons a l ih => exact sameTaken_trans (hf s a) (ih (f s a))

/-- `foldl_sameTaken`, with the step's outcome named: the kernel then compares no two forms of the step itself. -/
theorem foldl_sameTaken_of_eq {α : Type} {f : State → α → State} (hf : ∀ s a s', f s a = s' → sameTaken s s') (l : List α)
    (s : State) : sameTaken s (l.foldl f s) := foldl_sameTaken (fun s a => hf s a _ rfl) l s

@[simp] theorem foldl_sf {α : Type} (f : State → α → State) (h : ∀ b a, (f b a).htl.sf = b.htl.sf) (l : List α) (b : State) :
    (l.foldl f b).htl.sf = b.htl.sf := foldl_keeps (fun s => s.htl.sf) f h l b

@[simp] theorem ite_sf (c : Prop) [Decidable c] (a b : Htl) : (if c then a else b).sf = if c then a.sf else b.sf :=
  apply_ite Htl.sf c a b

/-! #### Messages, records and reports -/

@[simp] theorem updPort_sf (s : State) (p : Port) (f : HPort → HPort) : (s.updPort p f).htl.sf = s.htl.sf := rfl

@[simp] theorem State.emitCell_sameTaken (s : State) (p : Port) (c : Cell) : sameTaken s (s.emitCell p c) := by
  simp [State.emitCell]

@[simp] theorem State.emitAll_sameTaken (s : State) (l : List Cell) (flags : Nat) (r : Port × Nat) :
    sameTaken s (s.emitAll l flags r) := by
  simp [State.emitAll]

@[simp] theorem State.broadcast_sameTaken (s : State) (l : List Cell) (dst cls seq : Nat) :
    sameTaken s (s.broadcast l dst cls seq) := by
  simp only [State.broadcast]
  split <;> simp

@[simp] theorem State.htlSend_sameTaken (s : State) (cls service dst : Nat) (payload : List Byte) :
    sameTaken s (s.htlSend cls service dst payload) := by
  simp [State.htlSend, State.htlTake]

@[simp] theorem State.htlNext_sameTaken (s : State) (service : Nat) (p : Port) (payload : List Byte) :
    sameTaken s (s.htlNext service p payload) := by
  simp only [State.htlNext, State.htlTake]
  split <;> simp

@[simp] theorem State.stage_sameTaken (s : State) (type sub : Nat) (payload : List Byte) (flush : Bool) :
    sameTaken s (s.stage type sub payload flush) := by
  simp [State.stage, State.stageRec, State.appendRec, State.toNeighbours, State.brwSend]

@[simp] theorem State.item_sameTaken (s : State) (type : Nat) (content : List Byte) : sameTaken s (s.item type content) := by
  simp only [State.item]
  split <;> simp

@[simp] theorem State.notify_sameTaken (s : State) (code : Nat) (content : List Byte) :
    sameTaken s (s.notify code content) := by
  simp [State.notify]

/-! #### Links, presence and the domain -/

@[simp] theorem State.takeParent_sameTaken (s : State) (x : Option (Port × Nat)) : sameTaken s (s.takeParent x) := by
  simp [State.takeParent]

@[simp] theorem State.chooseMaster_sameTaken (s : State) (force : Bool) : sameTaken s (s.chooseMaster force) := by
  simp only [State.chooseMaster, State.becomeMaster]
  (repeat' split) <;> simp

@[simp] theorem State.freezeRing_sameTaken (s : State) (p : Port) : sameTaken s (s.freezeRing p) := by
  simp only [State.freezeRing, State.captureRecord, State.setFrozen]
  (repeat' split) <;> simp

@[simp] theorem State.rejudge_sameTaken (s : State) : sameTaken s s.rejudge := by
  unfold State.rejudge
  extract_lets now gone _ s1 s2
  have h1 : sameTaken s s1 := ⟨rfl, rfl⟩
  have h2 : sameTaken s1 s2 := foldl_sameTaken (fun s p => by
    split
    · exact sameTaken_ite (s.freezeRing_sameTaken p) (sameTaken_refl s)
    · exact sameTaken_refl s) _ s1
  exact sameTaken_trans (sameTaken_trans h1 h2) (s2.chooseMaster_sameTaken false)

@[simp] theorem State.ageParts_sameTaken (s : State) : sameTaken s s.ageParts := by
  simp [State.ageParts, State.drop]

@[simp] theorem State.publishLink_sameTaken (s : State) : sameTaken s s.publishLink := by
  simp [State.publishLink, State.keepRec]

@[simp] theorem State.landRing_sameTaken (s : State) (l : Landing) (stream p : Nat) (bs : List Byte) :
    sameTaken s (s.landRing l stream p bs) := by
  simp [State.landRing]

@[simp] theorem State.deliver_sameTaken (s : State) (service : Nat) (bs : List Byte) (slot : Option Nat) :
    sameTaken s (s.deliver service bs slot) := by
  simp [State.deliver]

@[simp] theorem State.publishSummary_sameTaken (s : State) : sameTaken s s.publishSummary := by
  simp [State.publishSummary, State.takeSummary]

@[simp] theorem State.domainFormed_sameTaken (s : State) : sameTaken s s.domainFormed := by
  simp [State.domainFormed]

/-! #### The ledger and the groups -/

@[simp] theorem State.ledgerRecord_sameTaken (s : State) (e : LedgerEntry) (closing : Bool) :
    sameTaken s (s.ledgerRecord e closing) := by
  simp [State.ledgerRecord]

@[simp] theorem State.openLedger_sameTaken (s : State) (e : LedgerEntry) : sameTaken s (s.openLedger e) := by
  simp [State.openLedger]

@[simp] theorem State.closeLedger_sameTaken (s : State) (e : LedgerEntry) : sameTaken s (s.closeLedger e) := by
  simp only [State.closeLedger]
  (repeat' split) <;> simp

@[simp] theorem State.closeLedgers_sameTaken (s : State) (p : LedgerEntry → Bool) : sameTaken s (s.closeLedgers p) :=
  foldl_sameTaken (fun s e => s.closeLedger_sameTaken e) _ s

@[simp] theorem State.dropGroups_sameTaken (s : State) : sameTaken s s.dropGroups := by
  simp [State.dropGroups]

@[simp] theorem State.clipStep_sameTaken (s : State) : sameTaken s s.clipStep := by
  simp only [State.clipStep]
  split <;> simp

@[simp] theorem State.enforce_sameTaken (s : State) (tag : Nat) (a : Action) : sameTaken s (s.enforce tag a) := by
  simp only [State.enforce]
  split <;> simp [State.groupLedger]

@[simp] theorem State.publishReq_sameTaken (s : State) (tag : Nat) : sameTaken s (s.publishReq tag) := by
  simp only [State.publishReq]
  split <;> simp

@[simp] theorem State.takeDecision_sameTaken (s : State) (d : DecRec) : sameTaken s (s.takeDecision d) := by
  simp only [State.takeDecision]
  (repeat' split) <;> simp

@[simp] theorem State.sameTaken_decide_ (s : State) (d : DecRec) : sameTaken s (s.decide_ d) := by
  simp [State.decide_]

@[simp] theorem State.offer_sameTaken (s : State) (tag : Nat) (a : Action) : sameTaken s (s.offer tag a) := by
  simp only [State.offer]
  (repeat' split) <;> simp

@[simp] theorem State.steer_sameTaken (s : State) (tag : Nat) : sameTaken s (s.steer tag) := by
  simp only [State.steer]
  (repeat' split) <;> simp

@[simp] theorem State.ripen_sameTaken (s : State) (tag : Nat) : sameTaken s (s.ripen tag) := by
  simp only [State.ripen]
  (repeat' split) <;> simp

@[simp] theorem State.matchUp_sameTaken (s : State) (g : CGroup) : sameTaken s (s.matchUp g) := by
  refine sameTaken_ite (sameTaken_refl s) (foldl_sameTaken (fun s p => ?_) _ s)
  split
  · exact sameTaken_ite (by simp) (sameTaken_refl s)
  · exact sameTaken_refl s

@[simp] theorem State.renewRecord_sameTaken (s : State) (tag : Nat) : sameTaken s (s.renewRecord tag) := by
  simp only [State.renewRecord]
  split <;> simp

@[simp] theorem State.serve_sameTaken (s : State) (tag : Nat) : sameTaken s (s.serve tag) := by
  unfold State.serve
  split
  · exact sameTaken_refl s
  · next g _ =>
    extract_lets n s1 s2 s3 inForce _ s4 joining
    have h1 : sameTaken s s1 := by
      unfold s1
      split
      · exact sameTaken_refl s
      · exact sameTaken_ite (by simp) (sameTaken_refl s)
    clear_value s1
    have h2 : sameTaken s s2 := sameTaken_trans h1 (foldl_sameTaken_of_eq (fun s r s' e => by
      split at e <;> (subst e; simp)) _ s1)
    clear_value s2
    have h3 : sameTaken s s3 := by
      unfold s3
      split
      · exact h2
      · exact sameTaken_ite (sameTaken_trans h2 (by simp)) h2
    clear_value s3
    have h4 : sameTaken s s4 := sameTaken_ite (sameTaken_trans h3 (by simp)) h3
    clear_value s4
    refine sameTaken_ite h4 (sameTaken_ite h4 (sameTaken_ite ?_ ?_))
    · exact sameTaken_trans h4 (foldl_sameTaken (fun s p => by simp) _ s4)
    · split
      · exact h4
      · exact sameTaken_trans h4 (foldl_sameTaken (fun s p => by simp) _ s4)

@[simp] theorem State.groupBoundary_sameTaken (s : State) (tag : Nat) : sameTaken s (s.groupBoundary tag) := by
  simp only [State.groupBoundary]
  split <;> simp

@[simp] theorem State.concordBoundary_sameTaken (s : State) : sameTaken s s.concordBoundary := by
  simp [State.concordBoundary]

/-! ### Heathline's boundary (R420, R422, R432, R587) -/

/-- A superframe whose boundary has been taken is not taken again. -/
theorem htlBoundary_of_taken {s : State} (h : s.htl.sf = some s.htlSf) : s.htlBoundary = s := if_pos (.inr h)

theorem stepRing_of_none {s : State} (h : s.htl.stepTo = none) : s.stepRing = s := by
  rw [State.stepRing, h]

/-- With no step owed, the boundary takes the superframe on the counter, and the rest of its work leaves that and the commands
that wait. -/
theorem htlBoundary_sameTaken {s : State} (hu : s.htlUp = true) (hs : s.htl.stepTo = none) (h : s.htl.sf ≠ some s.htlSf) :
    sameTaken { s with htl := { s.htl with sf := some s.htlSf } } s.htlBoundary := by
  have hgo : ¬((!s.htlUp) = true ∨ s.htl.sf = some s.htlSf) := by simp [hu, h]
  unfold State.htlBoundary
  rw [if_neg hgo, stepRing_of_none hs]
  simp

/-! ### The lanes' boundary (R165, R587) -/

theorem lanesBoundary_of_taken {s : State} (h : s.htl.sfLanes = some (sfOf (s.rings.lanes.now s.now))) :
    s.lanesBoundary = s := if_pos h

/-- Where no grid power has been summed the lanes only take the superframe. -/
theorem lanesBoundary_of_count_zero {s : State} (h : s.htl.sfLanes ≠ some (sfOf (s.rings.lanes.now s.now)))
    (hc : s.fes.count = 0) :
    s.lanesBoundary = { s with htl := { s.htl with sfLanes := some (sfOf (s.rings.lanes.now s.now)) } } :=
  (if_neg h).trans (if_pos hc)

/-- The mean of what has been summed is the superframe's grid power, and the sum starts again. -/
theorem lanesBoundary_of_count_ne_zero {s : State} (h : s.htl.sfLanes ≠ some (sfOf (s.rings.lanes.now s.now)))
    (hc : s.fes.count ≠ 0) :
    s.lanesBoundary = { s with
      htl := { s.htl with sfLanes := some (sfOf (s.rings.lanes.now s.now)) }
      fes := { s.fes with
        pg := s.fes.sum / s.fes.count, flat := (s.fes.sum / s.fes.count :: s.fes.flat).take 1000, sum := 0, count := 0 } } :=
  (if_neg h).trans (if_neg hc)

/-- Settles O57: a boundary by whether its superframe has been taken; what Heathline's takes stands through the rest of its work,
and the lanes' takes a mean where grid power has been summed. -/
theorem boundariesOnce : Obligations.BoundariesOnce := by
  refine ⟨fun s t h => ?_, fun s t hu hs h => ?_, fun s t => ⟨fun h => ?_, fun h hc => ?_, fun h hc => ?_⟩⟩
  · exact congrArg _ (htlBoundary_of_taken (s := s.at_ t) h)
  · obtain ⟨hpending, hsf⟩ := htlBoundary_sameTaken (s := s.at_ t) hu hs h
    exact ⟨_, rfl, hsf, hpending, (s.at_ t).htlBoundary_sameForm.1⟩
  · exact congrArg _ (lanesBoundary_of_taken (s := s.at_ t) h)
  · exact congrArg _ (lanesBoundary_of_count_zero (s := s.at_ t) h hc)
  · exact congrArg _ (lanesBoundary_of_count_ne_zero (s := s.at_ t) h hc)

end Sys2Proof.Machine

/-! SUPPORT. The lexicon engine (chapter 8): its commands by what runs and what answers, its queries by what the index and the cache
hold, the start of the priors, the scan after a return, and the services of the mesh that reach it. -/
namespace Sys2Proof.Machine

/-! ### Commands of LEX_CMD (R246, R256) -/

theorem lexOp_of_unanswered {s : State} (op off : Nat) (h : s.inRst .planning = true ∨ s.swd.shed = true) :
    s.lexOp op off = s.report 0x200 0x01 0x02000048 3 := if_pos h

theorem lexOp_of_answered {s : State} (op off : Nat) (hp : s.inRst .planning = false) (hs : s.swd.shed = false) :
    s.lexOp op off = s.lexCmd op off := if_neg (by simp [hp, hs])

theorem lexCmd_of_idle {s : State} {op : Nat} (off : Nat) (h : s.lex.op = none) (h1 : 1 ≤ op) (h5 : op ≤ 5) :
    s.lexCmd op off = { s with lex := { s.lex with op := some (op, off) } } :=
  if_neg (by simp [h]; omega)

theorem lexCmd_of_busy {s : State} {x : Nat × Nat} (op off : Nat) (h : s.lex.op = some x) :
    s.lexCmd op off = s.report 0x200 0x02 0x02000048 := if_pos (.inr (.inr (by rw [h]; rfl)))

theorem lexOp_of_idle {s : State} {op : Nat} (off : Nat) (hp : s.inRst .planning = false) (hs : s.swd.shed = false)
    (h : s.lex.op = none) (h1 : 1 ≤ op) (h5 : op ≤ 5) :
    s.lexOp op off = { s with lex := { s.lex with op := some (op, off) } } :=
  (lexOp_of_answered op off hp hs).trans (lexCmd_of_idle off h h1 h5)

theorem lexOp_of_busy {s : State} {x : Nat × Nat} (op off : Nat) (hp : s.inRst .planning = false) (hs : s.swd.shed = false)
    (h : s.lex.op = some x) : s.lexOp op off = s.report 0x200 0x02 0x02000048 :=
  (lexOp_of_answered op off hp hs).trans (lexCmd_of_busy op off h)

/-! ### Words of a byte string -/

theorem ofLe_replicate_zero (n : Nat) : ofLe (List.replicate n 0) = 0 := by
  induction n with
  | zero => rfl
  | succ n ih => rw [List.replicate_succ, ofLe, ih]; rfl

theorem leAt_replicate_zero (k o n : Nat) : leAt (List.replicate k 0) o n = 0 := by
  rw [leAt, List.drop_replicate, List.take_replicate, ofLe_replicate_zero]

theorem flitWords_replicate_zero (n k : Nat) : flitWords n (List.replicate k 0) = List.replicate n 0 := by
  have hzero : ∀ i ∈ List.range n, BitVec.ofNat 32 (leAt (List.replicate k 0) (4 * i) 4) = 0 :=
    fun i _ => congrArg (BitVec.ofNat 32) (leAt_replicate_zero k (4 * i) 4)
  exact (List.map_congr_left hzero).trans (by rw [List.map_const', List.length_range])

theorem readBytes_drop (m : Mem) (x n o : Nat) : (m.readBytes x n).drop o = m.readBytes (x + o) (n - o) := by
  induction o generalizing x n with
  | zero => rfl
  | succ o ih =>
    cases n with
    | zero => simp [Mem.readBytes]
    | succ n => simp [Mem.readBytes, ih, Nat.add_right_comm, Nat.add_assoc]

theorem readBytes_take (m : Mem) (x : Nat) {n k : Nat} (h : k ≤ n) : (m.readBytes x n).take k = m.readBytes x k := by
  induction k generalizing x n with
  | zero => rfl
  | succ k ih =>
    obtain ⟨n, rfl⟩ : ∃ j, n = j + 1 := ⟨n - 1, by omega⟩
    simp [Mem.readBytes, ih (x + 1) (Nat.le_of_succ_le_succ h)]

/-- The words of bytes read from memory are the words there. -/
theorem flitWords_readBytes (m : Mem) (x : Nat) {n k : Nat} (h : 4 * n ≤ k) :
    flitWords n (m.readBytes x k) = (List.range n).map (fun i => m.readWord (x + 4 * i)) := by
  refine List.map_congr_left fun i hi => ?_
  have hk : 4 ≤ k - 4 * i := by have := List.mem_range.mp hi; omega
  rw [leAt, readBytes_drop, readBytes_take _ _ hk]
  rfl

theorem slotAt_zero (n : Nat) : slotAt n 0 = n * 65536 := Nat.add_zero _

/-! ### Queries (R244, R246) -/

theorem query_of_not_ready {s : State} (op key off : Nat) (h : s.lex.ready = false) :
    s.query op key off = ((6, 0, List.replicate 64 0), s) := by
  simp [State.query, h]

theorem lemFind_of_missing {s : State} {key : Nat} (h : s.lex.slotOf key = none) : s.lemFind key = (none, s) := by
  simp [State.lemFind, h]

theorem lemFind_of_found {s : State} {key n : Nat} (hc : s.lex.checking = false) (h : s.lex.slotOf key = some n) :
    s.lemFind key = (some n, s) := by
  simp [State.lemFind, h, hc]

/-- LOOKUP and READ of a key without a lemma answer MISS. -/
theorem query_of_missing {s : State} {op key : Nat} (off : Nat) (hr : s.lex.ready = true) (h : s.lex.slotOf key = none)
    (hop : op = 1 ∨ op = 5) : s.query op key off = ((1, 0, List.replicate 64 0), s) := by
  rcases hop with rfl | rfl <;> simp [State.query, hr, lemFind_of_missing h]

theorem lookupCount_of_cached {s : State} {n : Nat} {l : Nat × Nat} (h : s.lex.lines.find? (fun p => p.2 == n) = some l) :
    s.lookupCount n = { s with lex := { s.lex with hit := s.lex.hit + 1 } } :=
  if_pos (List.any_eq_true.mpr ⟨l, List.mem_of_find?_eq_some h, by simpa using List.find?_some h⟩)

/-- A core that stands in the cache becomes the most recently used there (R241). -/
theorem bring_of_cached {s : State} {n : Nat} {l : Nat × Nat} (h : s.lex.lines.find? (fun p => p.2 == n) = some l) :
    s.bring n = { s with lex := { s.lex with lines := l :: s.lex.lines.filter (fun q => q.2 != n) } } := by
  simp [State.bring, h]

/-- LOOKUP of a lemma whose core stands in the cache gives its slot and header, and counts a hit. -/
theorem query_lookup_of_cached {s : State} {key n : Nat} {l : Nat × Nat} (off : Nat) (hr : s.lex.ready = true)
    (hc : s.lex.checking = false) (h : s.lex.slotOf key = some n) (hl : s.lex.lines.find? (fun p => p.2 == n) = some l) :
    s.query 1 key off = ((0, n, s.swm.readBytes (slotAt n 0) 64),
      { s with lex := { s.lex with hit := s.lex.hit + 1, lines := l :: s.lex.lines.filter (fun q => q.2 != n) } }) := by
  have hb : (s.lookupCount n).bring n =
      { s with lex := { s.lex with hit := s.lex.hit + 1, lines := l :: s.lex.lines.filter (fun q => q.2 != n) } } := by
    rw [lookupCount_of_cached hl]
    exact bring_of_cached hl
  simp [State.query, hr, lemFind_of_found hc h, hb]

/-- An operation completes with what its query answers: BUSY clears, and code, slot and words are shown. -/
theorem execLexOperationComplete_of_query {s s' : State} {op off r n : Nat} {bs : List Byte} (t : Time) (hu : s.lexUp = true)
    (ho : s.lex.op = some (op, off)) (hq : (s.at_ t).query op s.lex.key.toNat off = ((r, n, bs), s')) :
    execLexOperationComplete t s = .next { s' with lex := { s'.lex with
      op := none, result := r, slot := n, words := flitWords 16 bs } } := by
  have hu' : (s.at_ t).lexUp = true := hu
  simp [execLexOperationComplete, ho, hu', hq, flitWords]

/-! ### The priors (R235, R236) -/

/-- Bringing a core into the cache touches its lines alone (R241). -/
theorem bring_eq_lines (s : State) (n : Nat) : ∃ ls, s.bring n = { s with lex := { s.lex with lines := ls } } := by
  unfold State.bring
  dsimp only
  (repeat' split) <;> exact ⟨_, rfl⟩

theorem foldl_bring_eq_lines {α : Type} (f : α → Nat) (l : List α) (s : State) :
    ∃ ls, l.foldl (fun (s : State) a => s.bring (f a)) s = { s with lex := { s.lex with lines := ls } } := by
  induction l generalizing s with
  | nil => exact ⟨_, rfl⟩
  | cons a l ih =>
    obtain ⟨ls, hb⟩ := bring_eq_lines s (f a)
    rw [List.foldl_cons, hb]
    exact ih _

/-- What the index holds of an image's priors: slots 0 to 255 with their cores' keys. -/
def priorsIndex (im : Image) : List (Nat × Nat) := ((List.range 256).zip im.priors).map (fun c => (c.1, leAt c.2 0 8))

/-- The priors of an image are loaded (R235): their slots and keys stand first in the index, and the engine is ready. -/
def State.withPriors (s : State) (im : Image) (m : Mem) (ls : List (Nat × Nat)) : State :=
  { s with
    swm := m
    lex := { s.lex with
      index := priorsIndex im ++ s.lex.index.filter (fun p => decide (256 ≤ p.1))
      lines := ls, priorsLoaded := true, ready := true } }

theorem execPriorsLoad_of_owed {s : State} {im : Image} (t : Time) (hi : s.cfg.prog = some im) (hu : s.lexUp = true)
    (hl : s.lex.priorsLoaded = false) : ∃ m ls, execPriorsLoad t s = .next ((s.at_ t).withPriors im m ls) := by
  have hu' : (s.at_ t).lexUp = true := hu
  obtain ⟨m, ls, hx⟩ : ∃ m ls, execPriorsLoad t s = .next (((List.range 256).zip im.priors).foldl
      (fun (s : State) c => s.bring c.1) ((s.at_ t).withPriors im m ls)) := by
    simp only [execPriorsLoad, State.at__keeps, hi, hu', hl, Bool.not_true, Bool.false_eq_true, or_self, if_false]
    exact ⟨_, _, rfl⟩
  obtain ⟨ls', hb⟩ := foldl_bring_eq_lines Prod.fst ((List.range 256).zip im.priors) ((s.at_ t).withPriors im m ls)
  exact ⟨m, ls', hx.trans (congrArg _ hb)⟩

theorem slot_lt_of_mem_priorsIndex {im : Image} {p : Nat × Nat} (h : p ∈ priorsIndex im) : p.1 < 256 := by
  obtain ⟨c, hc, rfl⟩ := List.mem_map.mp h
  exact List.mem_range.mp (List.of_mem_zip hc).1

/-- Below slot 256 the index holds the priors of the image and nothing else. -/
theorem filter_priorsIndex_append (im : Image) (l : List (Nat × Nat)) :
    (priorsIndex im ++ l.filter (fun p => decide (256 ≤ p.1))).filter (fun p => decide (p.1 < 256)) = priorsIndex im := by
  have hlow : (priorsIndex im).filter (fun p => decide (p.1 < 256)) = priorsIndex im :=
    List.filter_eq_self.mpr fun p hp => decide_eq_true (slot_lt_of_mem_priorsIndex hp)
  have hhigh : (l.filter (fun p => decide (256 ≤ p.1))).filter (fun p => decide (p.1 < 256)) = [] := by
    rw [List.filter_eq_nil_iff]
    intro p hp
    have := of_decide_eq_true (List.mem_filter.mp hp).2
    simp; omega
  rw [List.filter_append, hlow, hhigh, List.append_nil]

/-! ### The scan after a return (R248) -/

theorem lemCheck_of_right {s : State} {n : Nat} (h : lemN s.swm n 0x3C 4 = lemCrc s.swm n) : s.lemCheck n = s := if_pos h

theorem lemCheck_of_wrong {s : State} {n : Nat} (h : lemN s.swm n 0x3C 4 ≠ lemCrc s.swm n) :
    s.lemCheck n = { s.lemFree n with lex := { (s.lemFree n).lex with dropped := s.lex.dropped + 1 } } := if_neg h

theorem foldl_lemCheck_of_right {s : State} {l : List Nat} (h : ∀ n ∈ l, lemN s.swm n 0x3C 4 = lemCrc s.swm n) :
    l.foldl (fun (s : State) n => s.lemCheck n) s = s := by
  induction l with
  | nil => rfl
  | cons n l ih =>
    rw [List.foldl_cons, lemCheck_of_right (h n List.mem_cons_self)]
    exact ih fun k hk => h k (List.mem_cons_of_mem _ hk)

theorem execLexiconScanEnd_of_checking {s : State} (t : Time) (hu : s.lexUp = true) (hc : s.lex.checking = true) :
    execLexiconScanEnd t s = .next (
      let s1 := (s.lex.index.map Prod.fst).foldl (fun (s : State) n => s.lemCheck n) (s.at_ t)
      { s1 with lex := { s1.lex with checking := false } }) := by
  have hu' : (s.at_ t).lexUp = true := hu
  simp [execLexiconScanEnd, hu', hc]

/-! ### Services of the mesh (R226, R307) -/

/-- A service takes the flit that waits for it. -/
theorem takeService_of_offers {s : State} {above : Bool} {col stream : Nat} {m : Moving} (t : Time)
    (h : s.offers above col stream m) : (s.at_ t).takeService above col stream = some (m, s.took t m) := by
  obtain ⟨hp, hm⟩ := h
  simp [State.takeService, hm, hp, State.took]

/-- Flit `i` of the two that answer a LEMMA request: `words` from word 8i on, to the request's return address (R307). -/
def lemmaReply (f : Flit) (words : List Word) (i : Nat) : Flit :=
  ⟨field (f.w 7) 31 27, field (f.w 7) 26 22, field (f.w 7) 21 19,
    (2 * field (f.w 7) 18 9 + b2n (decide (8 ≤ field (f.w 7) 8 5)) + i) / 2 % 1024,
    (2 * field (f.w 7) 18 9 + b2n (decide (8 ≤ field (f.w 7) 8 5)) + i) % 2 == 1, 0, 0xFF, 0xF05, f.tag,
    (words.drop (8 * i)).take 8⟩

/-- The first flit goes to the line that the return address names. -/
theorem lemmaReply_line_zero (f : Flit) (words : List Word) : (lemmaReply f words 0).line = field (f.w 7) 18 9 := by
  have hf : field (f.w 7) 18 9 < 1024 := Nat.mod_lt _ (by decide)
  have hb : b2n (decide (8 ≤ field (f.w 7) 8 5)) < 2 := by unfold b2n; split <;> decide
  show (2 * field (f.w 7) 18 9 + b2n (decide (8 ≤ field (f.w 7) 8 5)) + 0) / 2 % 1024 = field (f.w 7) 18 9
  omega

/-- A request with an OP that LEX_CMD takes is answered with what its query gives. -/
theorem execLemmaRequest_of_query {s s' : State} {above : Bool} {col r n : Nat} {m : Moving} {bs : List Byte} (t : Time)
    (h : s.offers above col 0xF05 m) (h1 : 1 ≤ field (m.flit.w 0) 3 0) (h5 : field (m.flit.w 0) 3 0 ≤ 5)
    (hq : (s.took t m).query (field (m.flit.w 0) 3 0) ((m.flit.w 1).toNat + 2 ^ 32 * (m.flit.w 2).toNat)
      (field (m.flit.w 0) 13 4) = ((r, n, bs), s')) :
    let words := BitVec.ofNat 32 r :: BitVec.ofNat 32 n :: flitWords 14 bs
    execLemmaRequest t above col s = .next ((s'.fromPort (lemmaReply m.flit words 0)).fromPort (lemmaReply m.flit words 1)) := by
  have hop : ¬(field (m.flit.w 0) 3 0 = 0 ∨ 5 < field (m.flit.w 0) 3 0) := by omega
  simp only [execLemmaRequest, takeService_of_offers t h, if_neg hop, hq]
  rfl

theorem execObserve_of_offers {s : State} {above : Bool} {col : Nat} {m : Moving} (t : Time) (h : s.offers above col 0xF04 m) :
    execObserve t above col s = .next { s.took t m with lex := { s.lex with pairs := s.lex.pairs.map (fun (p : LPair) =>
      if p.job = field (m.flit.w 0) 23 0 ∧ p.group = field (m.flit.w 1) 15 0 then { p with series := observeSamples m.flit ++ p.series }
      else p) } } := by
  simp only [execObserve, takeService_of_offers t h]
  rfl

/-! ### The settling theorem -/

/-- Settles O46: the commands by whether an operation runs, each completion and each reply by what its query answers, the start by
what the priors leave in the index, the scan by what each check does. -/
theorem lexiconWorks : Obligations.LexiconWorks := by
  refine ⟨⟨fun s t off hp hs ho => ?_, fun s t x hp hs ho c hc => ?_, fun s t hp => ?_, fun s t op off hu ho => ⟨fun hr => ?_,
      fun hr hm hop => ?_, fun n l hr hc hn hop hl => ?_⟩⟩,
    fun s t im hi hu hl => ?_, fun s t hu hc h => ?_, fun s t n k hu hc hx h => ?_, fun s t above col m h hr h1 h5 => ?_,
    fun s t above col m h => execObserve_of_offers t h⟩
  · have start : ∀ op off, 1 ≤ op → op ≤ 5 →
        (s.at_ t).lexOp op off = { s.at_ t with lex := { s.lex with op := some (op, off) } } :=
      fun op off h1 h5 => lexOp_of_idle (s := s.at_ t) off hp hs ho h1 h5
    exact ⟨congrArg _ (start 1 0 (by decide) (by decide)), congrArg _ (start 2 0 (by decide) (by decide)),
      congrArg _ (start 3 0 (by decide) (by decide)), congrArg _ (start 4 0 (by decide) (by decide)),
      congrArg _ (start 5 _ (by decide) (by decide))⟩
  · have busy : ∀ op off, (s.at_ t).lexOp op off = (s.at_ t).report 0x200 0x02 0x02000048 0 :=
      fun op off => lexOp_of_busy (s := s.at_ t) op off hp hs ho
    simp only [List.mem_cons, List.not_mem_nil, or_false] at hc
    rcases hc with rfl | rfl | rfl | rfl | rfl <;> exact congrArg _ (busy _ _)
  · exact congrArg _ (lexOp_of_unanswered (s := s.at_ t) 1 0 (.inl hp))
  · exact (execLexOperationComplete_of_query t hu ho (query_of_not_ready _ _ _ hr)).trans
      (by rw [flitWords_replicate_zero]; rfl)
  · exact (execLexOperationComplete_of_query t hu ho (query_of_missing _ hr hm hop)).trans
      (by rw [flitWords_replicate_zero]; rfl)
  · subst hop
    exact (execLexOperationComplete_of_query t hu ho (query_lookup_of_cached (s := s.at_ t) _ hr hc hn hl)).trans
      (by rw [flitWords_readBytes _ _ (by decide), slotAt_zero]; rfl)
  · obtain ⟨m, ls, hx⟩ := execPriorsLoad_of_owed t hi hu hl
    refine ⟨_, hx, rfl, rfl, fun p hp h256 => ?_, filter_priorsIndex_append im _, ?_⟩
    · exact List.mem_append_right _ (List.mem_filter.mpr ⟨hp, decide_eq_true h256⟩)
    · simp [State.withPriors, sameStage, sameRow, sameAon, sameLog, sameMgmt, sameStore]
  · have hf : (s.lex.index.map Prod.fst).foldl (fun (s : State) n => s.lemCheck n) (s.at_ t) = s.at_ t :=
      foldl_lemCheck_of_right (s := s.at_ t) (List.forall_mem_map.mpr h)
    refine (execLexiconScanEnd_of_checking t hu hc).trans ?_
    rw [hf]
    rfl
  · refine (execLexiconScanEnd_of_checking t hu hc).trans ?_
    simp only [hx, List.map_cons, List.map_nil, List.foldl_cons, List.foldl_nil, lemCheck_of_wrong (s := s.at_ t) h]
    simp [State.lemFree, hx]
  · have hq := execLemmaRequest_of_query t h h1 h5 (query_of_not_ready (s := s.took t m) _ _ _ hr)
    rw [flitWords_replicate_zero] at hq
    exact ⟨_, _, hq, rfl, rfl, rfl, rfl, rfl, rfl, rfl, lemmaReply_line_zero _ _⟩

end Sys2Proof.Machine

/-! SUPPORT. The CONTROL instructions of a tussock (R279, R290, R312): what an instruction leaves that halts its tussock, and one of a
tussock that does not run. -/
namespace Sys2Proof.Machine

/-- A sequencer fault halts the tussock with CAUSE 3 and is reported (R279). -/
theorem instr_seqFault (s : State) (t : Time) (x : TIns) (f : Ctx → Tus → TOut) (h : s.runs x.tus)
    (hf : f (s.ctx t x) (s.tus x.tus) = seqFault (s.tus x.tus)) :
    s.instr t x f = .next ((s.became t x.tus ((s.tus x.tus).halt 3)).tusReport x.tus 0x43 3) := by
  rw [instr_runs s t x f h, hf]; rfl

/-- An instruction of a tussock that is not in RUN, or is not powered, has no effect (R297, R312). -/
theorem instr_of_not_running (s : State) (t : Time) (x : TIns) (f : Ctx → Tus → TOut)
    (h : (s.tus x.tus).st ≠ .run ∨ s.swd.powered = false) : s.instr t x f = .next (s.at_ t) := by
  have hidle : 640 ≤ x.tus ∨ (!(s.at_ t).swd.powered) = true ∨ ((s.at_ t).tus x.tus).st ≠ .run :=
    .inr (h.symm.imp_left (congrArg (!·)))
  exact congrArg _ (if_pos hidle)

/-- Of two places for the next instruction, the one taken. -/
theorem ok_ite_pc (k : Tus) (c : Prop) [Decidable c] (a b : Nat) :
    TOut.ok (if c then { k with pc := a } else { k with pc := b }) = TOut.ok { k with pc := if c then a else b } :=
  congrArg _ (apply_ite (fun n => { k with pc := n }) c a b).symm

theorem any_waiting_eq_true_iff (l : List Moving) (i : Nat) :
    (l.any fun m => m.src == i && m.via == Via.local_) = true ↔ ∃ m ∈ l, m.src = i ∧ m.via = .local_ := by
  simp

theorem execFence_of_waiting {s : State} (t : Time) {x : TIns} (h : s.runs x.tus)
    (hw : ∃ m ∈ s.swd.mesh, m.src = x.tus ∧ m.via = .local_) :
    execFence t x s = .next (s.became t x.tus (s.tus x.tus)) :=
  instr_ok s t x _ _ h (congrArg _ (if_pos ((any_waiting_eq_true_iff _ _).mpr hw)))

theorem execFence_of_sent {s : State} (t : Time) {x : TIns} (h : s.runs x.tus)
    (hw : ∀ m ∈ s.swd.mesh, m.src = x.tus → m.via ≠ .local_) :
    execFence t x s = .next (s.became t x.tus (s.tus x.tus).next) :=
  instr_ok s t x _ _ h (congrArg _ (if_neg fun ha =>
    let ⟨m, hm, hsrc, hvia⟩ := (any_waiting_eq_true_iff _ _).mp ha
    hw m hm hsrc hvia))

/-- Settles O37: each operation by what it makes of its tussock, a faulting one by the halt it reports; outside RUN by what any
instruction then does. -/
theorem controlAndHalts : Obligations.ControlAndHalts := by
  refine ⟨fun s t x h => ⟨?nop, ?jump, ?bnz, ?bz, fun hc => ?reached, fun hc => ?stands, ?take, execFence_of_sent t h,
    execFence_of_waiting t h, fun hn => ?requests, fun hn => ?unused, ?halt, ?undecodable⟩, fun s t x h c hc => ?outside⟩
  case nop | jump | take | halt => exact instr_ok s t x _ _ h rfl
  case bnz | bz => exact instr_ok s t x _ _ h (ok_ite_pc _ _ _ _)
  case reached => exact instr_ok s t x _ _ h (congrArg _ (if_pos hc))
  case stands => exact instr_ok s t x _ _ h (congrArg _ (if_neg (Nat.not_le.mpr hc)))
  case requests => exact instr_ok s t x _ _ h (if_neg (Nat.not_lt.mpr hn))
  case unused => exact instr_seqFault s t x _ h (if_pos hn)
  case undecodable => exact instr_seqFault s t ⟨x.tus, 0, 0, 0, false, 0, []⟩ _ h rfl
  case outside =>
    simp only [List.mem_cons, List.not_mem_nil, or_false] at hc
    rcases hc with rfl | rfl | rfl | rfl | rfl | rfl | rfl | rfl | rfl | rfl | rfl | rfl | rfl | rfl | rfl | rfl | rfl | rfl | rfl |
      rfl | rfl <;> exact instr_of_not_running s t x _ h

end Sys2Proof.Machine

/-! SUPPORT. Granted steps, the governor, the ceiling and the seeds (R273, R290 to R292, R298). -/
namespace Sys2Proof.Machine

/-! ### Granted steps (R290, R291) -/

/-- An update of one element may be written with what it makes of that element. -/
theorem upd_eq_upd_const {α : Type} (l : List α) (i : Nat) (f : α → α) (d : α) :
    upd l i f = upd l i (fun _ => f (l.getD i d)) := by
  induction l generalizing i with
  | nil => rfl
  | cons a l ih =>
    cases i with
    | zero => rfl
    | succ i => exact congrArg (a :: ·) (ih i)

theorem updTus_eq_const (s : State) (i : Nat) (f : Tus → Tus) : s.updTus i f = s.updTus i (fun _ => f (s.tus i)) := by
  unfold State.updTus State.tus
  rw [upd_eq_upd_const]

/-- A running tussock for which step `g` has just been granted (R291). -/
def Tus.stepTo (k : Tus) (g : Nat) (now : Time) : Tus :=
  let k1 := { k.sync now with granted := g }
  if g = 5 then { k1 with st := .gated, clock := 5 }
  else if k.clock < g then { k1 with st := .clockStop, change := some ⟨g, false, true, now, .run⟩ }
  else { k1 with change := some ⟨g, true, false, now, .run⟩ }

theorem stepTo_five (k : Tus) {g : Nat} (now : Time) (h : g = 5) :
    k.stepTo g now = { k.sync now with granted := g, st := .gated, clock := 5 } := if_pos h

theorem stepTo_slower {k : Tus} {g : Nat} (now : Time) (h : g ≠ 5) (hc : k.clock < g) :
    k.stepTo g now = { k.sync now with granted := g, st := .clockStop, change := some ⟨g, false, true, now, .run⟩ } :=
  (if_neg h).trans (if_pos hc)

theorem stepTo_faster {k : Tus} {g : Nat} (now : Time) (h : g ≠ 5) (hc : g ≤ k.clock) :
    k.stepTo g now = { k.sync now with granted := g, change := some ⟨g, true, false, now, .run⟩ } :=
  (if_neg h).trans (if_neg (Nat.not_lt.mpr hc))

theorem beginStep_of_granted {s : State} {i : Nat} (h : s.grantOf (s.tus i) = (s.tus i).granted) : s.beginStep i = s :=
  if_pos (.inr (.inr h))

theorem beginStep_of_running {s : State} {i : Nat} (hc : (s.tus i).change = none) (hr : (s.tus i).st = .run)
    (hg : s.grantOf (s.tus i) ≠ (s.tus i).granted) :
    s.beginStep i = s.updTus i (fun _ => (s.tus i).stepTo (s.grantOf (s.tus i)) s.now) := by
  simp [State.beginStep, Tus.stepTo, hc, hr, hg]

theorem execDvfsGrant_of_tussock (s : State) (t : Time) {i : Nat} (hi : i < 640) :
    execDvfsGrant t i s = .next ((s.at_ t).beginStep i) := congrArg _ (if_neg (Nat.not_le.mpr hi))

theorem execDvfsGrant_of_running {s : State} (t : Time) {i : Nat} {k : Tus} (hi : i < 640) (hc : (s.tus i).change = none)
    (hr : (s.tus i).st = .run) (hg : s.grantOf (s.tus i) ≠ (s.tus i).granted)
    (hk : (s.tus i).stepTo (s.grantOf (s.tus i)) (max s.now t) = k) :
    execDvfsGrant t i s = .next ((s.at_ t).updTus i (fun _ => k)) := by
  subst hk
  exact (execDvfsGrant_of_tussock s t hi).trans (congrArg _ (beginStep_of_running (s := s.at_ t) hc hr hg))

theorem execDvfsSupplyArrival_of_waiting {s : State} (t : Time) {i : Nat} {c : StepChange} (hc : (s.tus i).change = some c)
    (hf : c.faster = true) (hs : c.stopped = false) :
    execDvfsSupplyArrival t i s = .next ((s.at_ t).updTus i (fun k =>
      { k.sync (max s.now t) with st := .clockStop, change := some { c with stopped := true, since := max s.now t } })) := by
  simp [execDvfsSupplyArrival, hc, hf, hs]

/-- A tussock beyond those there are has no change of step. -/
theorem lt_length_of_change {s : State} {i : Nat} {c : StepChange} (hc : (s.tus i).change = some c) : i < s.swd.tus.length := by
  by_contra h
  have hreset : s.tus i = Tus.reset := List.getD_eq_default _ _ (Nat.not_lt.mp h)
  rw [hreset] at hc
  cases hc

/-- A tussock whose clock has restarted at the divider of its new step (R291). -/
def Tus.restarted (k : Tus) (c : StepChange) (now : Time) : Tus :=
  { k.sync now with st := c.back, clock := c.step, change := none }

/-- Where no other step is due since, the restart begins no further change. -/
theorem execDvfsClockRestart_of_stopped {s : State} (t : Time) {i : Nat} {c : StepChange} (hc : (s.tus i).change = some c)
    (hs : c.stopped = true) (hg : s.grantOf (s.tus i) = (s.tus i).granted) :
    execDvfsClockRestart t i s = .next ((s.at_ t).updTus i (fun k => k.restarted c (max s.now t))) := by
  have hself : ((s.at_ t).updTus i (fun k => k.restarted c (max s.now t))).tus i = (s.tus i).restarted c (max s.now t) :=
    updTus_self (s.at_ t) i _ (lt_length_of_change hc)
  have hstands := beginStep_of_granted (s := (s.at_ t).updTus i (fun k => k.restarted c (max s.now t))) (i := i)
    (by rw [hself]; exact hg)
  have hrun : ¬(!c.stopped) = true := by simp [hs]
  simp only [execDvfsClockRestart, at_tus, hc, if_neg hrun]
  exact congrArg _ hstands

/-! ### The governor (R292) -/

section
variable {s : State} (t : Time) {p : Rat} (hp : s.inRst .planning = false) (hw : s.swd.powered = true)
include hp hw

theorem governor_measures : ¬((s.at_ t).inRst .planning = true ∨ (!(s.at_ t).swd.powered) = true) := by simp [hp, hw]

/-- A mean above the limit raises the governor's step where a millisecond has passed. -/
theorem execGovernorMeasure_raises (hm : 10 * (s.fld .swardPowerLimit : Rat) < meanRat ((p :: s.swd.power).take 100))
    (hg : s.swd.gov < 4) (ht : s.swd.govRaised + 1000000 ≤ max s.now t) :
    ∃ l, execGovernorMeasure t p s = .next { s.at_ t with swd := { s.swd with
      power := (p :: s.swd.power).take 100, govLow := l, gov := s.swd.gov + 1, govEvents := s.swd.govEvents + 1
      govRaised := max s.now t } } := by
  unfold execGovernorMeasure
  rw [if_neg (governor_measures t hp hw)]
  refine ⟨_, if_pos ?_⟩
  simp only [Bool.and_eq_true, decide_eq_true_eq]
  exact ⟨⟨hm, hg⟩, ht⟩

/-- A mean below nine tenths of the limit for 10 ms lowers it. -/
theorem execGovernorMeasure_lowers {x : Time} (hm : meanRat ((p :: s.swd.power).take 100) ≤ 10 * (s.fld .swardPowerLimit : Rat))
    (hl : meanRat ((p :: s.swd.power).take 100) < 9 * (10 * (s.fld .swardPowerLimit : Rat)) / 10) (hx : s.swd.govLow = some x)
    (ht : x + 10000000 ≤ max s.now t) (hg : 0 < s.swd.gov) :
    execGovernorMeasure t p s = .next { s.at_ t with swd := { s.swd with
      power := (p :: s.swd.power).take 100, govLow := some (max s.now t), gov := s.swd.gov - 1 } } := by
  unfold execGovernorMeasure
  rw [if_neg (governor_measures t hp hw)]
  simp only [Swd.meanPower, at_now, at_fld, State.at__keeps, hl, hx, not_lt.mpr hm, if_true, decide_false, Bool.false_and,
    Bool.false_eq_true, if_false]
  exact if_pos ⟨hg, ht⟩

/-- A mean between the two leaves it, and the time below begins anew. -/
theorem execGovernorMeasure_stands (hm : meanRat ((p :: s.swd.power).take 100) ≤ 10 * (s.fld .swardPowerLimit : Rat))
    (hl : 9 * (10 * (s.fld .swardPowerLimit : Rat)) / 10 ≤ meanRat ((p :: s.swd.power).take 100)) :
    execGovernorMeasure t p s = .next { s.at_ t with swd := { s.swd with
      power := (p :: s.swd.power).take 100, govLow := none } } := by
  unfold execGovernorMeasure
  rw [if_neg (governor_measures t hp hw)]
  simp only [Swd.meanPower, at_fld, State.at__keeps, not_lt.mpr hl, not_lt.mpr hm, decide_false, Bool.false_and,
    Bool.false_eq_true, if_false]
end

/-! ### The ceiling and the seeds (R273, R290, R298) -/

theorem writeCeil_in_range (s : State) {v : Word} (h : field v 2 0 ≤ 4) :
    s.writeCeil v = { s with swd := { s.swd with ceil := field v 2 0 } } := if_neg (Nat.not_lt.mpr h)

theorem writeCeil_out_of_range (s : State) {v : Word} (h : 4 < field v 2 0) :
    s.writeCeil v = s.report 0x200 0x02 0x01E00004 := if_pos h

theorem execCeilWrite_of_answers {s : State} (t : Time) (v : Word) (hp : s.inRst .planning = false) (hs : s.swd.shed = false) :
    execCeilWrite t v s = .next ((s.at_ t).writeCeil v) :=
  congrArg _ (if_pos (by simp [State.swdAnswers, hp, hs]))

theorem execCeilWrite_of_planning_reset {s : State} (t : Time) (v : Word) (hp : s.inRst .planning = true) :
    execCeilWrite t v s = .next ((s.at_ t).report 0x200 0x01 0x01E00004 3) :=
  congrArg _ (if_neg (by simp [State.swdAnswers, hp]))

theorem tusWrite_of_inRun {s : State} {i : Nat} (o : Nat) (f : Tus → Tus) (h : (s.tus i).inRun = true) :
    s.tusWrite i o f = s.report 0x200 0x01 (0x01000000 + i * 0x4000 + o) 4 := if_pos h

theorem tusWrite_of_not_inRun {s : State} {i : Nat} (o : Nat) (f : Tus → Tus) (h : (s.tus i).inRun = false) :
    s.tusWrite i o f = s.updTus i f := if_neg (by simp [h])

theorem execSeedWrite_of_answers {s : State} (t : Time) {i : Nat} (b : Bool) (v : Word) (hi : i < 640)
    (ha : s.tusAnswers i = true) : execSeedWrite t i b v s = .next ((s.at_ t).writeTus i (if b then 8 else 4) v) := by
  have ha' : (s.at_ t).tusAnswers i = true := ha
  have hopen : ¬(640 ≤ i ∨ (!(s.at_ t).tusAnswers i) = true) := by simp [ha']; omega
  exact if_neg hopen

/-- The high half's latch is written with it (R12). -/
theorem writeTus_seedHi {s : State} {i : Nat} (v : Word) (h : (s.tus i).inRun = false) :
    s.writeTus i 8 v = ({ s with latches := insertKey s.latches (0x01000008 + i * 0x4000) v }).updTus i
      (fun k => { k with seed := (k.seed &&& 0xFFFFFFFF#64) ||| (v.setWidth 64 <<< 32) }) := by
  unfold State.writeTus
  simp only [h, Bool.false_eq_true, if_false]
  exact tusWrite_of_not_inRun (s := { s with latches := insertKey s.latches (0x01000008 + i * 0x4000) v }) _ _ h

/-- Settles O43: a grant by what the step granted asks of the clock, a change of step by whether its supply has arrived or its clock
stands, the governor by the mean, CEIL by its range, a seed by RUN. -/
theorem stepsAndSeeds : Obligations.StepsAndSeeds := by
  refine ⟨⟨fun s t i hi hc hr => ⟨fun hg => ?same, fun hg h5 => ?gated, fun hg h5 hlt => ?slower, fun hg h5 hle => ?faster⟩,
      fun s t i c hc => ⟨fun hf hs => ?supply, fun hs hg => ?restart⟩⟩,
    ⟨fun s t p hp hw => ⟨fun hm hg ht => execGovernorMeasure_raises t hp hw hm hg ht,
        fun x hm hl hx ht hg => execGovernorMeasure_lowers t hp hw hm hl hx ht hg,
        fun hm hl => execGovernorMeasure_stands t hp hw hm hl⟩,
      fun s t v hp hs => ⟨fun hv => ?ceil, fun hv => ?range⟩, fun s t v hp => execCeilWrite_of_planning_reset t v hp,
      fun s t i v hi ha => ⟨fun hr => ⟨?low, ?high⟩, fun hr => ?running⟩⟩⟩
  case same => exact (execDvfsGrant_of_tussock s t hi).trans (congrArg _ (beginStep_of_granted (s := s.at_ t) hg))
  case gated => exact execDvfsGrant_of_running t hi hc hr hg (stepTo_five _ _ h5)
  case slower => exact execDvfsGrant_of_running t hi hc hr hg (stepTo_slower _ h5 hlt)
  case faster => exact execDvfsGrant_of_running t hi hc hr hg (stepTo_faster _ h5 hle)
  case supply => exact (execDvfsSupplyArrival_of_waiting t hc hf hs).trans (congrArg _ (updTus_eq_const _ _ _))
  case restart => exact (execDvfsClockRestart_of_stopped t hc hs hg).trans (congrArg _ (updTus_eq_const _ _ _))
  case ceil => exact (execCeilWrite_of_answers t v hp hs).trans (congrArg _ (writeCeil_in_range _ hv))
  case range => exact (execCeilWrite_of_answers t v hp hs).trans (congrArg _ (writeCeil_out_of_range _ hv))
  case low => exact (execSeedWrite_of_answers t false v hi ha).trans (congrArg _ (tusWrite_of_not_inRun (s := s.at_ t) _ _ hr))
  case high => exact (execSeedWrite_of_answers t true v hi ha).trans (congrArg _ (writeTus_seedHi (s := s.at_ t) v hr))
  case running =>
    rw [show 0x01000004 + i * 0x4000 = 0x01000000 + i * 0x4000 + 4 by omega]
    exact (execSeedWrite_of_answers t false v hi ha).trans (congrArg _ (tusWrite_of_inRun (s := s.at_ t) _ _ hr))

end Sys2Proof.Machine

/-! SUPPORT. The clocks of the tussocks, the program loader and GO, the watch on plan vectors (R204, R273, R293, R294, R314 to R317). -/
namespace Sys2Proof.Machine

/-! ### A lock and a clock that fails (R293, R294) -/

/-- A tussock whose PLL locks on a good clock is IDLE; the mesh stays up where it was. -/
theorem execTussockPllLock_of_reset {s : State} (t : Time) {i : Nat} (hi : i < 640) (hw : s.swd.powered = true)
    (hr : (s.tus i).st = .reset) :
    ∃ b, execTussockPllLock t i true s = .next { s.at_ t with swd := { s.swd with
        tus := upd s.swd.tus i (fun k => { k with st := .idle, cyclesAt := max s.now t })
        lock := if i ∈ s.swd.lock then s.swd.lock else s.swd.lock ++ [i]
        meshUp := b } } ∧ (s.swd.meshUp = true → b = true) := by
  have hlocks : ¬(640 ≤ i ∨ (!(s.at_ t).swd.powered) = true ∨ ((s.at_ t).tus i).st ≠ .reset) := by simp [hw, hr]; omega
  unfold execTussockPllLock
  rw [if_neg hlocks]
  simp only [List.contains_iff_mem, if_true]
  exact ⟨_, rfl, fun h => Bool.or_eq_true_iff.mpr (.inl h)⟩

theorem tusFail_swd (s : State) (i d : Nat) : (s.tusFail i d).swd = { s.swd with
    tus := upd s.swd.tus i (fun _ => { Tus.reset with st := .failed, cause := 2 })
    clkFault := if i ∈ s.swd.clkFault then s.swd.clkFault else s.swd.clkFault ++ [i]
    lock := if d = 2 then s.swd.lock.filter (fun x => x != i) else s.swd.lock } := by
  simp [State.tusFail, State.updTus]

theorem tusFail_self {s : State} {i : Nat} (d : Nat) (h : i < s.swd.tus.length) :
    (s.tusFail i d).tus i = { Tus.reset with st := .failed, cause := 2 } := by
  unfold State.tus
  rw [tusFail_swd]
  exact upd_getD_self _ _ _ _ h

theorem tusFail_other (s : State) {i j : Nat} (d : Nat) (h : j ≠ i) : (s.tusFail i d).tus j = s.tus j := by
  unfold State.tus
  rw [tusFail_swd]
  exact upd_getD_other _ _ _ _ _ h

theorem mem_tusFail_clkFault (s : State) (i d : Nat) : i ∈ (s.tusFail i d).swd.clkFault := by
  rw [tusFail_swd]
  dsimp only
  split
  · assumption
  · exact List.mem_append_right _ (List.mem_singleton_self i)

theorem tusFail_lock_of_lost (s : State) (i : Nat) : i ∉ (s.tusFail i 2).swd.lock := by
  simp [tusFail_swd]

theorem tusFail_lock_of_kept (s : State) (i : Nat) {d : Nat} (h : d ≠ 2) : (s.tusFail i d).swd.lock = s.swd.lock := by
  rw [tusFail_swd]
  exact if_neg h

theorem execTussockClockFail_of_working {s : State} (t : Time) {i d : Nat} (hi : i < 640) (hw : s.swd.powered = true)
    (hf : (s.tus i).st ≠ .failed) (hg : (s.tus i).st ≠ .gated ∨ d ≠ 1) :
    execTussockClockFail t i d s = .next ((s.at_ t).tusFail i d) := by
  refine if_neg ?_
  rintro (h | h | h | ⟨hgated, hd⟩)
  · exact Nat.not_le.mpr hi h
  · simp [hw] at h
  · exact hf h
  · exact hg.elim (· hgated) (· hd)

theorem execTussockClockFail_of_failed {s : State} (t : Time) (i d : Nat) (h : (s.tus i).st = .failed) :
    execTussockClockFail t i d s = .next (s.at_ t) := if_pos (.inr (.inr (.inl h)))

/-! ### The checks of a load (R300, R316) -/

/-- What the checks of the loader and the images it writes leave: the stage, and of the sward all but its entries and what the
images hold; every tussock stands and halts as it did. -/
structure LoaderStands (s s' : State) : Prop where
  now : s'.now = s.now
  stage : sameStage s s'
  aon : s'.aon = s.aon
  core : s'.core = s.core
  cfg : s'.cfg = s.cfg
  frz : s'.frz = s.frz
  ddr : s'.ddr = s.ddr
  swm : s'.swm = s.swm
  swd : s'.swd = { s.swd with tus := s'.swd.tus, entries := s'.swd.entries, requiredFail := s'.swd.requiredFail }
  st : ∀ i, (s'.tus i).st = (s.tus i).st
  cause : ∀ i, (s'.tus i).cause = (s.tus i).cause

namespace LoaderStands
variable {s s' s'' : State}

theorem refl (s : State) : LoaderStands s s :=
  ⟨rfl, ⟨rfl, rfl, rfl, rfl, rfl, rfl, rfl⟩, rfl, rfl, rfl, rfl, rfl, rfl, rfl, fun _ => rfl, fun _ => rfl⟩

theorem trans (h : LoaderStands s s') (h' : LoaderStands s' s'') : LoaderStands s s'' where
  now := h'.now.trans h.now
  stage := by
    obtain ⟨hp, ha, hb, hc, hv, hf, hl⟩ := h'.stage
    simp only [sameStage, hp, ha, hb, hc, hv, hf, hl]
    exact h.stage
  aon := h'.aon.trans h.aon
  core := h'.core.trans h.core
  cfg := h'.cfg.trans h.cfg
  frz := h'.frz.trans h.frz
  ddr := h'.ddr.trans h.ddr
  swm := h'.swm.trans h.swm
  swd := h'.swd.trans (by rw [h.swd])
  st i := (h'.st i).trans (h.st i)
  cause i := (h'.cause i).trans (h.cause i)

theorem foldl {α : Type} {f : State → α → State} (hf : ∀ (s : State) a, LoaderStands s (f s a)) (l : List α) (s : State) :
    LoaderStands s (l.foldl f s) := by
  induction l generalizing s with
  | nil => exact refl s
  | cons a l ih => exact (hf s a).trans (ih (f s a))

end LoaderStands

theorem checkEntry_stands (s : State) (k : Nat) (done : List Loaded) (as : List Area) :
    LoaderStands s (s.checkEntry k done as).2.2 := by
  constructor <;> simp [sameStage, State.tus]

theorem refuseEntry_stands (s : State) (k r : Nat) : LoaderStands s (s.refuseEntry k r) := by
  unfold State.refuseEntry
  constructor <;> simp [sameStage, State.tus]
  split <;> rfl

theorem setEntry_stands (s : State) (k : Nat) (e : Entry) :
    LoaderStands s { s with swd := { s.swd with entries := s.swd.entries.set k e } } :=
  ⟨rfl, ⟨rfl, rfl, rfl, rfl, rfl, rfl, rfl⟩, rfl, rfl, rfl, rfl, rfl, rfl, rfl, fun _ => rfl, fun _ => rfl⟩

theorem checkEntries_stands (s : State) (l : List Nat) (done : List Loaded) (as : List Area) :
    LoaderStands s (s.checkEntries l done as).2.2 := by
  induction l generalizing s done as with
  | nil => exact .refl s
  | cons k l ih =>
    rw [State.checkEntries]
    have hc := checkEntry_stands s k done as
    generalize s.checkEntry k done as = r at hc ⊢
    obtain ⟨res, got, s1⟩ := r
    cases got with
    | none =>
      refine .trans ?_ (ih _ _ _)
      split
      · exact hc.trans (setEntry_stands s1 k _)
      · exact (hc.trans (setEntry_stands s1 k _)).trans (refuseEntry_stands _ _ _)
    | some p => exact (hc.trans (setEntry_stands s1 k _)).trans (ih _ _ _)

/-- Entries that hold no role load nothing, and nothing is said of them. -/
theorem checkEntries_of_empty {s : State} {l : List Nat} (done : List Loaded) (as : List Area)
    (h : ∀ k ∈ l, s.fldN .programsRole k = 0) :
    ∃ es, s.checkEntries l done as = (done, as, { s with swd := { s.swd with entries := es } }) := by
  induction l generalizing s with
  | nil => exact ⟨_, rfl⟩
  | cons k l ih =>
    have hk : s.checkEntry k done as = (0, none, s) := if_pos (h k List.mem_cons_self)
    rw [State.checkEntries, hk]
    exact ih (s := { s with swd := { s.swd with entries := _ } }) fun j hj => h j (List.mem_cons_of_mem _ hj)

/-! ### The load (R311, R314, R315) -/

/-- An update of a tussock leaves of every tussock what it leaves of that one. -/
theorem updTus_tus_eq {α : Type} (g : Tus → α) (s : State) (j : Nat) {f : Tus → Tus} (hf : ∀ k, g (f k) = g k) (i : Nat) :
    g ((s.updTus j f).tus i) = g (s.tus i) := by
  by_cases hi : i = j
  · subst hi
    simp only [State.tus, updTus_tus, List.getD_eq_getElem?_getD, upd_getElem?_self]
    cases s.swd.tus[i]? with
    | none => rfl
    | some k => exact hf k
  · rw [updTus_other s j i f hi]

theorem loadTus_stands (s : State) (l : Loaded) (b : BundleTus) : LoaderStands s (s.loadTus l b) := by
  unfold State.loadTus
  exact ⟨rfl, ⟨rfl, rfl, rfl, rfl, rfl, rfl, rfl⟩, rfl, rfl, rfl, rfl, rfl, rfl, rfl, updTus_tus_eq Tus.st s b.tus fun _ => rfl,
    updTus_tus_eq Tus.cause s b.tus fun _ => rfl⟩

/-- The images of what has been loaded are written. -/
def State.imagesWritten (s : State) (done : List Loaded) : State :=
  done.foldl (fun (s : State) l => l.v.placed.foldl (fun (s : State) b => s.loadTus l b) s) s

theorem imagesWritten_stands (s : State) (done : List Loaded) : LoaderStands s (s.imagesWritten done) :=
  .foldl (fun s l => .foldl (fun s b => loadTus_stands s l b) _ s) _ _

/-- The sward as a load begins (R315): its tussocks at the start of a load, and nothing of the entries that ran. -/
def State.loadBegun (s : State) : State := { s with swd := { s.swd with
  tus := s.swd.tus.map (fun (k : Tus) => { k.loadStart with cycles := k.cyclesNow s.now, cyclesAt := s.now })
  landings := [], sources := [], dma := [], emitHalf := none, running := false, requiredFail := false
  ceil := s.fldN .swardCeiling } }

theorem loadBegun_tus (s : State) (i : Nat) : ∃ c a, s.loadBegun.tus i = { (s.tus i).loadStart with cycles := c, cyclesAt := a } := by
  simp only [State.tus, State.loadBegun, List.getD_eq_getElem?_getD, List.getElem?_map]
  cases s.swd.tus[i]? with
  | none => exact ⟨_, _, rfl⟩
  | some k => exact ⟨_, _, rfl⟩

theorem loadStart_of_inRun {k : Tus} (h : k.inRun = true) : k.loadStart.st = .halted ∧ k.loadStart.cause = 4 := by
  simp [Tus.loadStart, h]

theorem loadStart_entry {k : Tus} (h : k.st ≠ .failed) : k.loadStart.entry = 15 := by
  by_cases hr : k.inRun = true
  · simp [Tus.loadStart, hr]
  · simp [Tus.loadStart, hr, h]

theorem loadBegun_of_inRun {s : State} {i : Nat} (h : (s.tus i).inRun = true) :
    (s.loadBegun.tus i).st = .halted ∧ (s.loadBegun.tus i).cause = 4 := by
  obtain ⟨c, a, hk⟩ := loadBegun_tus s i
  rw [hk]
  exact loadStart_of_inRun h

theorem loadBegun_entry {s : State} {i : Nat} (h : (s.tus i).st ≠ .failed) : (s.loadBegun.tus i).entry = 15 := by
  obtain ⟨c, a, hk⟩ := loadBegun_tus s i
  rw [hk]
  exact loadStart_entry h

/-- What a load ends with (R314 to R316), where its checks have left `s`. -/
def State.loadEnded (s : State) (mem : Mem) (ids : Ids) (areas : List Area) (landings : List Landing)
    (sources : List (Nat × Nat)) : State :=
  { s with
    swm := mem, ids := ids
    swd := { s.swd with
      areas := areas, landings := landings, sources := sources, loadOwed := false, goOwed := true, loadAt := s.now } }

/-- A load that is owed: its checks, the images of what passed them, and its end. With nothing to load only the entries change. -/
theorem execProgramLoad_of_owed {s s1 : State} {t : Time} {done : List Loaded} {as : List Area}
    (hl : s.swd.loadOwed = true) (hu : s.lexUp = true) (hp : s.cfg.prog.isSome = true) (hb : s.core.bringup = false)
    (hc : (s.at_ t).loadBegun.checkEntries (List.range 8) [] [] = (done, as, s1)) :
    ∃ mem ids areas landings sources,
      execProgramLoad t s = .next ((s1.imagesWritten done).loadEnded mem ids areas landings sources) ∧
      (done = [] → as = [] → mem = s1.swm ∧ areas = [] ∧ landings = []) := by
  have hgo : ¬((!(s.at_ t).swd.loadOwed) = true ∨ (!(s.at_ t).lexUp) = true ∨ (s.at_ t).cfg.prog.isNone = true ∨
      (s.at_ t).core.bringup = true) := by
    have hu' : (s.at_ t).lexUp = true := hu
    have hp' : s.cfg.prog.isNone = false := Option.isNone_eq_false_iff.mpr hp
    simp only [State.at__keeps, hl, hu', hp', hb, Bool.not_true, Bool.false_eq_true, or_self, not_false_eq_true]
  unfold State.loadBegun at hc
  unfold execProgramLoad
  rw [if_neg hgo]
  dsimp only at hc ⊢
  rw [hc]
  refine ⟨_, _, _, _, _, rfl, ?_⟩
  rintro rfl rfl
  exact ⟨rfl, rfl, rfl⟩

/-! ### GO (R273, R312, R315, R317) -/

@[simp] theorem go_regs (k : Tus) : k.go.regs = k.regs := by
  unfold Tus.go
  (repeat' split) <;> rfl

@[simp] theorem go_acc (k : Tus) : k.go.acc = k.acc := by
  unfold Tus.go
  (repeat' split) <;> rfl

@[simp] theorem go_seed (k : Tus) : k.go.seed = k.seed := by
  unfold Tus.go
  (repeat' split) <;> rfl

theorem go_of_no_entry {k : Tus} (h : k.entry = 15) : k.go = k := if_pos h

theorem go_of_waiting {k : Tus} (he : k.entry ≠ 15) (h : k.st = .idle ∨ k.st = .halted) :
    k.go = { k with st := .run, pc := 0, cause := 0, gens := (List.range 64).map (seedGen k.seed) } := by
  unfold Tus.go
  rw [if_neg he]
  rcases h with h | h <;> rw [h]

/-- At the first mark after a load that subscribes to no source, every tussock goes and the watch on plan vectors begins. -/
theorem execGo_of_mark {s : State} {m : Time} (t : Time) (hm : s.emit.markAt = some m) (ho : s.swd.goOwed = true)
    (hu : s.lexUp = true) (hv : s.vot.formed = true) (hl : s.swd.loadAt ≤ m) (hs : s.swd.sources = []) :
    execGo t s = .next { s.at_ t with
      swd := { s.swd with
        tus := s.swd.tus.map (fun (k : Tus) => { k.go with cycles := k.cyclesNow (max s.now t), cyclesAt := max s.now t })
        running := true, goOwed := false }
      emit := { s.emit with wroteAt := max s.now t } } := by
  have hu' : (s.at_ t).lexUp = true := hu
  simp only [execGo, State.at__keeps, at_now, hm, ho, hu', hv, hs, Nat.not_lt.mpr hl, Bool.not_true, Bool.false_eq_true,
    or_self, if_false, List.foldl_nil]

theorem execGo_of_not_owed {s : State} (t : Time) (h : s.swd.goOwed = false) : execGo t s = .next (s.at_ t) := by
  have h' : (!(s.at_ t).swd.goOwed) = true := by simp [h]
  unfold execGo
  extract_lets
  split
  · rfl
  · exact if_pos (.inl h')

/-! ### The watch on plan vectors (R204) -/

section
variable {s : State} {t : Time} (hp : s.inRst .planning = false) (hs : s.swd.shed = false) (hr : s.plannerRuns = true)
  (hm : s.aon.mode ≠ .held)

include hp hs hr hm in
theorem execSwardWatchdog_due
    (ht : max s.emit.wroteAt (s.dom .planning).release + s.lfldN .plannerWatchdog * 10000000 ≤ max s.now t) :
    execSwardWatchdog t s = .next (({ s.at_ t with emit := { s.emit with wdog := true, wroteAt := max s.now t } }).assertReset
      .swardWdog (s.fused .swardWdog)) := by
  have he : (s.at_ t).elapsed (max s.emit.wroteAt (s.dom .planning).release) (s.lfldN .plannerWatchdog * 10 * ms) = true :=
    (elapsed_iff _ _ _).mpr (by rwa [Nat.mul_assoc])
  have hr' : (s.at_ t).plannerRuns = true := hr
  have hd : (s.at_ t).dom .planning = s.dom .planning := rfl
  have hn : (s.at_ t).lfldN .plannerWatchdog = s.lfldN .plannerWatchdog := rfl
  exact if_neg (by simp [hp, hs, hr', hm, hd, hn, he])

theorem execSwardWatchdog_early
    (ht : max s.now t < max s.emit.wroteAt (s.dom .planning).release + s.lfldN .plannerWatchdog * 10000000) :
    execSwardWatchdog t s = .next (s.at_ t) := by
  have he : (s.at_ t).elapsed (max s.emit.wroteAt (s.dom .planning).release) (s.lfldN .plannerWatchdog * 10 * ms) = false :=
    decide_eq_false (Nat.not_le.mpr (by rwa [Nat.mul_assoc]))
  exact if_pos (.inr (.inr (.inr (.inr (congrArg (!·) he)))))
end

/-! ### The settling theorem -/

/-- Settles O44: a clock by what its lock or its failure leaves; a load by what its checks and images leave of its beginning, GO by
what each tussock goes to; the watchdog by the time since the last vector, the lanes' boundary by whether it has been taken. -/
theorem clocksProgramsAndLanes : Obligations.ClocksProgramsAndLanes := by
  refine ⟨⟨fun s t i hi _ hw hr => execTussockPllLock_of_reset t hi hw hr, fun s t i d hi hlen hw hf hg => ?fails,
      fun s t i d h => execTussockClockFail_of_failed t i d h⟩,
    ⟨fun s t hl hu hp hb => ?load, fun s t m hm ho hu hv hl hs => ?go, fun s t h => execGo_of_not_owed t h⟩,
    fun s t hp hs hr hm => ⟨execSwardWatchdog_due hp hs hr hm, execSwardWatchdog_early⟩,
    fun s t hc h => congrArg _ (lanesBoundary_of_count_ne_zero (s := s.at_ t) h (Nat.ne_of_gt hc)),
    fun s t h => congrArg _ (lanesBoundary_of_taken (s := s.at_ t) h)⟩
  case fails =>
    refine ⟨_, execTussockClockFail_of_working t hi hw hf hg, tusFail_self d hlen, mem_tusFail_clkFault _ i d, ?_,
      tusFail_lock_of_kept _ i, fun j hj => tusFail_other _ d hj, ?_⟩
    · rintro rfl
      exact tusFail_lock_of_lost _ i
    · simp [sameStage, sameRow, sameAon, sameMgmt, sameStore]
  case load =>
    obtain ⟨⟨done, as, s1⟩, hc⟩ : ∃ r, (s.at_ t).loadBegun.checkEntries (List.range 8) [] [] = r := ⟨_, rfl⟩
    obtain ⟨mem, ids, areas, landings, sources, hrun, hempty⟩ := execProgramLoad_of_owed hl hu hp hb hc
    have hchecks := checkEntries_stands (s.at_ t).loadBegun (List.range 8) [] []
    rw [hc] at hchecks
    have hs := hchecks.trans (imagesWritten_stands s1 done)
    refine ⟨_, hrun, rfl, rfl, ?running, hs.now, ?ceil, ?dma, fun i hi => ?halted, fun h => ?empty, hs.stage, hs.aon, hs.core,
      hs.cfg, hs.frz, hs.ddr⟩
    case running => exact congrArg Swd.running hs.swd
    case ceil => exact congrArg Swd.ceil hs.swd
    case dma => exact congrArg Swd.dma hs.swd
    case halted =>
      obtain ⟨hst, hcause⟩ := loadBegun_of_inRun (s := s.at_ t) hi
      exact ⟨(hs.st i).trans hst, (hs.cause i).trans hcause⟩
    case empty =>
      obtain ⟨es, he⟩ := checkEntries_of_empty (s := (s.at_ t).loadBegun) (l := List.range 8) [] []
        fun k hk => h k (List.mem_range.mp hk)
      cases hc.symm.trans he
      obtain ⟨rfl, rfl, rfl⟩ := hempty rfl rfl
      exact ⟨rfl, rfl, rfl, rfl, rfl, fun i hi => loadBegun_entry (s := s.at_ t) hi⟩
  case go =>
    refine ⟨_, execGo_of_mark t hm ho hu hv hl hs, fun i k hk => ⟨_, by rw [List.getElem?_map, hk]; rfl, ?_⟩⟩
    refine ⟨go_sram k, go_regs k, go_acc k, go_seed k, fun he => ?_, fun he hst => ?_⟩
    · dsimp only
      rw [go_of_no_entry he]
      exact ⟨rfl, rfl⟩
    · dsimp only
      rw [go_of_waiting he hst]
      exact ⟨rfl, rfl, rfl, rfl⟩

end Sys2Proof.Machine

/-! SUPPORT. The SCALAR instructions of a tussock, and LOAD and STORE of a word of its SRAM (R258, R259, R283, R312): what writes
register A, and what an access and port N do in a bank that the lemma cache has on loan and outside it. -/
namespace Sys2Proof.Machine

/-! ### Register A -/

/-- A tussock that has written `v` to register `a` and goes on; a write of register 0 has no effect (R312). -/
def Tus.wrote (k : Tus) (a : Nat) (v : Word) : Tus :=
  { k with regs := if a = 0 then k.regs else k.regs.set a v, pc := k.pc + 1 }

theorem toA_eq (x : Ctx) (k : Tus) (v : Word) : x.toA k v = .ok (k.wrote x.ins.a v) := by
  unfold Ctx.toA Tus.setReg
  split <;> simp [Tus.wrote, Tus.next, *]

theorem instr_toA {s : State} (t : Time) {x : TIns} {f : Ctx → Tus → TOut} {v : Word} (h : s.runs x.tus)
    (hf : f (s.ctx t x) (s.tus x.tus) = (s.ctx t x).toA (s.tus x.tus) v) :
    s.instr t x f = .next (s.became t x.tus ((s.tus x.tus).wrote x.a v)) :=
  instr_ok s t x f _ h (hf.trans (toA_eq _ _ _))

theorem toA_shift_of_lt {x : Ctx} {k : Tus} (v : Word) (h : (x.src k).toNat < 32) : x.toA k (x.shift k v) = x.toA k v :=
  congrArg _ (if_pos h)

/-- A shift by 32 or more writes the free value of its place (log entry 19). -/
theorem toA_shift_of_le {x : Ctx} {k : Tus} (v : Word) (h : 32 ≤ (x.src k).toNat) :
    x.toA k (x.shift k v) = x.toA k (Config.freeWord x.free 0) :=
  congrArg _ (if_neg (Nat.not_lt.mpr h))

theorem ite_slt (a b c d : Word) : (if a.slt b then c else d) = if a.toInt < b.toInt then c else d := by
  simp only [BitVec.slt_iff_toInt_lt]

/-! ### Byte strings in memory -/

theorem ofLe_leBytes (n v : Nat) : ofLe (leBytes n v) = v % 256 ^ n := by
  induction n generalizing v with
  | zero => rw [Nat.pow_zero, Nat.mod_one]; rfl
  | succ n ih =>
    rw [leBytes, ofLe, ih, BitVec.toNat_ofNat, Nat.pow_succ' (m := 256), Nat.mod_mul]

theorem leBytes_length (n v : Nat) : (leBytes n v).length = n := by
  induction n generalizing v with
  | zero => rfl
  | succ n ih => rw [leBytes, List.length_cons, ih]

/-- A byte string that was written is read. -/
theorem readBytes_writeBytes_self (m : Mem) (x : Nat) (bs : List Byte) (h : m.wf = true) :
    (m.writeBytes x bs).readBytes x bs.length = bs := by
  induction bs generalizing m x with
  | nil => rfl
  | cons b bs ih =>
    have hb : (m.writeBytes x (b :: bs)).read x = b := read_writeBytes_in m x (b :: bs) 0 h (Nat.succ_pos _)
    rw [List.length_cons, Mem.readBytes, hb, Mem.writeBytes, ih _ _ (write_wf _ _ _ h)]

/-- A word that was written is read. -/
theorem readWord_writeWord_self (m : Mem) (x : Nat) (v : Word) (h : m.wf = true) : (m.writeWord x v).readWord x = v := by
  have hread : (m.writeWord x v).readBytes x 4 = leBytes 4 v.toNat := readBytes_writeBytes_self m x _ h
  have hv : v.toNat % 256 ^ 4 = v.toNat := Nat.mod_eq_of_lt v.isLt
  rw [Mem.readWord, hread, ofLe_leBytes, hv, BitVec.ofNat_toNat, BitVec.setWidth_eq]

theorem read_writeWord_out (m : Mem) (x y : Nat) (v : Word) (h : y < x ∨ x + 4 ≤ y) : (m.writeWord x v).read y = m.read y :=
  read_writeBytes_out m x y _ h

/-! ### The bank on loan to the lemma cache (R259) -/

theorem cacheBank_eq_true_iff (row a : Nat) : cacheBank row a = true ↔ row ≤ 15 ∧ 7 * 65536 ≤ a % sramBytes := by
  have hlt : a % sramBytes < 2 ^ 19 := Nat.mod_lt _ (by decide)
  simp only [cacheBank, Bool.and_eq_true, decide_eq_true_eq, beq_iff_eq]
  omega

theorem cacheBank_wrapped (row a : Nat) : cacheBank row (a % sramBytes) = cacheBank row a := by
  rw [cacheBank, cacheBank, Nat.mod_mod]

/-- A bank is lent or kept as a whole: every byte of a word is where the word is. -/
theorem cacheBank_word_byte (row a : Nat) {i : Nat} (h : i < 4) : cacheBank row (a / 4 * 4 + i) = cacheBank row (a / 4 * 4) := by
  rw [Bool.eq_iff_iff, cacheBank_eq_true_iff, cacheBank_eq_true_iff]
  simp only [sramBytes]
  omega

theorem rangeCache_word (row a : Nat) : rangeCache row (a / 4 * 4, 4) = cacheBank row (a / 4 * 4) := by
  have hbytes : sramBytes = 2 ^ 19 := rfl
  have hlt : a / 4 * 4 % sramBytes < sramBytes := Nat.mod_lt _ (by decide)
  have haligned : a / 4 * 4 % sramBytes % 4 = 0 := by rw [hbytes]; omega
  rw [Bool.eq_iff_iff, cacheBank_eq_true_iff]
  simp only [rangeCache, Bool.and_eq_true, Bool.or_eq_true, decide_eq_true_eq, bne_iff_ne]
  omega

theorem any_rangeCache_word (row a : Nat) : [(a / 4 * 4, 4)].any (rangeCache row) = cacheBank row (a / 4 * 4) := by
  rw [List.any_cons, List.any_nil, Bool.or_false, rangeCache_word]

/-! ### An access without an error, and one that meets two bits in error (R259, R283) -/

section Access
variable {x : Ctx} {k : Tus} {rs ws : List (Nat × Nat)} {go : Tus → TOut}

/-- A tussock that has touched the bank on loan. -/
def Tus.touchedBank7 (k : Tus) : Tus := { k with arith := { k.arith with bank7 := true } }

theorem events_bank7 (k : Tus) : k.events ⟨false, false, false, true⟩ = k.touchedBank7 := by
  simp [Tus.events, Events.or, Tus.touchedBank7]

theorem sat_of_le {m n : Nat} (h : n ≤ m) : sat m n = n := Nat.min_eq_left h

theorem access_of_kept_bank (hev : x.ins.ev = []) (hc : k.corrected ≤ 65535) (hown : (rs ++ ws).any (rangeCache x.row) = false) :
    x.access k rs ws go = go k := by
  simp [Ctx.access, hev, hown, sat_of_le hc]

theorem access_of_lent_bank (hev : x.ins.ev = []) (hc : k.corrected ≤ 65535) (hown : (rs ++ ws).any (rangeCache x.row) = true) :
    x.access k rs ws go =
      { go k.touchedBank7 with reports := (0x45, 0) :: (go k.touchedBank7).reports } := by
  simp only [Ctx.access, hev, hown, List.filter_nil, List.length_nil, Nat.add_zero, sat_of_le hc, if_true, ← events_bank7]
  rfl

/-- A word read with two bits in error halts its tussock with CAUSE 1, and nothing is read (R283). -/
theorem access_of_double {p : Nat} (hev : x.ins.ev = [(p, .double)]) (hc : k.corrected ≤ 65535)
    (hown : (rs ++ ws).any (rangeCache x.row) = false) (hp : p < sramBytes) (hin : inRanges p rs = true)
    (hbank : cacheBank x.row p = false) :
    x.access k rs ws go =
      ⟨{ k with st := .halted, cause := 1, uncorr := setBit k.uncorr (p / 65536) }, [(0x44, p / 65536)], []⟩ := by
  simp [Ctx.access, hev, hown, hin, hbank, sat_of_le hc, Tus.halt, Nat.mod_eq_of_lt hp]

end Access

/-- A word lies in its own range. -/
theorem inRanges_word (a : Nat) : inRanges (a / 4 * 4 % sramBytes) [(a / 4 * 4, 4)] = true := by
  simp [inRanges]

/-! ### A word through port N (R258, R259, R280) -/

section Word
variable {x : Ctx} {k : Tus}

theorem byte_of_lent_bank {a : Nat} (h : cacheBank x.row a = true) : x.byte k a = 0 :=
  if_pos ((cacheBank_wrapped _ _).trans h)

theorem byte_of_kept_bank {a : Nat} (hev : x.ins.ev = []) (h : cacheBank x.row a = false) :
    x.byte k a = k.sram.read (a % sramBytes) := by
  simp [Ctx.byte, cacheBank_wrapped, h, hev]

theorem word_of_lent_bank {a : Nat} (h : cacheBank x.row (a / 4 * 4) = true) : x.word k a = 0 := by
  have hbytes : x.bytes k (a / 4 * 4) 4 = List.replicate 4 0 := by
    refine List.eq_replicate_iff.mpr ⟨by simp [Ctx.bytes], fun b hb => ?_⟩
    obtain ⟨i, hi, rfl⟩ := List.mem_map.mp hb
    exact byte_of_lent_bank ((cacheBank_word_byte _ _ (List.mem_range.mp hi)).trans h)
  rw [Ctx.word, hbytes]
  rfl

theorem readBytes_eq_map (m : Mem) (x n : Nat) : m.readBytes x n = (List.range n).map (fun i => m.read (x + i)) := by
  induction n generalizing x with
  | zero => rfl
  | succ n ih => simp [Mem.readBytes, ih, List.range_succ_eq_map, Nat.add_comm, Nat.add_left_comm, Function.comp_def]

theorem word_of_kept_bank {a : Nat} (hev : x.ins.ev = []) (h : cacheBank x.row (a / 4 * 4) = false) :
    x.word k a = k.sram.readWord (a / 4 * 4 % sramBytes) := by
  have hbytes : x.bytes k (a / 4 * 4) 4 = k.sram.readBytes (a / 4 * 4 % sramBytes) 4 := by
    rw [Ctx.bytes, readBytes_eq_map]
    refine List.map_congr_left fun i hi => ?_
    have hi := List.mem_range.mp hi
    have hwrap : (a / 4 * 4 + i) % sramBytes = a / 4 * 4 % sramBytes + i := by simp only [sramBytes]; omega
    rw [byte_of_kept_bank hev ((cacheBank_word_byte _ _ hi).trans h), hwrap]
  rw [Ctx.word, hbytes, Mem.readWord]

theorem store_of_lent_bank {a : Nat} {bs : List Byte} (h : ∀ i < bs.length, cacheBank x.row (a + i) = true) :
    x.store k a bs = k := by
  induction bs generalizing a with
  | nil => rfl
  | cons b bs ih =>
    have h0 : cacheBank x.row (a % sramBytes) = true := (cacheBank_wrapped _ _).trans (h 0 (Nat.succ_pos _))
    rw [Ctx.store, if_pos h0]
    exact ih fun i hi => by rw [Nat.add_assoc, Nat.add_comm 1]; exact h (i + 1) (Nat.succ_lt_succ hi)

theorem store_of_kept_bank {a : Nat} {bs : List Byte} (hwrap : a % sramBytes + bs.length ≤ sramBytes)
    (h : ∀ i < bs.length, cacheBank x.row (a + i) = false) :
    x.store k a bs = { k with sram := k.sram.writeBytes (a % sramBytes) bs } := by
  induction bs generalizing a k with
  | nil => rfl
  | cons b bs ih =>
    have h0 : ¬cacheBank x.row (a % sramBytes) = true :=
      ne_true_of_eq_false ((cacheBank_wrapped _ _).trans (h 0 (Nat.succ_pos _)))
    rw [Ctx.store, if_neg h0]
    cases bs with
    | nil => rfl
    | cons c bs =>
      have hnext : (a + 1) % sramBytes = a % sramBytes + 1 := by
        simp only [List.length_cons, sramBytes] at hwrap ⊢; omega
      rw [ih (by rw [hnext]; simp only [List.length_cons] at hwrap ⊢; omega)
        fun i hi => by rw [Nat.add_assoc, Nat.add_comm 1]; exact h (i + 1) (Nat.succ_lt_succ hi), hnext]
      rfl

theorem store_word_of_lent_bank {a : Nat} (v : Nat) (h : cacheBank x.row (a / 4 * 4) = true) :
    x.store k (a / 4 * 4) (leBytes 4 v) = k :=
  store_of_lent_bank fun _ hi => (cacheBank_word_byte _ _ (by rwa [leBytes_length] at hi)).trans h

theorem store_word_of_kept_bank {a : Nat} (v : Word) (h : cacheBank x.row (a / 4 * 4) = false) :
    x.store k (a / 4 * 4) (leBytes 4 v.toNat) = { k with sram := k.sram.writeWord (a / 4 * 4 % sramBytes) v } :=
  store_of_kept_bank (by rw [leBytes_length]; simp only [sramBytes]; omega)
    fun _ hi => (cacheBank_word_byte _ _ (by rwa [leBytes_length] at hi)).trans h

end Word

/-! ### LOAD and STORE (R312) -/

/-- An instruction that makes one report beside what it leaves of its tussock. -/
theorem instr_reported {s : State} (t : Time) {x : TIns} {f : Ctx → Tus → TOut} {k : Tus} {kind detail : Nat} (h : s.runs x.tus)
    (hf : f (s.ctx t x) (s.tus x.tus) = ⟨k, [(kind, detail)], []⟩) :
    s.instr t x f = .next ((s.became t x.tus k).report (0xF00 + x.tus / 32) kind x.tus detail) := by
  rw [instr_runs s t x f h, hf]; rfl

/-- The aligned address of the word that LOAD and STORE access; it wraps at the end of the SRAM (log entry 18). -/
def wordAddr (x : TIns) (k : Tus) : Nat := (k.reg x.b + x.imm).toNat / 4 * 4

section LoadStore
variable {s : State} (t : Time) {x : TIns} (h : s.runs x.tus) (hc : (s.tus x.tus).corrected ≤ 65535)
include h hc

theorem execScalarLoad_of_kept_bank (hev : x.ev = []) (hb : cacheBank (x.tus / 32) (wordAddr x (s.tus x.tus)) = false) :
    execScalarLoad t x s = .next (s.became t x.tus
      ((s.tus x.tus).wrote x.a ((s.tus x.tus).sram.readWord (wordAddr x (s.tus x.tus) % sramBytes)))) :=
  instr_toA t h ((access_of_kept_bank hev hc ((any_rangeCache_word _ _).trans hb)).trans
    (congrArg _ (word_of_kept_bank hev hb)))

theorem execScalarStore_of_kept_bank (hev : x.ev = []) (hb : cacheBank (x.tus / 32) (wordAddr x (s.tus x.tus)) = false) :
    execScalarStore t x s = .next (s.became t x.tus { s.tus x.tus with
      sram := (s.tus x.tus).sram.writeWord (wordAddr x (s.tus x.tus) % sramBytes) ((s.tus x.tus).reg x.c)
      pc := (s.tus x.tus).pc + 1 }) :=
  instr_ok s t x _ _ h ((access_of_kept_bank hev hc ((any_rangeCache_word _ _).trans hb)).trans
    (congrArg (fun k => TOut.ok k.next) (store_word_of_kept_bank _ hb)))

/-- A LOAD from the bank on loan reads 0 and is reported (R259). -/
theorem execScalarLoad_of_lent_bank (hev : x.ev = []) (hb : cacheBank (x.tus / 32) (wordAddr x (s.tus x.tus)) = true) :
    execScalarLoad t x s = .next ((s.became t x.tus ((s.tus x.tus).touchedBank7.wrote x.a 0)).report
      (0xF00 + x.tus / 32) 0x45 x.tus 0) := by
  have hword : (s.ctx t x).word (s.tus x.tus).touchedBank7 ((s.ctx t x).addr (s.tus x.tus)) = 0 := word_of_lent_bank hb
  have hgo : (s.ctx t x).toA (s.tus x.tus).touchedBank7
      ((s.ctx t x).word (s.tus x.tus).touchedBank7 ((s.ctx t x).addr (s.tus x.tus))) =
        .ok ((s.tus x.tus).touchedBank7.wrote x.a 0) := by rw [hword]; exact toA_eq _ _ _
  exact instr_reported t h ((access_of_lent_bank hev hc ((any_rangeCache_word _ _).trans hb)).trans
    (congrArg (fun o : TOut => { o with reports := (0x45, 0) :: o.reports }) hgo))

/-- A STORE to the bank on loan stores nothing and is reported (R259). -/
theorem execScalarStore_of_lent_bank (hev : x.ev = []) (hb : cacheBank (x.tus / 32) (wordAddr x (s.tus x.tus)) = true) :
    execScalarStore t x s = .next ((s.became t x.tus (s.tus x.tus).touchedBank7.next).report
      (0xF00 + x.tus / 32) 0x45 x.tus 0) :=
  instr_reported t h ((access_of_lent_bank hev hc ((any_rangeCache_word _ _).trans hb)).trans
    (congrArg (fun k : Tus => (⟨k.next, [(0x45, 0)], []⟩ : TOut)) (store_word_of_lent_bank _ hb)))

theorem execScalarLoad_of_double (hev : x.ev = [(wordAddr x (s.tus x.tus) % sramBytes, .double)])
    (hb : cacheBank (x.tus / 32) (wordAddr x (s.tus x.tus)) = false) :
    execScalarLoad t x s = .next ((s.became t x.tus { s.tus x.tus with
      st := .halted, cause := 1
      uncorr := setBit (s.tus x.tus).uncorr (wordAddr x (s.tus x.tus) % sramBytes / 65536) }).report
        (0xF00 + x.tus / 32) 0x44 x.tus (wordAddr x (s.tus x.tus) % sramBytes / 65536)) :=
  instr_reported t h (access_of_double hev hc ((any_rangeCache_word _ _).trans hb) (Nat.mod_lt _ (by decide))
    (inRanges_word _) ((cacheBank_wrapped _ _).trans hb))

end LoadStore

theorem cacheBank_eq_false {tus a : Nat} (h : 512 ≤ tus ∨ a % sramBytes + 4 ≤ 7 * 65536) : cacheBank (tus / 32) a = false := by
  rw [Bool.eq_false_iff, ne_eq, cacheBank_eq_true_iff]
  omega

theorem cacheBank_eq_true {tus a : Nat} (ht : tus < 512) (ha : 7 * 65536 ≤ a % sramBytes) : cacheBank (tus / 32) a = true :=
  (cacheBank_eq_true_iff _ _).mpr ⟨by omega, ha⟩

/-! ### The settling theorem -/

/-- Settles O36: each SCALAR operation by what it writes to register A; LOAD and STORE by whether the bank of their word is lent to
the lemma cache, and by the error that its word meets. -/
theorem scalarsAndMemory : Obligations.ScalarsAndMemory := by
  refine ⟨fun s t x h => ?scalars, fun s t x h hc =>
    ⟨fun hev hkept => ⟨?load, ?store⟩, fun hev ht hp => ?lent, fun hev ht => ?double⟩⟩
  case scalars =>
    refine ⟨?add, ?sub, ?mul, ?and, ?or, ?xor, ?slt, fun hc => ⟨?shl, ?shr, ?sar⟩,
      fun hc => ⟨Config.freeWord s.free 0, ?shl', ?shr', ?sar'⟩, ?lo, ?hi⟩
    case add | sub | mul | and | or | xor | lo | hi => exact instr_toA t h rfl
    case slt => exact instr_toA t h (congrArg _ (ite_slt _ _ _ _))
    case shl | shr | sar => exact instr_toA t h (toA_shift_of_lt _ hc)
    case shl' | shr' | sar' => exact instr_toA t h (toA_shift_of_le _ hc)
  case load => exact execScalarLoad_of_kept_bank t h hc hev (cacheBank_eq_false hkept)
  case store =>
    exact ⟨_, execScalarStore_of_kept_bank t h hc hev (cacheBank_eq_false hkept), readWord_writeWord_self _ _ _,
      fun q => read_writeWord_out _ _ q _⟩
  case lent =>
    exact ⟨execScalarLoad_of_lent_bank t h hc hev (cacheBank_eq_true ht hp),
      execScalarStore_of_lent_bank t h hc hev (cacheBank_eq_true ht hp)⟩
  case double => exact execScalarLoad_of_double t h hc hev (cacheBank_eq_false (.inl ht))

end Sys2Proof.Machine

/-! SUPPORT. The services of the sward's periphery and DMA (R247, R307, R309 to R311): what each makes of the flit that it takes,
which parts of the state a delivery into the mesh touches, and what the lines of a descriptor leave in memory. -/
namespace Sys2Proof.Machine

/-! ### EMIT, SUMMARY_OUT, REPORT and ROW (R307, R309) -/

/-- A first half waits for its partner. -/
theorem execEmit_of_first_half {s : State} {above : Bool} {col : Nat} {m : Moving} (t : Time) (h : s.offers above col 0xF00 m)
    (hf : m.flit.half = false) (hw : s.swd.emitHalf = none) :
    execEmit t above col s = .next { s.at_ t with swd := { s.swd.remove m with emitHalf := some m.flit } } := by
  have hw' : (s.took t m).swd.emitHalf = none := hw
  simp only [execEmit, takeService_of_offers t h, hf, hw']
  rfl

/-- A second half with its partner is written as a vector (R193). -/
theorem execEmit_of_pair {s : State} {above : Bool} {col : Nat} {m : Moving} {g : Flit} (t : Time) (h : s.offers above col 0xF00 m)
    (hf : m.flit.half = true) (hw : s.swd.emitHalf = some g) (htag : g.tag = m.flit.tag) :
    execEmit t above col s = .next (({ s.at_ t with swd := { s.swd.remove m with emitHalf := none } }).emitVec
      (g.payload ++ m.flit.payload)) := by
  have hw' : (s.took t m).swd.emitHalf = some g := hw
  simp only [execEmit, takeService_of_offers t h, hf, hw', htag]
  rfl

theorem execEmit_of_other_tag {s : State} {above : Bool} {col : Nat} {m : Moving} {g : Flit} (t : Time)
    (h : s.offers above col 0xF00 m) (hf : m.flit.half = true) (hw : s.swd.emitHalf = some g) (htag : g.tag ≠ m.flit.tag) :
    execEmit t above col s = .next (s.took t m).svcReject := by
  have hw' : (s.took t m).swd.emitHalf = some g := hw
  simp only [execEmit, takeService_of_offers t h, hf, hw', if_neg htag]
  rfl

/-- A vector written while none waits to be released is the newest written. -/
theorem emitVec_of_formed {s : State} (w : List Word) (hv : s.vot.formed = true) (he : s.emit.written = none) :
    s.emitVec w = { s with emit := { s.emit with wroteAt := s.now, written := some w } } := by
  simp [State.emitVec, hv, he]

/-- The bytes of a flit's payload. -/
def Flit.bytes (f : Flit) : List Byte := f.payload.flatMap (fun (w : Word) => leBytes 4 w.toNat)

theorem execSummaryOut_of_short {s : State} {above : Bool} {col : Nat} {m : Moving} (t : Time) (h : s.offers above col 0xF06 m)
    (hl : (s.swd.summary ++ m.flit.bytes).length < 1600) :
    execSummaryOut t above col s =
      .next { s.at_ t with swd := { s.swd.remove m with summary := s.swd.summary ++ m.flit.bytes } } := by
  simp only [execSummaryOut, takeService_of_offers t h]
  exact if_neg (Nat.not_le.mpr hl)

/-- The bytes that complete a summary publish it, and the next one begins. -/
theorem execSummaryOut_of_complete {s : State} {above : Bool} {col : Nat} {m : Moving} (t : Time) (h : s.offers above col 0xF06 m)
    (hl : 1600 ≤ (s.swd.summary ++ m.flit.bytes).length) :
    execSummaryOut t above col s = .next { s.at_ t with swd :=
      { s.swd.remove m with summary := [], summaryOut := some ((s.swd.summary ++ m.flit.bytes).take 1600) } } := by
  simp only [execSummaryOut, takeService_of_offers t h]
  exact if_pos hl

/-- The state once a finding has been counted among those of its entry. -/
def State.countedFinding (s : State) (t : Time) (m : Moving) : State :=
  { s.at_ t with swd := { s.swd.remove m with
    reports := insertKey s.swd.reports (s.tus m.src).entry (lookupD s.swd.reports (s.tus m.src).entry 0 + 1) } }

theorem execReport_of_same_second {s : State} {above : Bool} {col : Nat} {m : Moving} (t : Time) (h : s.offers above col 0xF09 m)
    (hs : s.swd.reportSecond = (s.at_ t).opMs / 1000) :
    execReport t above col s = .next (
      if lookupD s.swd.reports (s.tus m.src).entry 0 < 1000 then
        (s.countedFinding t m).finding (s.tus m.src).entry m.flit.bytes
      else (s.countedFinding t m).svcReject) := by
  have hs' : (s.took t m).opMs / 1000 = s.swd.reportSecond := hs.symm
  have hr : (s.took t m).swd.reportSecond = s.swd.reportSecond := rfl
  simp only [execReport, takeService_of_offers t h, hs', hr, if_true]
  rfl

theorem execRow_of_offers {s : State} {above : Bool} {col : Nat} {m : Moving} (t : Time) (dst ch : Nat)
    (h : s.offers above col 0xF08 m) :
    execRow t above col dst ch s = .next ((s.took t m).htlSend 5 (0x100 + ch % 256) dst m.flit.bytes) := by
  simp only [execRow, takeService_of_offers t h]
  rfl

/-! ### Deliveries into the mesh (R287, R307) -/

theorem fromPort_eq_mesh (s : State) (f : Flit) : ∃ ms, s.fromPort f = { s with swd := { s.swd with mesh := ms } } := by
  unfold State.fromPort
  extract_lets above row
  split
  · exact ⟨s.swd.mesh, rfl⟩
  · exact ⟨_, rfl⟩

/-- What touches the mesh alone does so however often it is done. -/
theorem foldl_eq_mesh {α : Type} {f : State → α → State} (l : List α) (s : State)
    (hf : ∀ s a, ∃ ms, f s a = { s with swd := { s.swd with mesh := ms } }) :
    ∃ ms, l.foldl f s = { s with swd := { s.swd with mesh := ms } } := by
  induction l generalizing s with
  | nil => exact ⟨s.swd.mesh, rfl⟩
  | cons a l ih =>
    obtain ⟨ms, h⟩ := hf s a
    rw [List.foldl_cons, h]
    exact ih _

theorem landRing_eq_mesh (s : State) (l : Landing) (stream p : Nat) (bs : List Byte) :
    ∃ ms, s.landRing l stream p bs = { s with swd := { s.swd with mesh := ms } } :=
  foldl_eq_mesh _ s fun s _ => fromPort_eq_mesh s _

theorem deliver_of_not_running {s : State} (service : Nat) (bs : List Byte) (slot : Option Nat) (h : s.swd.running = false) :
    s.deliver service bs slot = s := if_pos (congrArg (!·) h)

/-- What has touched the mesh alone, once its landings have counted. -/
theorem landings_of_eq_mesh {s s1 : State} (f : Landing → Landing) (h : ∃ ms, s1 = { s with swd := { s.swd with mesh := ms } }) :
    ∃ ms, { s1 with swd := { s1.swd with landings := s1.swd.landings.map f } } =
      { s with swd := { s.swd with mesh := ms, landings := s.swd.landings.map f } } := by
  obtain ⟨ms, rfl⟩ := h
  exact ⟨ms, rfl⟩

/-- A delivery while programs run puts flits into the mesh and counts its half-lines at the landings of its service. -/
theorem deliver_of_running {s : State} (service : Nat) (bs : List Byte) (slot : Option Nat) (h : s.swd.running = true) :
    ∃ ms, s.deliver service bs slot = { s with swd := { s.swd with
      mesh := ms
      landings := s.swd.landings.map (fun (l : Landing) =>
        if l.service = service then { l with count := l.count + (bs.length + 31) / 32 } else l) } } := by
  rw [State.deliver, if_neg (by simp [h])]
  exact landings_of_eq_mesh _ (foldl_eq_mesh _ s fun s l => landRing_eq_mesh s l _ _ _)

/-- A frame fills its slot of 512 bytes. -/
theorem frame_length (fr : List Byte) : ((fr.take 480) ++ List.replicate (512 - (fr.take 480).length) 0).length = 512 := by
  rw [List.length_append, List.length_replicate, List.length_take]
  omega

/-! ### DMA descriptors (R310) -/

theorem execDmaDescriptor_of_full {s : State} {e : Nat} (t : Time) (above : Bool) (col : Nat)
    (hn : 64 ≤ (s.swd.dma.filter (fun d => d.entry == e)).length) : execDmaDescriptor t above col e s = .next (s.at_ t) :=
  if_pos (.inr hn)

theorem execDmaDescriptor_of_offers {s : State} {above : Bool} {col e : Nat} {m : Moving} (t : Time)
    (h : s.offers above col (0xF10 + e) m) (he : e < 8) (hn : (s.swd.dma.filter (fun d => d.entry == e)).length < 64) :
    execDmaDescriptor t above col e s = .next (
      if (s.took t m).dmaOk ⟨e, m.flit.payload⟩ then
        { s.at_ t with swd := { s.swd.remove m with dma := s.swd.dma ++ [(⟨e, m.flit.payload⟩ : Dma)] } }
      else (s.took t m).svcReject.completion (m.flit.w 5) (0xF10 + e) 0xFFFFFFFF) := by
  have hroom : ¬(8 ≤ e ∨ 64 ≤ ((s.at_ t).swd.dma.filter (fun d => d.entry == e)).length) :=
    not_or.mpr ⟨Nat.not_le.mpr he, Nat.not_le.mpr hn⟩
  simp only [execDmaDescriptor, if_neg hroom, takeService_of_offers t h]
  split <;> rfl

/-! ### Lines written to memory (R247, R310) -/

theorem writeBytes_append (m : Mem) (x : Nat) (bs cs : List Byte) :
    m.writeBytes x (bs ++ cs) = (m.writeBytes x bs).writeBytes (x + bs.length) cs := by
  induction bs generalizing m x with
  | nil => rfl
  | cons b bs ih =>
    rw [List.cons_append, Mem.writeBytes, ih, List.length_cons, Nat.add_comm bs.length, ← Nat.add_assoc]
    rfl

theorem readBytes_add (m : Mem) (x n k : Nat) : m.readBytes x (n + k) = m.readBytes x n ++ m.readBytes (x + n) k := by
  have htail := readBytes_drop m x (n + k) n
  rw [Nat.add_sub_cancel_left] at htail
  rw [← readBytes_take m x (Nat.le_add_right n k), ← htail, List.take_append_drop]

/-- Local address of the first byte that a descriptor moves. -/
def Dma.localAddr (d : Dma) : Nat := field (d.words.getD 3 0) 21 19 * 65536 + field (d.words.getD 3 0) 18 9 * 64

theorem lexWriteOk_of_history {s : State} {a : Nat} (h : 64 * gib ≤ a) : s.lexWriteOk a = true := by
  simp [State.lexWriteOk, h]

section Out
variable {s : State} {d : Dma} (hout : d.out = true) (ha : 64 * gib ≤ d.addr)
include hout ha

theorem dmaLine_of_out (i : Nat) :
    s.dmaLine d i = { s with
      swm := s.swm.writeBytes (d.addr + 64 * i) ((s.tus d.tus).sram.readBytes (d.localAddr + 64 * i) 64) } := by
  have hok : s.lexWriteOk (d.addr + 64 * i) = true := lexWriteOk_of_history (Nat.le_add_right_of_le ha)
  have haddr : field (d.words.getD 3 0) 21 19 * 65536 + (field (d.words.getD 3 0) 18 9 + i) * 64 = d.localAddr + 64 * i := by
    rw [Dma.localAddr]; omega
  simp only [State.dmaLine, hout, hok, haddr, if_true]

/-- Lines that go to memory one after the other are one string of bytes there. -/
theorem foldl_dmaLine_of_out (n : Nat) :
    (List.range n).foldl (fun (s : State) i => s.dmaLine d i) s =
      { s with swm := s.swm.writeBytes d.addr ((s.tus d.tus).sram.readBytes d.localAddr (64 * n)) } := by
  induction n with
  | zero => rfl
  | succ n ih =>
    rw [List.range_succ, List.foldl_append, ih, List.foldl_cons, List.foldl_nil, dmaLine_of_out hout ha, Nat.mul_succ, readBytes_add,
      writeBytes_append, readBytes_length]
    rfl

theorem execDmaComplete_of_out {e : Nat} (t : Time) (hp : s.inRst .planning = false)
    (hd : s.swd.dma.find? (fun d => d.entry == e) = some d) :
    execDmaComplete t e s = .next (({ s.at_ t with
      swm := s.swm.writeBytes d.addr ((s.tus d.tus).sram.readBytes d.localAddr (64 * d.lines))
      swd := { s.swd with dma := s.swd.dma.erase d } }).completion (d.words.getD 5 0) (0xF10 + e) (BitVec.ofNat 32 d.lines)) := by
  have hmoved : (List.range d.lines).filter (fun i => !d.out || (s.at_ t).lexWriteOk (d.addr + 64 * i)) = List.range d.lines :=
    List.filter_eq_self.mpr fun i _ => by
      rw [lexWriteOk_of_history (Nat.le_add_right_of_le ha), Bool.or_true]
  have hp' : (s.at_ t).inRst .planning = false := hp
  have hd' : (s.at_ t).swd.dma.find? (fun d => d.entry == e) = some d := hd
  simp only [execDmaComplete, hp', hd', hmoved, List.length_range, foldl_dmaLine_of_out hout ha]
  rfl

end Out

/-- What was moved stands in memory byte by byte. -/
theorem read_writeBytes_readBytes (m m' : Mem) (a b : Nat) {i n : Nat} (h : m.wf = true) (hi : i < n) :
    (m.writeBytes a (m'.readBytes b n)).read (a + i) = m'.read (b + i) := by
  rw [read_writeBytes_in m a _ i h (by rwa [readBytes_length])]
  simp [readBytes_eq_map]

/-! ### The settling theorem -/

/-- Settles O45: each service by what it makes of the flit that it takes, a delivery by what it touches beside the mesh, a
descriptor by its checks, and its completion by the one string of bytes that its lines are in memory. -/
theorem servicesAndDma : Obligations.ServicesAndDma := by
  refine ⟨⟨fun s t above col m h => ⟨execEmit_of_first_half t h, fun g hf hw htag hv he => ?pair,
        fun g hf hw htag => execEmit_of_other_tag t h hf hw htag⟩,
      fun s t above col m h => ⟨execSummaryOut_of_short t h, execSummaryOut_of_complete t h⟩,
      fun s t above col m h hs => ⟨fun hn => ?passes, fun hn => ?rejects⟩,
      fun s t above col dst ch m h => execRow_of_offers t dst ch h,
      fun s t fr hp hr => ?lands, fun s t fr hr => ?stopped⟩,
    fun s t above col e m h he hn => ⟨fun hok => ?waits, fun hok => ?refused⟩,
    fun s t above col e hn => execDmaDescriptor_of_full t above col hn,
    fun s t e d hp hd hout ha => ⟨_, execDmaComplete_of_out hout ha t hp hd, fun i hw hi => ?moved, fun q hq => ?kept⟩⟩
  case pair => exact (execEmit_of_pair t h hf hw htag).trans (congrArg _ (emitVec_of_formed _ hv he))
  case passes => exact (execReport_of_same_second t h hs).trans (congrArg _ (if_pos hn))
  case rejects => exact (execReport_of_same_second t h hs).trans (congrArg _ (if_neg (Nat.not_lt.mpr hn)))
  case lands =>
    obtain ⟨ms, hd⟩ := deliver_of_running (s := s.at_ t) 2 (fr.take 480 ++ List.replicate (512 - (fr.take 480).length) 0) none hr
    rw [frame_length] at hd
    exact ⟨ms, _, congrArg _ ((if_neg (by simp [hp])).trans hd), rfl⟩
  case stopped =>
    exact congrArg _ ((congrArg _ (deliver_of_not_running (s := s.at_ t) 2 _ none hr)).trans (ite_self _))
  case waits => exact (execDmaDescriptor_of_offers t h he hn).trans (congrArg _ (if_pos hok))
  case refused => exact (execDmaDescriptor_of_offers t h he hn).trans (congrArg _ (if_neg (ne_true_of_eq_false hok)))
  case moved => exact read_writeBytes_readBytes _ _ _ _ hw hi
  case kept => exact read_writeBytes_out _ _ _ _ (by rwa [readBytes_length])

end Sys2Proof.Machine

/-! SUPPORT. The Furze tables (chapter 11): keyed lists, what the operations on the partner table and the downstream queue make
of them, and what a change of grants leaves standing. -/
namespace Sys2Proof.Machine

/-! ### Keyed lists -/

section Keyed
variable {α : Type}

theorem lookup_cons_ite (l : List (Nat × α)) (j k : Nat) (v : α) :
    ((k, v) :: l).lookup j = if j = k then some v else l.lookup j := by
  rw [List.lookup_cons]
  split <;> simp_all

theorem lookup_insertKey_self (l : List (Nat × α)) (k : Nat) (v : α) : (insertKey l k v).lookup k = some v :=
  List.lookup_cons_self

theorem lookup_eraseKey_self (l : List (Nat × α)) (k : Nat) : (eraseKey l k).lookup k = none := by
  rw [List.lookup_eq_none_iff]
  intro p hp
  have hk : p.1 ≠ k := by simpa using (List.mem_filter.mp hp).2
  simpa using hk.symm

theorem lookup_eraseKey_other (l : List (Nat × α)) {j k : Nat} (h : j ≠ k) : (eraseKey l k).lookup j = l.lookup j := by
  induction l with
  | nil => rfl
  | cons x l ih =>
    obtain ⟨i, v⟩ := x
    unfold eraseKey at ih ⊢
    by_cases hi : i = k
    · simp [hi, ih, lookup_cons_ite, h]
    · simp [hi, ih, lookup_cons_ite]

theorem lookup_insertKey_other (l : List (Nat × α)) {j k : Nat} (v : α) (h : j ≠ k) : (insertKey l k v).lookup j = l.lookup j := by
  rw [insertKey, lookup_cons_ite, if_neg h]
  exact lookup_eraseKey_other l h

theorem lookup_updKey (l : List (Nat × α)) (j k : Nat) (f : α → α) :
    (updKey l k f).lookup j = (l.lookup j).map (fun v => if j = k then f v else v) := by
  induction l with
  | nil => rfl
  | cons x l ih =>
    obtain ⟨i, v⟩ := x
    have hcons : updKey ((i, v) :: l) k f = (i, if i = k then f v else v) :: updKey l k f := by
      by_cases hi : i = k <;> simp [updKey, hi]
    rw [hcons, lookup_cons_ite, lookup_cons_ite, ih]
    by_cases hj : j = i <;> simp [hj]


theorem updKey_of_lookup_none {l : List (Nat × α)} {k : Nat} (f : α → α) (h : l.lookup k = none) : updKey l k f = l := by
  have hne (p : Nat × α) (hp : p ∈ l) : p.1 ≠ k := fun e => by simpa [e] using List.lookup_eq_none_iff.mp h p hp
  refine (List.map_congr_left fun p hp => ?_).trans (List.map_id l)
  simp [hne p hp]

end Keyed

/-! ### Messages over Heathline -/

/-- A message sent over Heathline changes Heathline only. -/
theorem htlSend_eq (s : State) (cls service dst : Nat) (b : List Byte) :
    ∃ h, s.htlSend cls service dst b = { s with htl := h } := by
  have hk := s.htlSend_keeps cls service dst b
  generalize s.htlSend cls service dst b = s' at hk ⊢
  refine ⟨s'.htl, ?_⟩
  cases s
  cases s'
  dsimp only at hk ⊢
  simp only [hk]

theorem shareBytes_eq (s : State) (b : List Byte) : ∃ h, s.shareBytes b = { s with htl := h } := htlSend_eq s 1 1 0xFE _

theorem shareBookings_eq (s : State) : ∃ h, s.shareBookings = { s with htl := h } := by
  unfold State.shareBookings
  split
  · exact ⟨s.htl, rfl⟩
  · exact shareBytes_eq s _

/-! ### The partner table -/

/-- A partner through a function: shared or not, the table and Heathline are all that changes. -/
theorem updPart_eq (s : State) (id : Nat) (f : Partner → Partner) :
    ∃ h, s.updPart id f = { s with htl := h, frz := { s.frz with parts := updKey s.frz.parts id f } } := by
  unfold State.updPart
  split
  next hp => exact ⟨s.htl, by rw [updKey_of_lookup_none f hp]⟩
  next p hp =>
    dsimp only
    split
    · exact shareBytes_eq _ _
    · exact ⟨s.htl, rfl⟩

@[simp] theorem updPart_frz (s : State) (id : Nat) (f : Partner → Partner) :
    (s.updPart id f).frz = { s.frz with parts := updKey s.frz.parts id f } := by
  obtain ⟨h, e⟩ := updPart_eq s id f
  rw [e]

/-- What the speaker does not share of a partner changes in the table alone (R334). -/
theorem updPart_of_unchanged {s : State} {id : Nat} {p : Partner} {f : Partner → Partner} (hp : s.part id = some p)
    (hc : pChanged p (f p) = false) :
    s.updPart id f = { s with frz := { s.frz with parts := updKey s.frz.parts id f } } := by
  simp [State.updPart, hp, hc]

theorem setPart_eq (s : State) (id : Nat) (p : Partner) :
    ∃ h, s.setPart id p = { s with htl := h, frz := { s.frz with parts := insertKey s.frz.parts id p } } := by
  unfold State.setPart
  dsimp only
  split
  · exact shareBytes_eq _ _
  · exact ⟨s.htl, rfl⟩

@[simp] theorem setPart_frz (s : State) (id : Nat) (p : Partner) :
    (s.setPart id p).frz = { s.frz with parts := insertKey s.frz.parts id p } := by
  obtain ⟨h, e⟩ := setPart_eq s id p
  rw [e]

theorem freePart_eq (s : State) (id : Nat) :
    ∃ h, s.freePart id = { s with htl := h, frz := { s.frz with parts := eraseKey s.frz.parts id } } := by
  unfold State.freePart
  dsimp only
  split
  · exact shareBytes_eq _ _
  · exact ⟨s.htl, rfl⟩

@[simp] theorem freePart_frz (s : State) (id : Nat) :
    (s.freePart id).frz = { s.frz with parts := eraseKey s.frz.parts id } := by
  obtain ⟨h, e⟩ := freePart_eq s id
  rw [e]

theorem part_congr {s s' : State} (h : s'.frz.parts = s.frz.parts) (j : Nat) : s'.part j = s.part j := by
  rw [State.part, State.part, h]

theorem part_updPart (s : State) (id : Nat) (f : Partner → Partner) (j : Nat) :
    (s.updPart id f).part j = (s.part j).map (fun p => if j = id then f p else p) := by
  obtain ⟨h, e⟩ := updPart_eq s id f
  rw [e]
  exact lookup_updKey _ _ _ _

theorem part_updPart_self {s : State} {id : Nat} {p : Partner} (f : Partner → Partner) (hp : s.part id = some p) :
    (s.updPart id f).part id = some (f p) := by
  simp [part_updPart, hp]

theorem part_updPart_other (s : State) {id j : Nat} (f : Partner → Partner) (h : j ≠ id) : (s.updPart id f).part j = s.part j := by
  simp [part_updPart, h]

theorem part_setPart_self (s : State) (id : Nat) (p : Partner) : (s.setPart id p).part id = some p := by
  obtain ⟨h, e⟩ := setPart_eq s id p
  rw [e]
  exact lookup_insertKey_self _ _ _

theorem part_setPart_other (s : State) {id j : Nat} (p : Partner) (h : j ≠ id) : (s.setPart id p).part j = s.part j := by
  obtain ⟨x, e⟩ := setPart_eq s id p
  rw [e]
  exact lookup_insertKey_other _ _ h

theorem part_freePart_self (s : State) (id : Nat) : (s.freePart id).part id = none := by
  obtain ⟨h, e⟩ := freePart_eq s id
  rw [e]
  exact lookup_eraseKey_self _ _

theorem part_freePart_other (s : State) {id j : Nat} (h : j ≠ id) : (s.freePart id).part j = s.part j := by
  obtain ⟨x, e⟩ := freePart_eq s id
  rw [e]
  exact lookup_eraseKey_other _ h

/-! ### The downstream queue -/

theorem push_eq (s : State) (l : List DownItem) :
    s.push l = { s with frz := { s.frz with down := if s.frz.speaking then s.frz.down ++ l else s.frz.down } } := by
  unfold State.push
  split <;> rfl

theorem push_of_speaking {s : State} (h : s.frz.speaking = true) (l : List DownItem) :
    s.push l = { s with frz := { s.frz with down := s.frz.down ++ l } } := if_pos h

theorem part_push (s : State) (l : List DownItem) (j : Nat) : (s.push l).part j = s.part j := by
  rw [push_eq]
  rfl

/-! ### Changes of grants and of the slot map -/

/-- Only grants, the slot map, the downstream queue and what is sent over Heathline have changed (R350, R351). -/
structure GrantsMove (s s' : State) : Prop where
  rest : ∃ (h : Htl) (l : List (Nat × Partner)) (d : List DownItem) (v : Nat) (e : List Nat) (p : Nat),
    s' = { s with htl := h, frz := { s.frz with parts := l, down := d, mapVersion := v, mapPending := e, period := p } }
  part : ∀ j, ∃ g : Partner → List Grant, s'.part j = (s.part j).map (fun p => { p with grants := g p })

namespace GrantsMove
variable {s s' s'' : State}

theorem of_parts (hr : ∃ (h : Htl) (d : List DownItem) (v : Nat) (e : List Nat) (p : Nat),
    s' = { s with htl := h, frz := { s.frz with down := d, mapVersion := v, mapPending := e, period := p } }) : GrantsMove s s' := by
  obtain ⟨h, d, v, e, p, rfl⟩ := hr
  exact ⟨⟨h, _, d, v, e, p, rfl⟩, fun j => ⟨Partner.grants, Option.map_id'.symm⟩⟩

theorem refl (s : State) : GrantsMove s s := of_parts ⟨s.htl, _, _, _, _, rfl⟩

theorem trans (h : GrantsMove s s') (h' : GrantsMove s' s'') : GrantsMove s s'' where
  rest := by
    obtain ⟨_, _, _, _, _, _, rfl⟩ := h.rest
    obtain ⟨x, l, d, v, e, p, rfl⟩ := h'.rest
    exact ⟨x, l, d, v, e, p, rfl⟩
  part j := by
    obtain ⟨g, hg⟩ := h.part j
    obtain ⟨g', hg'⟩ := h'.part j
    exact ⟨fun p => g' { p with grants := g p }, by rw [hg', hg, Option.map_map]; rfl⟩

theorem foldl {α : Type} {f : State → α → State} (hf : ∀ s a, GrantsMove s (f s a)) (l : List α) (s : State) :
    GrantsMove s (l.foldl f s) := by
  induction l generalizing s with
  | nil => exact refl s
  | cons a l ih => exact (hf s a).trans (ih (f s a))

/-- A partner keeps all but its grants. -/
theorem part_some (h : GrantsMove s s') {j : Nat} {p : Partner} (hp : s.part j = some p) :
    ∃ gs, s'.part j = some { p with grants := gs } := by
  obtain ⟨g, hg⟩ := h.part j
  exact ⟨g p, by rw [hg, hp]; rfl⟩

end GrantsMove

theorem push_grantsMove (s : State) (l : List DownItem) : GrantsMove s (s.push l) := by
  rw [push_eq]
  exact .of_parts ⟨_, _, _, _, _, rfl⟩

theorem updPart_grantsMove (s : State) (id : Nat) (g : Partner → List Grant) :
    GrantsMove s (s.updPart id (fun p => { p with grants := g p })) where
  rest := by
    obtain ⟨h, e⟩ := updPart_eq s id (fun p => { p with grants := g p })
    rw [e]
    exact ⟨h, _, _, _, _, _, rfl⟩
  part j := by
    refine ⟨fun p => if j = id then g p else p.grants, ?_⟩
    rw [part_updPart]
    split <;> rfl

theorem mapStep_grantsMove (s : State) (eff : Nat) : GrantsMove s (s.mapStep eff) := by
  unfold State.mapStep
  extract_lets _ s1
  split
  · obtain ⟨h, e⟩ := shareBytes_eq s1 [3, BitVec.ofNat 8 s1.frz.mapVersion, BitVec.ofNat 8 s1.frz.period]
    rw [e]
    exact .of_parts ⟨h, _, _, _, _, rfl⟩
  · exact .of_parts ⟨_, _, _, _, _, rfl⟩

theorem regrant_grantsMove (s : State) (period : Nat) (extra : List Nat) : GrantsMove s (s.regrant period extra) := by
  unfold State.regrant
  extract_lets ids eff _ s1
  have hperiod : GrantsMove s { s with frz := { s.frz with period := period } } := .of_parts ⟨_, _, _, _, _, rfl⟩
  refine (hperiod.trans (mapStep_grantsMove _ eff)).trans (.foldl (fun s p => ?_) _ s1)
  split
  · exact .refl s
  · exact (updPart_grantsMove s _ _).trans (push_grantsMove _ _)

theorem mapChange_grantsMove (s : State) (eff : Nat) : GrantsMove s (s.mapChange eff) := by
  unfold State.mapChange
  extract_lets n p
  split
  · exact regrant_grantsMove s p []
  · exact mapStep_grantsMove s eff

theorem addStanding_grantsMove (s : State) (id : Nat) : GrantsMove s (s.addStanding id) := by
  unfold State.addStanding
  extract_lets taken pairs
  split
  · split
    · exact regrant_grantsMove s _ _
    · exact .refl s
  · exact ((mapStep_grantsMove s _).trans (updPart_grantsMove _ id _)).trans (push_grantsMove _ _)

theorem revokeGrants_grantsMove (s : State) (id : Nat) : GrantsMove s (s.revokeGrants id) :=
  (updPart_grantsMove s id _).trans (mapChange_grantsMove _ _)

theorem completeEnrol_grantsMove (s : State) (id : Nat) : GrantsMove s (s.completeEnrol id) := by
  unfold State.completeEnrol
  split
  · exact .refl s
  · split
    · exact .refl s
    · extract_lets s1
      have h1 : GrantsMove s s1 := addStanding_grantsMove s id
      split
      · exact h1.trans (push_grantsMove s1 _)
      · exact h1

/-! ### Accepted clauses -/

@[simp] theorem at_rfldN (s : State) (t : Time) (f : Fld) (i : Nat) : (s.at_ t).rfldN f i = s.rfldN f i := rfl

/-- The fabric takes the clause at the front where it is of the verb asked for, and no other (R344). -/
theorem takeAcc_of_hears {s : State} {a : Acc} {rest : List Acc} (t : Time) (h : s.hears a rest) (v : Nat) :
    (s.at_ t).takeAcc v = if a.c.verb = v then some (a, s.heardOne t rest) else none := by
  obtain ⟨hf, hc, ha⟩ := h
  simp [State.takeAcc, hf, hc, ha, State.heardOne]

theorem takeAcc_of_verb {s : State} {a : Acc} {rest : List Acc} (t : Time) (h : s.hears a rest) {v : Nat} (hv : a.c.verb = v) :
    (s.at_ t).takeAcc v = some (a, s.heardOne t rest) := (takeAcc_of_hears t h v).trans (if_pos hv)

theorem takeAcc_of_other {s : State} {a : Acc} {rest : List Acc} (t : Time) (h : s.hears a rest) {v : Nat} (hv : a.c.verb ≠ v) :
    (s.at_ t).takeAcc v = none := (takeAcc_of_hears t h v).trans (if_neg hv)

end Sys2Proof.Machine

/-! SUPPORT. What an accepted clause does (chapter 11): concord's view of a partner, and each clause's command. -/
namespace Sys2Proof.Machine

/-! ### Concord's partners -/

@[simp] theorem cpart_id (s : State) (id : Nat) : (s.cpart id).id = id := by
  unfold State.cpart
  cases h : s.ccd.parts.find? (fun p => p.id == id) with
  | none => rfl
  | some p => simpa using List.find?_some h

theorem cpart_congr {s s' : State} (h : s'.ccd.parts = s.ccd.parts) (id : Nat) : s'.cpart id = s.cpart id := by
  rw [State.cpart, State.cpart, h]

theorem cpart_updCpart_self (s : State) (id : Nat) (f : CPart → CPart) (h : (f (s.cpart id)).id = id) :
    (s.updCpart id f).cpart id = f (s.cpart id) := by
  simp [State.updCpart, State.cpart] at h ⊢
  simp [h]

theorem updCpart_congr {s : State} {id : Nat} {f g : CPart → CPart} (h : f (s.cpart id) = g (s.cpart id)) :
    s.updCpart id f = s.updCpart id g := by
  simp only [State.updCpart, h]

@[simp] theorem note_ccdParts (s : State) (tag : Nat) (n : StepNote) : (s.note tag n).ccd.parts = s.ccd.parts := rfl

@[simp] theorem formGroup_ccdParts (s : State) (tag : Nat) : (s.formGroup tag).ccd.parts = s.ccd.parts := by
  unfold State.formGroup
  split
  · rfl
  split
  · rfl
  · dsimp only
    split <;> simp [State.ccdEvent]

/-- A report of a job makes it the partner's job (R368). -/
theorem cpart_concReport_job (s : State) (id job : Nat) : ((s.concReport id job).cpart id).job = job := by
  unfold State.concReport
  split
  · assumption
  · dsimp only
    have hparts (u : State) : (if job = 0 then u else u.formGroup job).ccd.parts = u.ccd.parts := by
      split <;> simp
    rw [cpart_congr (hparts _), cpart_updCpart_self _ _ _ (cpart_id s id)]

theorem cpart_indexReport (s : State) (id k : Nat) :
    ∃ m, (s.indexReport id k).cpart id = { s.cpart id with index := k, matched := m } :=
  ⟨_, cpart_updCpart_self s id _ (cpart_id s id)⟩

/-! ### Each clause -/

section Heard
variable {s : State} {a : Acc} {rest : List Acc}

/-- The power table of a VFTABLE: seven indices from FIRST (R340). -/
def vfEnter (c : Clause) (l : List Nat) : List Nat :=
  (List.range 7).foldl (fun l i => if objN c 0 1 + i < 16 then l.set (objN c 0 1 + i) (objN c (1 + 2 * i) 2) else l) l

/-- Values set in a row of a list: within the row they are read, elsewhere the list stands. -/
theorem getD_foldl_set (first m n : Nat) (v : Nat → Nat) (l : List Nat) (hl : l.length = m) (j : Nat) :
    ((List.range n).foldl (fun l i => if first + i < m then l.set (first + i) (v i) else l) l).length = m ∧
    ((List.range n).foldl (fun l i => if first + i < m then l.set (first + i) (v i) else l) l).getD j 0 =
      if first ≤ j ∧ j < first + n ∧ j < m then v (j - first) else l.getD j 0 := by
  induction n with
  | zero => exact ⟨hl, (if_neg (by omega)).symm⟩
  | succ n ih =>
    rw [List.range_succ, List.foldl_append]
    generalize (List.range n).foldl _ l = l' at ih ⊢
    obtain ⟨hlen, hget⟩ := ih
    dsimp only [List.foldl]
    by_cases hm : first + n < m
    · rw [if_pos hm, List.length_set]
      refine ⟨hlen, ?_⟩
      by_cases hj : j = first + n
      · subst hj
        rw [if_pos (by omega), List.getD_eq_getElem _ _ (by simpa [hlen] using hm), List.getElem_set_self, Nat.add_sub_cancel_left]
      · have : (first ≤ j ∧ j < first + (n + 1) ∧ j < m) ↔ (first ≤ j ∧ j < first + n ∧ j < m) := by omega
        rw [if_congr this rfl rfl, ← hget, List.getD_eq_getElem?_getD, List.getD_eq_getElem?_getD,
          List.getElem?_set_ne (Ne.symm hj)]
    · have : (first ≤ j ∧ j < first + (n + 1) ∧ j < m) ↔ (first ≤ j ∧ j < first + n ∧ j < m) := by omega
      rw [if_neg hm, if_congr this rfl rfl]
      exact ⟨hlen, hget⟩

theorem vfEnter_within {c : Clause} {l : List Nat} (hl : l.length = 16) {i : Nat} (h7 : i < 7) (h16 : objN c 0 1 + i < 16) :
    (vfEnter c l).getD (objN c 0 1 + i) 0 = objN c (1 + 2 * i) 2 := by
  rw [vfEnter, (getD_foldl_set _ 16 7 (fun i => objN c (1 + 2 * i) 2) l hl _).2, if_pos (by omega), Nat.add_sub_cancel_left]

theorem vfEnter_outside {c : Clause} {l : List Nat} (hl : l.length = 16) {j : Nat} (h : j < objN c 0 1 ∨ objN c 0 1 + 7 ≤ j) :
    (vfEnter c l).getD j 0 = l.getD j 0 := by
  rw [vfEnter, (getD_foldl_set _ 16 7 (fun i => objN c (1 + 2 * i) 2) l hl _).2, if_neg (by omega)]

theorem execVftable_of_hears (t : Time) (h : s.hears a rest) (hv : a.c.verb = 0x03) :
    execVftable t s = .next ((s.heardOne t rest).updCpart a.c.subject
      (fun p => { p with vf := vfEnter a.c (s.cpart a.c.subject).vf })) := by
  simp only [execVftable, takeAcc_of_verb t h hv]
  exact congrArg _ (updCpart_congr rfl)

theorem execThrottle_of_hears (t : Time) (h : s.hears a rest) (hv : a.c.verb = 0x04) :
    execThrottle t s = .next (((s.heardOne t rest).updCpart a.c.subject
      (fun p => { p with throttle := some (objN a.c 3 1 % 16, a.c.tref) })).indexReport a.c.subject (objN a.c 3 1 % 16)) := by
  simp only [execThrottle, takeAcc_of_verb t h hv]

/-- A THROTTLE changes concord alone: the partner stands at the index named, held by it (R340, R393). -/
theorem execThrottle_shows (t : Time) (h : s.hears a rest) (hv : a.c.verb = 0x04) :
    ∃ c, execThrottle t s = .next { s.heardOne t rest with ccd := c } ∧
      ∃ p ∈ c.parts, p.id = (s.cpart a.c.subject).id ∧ p.index = objN a.c 3 1 % 16 ∧
        p.throttle = some (objN a.c 3 1 % 16, a.c.tref) := by
  have hp := cpart_updCpart_self (s.heardOne t rest) a.c.subject
    (fun p => { p with throttle := some (objN a.c 3 1 % 16, a.c.tref) }) (cpart_id s _)
  refine ⟨_, execThrottle_of_hears t h hv, _, List.mem_cons_self, ?_⟩
  rw [hp]
  exact ⟨rfl, rfl, rfl⟩

/-- What a report of a member leaves as it was. -/
def besideReports (s s' : State) : Prop :=
  s'.frz = s.frz ∧ sameStage s s' ∧ sameAon s s' ∧ sameStore s s' ∧ s'.swd = s.swd ∧ s'.swm = s.swm ∧ s'.cfg = s.cfg ∧
    s'.ids = s.ids ∧ s'.mbx = s.mbx

theorem execStepClause_shows (t : Time) (h : s.hears a rest) (hv : a.c.verb = 0x02) :
    ∃ s', execStepClause t s = .next s' ∧ besideReports (s.heardOne t rest) s' ∧ (s'.cpart a.c.subject).job = objN a.c 0 3 ∧
      (tenseOf a.c ≠ 2 → (s'.cpart a.c.subject).index = objN a.c 3 1 % 16) := by
  unfold execStepClause
  extract_lets s0
  rw [show s0.takeAcc 0x02 = _ from takeAcc_of_verb t h hv]
  dsimp -zeta only
  extract_lets c job k group s1 s2 s3
  have hparts : s2.ccd.parts = ((s.heardOne t rest).concReport a.c.subject job).ccd.parts := by simp [s2, s1, c]
  have hjob : (s2.cpart a.c.subject).job = job := by rw [cpart_congr hparts, cpart_concReport_job]
  have hbeside : besideReports (s.heardOne t rest) s2 := by
    simp [s2, s1, besideReports, sameStage, sameAon, sameStore]
  obtain ⟨m, hm⟩ := cpart_indexReport s2 a.c.subject k
  have hindexed : besideReports (s.heardOne t rest) s3 ∧ (s3.cpart a.c.subject).job = job ∧ (s3.cpart a.c.subject).index = k := by
    refine ⟨?_, by rw [hm, hjob], by rw [hm]⟩
    simpa [s3, besideReports, sameStage, sameAon, sameStore] using hbeside
  clear_value s1 s2 s3
  obtain ⟨hbeside3, hjob3, hindex3⟩ := hindexed
  split
  · exact ⟨s2, rfl, hbeside, hjob, fun hn => absurd ‹_› hn⟩
  split
  · split
    · have hp : ((s3.updCpart a.c.subject (fun p => { p with joining := true })).ccdEvent 8).cpart a.c.subject =
          { s3.cpart a.c.subject with joining := true } :=
        cpart_updCpart_self s3 a.c.subject (fun p => { p with joining := true }) (cpart_id s3 _)
      exact ⟨_, rfl, by simpa [besideReports, sameStage, sameAon, sameStore] using hbeside3, by rw [hp]; exact hjob3,
        fun _ => by rw [hp]; exact hindex3⟩
    · exact ⟨s3, rfl, hbeside3, hjob3, fun _ => hindex3⟩
  · exact ⟨s3, rfl, hbeside3, hjob3, fun _ => hindex3⟩

/-- An ACK of the offer in progress marks its member acknowledged and not held out (R376). -/
theorem execAck_of_offer (t : Time) (h : s.hears a rest) (hv : a.c.verb = 0x05) {g : CGroup} {r : CRound}
    (hverb : objN a.c 2 1 = 0x24) (hcode : objN a.c 8 1 = 0) (hg : s.group (s.cpart a.c.subject).job = some g)
    (hr : g.round = some r) (hnum : r.act.num = objN a.c 4 4) :
    ∃ f, execAck t s = .next (((s.heardOne t rest).updPart a.c.subject f).updCpart a.c.subject
      (fun p => { p with acked := true, heldOut := false })) := by
  unfold execAck
  extract_lets s0
  rw [show s0.takeAcc 0x05 = _ from takeAcc_of_verb t h hv]
  dsimp -zeta only
  extract_lets c id seq verb u num code job
  have hccd : u.ccd = s.ccd := by simp [u]; rfl
  have hjob : u.group job = some g := by
    simpa only [job, State.cpart, State.group, hccd] using hg
  rw [if_pos hverb, if_neg (by simp [code, c, hcode]), hjob]
  dsimp only
  rw [hr]
  exact ⟨_, if_pos ⟨hcode, hnum⟩⟩

theorem execHello_shows (t : Time) (h : s.hears a rest) (hv : a.c.verb = 0x0A) (hn : s.frz.strangers.length < 64) :
    ∃ f, execHello t s = .next { s.heardOne t rest with frz := f } ∧
      f.strangers.lookup (objN a.c 0 8) = some (max s.now t) ∧ f.accepted = rest ∧ f.parts = s.frz.parts := by
  have hroom : ¬(!(s.heardOne t rest).frz.strangers.any (fun x => x.1 == objN a.c 0 8) &&
      decide (64 ≤ (s.heardOne t rest).frz.strangers.length)) = true := by
    simp [State.heardOne]; omega
  simp only [execHello, takeAcc_of_verb t h hv, State.stranger, if_neg hroom]
  split
  · exact ⟨_, rfl, lookup_insertKey_self _ _ _, rfl, rfl⟩
  · exact ⟨_, rfl, lookup_insertKey_self _ _ _, rfl, rfl⟩

theorem execLeave_of_hears (t : Time) (h : s.hears a rest) (hv : a.c.verb = 0x09) {p : Partner} (hp : s.part a.c.subject = some p) :
    execLeave t s = .next { s.heardOne t rest with frz := { s.frz with
        accepted := rest, parts := updKey s.frz.parts a.c.subject (fun p => { p with leaveAt := some a.c.tref }) } } := by
  simp only [execLeave, takeAcc_of_verb t h hv]
  exact congrArg _ (updPart_of_unchanged (s := s.heardOne t rest) hp (by simp [pChanged]))

theorem exec_of_other_verb (t : Time) (h : s.hears a rest) :
    (a.c.verb ≠ 0x0A → execHello t s = .next (s.at_ t)) ∧ (a.c.verb ≠ 0x09 → execLeave t s = .next (s.at_ t)) ∧
      (a.c.verb ≠ 0x03 → execVftable t s = .next (s.at_ t)) ∧ (a.c.verb ≠ 0x05 → execAck t s = .next (s.at_ t)) :=
  ⟨fun hv => by simp only [execHello, takeAcc_of_other t h hv], fun hv => by simp only [execLeave, takeAcc_of_other t h hv],
    fun hv => by simp only [execVftable, takeAcc_of_other t h hv], fun hv => by simp only [execAck, takeAcc_of_other t h hv]⟩

end Heard

/-! ### The settling theorem -/

/-- Settles O49: each clause by the lemma about its command; a command finds no clause of its verb at the front where another stands
there. -/
theorem clausesAct : Obligations.ClausesAct := by
  intro s t a rest h
  refine ⟨fun hv hl => ⟨_, execVftable_of_hears t h hv, fun i => vfEnter_within hl, fun j => vfEnter_outside hl⟩,
    execThrottle_shows t h, fun hv => ?step, fun g r hv hverb hcode hg hr hnum => ?ack, execHello_shows t h,
    fun p hv hp => execLeave_of_hears t h hv hp, exec_of_other_verb t h⟩
  case step =>
    obtain ⟨s', he, ⟨hfrz, hbeside⟩, hjob, hindex⟩ := execStepClause_shows t h hv
    exact ⟨s', he, congrArg Frz.accepted hfrz, hjob, hindex, hbeside⟩
  case ack =>
    obtain ⟨f, he⟩ := execAck_of_offer t h hv hverb hcode hg hr hnum
    have hp := cpart_updCpart_self ((s.heardOne t rest).updPart a.c.subject f) a.c.subject
      (fun p => { p with acked := true, heldOut := false }) (cpart_id _ _)
    refine ⟨_, he, by simp [State.heardOne], by rw [hp], by rw [hp], ?_⟩
    simp [State.updCpart, State.heardOne, sameStage, sameSward, sameAon, sameLog, sameMgmt, sameStore]

end Sys2Proof.Machine

/-! SUPPORT. Enrolment (chapter 11): JOIN and KEYX at the speaker, the end of an enrolment, and the timers of the partner table. -/
namespace Sys2Proof.Machine

/-! ### JOIN (R345, R346) -/

/-- The lowest FREE id is assigned where no id is held for the token. -/
theorem assignId_lowest_free {s : State} {tok id : Nat} (hheld : ∀ p ∈ s.frz.parts, p.2.state = .heldId → p.2.token ≠ tok)
    (h1 : 1 ≤ id) (h254 : id ≤ 254) (hfree : s.part id = none) (hlow : ∀ j, 1 ≤ j → j < id → (s.part j).isSome = true) :
    s.assignId tok = some id := by
  have hnone : (s.frz.parts.filter (fun p => p.2.state == .heldId)).find? (fun p => p.2.token == tok) = none := by
    rw [List.find?_eq_none]
    intro p hp
    obtain ⟨hmem, hst⟩ := List.mem_filter.mp hp
    simpa using hheld p hmem (by simpa using hst)
  have hfirst : ((List.range 254).map (· + 1)).find? (fun id => (s.part id).isNone) = some id := by
    rw [List.find?_map, Option.map_eq_some_iff]
    refine ⟨id - 1, ?_, Nat.sub_add_cancel h1⟩
    rw [List.find?_range_eq_some]
    refine ⟨by simpa [Nat.sub_add_cancel h1] using hfree, by simp; omega, fun j hj => ?_⟩
    have := hlow (j + 1) (by omega) (by omega)
    simpa [Option.isSome_iff_ne_none] using this
  simp only [State.assignId, hnone, hfirst]

section Heard
variable {s : State} {a : Acc} {rest : List Acc}

theorem execJoin_of_listener (t : Time) (h : s.hears a rest) (hv : a.c.verb = 0x06) (hs : s.frz.speaking = false)
    (hr : ∀ p ∈ s.frz.parts, p.2.state = .revoked → p.2.token ≠ objN a.c 0 8) : execJoin t s = .next (s.heardOne t rest) := by
  have hrevoked : (s.heardOne t rest).frz.parts.any (fun p => p.2.state == .revoked && p.2.token == objN a.c 0 8) = false := by
    simpa [State.heardOne] using hr
  have hmute : (s.heardOne t rest).frz.speaking = false := hs
  simp [execJoin, takeAcc_of_verb t h hv, hrevoked, hmute]

/-- The speaker enrols: the partner enters the table ENROLLING with an enrolment grant, and five clauses are queued. -/
theorem execJoin_of_speaker (t : Time) (h : s.hears a rest) (hv : a.c.verb = 0x06) {id slot : Nat} {key : List Byte}
    (hs : s.frz.speaking = true) (ho : s.enrolOpen = true) (h1 : 1 ≤ objN a.c 12 2) (hg : objN a.c 12 2 ≤ 0xFFFE)
    (htok : s.tokenRefused (objN a.c 0 8) = false) (hid : s.assignId (objN a.c 0 8) = some id) (hslot : s.enrolSlot = some slot)
    (hkey : s.nv.trust.enrol.find? (fun k => tagOk k a.c) = some key) :
    ∃ p l, execJoin t s = .next
        (({ s.heardOne t rest with ids := { s.ids with draws := s.ids.draws + 1 } }.setPart id p).push l) ∧
      l.length = 5 ∧ p.state = .enrolling ∧ p.token = objN a.c 0 8 ∧ p.group = objN a.c 12 2 ∧ p.enrolKey = key ∧ p.up = [] ∧
      p.joinSf = a.sf := by
  have hrevoked : ¬(s.heardOne t rest).frz.parts.any (fun p => p.2.state == .revoked && p.2.token == objN a.c 0 8) = true := by
    simp [State.tokenRefused] at htok
    simpa [State.heardOne] using htok.2
  have hserved : ¬((!(s.heardOne t rest).frz.speaking) = true ∨ (!(s.heardOne t rest).enrolOpen) = true ∨ objN a.c 12 2 = 0 ∨
      objN a.c 12 2 = 0xFFFF ∨ (s.heardOne t rest).tokenRefused (objN a.c 0 8) = true) := by
    rw [show (s.heardOne t rest).frz.speaking = true from hs, show (s.heardOne t rest).enrolOpen = true from ho,
      show (s.heardOne t rest).tokenRefused (objN a.c 0 8) = false from htok]
    simp
    omega
  unfold execJoin
  extract_lets s0
  rw [show s0.takeAcc 0x06 = _ from takeAcc_of_verb t h hv]
  dsimp -zeta only
  extract_lets c token group
  rw [if_neg hrevoked, if_neg hserved, show (s.heardOne t rest).assignId token = some id from hid,
    show (s.heardOne t rest).enrolSlot = some slot from hslot,
    show (s.heardOne t rest).nv.trust.enrol.find? (fun k => tagOk k c) = some key from hkey]
  exact ⟨_, _, rfl, rfl, rfl, rfl, rfl, rfl, rfl, rfl⟩

/-! ### KEYX (R346 to R348) -/

/-- With a part still missing the parts received are kept; with all three the session keys of epoch 1 are derived. -/
theorem execKeyx_of_speaker (t : Time) (h : s.hears a rest) (hv : a.c.verb = 0x07) (he : enrolKeyx a.c = true)
    (hs : s.frz.speaking = true) {p : Partner} (hp : s.part a.c.subject = some p) (hst : p.state = .enrolling) (hup : p.up = []) :
    let l := insertKey p.parts (objN a.c 0 1 % 4) (a.c.object.drop 1)
    ((l.lookup 0 = none ∨ l.lookup 1 = none ∨ l.lookup 2 = none) →
      execKeyx t s = .next ((s.heardOne t rest).updPart a.c.subject (fun p => { p with parts := l }))) ∧
    (∀ x y z, l.lookup 0 = some x → l.lookup 1 = some y → l.lookup 2 = some z →
      let secret := Config.ecdh p.ephemeral ((x ++ y ++ z).take 33)
      let salt := beBytes 8 p.token ++ beBytes 4 p.nonce
      ∃ f : Partner → Partner,
        execKeyx t s = .next (((s.heardOne t rest).updPart a.c.subject f).completeEnrol a.c.subject) ∧ (f p).epoch = 1 ∧
          (f p).up = Config.sessionKey salt (s.hkdfInfo a.c.subject 1) secret true ∧
          (f p).down = Config.sessionKey salt (s.hkdfInfo a.c.subject 1) secret false ∧ (f p).state = .enrolling) := by
  intro l
  have hfirst : (p.state == .enrolling && p.up.isEmpty && enrolKeyx a.c) = true := by simp [hst, hup, he]
  have hserved : ¬((!s.frz.speaking) = true ∨
      (!(p.state == .enrolling && p.up.isEmpty && enrolKeyx a.c || p.rekeying && !enrolKeyx a.c)) = true) := by
    rw [hs, hfirst]
    simp
  unfold execKeyx
  extract_lets s0
  rw [show s0.takeAcc 0x07 = _ from takeAcc_of_verb t h hv]
  dsimp -zeta only
  extract_lets c id
  rw [show (s.heardOne t rest).part id = some p from hp]
  dsimp -zeta only
  extract_lets first again parts epoch info old
  have hf : first = true := hfirst
  refine ⟨fun hmiss => (if_neg hserved).trans ?missing, fun x y z hx hy hz => ?complete⟩
  case missing =>
    split
    next x y z hx hy hz =>
      rw [show l.lookup 0 = some x from hx, show l.lookup 1 = some y from hy, show l.lookup 2 = some z from hz] at hmiss
      simp at hmiss
    next => rfl
  case complete =>
    rw [show parts.lookup 0 = some x from hx, show parts.lookup 1 = some y from hy, show parts.lookup 2 = some z from hz]
    refine ⟨_, if_neg hserved, ?_⟩
    have hepoch : epoch = 1 := if_pos hf
    exact ⟨hepoch, congrArg (fun n => Config.sessionKey _ (s.hkdfInfo _ n) _ true) hepoch,
      congrArg (fun n => Config.sessionKey _ (s.hkdfInfo _ n) _ false) hepoch, hst⟩

theorem execJoin_of_other (t : Time) (h : s.hears a rest) (hv : a.c.verb ≠ 0x06) : execJoin t s = .next (s.at_ t) := by
  simp only [execJoin, takeAcc_of_other t h hv]

theorem execKeyx_of_other (t : Time) (h : s.hears a rest) (hv : a.c.verb ≠ 0x07) : execKeyx t s = .next (s.at_ t) := by
  simp only [execKeyx, takeAcc_of_other t h hv]

end Heard

/-! ### Ends of enrolments (R346, R349, R358) -/

/-- An enrolment that ends leaves all but Furze, its place in concord and in the lexicon, and what is sent over Heathline. -/
theorem endEnrolment_eq (s : State) (id : Nat) (st : PState) :
    ∃ (h : Htl) (c : Ccd) (x : Lex) (l : List (Nat × Partner)) (d : List DownItem) (v : Nat) (e : List Nat) (p : Nat),
      s.endEnrolment id st = { s with
        htl := h, ccd := c, lex := x
        frz := { s.frz with parts := l, down := d, mapVersion := v, mapPending := e, period := p } } := by
  unfold State.endEnrolment
  extract_lets _ s1 s2 s3
  obtain ⟨h, l, d, v, e, p, hrevoked⟩ := (revokeGrants_grantsMove s1 id).rest
  obtain ⟨x, hended⟩ := updPart_eq s2 id (fun p => { p with
    state := st, up := [], down := [], old := none, enrolKey := [], ephemeral := [], parts := [], rekeying := false
    awaiting := [], waitFor := [], leaveAt := none, heldAt := s2.now })
  rw [show s3 = _ from hended, show s2 = _ from hrevoked]
  exact ⟨x, _, _, _, d, v, e, p, rfl⟩

/-- The partner stands in the state that its enrolment ended in, without keys, held from now on. -/
theorem endEnrolment_part {s : State} {id : Nat} {p : Partner} (st : PState) (hp : s.part id = some p) :
    ∃ q, (s.endEnrolment id st).part id = some q ∧ q.state = st ∧ q.up = [] ∧ q.down = [] ∧ q.heldAt = s.now := by
  unfold State.endEnrolment
  extract_lets _ s1 s2 s3
  have hmove : GrantsMove s1 s2 := revokeGrants_grantsMove s1 id
  obtain ⟨gs, hgs⟩ := hmove.part_some (show s1.part id = some p from hp)
  obtain ⟨h, l, d, v, e, n, hrest⟩ := hmove.rest
  have hparts : ((s3.concLeave id).phaseForget id none).part id = s3.part id := part_congr (by simp) id
  have hended : s3.part id = _ := part_updPart_self _ hgs
  rw [hparts, hended]
  exact ⟨_, rfl, rfl, rfl, rfl, by rw [hrest]⟩

section Timers
variable {s : State} {id : Nat} {p : Partner}

/-- What waits for a partner downstream goes. -/
def State.unqueued (s : State) (id : Nat) : State :=
  { s with frz := { s.frz with down := s.frz.down.filter (fun i => i.dst != id) } }

theorem execEnrolTimeout_of_due (t : Time) (hr : s.inRst .htlFrz = false) (hp : s.part id = some p) (hst : p.state = .enrolling)
    (hdue : (s.rfldN .furzeEnrolTimeout : Int) ≤ diff32 (s.at_ t).furzeSf p.joinSf) :
    (p.back = .free → execEnrolTimeout t id s = .next (((s.at_ t).unqueued id).freePart id)) ∧
    (p.back ≠ .free → ∃ f : Partner → Partner, execEnrolTimeout t id s = .next (((s.at_ t).unqueued id).updPart id f) ∧
      (f p).state = p.back ∧ (f p).up = [] ∧ (f p).grants = []) := by
  have hlapses : ¬(s.inRst .htlFrz = true ∨ p.state ≠ .enrolling ∨
      diff32 (s.at_ t).furzeSf p.joinSf < (s.rfldN .furzeEnrolTimeout : Int)) := by
    rintro (h | h | h)
    · exact absurd h (by simp [hr])
    · exact h hst
    · exact absurd h (not_lt.mpr hdue)
  have heq : execEnrolTimeout t id s = .next (if p.back = .free then ((s.at_ t).unqueued id).freePart id
      else ((s.at_ t).unqueued id).updPart id (fun p => { p with
        state := p.back, up := [], down := [], old := none, enrolKey := [], ephemeral := []
        parts := [], grants := [], awaiting := [], waitFor := [] })) := by
    unfold execEnrolTimeout
    extract_lets s0
    rw [show s0.part id = some p from hp]
    refine (if_neg hlapses).trans ?_
    split <;> rfl
  exact ⟨fun hb => heq.trans (by rw [if_pos hb]), fun hb => ⟨_, heq.trans (by rw [if_neg hb]), rfl, rfl, rfl⟩⟩

theorem execEnrolTimeout_of_early (t : Time) (hp : s.part id = some p)
    (hdue : diff32 (s.at_ t).furzeSf p.joinSf < (s.rfldN .furzeEnrolTimeout : Int)) : execEnrolTimeout t id s = .next (s.at_ t) := by
  unfold execEnrolTimeout
  extract_lets s0
  rw [show s0.part id = some p from hp]
  exact if_pos (.inr (.inr hdue))

theorem execSilentLapse_of_due (t : Time) (hr : s.inRst .htlFrz = false) (hs : s.frz.speaking = true) (hp : s.part id = some p)
    (hst : p.state = .silent) (hdue : p.silentAt + s.rfldN .furzeLapse * 1000000000 ≤ max s.now t) :
    let u := ((s.at_ t).endEnrolment id .heldId).frzEvent 4
    execSilentLapse t id s = .next { u with ids := { u.ids with rotationOwed := true } } := by
  intro u
  have hlapses : ¬(s.inRst .htlFrz = true ∨ (!s.frz.speaking) = true ∨ p.state ≠ .silent ∨
      (!(s.at_ t).elapsed p.silentAt (s.rfldN .furzeLapse * sec)) = true) := by
    have he : (s.at_ t).elapsed p.silentAt (s.rfldN .furzeLapse * sec) = true := (elapsed_iff _ _ _).mpr hdue
    simp [hr, hs, hst, he]
  unfold execSilentLapse
  extract_lets s0
  rw [show s0.part id = some p from hp]
  exact if_neg hlapses

theorem execIdHoldExpiry_of_due (t : Time) (hr : s.inRst .htlFrz = false) (hp : s.part id = some p)
    (hst : p.state = .heldId ∨ p.state = .revoked) (hdue : p.heldAt + s.rfldN .furzeIdHold * 1000000000 ≤ max s.now t) :
    execIdHoldExpiry t id s = .next ((s.at_ t).freePart id) := by
  have hlapses : ¬(s.inRst .htlFrz = true ∨ (p.state ≠ .heldId ∧ p.state ≠ .revoked) ∨
      (!(s.at_ t).elapsed p.heldAt (s.rfldN .furzeIdHold * sec)) = true) := by
    have he : (s.at_ t).elapsed p.heldAt (s.rfldN .furzeIdHold * sec) = true := (elapsed_iff _ _ _).mpr hdue
    rcases hst with hst | hst <;> simp [hr, hst, he]
  unfold execIdHoldExpiry
  extract_lets s0
  rw [show s0.part id = some p from hp]
  exact if_neg hlapses

theorem execIdHoldExpiry_of_early (t : Time) (hp : s.part id = some p)
    (hdue : max s.now t < p.heldAt + s.rfldN .furzeIdHold * 1000000000) : execIdHoldExpiry t id s = .next (s.at_ t) := by
  have he : (s.at_ t).elapsed p.heldAt (s.rfldN .furzeIdHold * sec) = false :=
    decide_eq_false (Nat.not_le.mpr hdue)
  unfold execIdHoldExpiry
  extract_lets s0
  rw [show s0.part id = some p from hp]
  exact if_pos (.inr (.inr (congrArg not he)))

/-! ### Epochs and strangers (R343, R348, R360) -/

theorem execRekeyTimeout_of_high (t : Time) (hr : s.inRst .htlFrz = false) (hs : s.frz.speaking = true) (hp : s.part id = some p)
    (hst : p.state = .active) (hk : p.rekeying = false) (hh : 0xF000 ≤ p.high) :
    execRekeyTimeout t id s = .next { s.at_ t with
      ids := { s.ids with draws := s.ids.draws + 1 }
      frz := { s.frz with
        parts := updKey s.frz.parts id (fun p => { p with rekeying := true, ephemeral := Config.randomKey s.ids.draws, parts := [] })
        down := s.frz.down ++ keyxItems id (Config.p256Pub (Config.randomKey s.ids.draws)) true .down } } := by
  have hdrawn := updPart_of_unchanged (s := { s.at_ t with ids := { s.ids with draws := s.ids.draws + 1 } }) (id := id) (p := p)
    (f := fun p => { p with rekeying := true, ephemeral := Config.randomKey s.ids.draws, parts := [] }) hp (by simp [pChanged])
  unfold execRekeyTimeout
  extract_lets s0
  rw [show s0.part id = some p from hp]
  dsimp -zeta only
  extract_lets due
  have hdue : due = true := by simp [due, hh]
  refine (if_neg (by simp [s0, hr, hs, pEnrolled, hst, hk, hdue])).trans (congrArg Host.Outcome.next ?_)
  exact (congrArg (State.push · _) hdrawn).trans (push_of_speaking (by exact hs) _)

theorem execEpochGraceExpiry_of_due {o : OldEpoch} (t : Time) (hp : s.part id = some p) (ho : p.old = some o)
    (hdue : (s.rfldN .furzeEpochGrace : Int) < diff32 (s.at_ t).furzeSf o.since) :
    execEpochGraceExpiry t id s = .next { s.at_ t with frz := { s.frz with
      parts := updKey s.frz.parts id (fun p => match p.old with
        | none => p
        | some o => if (s.rfldN .furzeEpochGrace : Int) < diff32 (s.at_ t).furzeSf o.since then { p with old := none } else p) } } := by
  refine congrArg Host.Outcome.next (updPart_of_unchanged (s := s.at_ t) hp ?_)
  simp [ho, pChanged, hdue]

theorem execStrangerExpiry_eq (s : State) (t : Time) : execStrangerExpiry t s = .next { s.at_ t with frz := { s.frz with
    strangers := s.frz.strangers.filter (fun x => decide (max s.now t < x.2 + 10000000000)) } } := by
  have hkept (x : Nat × Time) : (!(s.at_ t).elapsed x.2 (10 * sec)) = decide (max s.now t < x.2 + 10000000000) := by
    rw [State.elapsed, ← decide_not, decide_eq_decide]
    exact Nat.not_le
  simp only [execStrangerExpiry, hkept]
  rfl

end Timers

/-! ### The settling theorem -/

/-- Settles O50: JOIN and KEYX by what the speaker makes of them, the ends of enrolments by what becomes of the partner's entry and
of the rest of the table. -/
theorem enrolmentsRun : Obligations.EnrolmentsRun := by
  refine ⟨⟨fun s t a rest h hv => ⟨execJoin_of_listener t h hv, fun id slot key hs ho h1 hg htok hid hslot hkey => ?join⟩,
      fun s tok id => assignId_lowest_free,
      fun s t a rest p h hv he hs hp hst hup => ⟨fun hmiss => ?part, fun x y z hx hy hz => ?complete⟩,
      fun s t a rest h h6 h7 => ⟨?noJoin, ?noKeyx⟩⟩,
    fun s t id p hr hp hst => ⟨fun hdue => ?lapse, execEnrolTimeout_of_early t hp⟩,
    fun s t id p hr hs hp hst hdue => ?silent,
    fun s t id p hr hp hst => ⟨fun hdue => ?free, execIdHoldExpiry_of_early t hp⟩,
    fun s t id p => execRekeyTimeout_of_high t,
    fun s t id p o => execEpochGraceExpiry_of_due t,
    execStrangerExpiry_eq⟩
  case join =>
    obtain ⟨p, l, he, hl, hst, htoken, hgroup, hk, hup, hsf⟩ := execJoin_of_speaker t h hv hs ho h1 hg htok hid hslot hkey
    refine ⟨_, p, he, ?_, hst, htoken, hgroup, hk, hup, hsf, ?_, ?_, ?_, fun j hj => ?_, ?_⟩
    · rw [part_push, part_setPart_self]
    · simp
    · simp [push_eq, State.heardOne]
    · simp [push_eq, hs, hl, State.heardOne]
    · rw [part_push, part_setPart_other _ _ hj]
      rfl
    · simp [State.heardOne, sameStage, sameSward, sameAon, sameLog, sameStore]
  case part =>
    exact ((execKeyx_of_speaker t h hv he hs hp hst hup).1 hmiss).trans
      (congrArg Host.Outcome.next (updPart_of_unchanged (s := s.heardOne t rest) hp (by simp [pChanged])))
  case complete =>
    obtain ⟨f, hkeyx, hepoch, hup', hdown, hstate⟩ := (execKeyx_of_speaker t h hv he hs hp hst hup).2 x y z hx hy hz
    have hmove := completeEnrol_grantsMove ((s.heardOne t rest).updPart a.c.subject f) a.c.subject
    obtain ⟨gs, hgs⟩ := hmove.part_some (part_updPart_self f hp)
    obtain ⟨x, l, d, v, e, n, hrest⟩ := hmove.rest
    refine ⟨_, _, hkeyx, hgs, hepoch, hup', hdown, hstate, ?_⟩
    rw [hrest]
    simp [State.heardOne, sameStage, sameSward, sameAon, sameLog, sameStore]
  case noJoin => exact execJoin_of_other t h h6
  case noKeyx => exact execKeyx_of_other t h h7
  case lapse =>
    obtain ⟨hfree, hback⟩ := execEnrolTimeout_of_due t hr hp hst hdue
    by_cases hb : p.back = .free
    · refine ⟨_, hfree hb, fun _ => part_freePart_self _ _, fun h => absurd hb h, ?_,
        fun j hj => part_freePart_other ((s.at_ t).unqueued id) hj, ?_⟩
      · simp [State.unqueued]
      · simp [State.unqueued, sameStage, sameSward, sameAon, sameLog, sameMgmt, sameStore]
    · obtain ⟨f, he, hstate, hup, hgrants⟩ := hback hb
      refine ⟨_, he, fun h => absurd h hb, fun _ => ⟨_, part_updPart_self f hp, hstate, hup, hgrants⟩, ?_,
        fun j hj => part_updPart_other ((s.at_ t).unqueued id) f hj, ?_⟩
      · simp [State.unqueued]
      · simp [State.unqueued, sameStage, sameSward, sameAon, sameLog, sameMgmt, sameStore]
  case silent =>
    obtain ⟨q, hq, hstate, hup, hdown, hheld⟩ := endEnrolment_part (s := s.at_ t) .heldId hp
    obtain ⟨h, c, x, l, d, v, e, n, hended⟩ := endEnrolment_eq (s.at_ t) id .heldId
    have he := execSilentLapse_of_due t hr hs hp hst hdue
    generalize (s.at_ t).endEnrolment id .heldId = u at hq hended he
    refine ⟨_, q, he, hq, hstate, hup, hdown, hheld, rfl, getLsbD_setBit_self _ (by decide), ?_⟩
    simp [hended, sameStage, sameAon, sameLog, sameStore]
  case free =>
    refine ⟨_, execIdHoldExpiry_of_due t hr hp hst hdue, part_freePart_self _ _, fun j hj => part_freePart_other (s.at_ t) hj, ?_⟩
    simp [sameStage, sameSward, sameAon, sameLog, sameMgmt, sameStore]

end Sys2Proof.Machine

/-! SUPPORT. The speaker (chapter 11): its election, its state among listeners, its superframe, and the starts it books. -/
namespace Sys2Proof.Machine

/-! ### The election (R333, R335) -/

/-- With no election record held it is its own only candidate. -/
theorem candidates_of_no_records {s : State} (n : Nat) (he : s.frz.elect = []) :
    s.candidates n = [(s.member, s.eligible, s.rings.furze.holdover)] := by
  unfold State.candidates
  rw [he]
  rfl

/-- An eligible conductor with no other in its segment is elected. -/
theorem elected_of_alone {s : State} (n : Nat) (he : s.frz.elect = []) (hs : s.frz.speaker = none) (hel : s.eligible = true) :
    s.elected n = some s.member := by
  simp [State.elected, candidates_of_no_records n he, hs, hel]

/-- With no partner there is none to rid the segment of (R530, R532). -/
theorem purge_of_no_parts {s : State} (h : s.frz.parts = []) :
    ∃ b, s.purge = { s with ids := { s.ids with expelOld := b } } := by
  unfold State.purge
  split
  · exact ⟨_, rfl⟩
  · simp only [h, List.filter_nil, List.foldl_nil]
    split
    · exact ⟨_, rfl⟩
    · exact ⟨_, rfl⟩

/-- A conductor alone becomes speaker at the boundary, to beacon from the next superframe. -/
theorem furzeBoundary_of_alone {s : State} (hr : s.inRst .htlFrz = false) (hel : s.eligible = true) (he : s.frz.elect = [])
    (hs : s.frz.speaker = none) (hm : s.frz.speaking = false) (hy : s.frz.yielding = false) (hn : s.frz.electSf ≠ some s.furzeSf)
    (hp : s.frz.parts = []) :
    ∃ h b, s.furzeBoundary = { s with
      htl := h, ids := { s.ids with rotationOwed := true, expelOld := b }
      frz := { s.frz with
        electSf := some s.furzeSf, speaker := some s.member, event := setBit s.frz.event 0, speaking := true
        speakFrom := (s.furzeSf + 1) % 2 ^ 32, admitting := s.admitOpen } } := by
  have hopen : ¬(s.inRst .htlFrz = true ∨ s.frz.electSf = some s.furzeSf) := by simp [hr, hn]
  unfold State.furzeBoundary
  rw [if_neg hopen]
  extract_lets _ s1 _ s2 who me _ s3 _ _ s4 s5 _
  have h2 : s2 = s1 := if_neg (Bool.eq_false_iff.mp hy)
  have hwho : who = some s.member :=
    (congrArg (State.elected · s.furzeSf) h2).trans (elected_of_alone (s := s1) _ he hs hel)
  have hnew : ¬who = s2.frz.speaker := by
    rw [hwho, h2]
    exact fun e => Option.some_ne_none _ (Eq.trans e hs)
  have h3 : s3 = ({ s2 with frz := { s2.frz with speaker := who } }).frzEvent 0 := if_neg hnew
  have hme : (me && !s3.frz.speaking) = true := by
    rw [h3, h2, show me = true by simp only [me, hwho, h2]; exact beq_self_eq_true _]
    exact congrArg not hm
  have h4 : s4 = { s3 with
      frz := { s3.frz with speaking := true, speakFrom := (s.furzeSf + 1) % 2 ^ 32, admitting := s3.admitOpen }
      ids := { s3.ids with rotationOwed := true } } := if_pos hme
  obtain ⟨b, h5⟩ := purge_of_no_parts (s := s4) (by rw [h4, h3, h2]; exact hp)
  obtain ⟨h, hsend⟩ := htlSend_eq s5 1 1 0xFE ([0x02, BitVec.ofNat 8 (s5.lfldN .topologySegment), BitVec.ofNat 8 s5.member,
    BitVec.ofNat 8 (b2n s5.eligible + 2 * b2n s5.rings.furze.holdover), BitVec.ofNat 8 (s5.frz.speaker.getD 0xFF)]
      ++ beBytes 4 s.furzeSf)
  refine ⟨h, b, ?_⟩
  rw [hsend, show s5 = _ from h5, h4, h3, hwho, h2]
  rfl

/-! ### Records of the election and of the speaker's state (R333, R334) -/

section Records
variable {s : State}

theorem execElection_of_segment (t : Time) {x : ElectIn} (hr : s.inRst .htlFrz = false)
    (hseg : x.segment = s.lfldN .topologySegment) (hm : x.member ≠ s.member) :
    execElection t x s = .next { (s.at_ t).takeInbox 2 with frz := { s.frz with elect := x :: s.frz.elect.filter (fun e =>
      (e.member != x.member || e.sf != x.sf) && decide (diff32 x.sf e.sf ≤ 3)) } } := by
  have htaken : ¬(s.inRst .htlFrz = true ∨ x.segment ≠ s.lfldN .topologySegment ∨ x.member = s.member) := by
    simp [hr, hseg, hm]
  refine (if_neg htaken).trans ?_
  simp

theorem execElection_of_other_segment (t : Time) {x : ElectIn} (h : x.segment ≠ s.lfldN .topologySegment) :
    execElection t x s = .next (s.at_ t) := if_pos (.inr (.inl h))

/-- What a listener makes of the speaker's state. -/
theorem execSpeakerState_of_listener (t : Time) (hr : s.inRst .htlFrz = false) (hs : s.frz.speaking = false) :
    (∀ id p, execSpeakerState t (.partner id p false) s =
      .next { (s.at_ t).takeInbox 3 with frz := { s.frz with parts := insertKey s.frz.parts id p } }) ∧
    (∀ id, execSpeakerState t (.gone id) s =
      .next { (s.at_ t).takeInbox 3 with frz := { s.frz with parts := eraseKey s.frz.parts id } }) ∧
    (∀ v h, execSpeakerState t (.map v h) s =
      .next { (s.at_ t).takeInbox 3 with frz := { s.frz with mapVersion := v, period := h, mapPending := [] } }) ∧
    (∀ l, execSpeakerState t (.bookings l) s = .next { (s.at_ t).takeInbox 3 with frz := { s.frz with bookings := l } }) ∧
    (∀ n k, execSpeakerState t (.key n k) s =
      .next { (s.at_ t).takeInbox 3 with ids := { s.ids with kbcPrev := s.ids.kbc, kbc := some k, kbcNum := n } }) := by
  simp [execSpeakerState, hr, hs]

end Records

/-! ### Starts (R362, R363) -/

/-- The superframe found is free of other starts, and the start is allowed from it on. -/
theorem findStart_some {s : State} {l : List Booking} {b : Booking} {base n : Nat} (h : s.findStart l b = (base, some n)) :
    (∀ x ∈ l, x.at_ ≠ some n) ∧ s.allows l b.peak b.duration n = true := by
  have hfound := List.find?_some (Prod.ext_iff.mp h).2
  obtain ⟨hfree, hallows⟩ := Bool.and_eq_true_iff.mp hfound
  exact ⟨by simpa using hfree, hallows⟩

/-- A start allowed is within the allowance in its first superframe. -/
theorem allows_first {s : State} {l : List Booking} {peak duration n : Nat} (h : s.allows l peak duration n = true) :
    peakAt l n + peak + s.strangerShare ≤ s.inrush :=
  of_decide_eq_true (List.all_eq_true.mp h n List.mem_cons_self)

theorem book_of_closed {s : State} (b : Booking) (h : s.admitOpen = false) :
    s.book b = { s with frz := { s.frz with
      bookings := s.frz.bookings ++ [{ b with at_ := none, bridged := true, base := (s.findStart s.frz.bookings b).1 }] } } := by
  simp [State.book, h]

theorem book_of_found {s : State} {b : Booking} {base n : Nat} (ho : s.admitOpen = true) (hs : s.frz.speaking = true)
    (hb : b.bridged = false) (hf : s.findStart s.frz.bookings b = (base, some n)) :
    s.book b = { s with frz := { s.frz with
      bookings := s.frz.bookings ++ [{ b with at_ := some n, base := base }]
      down := s.frz.down ++ [admitItem b.id n b.seq b.peak b.duration false false] } } := by
  simp [State.book, ho, hf, hb, push_eq, hs]

section Heard
variable {s : State} {a : Acc} {rest : List Acc}

theorem execStartReq_of_listener (t : Time) (h : s.hears a rest) (hv : a.c.verb = 0x08) (hs : s.frz.speaking = false) :
    execStartReq t s = .next (s.heardOne t rest) := by
  have hmute : (s.heardOne t rest).frz.speaking = false := hs
  simp [execStartReq, takeAcc_of_verb t h hv, hmute]

/-- The booking of a START_REQ, before its superframe is found. -/
def startBooking (a : Acc) : Booking := ⟨a.c.subject, a.c.seq, objN a.c 3 2, objN a.c 5 2, a.c.tref, a.sf, 0, none, false, false⟩

theorem execStartReq_of_speaker (t : Time) (h : s.hears a rest) (hv : a.c.verb = 0x08) (hs : s.frz.speaking = true) :
    execStartReq t s = if s.inrush < objN a.c 3 2
      then .next ((s.heardOne t rest).push [admitItem a.c.subject a.c.tref a.c.seq (objN a.c 3 2) (objN a.c 5 2) false true])
      else .next ((s.heardOne t rest).book (startBooking a)).shareBookings := by
  unfold execStartReq
  extract_lets s0
  rw [show s0.takeAcc 0x08 = _ from takeAcc_of_verb t h hv]
  have hserved : ¬(!s.frz.speaking) = true := by simp [hs]
  exact if_neg hserved

end Heard

/-! ### The speaker's superframe (R330, R332, R353) -/

/-- The stage, the always-on island, the devices, the configuration and the keys are as they were. -/
def besideSpeaker (s s' : State) : Prop := sameStage s s' ∧ sameAon s s' ∧ sameStore s s' ∧ s'.cfg = s.cfg ∧ s'.ids = s.ids

theorem besideSpeaker_trans {s s' s'' : State} (h : besideSpeaker s s') (h' : besideSpeaker s' s'') : besideSpeaker s s'' := by
  simp only [besideSpeaker, sameStage, sameAon, sameStore] at h h' ⊢
  simp only [h', h, and_self]

/-- Furze's own state may be anything. -/
theorem besideSpeaker_frz (s : State) (f : Frz) : besideSpeaker s { s with frz := f } :=
  ⟨⟨rfl, rfl, rfl, rfl, rfl, rfl, rfl⟩, ⟨rfl, rfl, rfl, rfl⟩, ⟨rfl, rfl⟩, rfl, rfl⟩

/-- What the speaker's work of a superframe leaves: all beside it, its superframe, what it is to acknowledge; and every clause
sent stays sent. -/
structure SpeakerWorks (s s' : State) : Prop where
  beside : besideSpeaker s s'
  sf : s'.frz.sf = s.frz.sf
  ackDue : s'.frz.ackDue = s.frz.ackDue
  sent : ∀ x ∈ s.frz.sent, x ∈ s'.frz.sent

namespace SpeakerWorks
variable {s s' s'' : State}

theorem of_frz {f : Frz} (hsf : f.sf = s.frz.sf) (ha : f.ackDue = s.frz.ackDue) (hs : ∀ x ∈ s.frz.sent, x ∈ f.sent) :
    SpeakerWorks s { s with frz := f } := ⟨besideSpeaker_frz s f, hsf, ha, hs⟩

theorem refl (s : State) : SpeakerWorks s s := of_frz rfl rfl fun _ h => h

theorem trans (h : SpeakerWorks s s') (h' : SpeakerWorks s' s'') : SpeakerWorks s s'' where
  beside := besideSpeaker_trans h.beside h'.beside
  sf := h'.sf.trans h.sf
  ackDue := h'.ackDue.trans h.ackDue
  sent x hx := h'.sent x (h.sent x hx)

theorem foldl {α : Type} {f : State → α → State} (hf : ∀ s a, SpeakerWorks s (f s a)) (l : List α) (s : State) :
    SpeakerWorks s (l.foldl f s) := by
  induction l generalizing s with
  | nil => exact refl s
  | cons a l ih => exact (hf s a).trans (ih (f s a))

theorem ite {c : Prop} [Decidable c] {a b : State} (ha : SpeakerWorks s a) (hb : SpeakerWorks s b) :
    SpeakerWorks s (if c then a else b) := by
  split
  · exact ha
  · exact hb

end SpeakerWorks

theorem updPart_works (s : State) (id : Nat) (f : Partner → Partner) : SpeakerWorks s (s.updPart id f) := by
  constructor <;> simp [besideSpeaker, sameStage, sameAon, sameStore]

theorem frzEvent_works (s : State) (i : Nat) : SpeakerWorks s (s.frzEvent i) := .of_frz rfl rfl fun _ h => h

theorem push_works (s : State) (l : List DownItem) : SpeakerWorks s (s.push l) := by
  rw [push_eq]
  exact .of_frz rfl rfl fun _ h => h

theorem shareBookings_works (s : State) : SpeakerWorks s s.shareBookings := by
  constructor <;> simp [besideSpeaker, sameStage, sameAon, sameStore]

theorem setBookings_works (s : State) (l : List Booking) : SpeakerWorks s { s with frz := { s.frz with bookings := l } } :=
  .of_frz rfl rfl fun _ h => h

theorem endEnrolment_works (s : State) (id : Nat) (st : PState) : SpeakerWorks s (s.endEnrolment id st) := by
  obtain ⟨h, c, x, l, d, v, e, n, hended⟩ := endEnrolment_eq s id st
  rw [hended]
  constructor <;> simp [besideSpeaker, sameStage, sameAon, sameStore]

theorem book_works (s : State) (b : Booking) : SpeakerWorks s (s.book b) := by
  unfold State.book
  extract_lets others
  refine .ite (setBookings_works s _) ?_
  split
  · exact .refl s
  · exact (setBookings_works s _).trans (push_works _ _)

theorem admitUpdate_works (s : State) : SpeakerWorks s s.admitUpdate := by
  unfold State.admitUpdate
  extract_lets on _ s1 again _ s2 n off s3
  have h1 : SpeakerWorks s s1 := .of_frz rfl rfl fun _ h => h
  refine .ite (.refl s) (.ite h1 (.ite ?_ ?_))
  · exact h1.trans ((setBookings_works s1 _).trans ((SpeakerWorks.foldl (fun s b => book_works s _) _ _).trans
      (shareBookings_works _)))
  · exact h1.trans ((push_works s1 _).trans ((setBookings_works _ _).trans (shareBookings_works _)))

theorem judgeSlots_works (s : State) (n : Nat) : SpeakerWorks s (s.judgeSlots n) :=
  .foldl (fun s _ => .ite (.refl s) (.ite (updPart_works s _ _)
    (.ite ((updPart_works s _ _).trans (frzEvent_works _ 3)) (updPart_works s _ _)))) _ s

theorem dropGrants_works (s : State) (n : Nat) : SpeakerWorks s (s.dropGrants n) := by
  unfold State.dropGrants
  extract_lets leaving s1
  have h1 : SpeakerWorks s s1 := .foldl (fun s p => endEnrolment_works s _ _) _ s
  exact h1.trans (.foldl (fun s p => .ite (updPart_works s _ _) (.refl s)) _ s1)

theorem delayLedger_works (s : State) (n : Nat) (b : Booking) : SpeakerWorks s (s.delayLedger n b) := by
  constructor <;> simp [besideSpeaker, sameStage, sameAon, sameStore]

theorem bookingStep_works (s : State) (n : Nat) : SpeakerWorks s (s.bookingStep n) := by
  unfold State.bookingStep
  extract_lets s1 b l
  have h1 : SpeakerWorks s s1 := .foldl (fun s b => delayLedger_works s n b) _ s
  exact h1.trans (.of_frz rfl rfl fun _ h => h)

theorem sendItem_works (s : State) (n slot : Nat) (i : DownItem) : SpeakerWorks s (s.sendItem n slot i) := by
  fun_cases State.sendItem s n slot i
  case case1 => exact .refl s
  case case2 => exact .of_frz rfl rfl fun _ h => List.mem_append_left _ h
  case case3 =>
    refine .trans ?_ (updPart_works _ _ _)
    exact .of_frz rfl rfl fun _ h => List.mem_append_left _ h

/-- A clause to all under the broadcast key is sent at once, with its tag (R332, R337). -/
theorem sendItem_of_broadcast {s : State} {i : DownItem} {key : List Byte} (n slot : Nat) (hd : i.dst = 255) (hk : i.key = .bc)
    (hkbc : s.ids.kbc = some key) :
    ∃ c q, s.sendItem n slot i = { s with frz := { s.frz with sent := s.frz.sent ++ [(n, slot, c)], bcSeq := q } } ∧
      c.verb = i.verb ∧ c.addressee = 255 ∧ tagOk key c = true := by
  simp only [State.sendItem, hd, hk, hkbc, if_true, Option.map_some]
  exact ⟨_, _, rfl, rfl, rfl, beq_self_eq_true _⟩

theorem fillSlots_works (s : State) (n : Nat) (l : List Nat) : SpeakerWorks s (s.fillSlots n l) := by
  induction l generalizing s with
  | nil => exact .refl s
  | cons j l ih =>
    have hqueue (d : List DownItem) : SpeakerWorks s { s with frz := { s.frz with down := d } } := .of_frz rfl rfl fun _ h => h
    exact ((hqueue _).trans (.foldl (fun s i => sendItem_works s n _ i) _ _)).trans (ih _)

theorem member_congr {s s' : State} (h : s'.cfg = s.cfg) : s'.member = s.member := by
  rw [State.member, State.member, State.lfldN, State.lfldN, State.lfld, State.lfld, h]

/-- The speaker's superframe: its work at the boundary, then the beacon under the broadcast key, then the slots. -/
theorem execFurzeSuperframe_of_beacon {s : State} (t : Time) {key : List Byte} (hr : s.inRst .htlFrz = false)
    (hn : s.frz.sf ≠ some (s.at_ t).furzeSf) (hs : s.frz.speaking = true)
    (hfrom : 0 ≤ diff32 (s.at_ t).furzeSf s.frz.speakFrom) (hm : (s.at_ t).furzeSf % 64 ≠ s.member) (hk : s.ids.kbc = some key) :
    ∃ s' c, execFurzeSuperframe t s = .next s' ∧ s'.frz.sf = some (s.at_ t).furzeSf ∧
      ((s.at_ t).furzeSf, 0, c) ∈ s'.frz.sent ∧ c.verb = 0x20 ∧ c.addressee = 255 ∧ tagOk key c = true ∧ s'.frz.ackDue = [] ∧
      besideSpeaker s s' := by
  have hdue : ¬(s.inRst .htlFrz = true ∨ s.frz.sf = some (s.at_ t).furzeSf) := by simp [hr, hn]
  have hspeaks : ¬((!s.frz.speaking) = true ∨ diff32 (s.at_ t).furzeSf s.frz.speakFrom < 0) := by
    simp [hs, hfrom]
  unfold execFurzeSuperframe
  extract_lets s0 n near _ s1 s2 s3 acks _ s4 s5 free
  rw [if_neg (show ¬(s0.inRst .htlFrz = true ∨ s0.frz.sf = some n) from hdue),
    if_neg (show ¬((!s1.frz.speaking) = true ∨ diff32 n s1.frz.speakFrom < 0) from hspeaks)]
  have hworks : SpeakerWorks s1 s3 :=
    (((admitUpdate_works s1).trans (judgeSlots_works _ _)).trans (dropGrants_works _ _)).trans (bookingStep_works _ _)
  clear_value s3
  have hbeside : besideSpeaker s s4 := besideSpeaker_trans hworks.beside (besideSpeaker_frz s3 _)
  have ⟨_, _, _, hcfg, hids⟩ := hbeside
  have hm4 : ¬n % 64 = s4.member := by rw [member_congr hcfg]; exact hm
  obtain ⟨c, q, hbeacon, hverb, hto, htag⟩ := sendItem_of_broadcast (s := s4) (i := s4.beacon n) (key := key) n 0 rfl rfl
    ((congrArg Ids.kbc hids).trans hk)
  have h5 : s5 = _ := (if_neg hm4).trans hbeacon
  have hslots : SpeakerWorks s5 (s5.fillSlots n free) := fillSlots_works s5 n free
  refine ⟨_, c, rfl, ?_, ?_, hverb, hto, htag, ?_, ?_⟩
  · rw [hslots.sf, h5]
    exact hworks.sf
  · refine hslots.sent _ ?_
    rw [h5]
    exact List.mem_append_right _ (List.mem_singleton_self _)
  · rw [hslots.ackDue, h5]
  · have hsent : besideSpeaker s s5 := by
      rw [h5]
      exact besideSpeaker_trans hbeside (besideSpeaker_frz s4 _)
    exact besideSpeaker_trans hsent hslots.beside

theorem execFurzeSuperframe_of_done {s : State} (t : Time) (h : s.frz.sf = some (s.at_ t).furzeSf) :
    execFurzeSuperframe t s = .next (s.at_ t) := if_pos (.inr h)

/-! ### The settling theorem -/

/-- Settles O51: the election of a conductor alone, the records a listener keeps, the speaker's superframe by what its work leaves,
and a START_REQ by the superframe found for it. -/
theorem speakerAndStarts : Obligations.SpeakerAndStarts := by
  refine ⟨⟨fun s t hr hb hf hl he hs hm hy hn hp => ?elected, fun s t x hr hseg hm => ?record,
      fun s t x _ hseg => execElection_of_other_segment t hseg, fun s t => execSpeakerState_of_listener t,
      fun s t key => execFurzeSuperframe_of_beacon t, fun s t => execFurzeSuperframe_of_done t⟩,
    fun s t a rest h hv hs => ⟨fun hpeak => ?refused, fun base n hpeak ho hf => ?booked, fun hpeak ho => ?kept⟩,
    fun s t a rest => execStartReq_of_listener t,
    fun s l b base n hf => ⟨(findStart_some hf).1, (findStart_some hf).2, allows_first (findStart_some hf).2⟩⟩
  case elected =>
    have hel : s.eligible = true := by simp [State.eligible, hr, hb, hf, hl]
    obtain ⟨h, b, hbound⟩ := furzeBoundary_of_alone (s := s.at_ t) hr hel he hs hm hy hn hp
    refine ⟨_, congrArg Host.Outcome.next hbound, rfl, rfl, rfl, rfl, getLsbD_setBit_self _ (by decide), ?_⟩
    simp [sameStage, sameSward, sameAon, sameLog, sameStore]
  case record =>
    refine ⟨_, execElection_of_segment t hr hseg hm, fun e he => ?_⟩
    obtain ⟨hmem, hkeep⟩ := List.mem_filter.mp he
    refine ⟨hmem, fun hsame => ?_⟩
    simp [hsame] at hkeep
  case refused =>
    rw [show exec (.startReq t) s = _ from execStartReq_of_speaker t h hv hs, if_pos hpeak, push_of_speaking (by exact hs)]
    rfl
  case booked =>
    have hbook := book_of_found (s := s.heardOne t rest) (b := startBooking a) ho hs rfl hf
    obtain ⟨x, hshare⟩ := shareBookings_eq ((s.heardOne t rest).book (startBooking a))
    refine ⟨x, ?_⟩
    rw [show exec (.startReq t) s = _ from execStartReq_of_speaker t h hv hs, if_neg (Nat.not_lt.mpr hpeak), hshare, hbook]
    rfl
  case kept =>
    have hbook := book_of_closed (s := s.heardOne t rest) (startBooking a) ho
    obtain ⟨x, hshare⟩ := shareBookings_eq ((s.heardOne t rest).book (startBooking a))
    refine ⟨x, (s.findStart s.frz.bookings (startBooking a)).1, ?_⟩
    rw [show exec (.startReq t) s = _ from execStartReq_of_speaker t h hv hs, if_neg (Nat.not_lt.mpr hpeak), hshare, hbook]
    rfl

end Sys2Proof.Machine

/-! SUPPORT. Management, Barrow, resets, the collector and the links: sessions, records, sources, L4 and Heathline. -/
namespace Sys2Proof.Machine

/-! ### SEQ values (R450) -/

/-- Settles O35: `later` is the difference modulo 2³², which `omega` reads off. -/
theorem serialOrder : Obligations.SerialOrder := by
  intro a b ha hb
  simp only [later, Bool.and_eq_true, decide_eq_true_eq]
  constructor
  · rintro ⟨h1, h2⟩
    refine ⟨(a + 2 ^ 32 - b % 2 ^ 32) % 2 ^ 32, h1, h2, ?_⟩
    omega
  · rintro ⟨d, h1, h2, h⟩
    omega

/-! ### A step with a command in front -/

/-- Settles O1: the front of the queue is what a step takes. -/
theorem stepRunsFront : Obligations.StepRunsFront := fun _ _ _ => rfl

/-! ### Management: the epoch and what announces it (R559, R561, R562) -/

@[simp] theorem State.sendMsg_fwRunning (s : State) (m : MsgType) (dest : Mgr) (code ref result : Nat)
    (payload : List Byte) : (s.sendMsg m dest code ref result payload).mbx.fwRunning = s.mbx.fwRunning := by
  unfold State.sendMsg
  split <;> rfl

@[simp] theorem State.item_fwRunning (s : State) (type : Nat) (content : List Byte) :
    (s.item type content).mbx.fwRunning = s.mbx.fwRunning := by
  unfold State.item
  extract_lets -underBinder _ s1 bytes
  have h : s1.mbx.fwRunning = s.mbx.fwRunning := rfl
  clear_value s1 bytes
  split
  · split <;> simp [h]
  · simp [h]

@[simp] theorem State.heard_fwRunning (s : State) : s.heard.mbx.fwRunning = s.mbx.fwRunning := by
  simp only [State.heard, State.notify]
  (repeat' split) <;> simp_all

theorem State.sendEpoch_of_running {s : State} (h : s.mbx.fwRunning = true) (g : Mgr) (ref : Nat) :
    s.sendEpoch g ref = { s with mbx := { s.mbx with
      sent := s.mbx.sent ++ [⟨.epoch, g, 0, s.mbx.txSeq, ref, 0,
        beBytes 4 s.mbx.epoch ++ beBytes 4 s.mbxStatus.toNat ++ beBytes 4 s.aonMode.toNat⟩]
      txSeq := s.mbx.txSeq + 1 } } := by
  simp [State.sendEpoch, State.sendMsg, h]

@[simp] theorem State.sendEpoch_ready (s : State) (g : Mgr) (ref : Nat) :
    (s.sendEpoch g ref).mbx.ready = s.mbx.ready ∧ (s.sendEpoch g ref).mbx.epoch = s.mbx.epoch := by
  simp only [State.sendEpoch, State.sendMsg]
  split <;> exact ⟨rfl, rfl⟩

theorem State.takeEpoch_of_kept {s : State} {g : Mgr} {epoch : Nat} (hk : (s.mbx.mgr g).known = true)
    (he : (s.mbx.mgr g).epoch = epoch) : s.takeEpoch g epoch = (true, s) := by
  simp [State.takeEpoch, hk, he]

/-- A HEARTBEAT that answers nothing but EPOCH (R561). -/
theorem execHeartbeat_of_kept {s : State} (t : Time) {m : MsgHdr} (hr : s.inRst .mgmt = false)
    (hf : s.mbx.fwRunning = true) (hs : m.session = true) (hv : m.version = 1) (hl : m.length ≤ 1200)
    (hready : s.mbx.ready = true) (hk : (s.mbx.mgr m.mgr).known = true) (he : (s.mbx.mgr m.mgr).epoch = m.epoch)
    (hrec : m.receiver = 0 ∨ m.receiver = s.mbx.epoch) :
    execHeartbeat t m s = .next ((s.at_ t).heard.sendEpoch m.mgr m.seq) := by
  have htake : (s.at_ t).takeEpoch m.mgr m.epoch = (true, s.at_ t) := State.takeEpoch_of_kept hk he
  have hpass : ¬ (m.receiver ≠ 0 ∧ m.receiver ≠ (s.at_ t).mbx.epoch) := fun ⟨h0, h⟩ => hrec.elim h0 h
  have hl' : ¬ 1200 < m.length := Nat.not_lt.mpr hl
  simp only [execHeartbeat, htake, if_neg hpass]
  rw [if_neg (by simp [hr, hf, hs, hv, hl']), if_neg (by simp [hready])]
  rfl

/-- Settles O11: the epoch is announced by two messages, a heartbeat by one, and a session is the manager's own entry. -/
theorem epochsAndSessions : Obligations.EpochsAndSessions := by
  refine ⟨fun s t hf hb ha hr => ?epoch, fun s t m hr hf hs hv hl hready hk he hrec => ?heartbeat,
    fun s t g b key hr hf hs => ?session⟩
  case epoch =>
    refine ⟨_, if_neg (by simp [hf, hb, ha, hr]), by simp, by simp, fun hrun => ?_, ?_⟩
    · simp [State.sendEpoch, State.sendMsg, hrun]
    · simp [State.sendEpoch, sameStage, sameSward, sameRow, sameAon, sameLog, sameStore, sameBus]
  case heartbeat =>
    rw [show exec (.heartbeat t m) s = _ from execHeartbeat_of_kept t hr hf hs hv (by omega) hready hk he hrec,
      State.sendEpoch_of_running (by simpa using hf)]
  case session =>
    by_cases hkey : ∃ k ∈ s.nv.trust.keys, k.role = 4 ∧ k.hash = key
    · refine ⟨_, if_neg (by simpa [hr, hf, hs] using hkey), fun _ => ⟨?_, rfl⟩, fun hno => ?_, ?_⟩
      · exact congrArg MgrState.session (updMgr_self _ _ _)
      · obtain ⟨k, hk, h⟩ := hkey
        exact absurd h (hno k hk)
      · simp [sameStage, sameSward, sameRow, sameAon, sameLog, sameStore, sameBus]
    · refine ⟨_, if_pos (by simpa [hr, hf, hs] using hkey), fun h => absurd h hkey, fun _ => rfl, ?_⟩
      simp [sameStage, sameSward, sameRow, sameAon, sameLog, sameStore, sameBus]

/-! ### Barrow: what a record staged carries (R501) -/

@[simp] theorem State.toNeighbours_staging (s : State) (payload : List Byte) :
    (s.toNeighbours payload).brw.staging = s.brw.staging := by
  simp [State.toNeighbours, State.brwSend]

/-- A record that fits and may be staged is appended to the records staged, with its number, instant and anchor. -/
theorem State.stageRec_staging {s : State} {r : BRec} (hr : s.inRst .fabric = false) (hc : s.pin.stagingClosed = false)
    (hf : s.brw.staged + r.len ≤ 16777216) :
    (s.stageRec r).brw.staging = s.brw.staging ++ [⟨{ r with rnum := s.brw.nextRnum }, s.now, s.brw.anchored⟩] := by
  have hfit : ¬ stagingBytes < s.brw.staged + r.len := Nat.not_lt.mpr hf
  unfold State.stageRec State.appendRec
  rw [if_neg (by simp [hr, hc]), if_neg hfit]
  dsimp only
  split <;> simp

/-- FLAGS of a new record: bit 0 with ring time, bit 1 with wall time, bit 2 with ring time in holdover. -/
theorem State.newRec_flags (s : State) (type sub : Nat) (p : List Byte) (flush : Bool) :
    (s.newRec type sub p flush).flags.getLsbD 0 = s.htl.holding ∧
    (s.newRec type sub p flush).flags.getLsbD 1 = s.brw.wall.isSome ∧
    (s.newRec type sub p flush).flags.getLsbD 2 = (s.htl.holding && s.rings.fabric.holdover) := by
  simp only [State.newRec]
  generalize s.brw.wall.isSome = w
  generalize s.htl.holding = h
  generalize s.rings.fabric.holdover = o
  generalize s.brw.unanchored = u
  revert w h o u flush
  decide

/-- Settles O32: the record staged is the new record under its number. -/
theorem recordTimes : Obligations.RecordTimes := by
  intro s type sub p flush hr hc hf
  obtain ⟨h0, h1, h2⟩ := s.newRec_flags type sub p flush
  refine ⟨_, State.stageRec_staging hr hc hf, rfl, fun hh => ?_, fun hh => ?_, h0, h1, rfl⟩
  · exact ⟨if_pos hh, by simpa [hh] using h2⟩
  · exact ⟨if_neg (by simp [hh]), by simpa [hh] using h2⟩

/-! ### Reset: sources, releases and the flush window (R464 to R475) -/

theorem Dom.bit_lt (d : Dom) : d.bit < 10 := by
  rcases d with _ | _ | _ | (_ | _ | _) | _ | _ | _ | _ <;> decide

/-- The domains in the order of their bits (R463). -/
def Dom.byBit : List Dom := [.aon, .idsol, .fabric, .lane .a, .lane .b, .lane .c, .mgmt, .htlFrz, .planning, .swardPower]

theorem Dom.byBit_bit (d : Dom) : Dom.byBit.getD d.bit .aon = d := by
  rcases d with _ | _ | _ | (_ | _ | _) | _ | _ | _ | _ <;> rfl

theorem Dom.bit_ne {d e : Dom} (h : e ≠ d) : e.bit ≠ d.bit := fun he => h (by rw [← byBit_bit e, he, byBit_bit d])

@[simp] theorem at_elapsed (s : State) (t t0 : Time) (d : Nat) :
    (s.at_ t).elapsed t0 d = decide (t0 + d ≤ max s.now t) := rfl

@[simp] theorem at_dom (s : State) (t : Time) (d : Dom) : (s.at_ t).dom d = s.dom d := rfl

@[simp] theorem State.enterHoldover_mode (s : State) : s.enterHoldover.aon.mode = s.aon.mode := by
  simp [State.enterHoldover]

@[simp] theorem State.desync_mode (s : State) : s.desync.aon.mode = s.aon.mode := by
  simp only [State.desync]
  split <;> simp

@[simp] theorem State.takeParent_mode (s : State) (x : Option (Port × Nat)) : (s.takeParent x).aon.mode = s.aon.mode := by
  simp only [State.takeParent]
  split <;> simp

@[simp] theorem State.chooseMaster_mode (s : State) (force : Bool) : (s.chooseMaster force).aon.mode = s.aon.mode := by
  simp only [State.chooseMaster]
  (repeat' split) <;> simp

@[simp] theorem State.rejudge_mode (s : State) : s.rejudge.aon.mode = s.aon.mode := by
  unfold State.rejudge
  extract_lets now gone _ s1 s2
  have h2 : s2.aon.mode = s1.aon.mode := foldl_keeps (fun s => s.aon.mode) _ (fun s p => by
    split
    · split <;> simp
    · rfl) _ s1
  simpa using h2

@[simp] theorem State.portChanged_mode (s : State) : s.portChanged.aon.mode = s.aon.mode := by
  simp [State.portChanged]

/-- What a domain's release leaves as it was: the resets and their sources, the mode, the image, the devices. -/
@[simp] abbrev sameReset (s s' : State) : Prop :=
  s'.core.doms = s.core.doms ∧ s'.core.srcs = s.core.srcs ∧ s'.aon.mode = s.aon.mode ∧ s'.cfg = s.cfg ∧
    s'.nv = s.nv ∧ s'.ddr = s.ddr

theorem State.portChanged_sameReset (s : State) : sameReset s s.portChanged := by
  obtain ⟨-, -, -, -, hcore, hcfg, -, hstore, -⟩ := (portChanged_stand s).off
  exact ⟨congrArg Core.doms hcore, congrArg Core.srcs hcore, s.portChanged_mode, hcfg, hstore.1, hstore.2⟩

@[simp] theorem State.startPorts_sameReset (s : State) : sameReset s s.startPorts := by
  have h := State.portChanged_sameReset (Port.all.foldl (fun s p => s.startPort p) s)
  simp only [State.startPorts]
  split
  · simp
  · simpa [sameReset] using h

theorem State.onRelease_sameReset (s : State) (d : Dom) : sameReset s (s.onRelease d) := by
  cases d with
  | fabric =>
    simp only [State.onRelease]
    split <;> simp
  | aon => simp [State.onRelease]
  | idsol => simp [State.onRelease]
  | lane x => simp [State.onRelease]
  | mgmt => simp [State.onRelease]
  | htlFrz => simp [State.onRelease]
  | swardPower => simp [State.onRelease]
  | planning => simp [State.onRelease]

theorem State.writeOwed_sameReset (s : State) (d : Dom) : sameReset s (s.writeOwed d) := by
  simp [State.writeOwed]

theorem execResetPulseEnd_of_pulse {s : State} (t : Time) {x : Src} {e : Time}
    (h : (s.core.srcs.getD x.code ⟨false, 0, none, 0, []⟩).pulseEnd = some e) :
    execResetPulseEnd t x s = .next (if e ≤ max s.now t then (s.at_ t).releaseSrc x else s.at_ t) := by
  unfold execResetPulseEnd
  dsimp only
  rw [show ((s.at_ t).core.srcs.getD x.code _).pulseEnd = some e from h]
  rfl

theorem execMgmtWdog_of_ended {s : State} {t t0 : Time} {n : Nat} (h : s.core.mwdog = some (t0, n))
    (he : t0 + n ≤ max s.now t) : execMgmtWdog t s =
      .next (({ s.at_ t with core := { s.core with mwdog := none } }).assertReset .mgmtWdog (s.fused .mgmtWdog)) := by
  unfold execMgmtWdog
  dsimp only
  rw [show (s.at_ t).core.mwdog = some (t0, n) from h]
  exact if_pos (decide_eq_true he)

theorem execFlushWindowEnd_of_flush {s : State} {t t0 : Time} (h : s.core.flush = some t0) :
    execFlushWindowEnd t false s = if t0 + 2000000 ≤ max s.now t
      then .next ({ s.at_ t with core := { s.core with flush := none } }).enterFull else .next (s.at_ t) := by
  unfold execFlushWindowEnd
  dsimp only
  rw [show (s.at_ t).core.flush = some t0 from h]
  by_cases he : t0 + 2000000 ≤ max s.now t
  · have hend : (s.at_ t).elapsed t0 (2 * ms) = true := decide_eq_true he
    exact (if_neg (by rw [hend]; simp)).trans (if_pos he).symm
  · exact (if_pos (by simpa [ms] using he)).trans (if_neg he).symm

theorem State.release_sameReset (s : State) (d : Dom) : sameReset s ((s.onRelease d).writeOwed d) := by
  have h := s.onRelease_sameReset d
  have h' := (s.onRelease d).writeOwed_sameReset d
  simp only [sameReset] at h h' ⊢
  simp only [h', h, and_self]

/-- A reset entered at a level below L5 keeps the counts and the power-cycle count, and raises L4's. -/
theorem State.enterFull_of_not_l5 {s : State} (h : s.core.lastLevel ≠ 5) :
    s.enterFull = { State.reset with
      now := s.now, pending := s.pending, free := s.free, nv := s.nv, pin := s.pin
      core := { s.core with
        doms := List.replicate 10 ⟨true, s.now, 0⟩, bringup := true, mgmtLate := false, flush := none
        countL4 := s.core.countL4 + 1, mwdogTimeout := 0x0C8, mwdog := none, bringupMs := 0, owedRecords := []
        idsolSignal := none, owedMode := some s.aon.mode, bringupStart := s.now } } := by
  simp [State.enterFull, h]

/-- Settles O27: a release changes its own domain's entry alone, and what follows it none. -/
theorem sourcesAndDomains : Obligations.SourcesAndDomains := by
  refine ⟨⟨fun s t => rfl, fun s t h => ?low, fun s t e x h => ⟨fun he => ?ended, fun he => ?goesOn⟩,
      fun s t t0 n h he => execMgmtWdog_of_ended h he, fun s t v hr => ⟨fun h => ?kick, fun h => if_neg h⟩,
      fun s t hr hs he => ?ready, fun s t hr hs he => ?timeout⟩,
    fun s t d hm hl => ?release, fun s t d hm => if_pos (by simp [hm]), fun s t t0 h he hl => ?flushed,
    fun s t t0 h he => ?window⟩
  case low =>
    show execResetPin t false s = _
    simp [execResetPin, h]
  case ended => exact (execResetPulseEnd_of_pulse t h).trans (by rw [if_pos he])
  case goesOn => exact (execResetPulseEnd_of_pulse t h).trans (by rw [if_neg (Nat.not_le.mpr he)])
  case kick =>
    show execMwdogKick t v s = _
    simp [execMwdogKick, h, hr, ms]
  case ready =>
    have hgo : ¬((s.at_ t).inRst .idsol = true ∨ (s.at_ t).core.idsolSignal.isSome = true ∨
        (s.at_ t).elapsed (((s.at_ t).dom .idsol).release + 1) (1 * ms) = true) := by
      simpa [hr, hs, ms] using he
    exact ⟨⟨_, (if_neg hgo).trans (if_pos rfl), fun i hi => upd_getD_other _ _ _ _ _ hi⟩,
      (if_neg hgo).trans (if_neg (by simp))⟩
  case timeout =>
    have hend : ((s.at_ t).elapsed ((s.at_ t).dom .idsol).release (1 * ms)) = true := decide_eq_true he
    exact if_neg (by rw [hend]; simp [hr, hs])
  case release =>
    refine ⟨_, if_neg (by simp [hm]), ?_⟩
    generalize hv : ({ s.at_ t with core := _ } : State) = v
    obtain ⟨hdoms, hsrcs, hmode, hcfg, hnv, hddr⟩ := State.release_sameReset v d
    have hdom (e : Dom) : ((v.onRelease d).writeOwed d).dom e = v.dom e := by rw [State.dom, hdoms, State.dom]
    have hd : v.dom d = { s.dom d with inReset := false, release := max s.now t } := by
      rw [← hv]
      exact upd_getD_self _ _ _ _ (hl ▸ Dom.bit_lt d)
    subst hv
    refine ⟨?_, ?_, fun e he => ?_, hsrcs, hmode, hcfg, hnv, hddr⟩
    · exact (congrArg DomState.inReset (hdom d)).trans (congrArg DomState.inReset hd)
    · exact (congrArg DomState.release (hdom d)).trans (congrArg DomState.release hd)
    · exact (hdom e).trans (upd_getD_other _ _ _ _ _ (Dom.bit_ne he))
  case flushed =>
    refine (execFlushWindowEnd_of_flush h).trans ((if_pos he).trans (congrArg Host.Outcome.next ?_))
    exact State.enterFull_of_not_l5 (s := { s.at_ t with core := { s.core with flush := none } }) (by simp [hl])
  case window => exact (execFlushWindowEnd_of_flush h).trans (if_neg (Nat.not_le.mpr he))

/-! ### The sources of resets (R466, R468) -/

@[simp] theorem State.loseDomain_core (s : State) (d : Dom) : (s.loseDomain d).core = s.core := by
  unfold State.loseDomain
  split <;> simp

@[simp] theorem State.fenceNow_core (s : State) (x : Lane) : (s.fenceNow x).core = s.core := by
  simp [State.fenceNow]

@[simp] theorem State.enterDomain_srcs (s : State) (d : Dom) : (s.enterDomain d).core.srcs = s.core.srcs := by
  unfold State.enterDomain
  split
  · rfl
  · extract_lets -underBinder _ s1 s2
    have h1 : s1.core.srcs = s.core.srcs := rfl
    have h2 : s2.core = s1.core := by
      simp only [s2]
      split
      · simp
      · rfl
    clear_value s1 s2
    simp [h2, h1]

/-- The entry of a source that is asserted, from its entry before: one asserted already takes the wider level (R468). -/
def raised (old : SrcState) (level : Nat) (pulse : Option Time) (lanes : List Lane) : SrcState :=
  if old.asserted then { old with level := widerLevel old.level level, lanes := old.lanes ++ lanes, pulseEnd := pulse }
  else ⟨true, level, pulse, old.released, lanes⟩

theorem raised_asserted (old : SrcState) (level : Nat) (pulse : Option Time) (lanes : List Lane) :
    (raised old level pulse lanes).asserted = true := by
  unfold raised
  split
  · assumption
  · rfl

/-- A source but the power's, asserted with no power-fail sequence under way, shows it in its own entry and in no other. -/
theorem State.assertSource_srcs {s : State} {src : Src} (h : ¬(src = .powerOn ∨ src = .brownOut)) {level : Nat}
    (lanes : List Lane) (hold : Bool) (hl : level ≠ 0) (hp : s.pin.powerFail = none) :
    (s.assertSource src level lanes hold).core.srcs =
      s.core.srcs.set src.code (raised (s.core.srcs.getD src.code ⟨false, 0, none, 0, []⟩) level
        (if srcPulse src && !hold then some (s.now + pulseNs) else none) lanes) := by
  unfold State.assertSource
  rw [if_neg hl, if_neg (by simp [hp])]
  extract_lets -underBinder was old new _ s1 core bits core4 s4 _ s5 _ s6 bit core3 _ s3
  have h5 : s5.core = s4.core := by simp [s5]
  have h6 : s6.core.srcs = s1.core.srcs := (congrArg Core.srcs h5 : s5.core.srcs = s4.core.srcs)
  split
  · split
    · rfl
    · split
      · exact h6
      · exact (congrArg Core.srcs (by simp [State.flushStart])).trans h6
  · split
    · rfl
    · exact foldl_keeps (fun s => s.core.srcs) _ (fun s d => s.enterDomain_srcs d) _ s3

/-- No entry that is asserted is released by setting one that is. -/
theorem asserted_set {l : List SrcState} {d n : SrcState} {i : Nat} (j : Nat) (hn : n.asserted = true)
    (h : (l.getD i d).asserted = true) : ((l.set j n).getD i d).asserted = true := by
  rw [List.getD_eq_getElem?_getD, List.getElem?_set] at *
  split
  · split <;> simp_all
  · exact h

theorem State.assertSource_srcOn {s : State} {src y : Src} (h : ¬(src = .powerOn ∨ src = .brownOut)) (level : Nat)
    (lanes : List Lane) (hold : Bool) (hy : s.srcOn y = true) : (s.assertSource src level lanes hold).srcOn y = true := by
  by_cases hl : level = 0
  · rw [State.assertSource, if_pos hl]
    exact hy
  · cases hp : s.pin.powerFail with
    | some t =>
      rw [State.assertSource, if_neg hl, if_pos (by simpa [hp] using h)]
      exact hy
    | none =>
      rw [State.srcOn, State.assertSource_srcs h lanes hold hl hp]
      exact asserted_set _ (raised_asserted _ _ _ _) hy

theorem State.holdLatched_srcOn {s : State} {y : Src} (hy : s.srcOn y = true) : s.holdLatched.srcOn y = true := by
  unfold State.holdLatched
  refine List.foldlRecOn (motive := fun s : State => s.srcOn y = true) _ _ hy fun s hs x _ => ?_
  dsimp only
  split
  · exact State.assertSource_srcOn (by simp) _ _ _ hs
  · exact hs

theorem State.assertReset_fault_srcOn {s : State} {level : Nat} (lanes : List Lane) (hl : level ≠ 0)
    (hp : s.pin.powerFail = none) (hn : s.core.srcs.length = 15) :
    (s.assertReset .fault level lanes).srcOn .fault = true := by
  refine State.holdLatched_srcOn ?_
  rw [State.srcOn, State.assertSource_srcs (by simp) lanes false hl hp]
  simp [Src.code, hn, raised_asserted]

/-! ### What a fault message does before its reset reaction (R487 to R490) -/

/-- The collector as a record, a report or an item leaves it. -/
@[simp] abbrev sameCollector (s s' : State) : Prop :=
  s'.flt.srcs = s.flt.srcs ∧ s'.flt.queue = s.flt.queue ∧ s'.flt.intStatus = s.flt.intStatus ∧ s'.flt.trap = s.flt.trap ∧
    s'.flt.hold = s.flt.hold ∧ s'.flt.bringupEndMs = s.flt.bringupEndMs ∧ s'.flt.l4Hold = s.flt.l4Hold

@[simp] theorem State.report_sameCollector (s : State) (source kind inst detail : Nat) (voted : Bool) :
    sameCollector s (s.report source kind inst detail voted) := by
  simp only [State.report]
  split <;> simp

theorem State.stage_sameCollector (s : State) (type sub : Nat) (p : List Byte) (flush : Bool) :
    sameCollector s (s.stage type sub p flush) := by
  unfold State.stage State.stageRec
  split
  · simp
  · split
    · dsimp only
      split <;> simp
    · simp

theorem State.faultRecord_sameCollector (s : State) (q : QMsg) : sameCollector s (s.faultRecord q) := by
  unfold State.faultRecord
  extract_lets -underBinder second counts n _ s1
  split
  · exact s1.stage_sameCollector _ _ _ _
  · simp [s1]


/-! ### The collector's work on one message (R487 to R489) -/

/-- A source found in the collector is found again, changed, after its entry is. -/
theorem src_updSrc {f : Flt} {c : Nat} {x0 x : FltSource} (h : f.src c = some x0) (hx : x.code = x0.code) :
    (f.updSrc c (fun _ => x)).src c = some x := by
  have hc : x0.code = c := by simpa using List.find?_some h
  have hp : ((fun y : FltSource => y.code == c) ∘ fun y => if y.code = c then x else y) = fun y => y.code == c := by
    funext y
    by_cases hy : y.code = c <;> simp [hy, hx, hc]
  rw [Flt.src, Flt.updSrc, List.find?_map, hp, show f.srcs.find? (fun y => y.code == c) = some x0 from h]
  simp [hc]

theorem FltSource.advance_stands (x : FltSource) (now : Time) :
    (x.advance now).react = x.react ∧ (x.advance now).total = x.total ∧ (x.advance now).code = x.code := by
  unfold FltSource.advance
  split <;> exact ⟨rfl, rfl, rfl⟩

theorem Flt.enqueue_stands (f : Flt) (q : QMsg) : (f.enqueue q).srcs = f.srcs ∧ (f.enqueue q).intStatus = f.intStatus ∧
    (f.enqueue q).bringupEndMs = f.bringupEndMs ∧ (f.enqueue q).l4Hold = f.l4Hold ∧
    (f.queue.length < 1024 → (f.enqueue q).queue = f.queue ++ [q]) := by
  unfold Flt.enqueue queueDepth
  split
  · exact ⟨rfl, rfl, rfl, rfl, fun _ => rfl⟩
  · exact ⟨rfl, rfl, rfl, rfl, fun h => absurd h ‹_›⟩

theorem State.nmi_trap (s : State) (q : QMsg) : (s.nmi q).flt.trap = true := by
  unfold State.nmi
  generalize q.word = w
  cases h : s.flt.trap <;> cases s.inRst .mgmt <;> simp [h]

/-- An NMI changes the trap and its counts alone. -/
theorem State.nmi_stands (s : State) (q : QMsg) : (s.nmi q).flt.srcs = s.flt.srcs ∧ (s.nmi q).flt.queue = s.flt.queue ∧
    (s.nmi q).flt.intStatus = s.flt.intStatus ∧ (s.nmi q).flt.bringupEndMs = s.flt.bringupEndMs ∧
    (s.nmi q).flt.l4Hold = s.flt.l4Hold := by
  unfold State.nmi
  generalize q.word = w
  cases s.flt.trap <;> cases s.inRst .mgmt <;> simp

/-- A source with a message counted in its present bin and in all (R487). -/
def counted (x : FltSource) : FltSource := { x with bins := upd x.bins 0 (· + 1), total := x.total + 1 }

theorem counted_stands (x : FltSource) :
    (counted x).react = x.react ∧ (counted x).total = x.total + 1 ∧ (counted x).code = x.code := ⟨rfl, rfl, rfl⟩

/-- A source with a message of severity `sev`, its ERR_N bit pending where its class asks for it (R488). -/
def pended (x : FltSource) (sev : Bool) : FltSource := { x with pend := x.pend || x.errN sev }

theorem pended_stands (x : FltSource) (sev : Bool) :
    (pended x sev).react = x.react ∧ (pended x sev).total = x.total ∧ (pended x sev).code = x.code := ⟨rfl, rfl, rfl⟩

/-- What a state `u`, in which message `m` of source `x` at severity `sev` has been taken in `s`, shows before its reset
reaction. -/
structure Noted (s : State) (m : FaultMsg) (x : FltSource) (sev : Bool) (u : State) : Prop where
  core : u.core = s.core
  pin : u.pin = s.pin
  now : u.now = s.now
  bringupEndMs : u.flt.bringupEndMs = s.flt.bringupEndMs
  l4Hold : u.flt.l4Hold = s.flt.l4Hold
  source : ∃ z, u.flt.src m.source = some z ∧ z.total = x.total + 1
  queue : s.flt.queue.length < 1024 → ∃ q, u.flt.queue = s.flt.queue ++ [q] ∧ q.msg = m
  int : x.int sev = true → u.flt.intStatus = setBit s.flt.intStatus (m.source / 256 % 16)
  nmi : x.nmi sev = true → u.flt.trap = true

theorem State.collect_of_src {s : State} {m : FaultMsg} {x : FltSource} (h : s.flt.src m.source = some x) :
    ∃ u sev, Noted s m x sev u ∧ s.collect m = u.resetReaction m.source (x.resetCode sev) := by
  generalize hc : s.collect m = r
  rw [State.collect, h] at hc
  dsimp -zeta only at hc
  extract_lets +lift -underBinder x1 x2 sev q x3 f1 f2 s1 s2 s3 at hc
  have h1 : x1.react = x.react ∧ x1.total = x.total ∧ x1.code = x.code := x.advance_stands s.now
  clear_value x1
  obtain ⟨hreact, htotal, hcode⟩ := h1
  have hx2 : x2 = counted x1 := rfl
  have hx3 : x3 = pended x2 sev := rfl
  have hqm : q.msg = m := rfl
  clear_value x3 x2 q
  obtain ⟨hr2, ht2, hc2⟩ := counted_stands x1
  obtain ⟨hr3, ht3, hc3⟩ := pended_stands x2 sev
  rw [← hx3, hx2] at hr3 ht3 hc3
  have hsrc : (s.flt.updSrc m.source fun _ => x3).src m.source = some x3 := src_updSrc h (hc3.trans (hc2.trans hcode))
  obtain ⟨hqsrcs, hqint, hqend, hqhold, hqq⟩ := (s.flt.updSrc m.source fun _ => x3).enqueue_stands q
  have h2 : f2.srcs = f1.srcs ∧ f2.queue = f1.queue ∧ f2.bringupEndMs = f1.bringupEndMs ∧ f2.l4Hold = f1.l4Hold ∧
      (x3.int sev = true → f2.intStatus = setBit f1.intStatus (m.source / 256 % 16)) := by
    simp only [f2]
    split
    · exact ⟨rfl, rfl, rfl, rfl, fun _ => rfl⟩
    · exact ⟨rfl, rfl, rfl, rfl, fun h => absurd h ‹_›⟩
  obtain ⟨h2srcs, h2q, h2end, h2hold, h2int⟩ := h2
  have hs2 : sameCollector s1 s2 ∧ s2.core = s1.core ∧ s2.pin = s1.pin ∧ s2.now = s1.now := by
    have hrec := s1.faultRecord_sameCollector q
    simp only [sameCollector] at hrec
    simp [s2, hrec]
  have h1 : s1.flt = f2 ∧ s1.core = s.core ∧ s1.pin = s.pin ∧ s1.now = s.now := ⟨rfl, rfl, rfl, rfl⟩
  have h3 : s3.flt.srcs = s2.flt.srcs ∧ s3.flt.queue = s2.flt.queue ∧ s3.flt.intStatus = s2.flt.intStatus ∧
      s3.flt.bringupEndMs = s2.flt.bringupEndMs ∧ s3.flt.l4Hold = s2.flt.l4Hold ∧ s3.core = s2.core ∧ s3.pin = s2.pin ∧
      s3.now = s2.now ∧ (x3.nmi sev = true → s3.flt.trap = true) := by
    have hn := s2.nmi_stands q
    have ht := s2.nmi_trap q
    simp only [s3]
    split <;> simp_all
  have hf1 : f1 = (s.flt.updSrc m.source fun _ => x3).enqueue q := rfl
  clear_value f1 f2 s1 s2 s3
  rw [← hf1] at hqsrcs hqint hqend hqhold hqq
  obtain ⟨⟨hsrcs, hq, hint, -, -, hend, hhold⟩, hcore2, hpin2, hnow2⟩ := hs2
  obtain ⟨h1f, h1core, h1pin, h1now⟩ := h1
  obtain ⟨h3srcs, h3q, h3int, h3end, h3hold, h3core, h3pin, h3now, h3trap⟩ := h3
  rw [h1f] at hsrcs hq hint hend hhold
  have hreact3 : x3.react = x.react := hr3.trans (hr2.trans hreact)
  have hupd : s3.flt.srcs = (s.flt.updSrc m.source fun _ => x3).srcs := by rw [h3srcs, hsrcs, h2srcs, hqsrcs]
  refine ⟨s3, sev, ⟨?_, ?_, ?_, ?_, ?_, ⟨x3, ?_, ?_⟩, fun hl => ⟨q, ?_, hqm⟩, fun hx => ?_, fun hx => ?_⟩, ?_⟩
  · rw [h3core, hcore2, h1core]
  · rw [h3pin, hpin2, h1pin]
  · rw [h3now, hnow2, h1now]
  · rw [h3end, hend, h2end, hqend, Flt.updSrc]
  · rw [h3hold, hhold, h2hold, hqhold, Flt.updSrc]
  · rw [Flt.src, hupd]
    exact hsrc
  · rw [ht3, ht2, htotal]
  · rw [h3q, hq, h2q]
    exact hqq hl
  · rw [h3int, hint, h2int (by rwa [FltSource.int, hreact3]), hqint, Flt.updSrc]
  · exact h3trap (by rwa [FltSource.nmi, hreact3])
  · rw [← hc, FltSource.resetCode, FltSource.resetCode, hreact3]

/-- Whether a reaction of L4 is held is the same before the message's reset reaction (R489). -/
theorem Noted.l4Held_iff {s u : State} {m : FaultMsg} {x : FltSource} {sev : Bool} (h : Noted s m x sev u) :
    u.l4Held = s.l4Held := by
  have hop : u.opMs = s.opMs := by simp only [State.opMs, State.opAt, h.core, h.now]
  rw [State.l4Held, State.l4Held, h.core, h.bringupEndMs, h.l4Hold, hop]

theorem State.resetReaction_of_held {s : State} (h : s.l4Held = true) (source : Nat) :
    s.resetReaction source 4 = { s with flt := { s.flt with hold := true } } := if_pos ⟨rfl, h⟩

/-- A reset reaction that is not held asserts the fault source: of L1 only for a lane's own source (R489). -/
theorem State.resetReaction_srcOn {s : State} {source code : Nat} (hp : s.pin.powerFail = none)
    (hn : s.core.srcs.length = 15) (h0 : code ≠ 0) (h4 : code = 4 → s.l4Held = false)
    (h1 : code = 1 → source ∈ [0x300, 0x301, 0x302]) : (s.resetReaction source code).srcOn .fault = true := by
  have hheld : ¬(code = 4 ∧ s.l4Held = true) := fun ⟨hc, hh⟩ => by simp [h4 hc] at hh
  unfold State.resetReaction
  rw [if_neg hheld]
  by_cases hc : code = 1
  · rw [if_pos hc]
    split
    · exact State.assertReset_fault_srcOn _ (by decide) hp hn
    · exact State.assertReset_fault_srcOn _ (by decide) hp hn
    · exact State.assertReset_fault_srcOn _ (by decide) hp hn
    · simp_all
  · rw [if_neg hc]
    exact State.assertReset_fault_srcOn [] h0 hp hn

/-- Settles O29: what the collector does before the reset reaction keeps what decides whether L4 is held. -/
theorem l4Held : Obligations.L4Held := by
  intro s m x hx hlat
  obtain ⟨u, sev, hu, hcollect⟩ := State.collect_of_src hx
  simp only [hcollect]
  refine ⟨fun hcode hheld => ?held, fun hp hn => ⟨fun hcode hb hend => ?free, fun hcode => ?lower⟩⟩
  case held =>
    have hl : s.l4Held = true := by
      rcases hheld with hb | ⟨t0, ht, hlt⟩
      · simp [State.l4Held, hb]
      · simp [State.l4Held, ht, hlt]
    rw [hcode, State.resetReaction_of_held (hu.l4Held_iff.trans hl)]
    exact ⟨hu.core, rfl, hu.source, hu.queue, fun hi => hu.int (hi sev), fun hi => hu.nmi (hi sev)⟩
  case free =>
    obtain ⟨t0, ht, hle⟩ := hend
    have hl : s.l4Held = false := by simp [State.l4Held, hb, ht, hle]
    rw [hcode]
    exact State.resetReaction_srcOn (hu.pin ▸ hp) (hu.core ▸ hn) (by decide) (fun _ => hu.l4Held_iff.trans hl)
      (fun h => absurd h (by decide))
  case lower =>
    refine State.resetReaction_srcOn (hu.pin ▸ hp) (hu.core ▸ hn) ?_ ?_ ?_
    · rcases hcode with h | h | ⟨h, -⟩ <;> simp [h]
    · rcases hcode with h | h | ⟨h, -⟩ <;> simp [h]
    · intro h1
      rcases hcode with h | h | ⟨-, hm⟩
      · exact absurd ((h sev).symm.trans h1) (by decide)
      · exact absurd ((h sev).symm.trans h1) (by decide)
      · exact hm

/-! ### A gone neighbour's ring (R413, R421, R429) -/

/-- Member 0 of a ring of one, its island released and its recorder anchored, hears no more of member 7: port E, whose far
end member 7 was, is stalled, that member's ring is still being captured, and port N is in state `n`. -/
def lastLink (n : PortState) : State :=
  { State.reset with
    core := { Core.reset with doms := List.replicate 10 ⟨false, 0, 0⟩ }
    cfg := { Cfg.reset with row := some Image.blank }
    brw := { Brw.reset with anchored := true, capturingE := true }
    htl := { Htl.reset with
      present := [0, 7]
      ports := [{ HPort.reset with state := .stalled, inUse := true, neighbour := some 7 }, HPort.reset,
        { HPort.reset with state := n }, HPort.reset] } }

/-- A LINK_STATE record of member 1. -/
def strangerRec : LinkRec := ⟨1, false, false, false, false, false, 0, [], [], 0, 0⟩

theorem execLinkState_of_other {s : State} (t : Time) {x : LinkRec} (hu : s.htlUp = true) (hm : x.member ≠ s.member) :
    execLinkState t x s = .next (((s.at_ t).takeInbox 0x01).keepRec x).rejudge :=
  if_neg (by
    change ¬((!s.htlUp) = true ∨ x.member = s.member)
    simp [hu, hm])

theorem execTrainingLock_of_training {s : State} (t : Time) {p : Port} (hu : s.htlUp = true)
    (hp : (s.port p).state = .training) : execTrainingLock t p s = .next ((s.at_ t).updPort p
      (fun q => { q with state := .checking, since := (s.at_ t).now, checked := false })).portChanged :=
  if_neg (by
    change ¬((!s.htlUp) = true ∨ (s.port p).state ≠ .training)
    simp [hu, hp])

/-- The gone neighbour's capture record goes to the neighbours, and port E, stalled, holds its cell. -/
theorem linkState_holds_cell :
    (((((lastLink .absent).at_ 0).takeInbox 0x01).keepRec strangerRec).rejudge.port .e).held.length = 1 := by
  decide +kernel

theorem trainingLock_holds_cell : ((((lastLink .training).at_ 0).updPort .n
    (fun q => { q with state := .checking, since := 0, checked := false })).portChanged.port .e).held.length = 1 := by
  decide +kernel

/-- Refutes O56: a LINK_STATE record of another member may change a port. In `lastLink` it is the record at which member 7 is
found gone; the capture record of that member's ring then waits in the stalled port E. -/
theorem not_headAndTests : ¬ Obligations.HeadAndTests := by
  rintro ⟨⟨hrec, -⟩, -⟩
  obtain ⟨s', hs, -, -, hports, -⟩ := (hrec (lastLink .absent) 0 strangerRec (by decide +kernel)).2 (by decide +kernel)
  have hrun := execLinkState_of_other (s := lastLink .absent) 0 (x := strangerRec) (by decide +kernel) (by decide +kernel)
  obtain rfl := Host.Outcome.next.inj (hrun.symm.trans (show execLinkState _ _ _ = _ from hs))
  have hheld := linkState_holds_cell
  rw [State.port, hports] at hheld
  exact absurd hheld (by decide +kernel)

/-- Refutes O53: a port that locks may change another. In `lastLink` port N's lock is where member 7 is found gone; the
capture record of that member's ring then waits in the stalled port E. -/
theorem not_linksComeAndGo : ¬ Obligations.LinksComeAndGo := by
  rintro ⟨⟨-, hlock, -⟩, -⟩
  obtain ⟨s', hs, -, -, hother, -⟩ := hlock (lastLink .training) 0 .n (by decide +kernel) (by decide +kernel)
  have hrun := execTrainingLock_of_training (s := lastLink .training) 0 (p := .n) (by decide +kernel) (by decide +kernel)
  obtain rfl := Host.Outcome.next.inj (hrun.symm.trans (show execTrainingLock _ _ _ = _ from hs))
  have hheld := trainingLock_holds_cell
  have hsame := congrArg (fun q : HPort => q.held.length) (hother .e (by decide))
  exact absurd (hheld.symm.trans hsame) (by decide +kernel)

/-! ### The counts of discarded cells through the links' operations (R417) -/

@[simp] theorem foldl_drops {α : Type} (f : State → α → State) (h : ∀ b a, (f b a).htl.drops = b.htl.drops) (l : List α)
    (b : State) : (l.foldl f b).htl.drops = b.htl.drops := foldl_keeps (fun s => s.htl.drops) f h l b

@[simp] theorem State.updPort_drops (s : State) (p : Port) (f : HPort → HPort) :
    (s.updPort p f).htl.drops = s.htl.drops := rfl

@[simp] theorem State.htlEvent_drops (s : State) (i : Nat) : (s.htlEvent i).htl.drops = s.htl.drops := rfl

@[simp] theorem State.emitCell_drops (s : State) (p : Port) (c : Cell) : (s.emitCell p c).htl.drops = s.htl.drops := by
  unfold State.emitCell
  extract_lets q o c'
  (repeat' split) <;> rfl

@[simp] theorem State.emitAll_drops (s : State) (l : List Cell) (flags : Nat) (r : Port × Nat) :
    (s.emitAll l flags r).htl.drops = s.htl.drops := by
  simp [State.emitAll]

@[simp] theorem State.broadcast_drops (s : State) (l : List Cell) (dst cls seq : Nat) :
    (s.broadcast l dst cls seq).htl.drops = s.htl.drops := by
  unfold State.broadcast
  extract_lets h ew ns on s2 to_
  split
  · simp
  · simp
  · split <;> simp [s2]

@[simp] theorem State.htlSend_drops (s : State) (cls service dst : Nat) (payload : List Byte) :
    (s.htlSend cls service dst payload).htl.drops = s.htl.drops := by
  unfold State.htlSend State.htlTake
  split
  · rfl
  · dsimp only
    split <;> simp

@[simp] theorem State.htlNext_drops (s : State) (service : Nat) (p : Port) (payload : List Byte) :
    (s.htlNext service p payload).htl.drops = s.htl.drops := by
  unfold State.htlNext State.htlTake
  split
  · rfl
  · split <;> simp

@[simp] theorem State.brwSend_drops (s : State) (p : Port) (payload : List Byte) :
    (s.brwSend p payload).htl.drops = s.htl.drops := by
  simp [State.brwSend]

@[simp] theorem State.stage_drops (s : State) (type sub : Nat) (payload : List Byte) (flush : Bool) :
    (s.stage type sub payload flush).htl.drops = s.htl.drops := by
  unfold State.stage State.stageRec
  split
  · rfl
  · split
    · dsimp only
      split <;> simp
    · unfold State.appendRec
      dsimp only
      split <;> simp [State.toNeighbours]

@[simp] theorem State.desync_drops (s : State) : s.desync.htl.drops = s.htl.drops := by
  unfold State.desync
  dsimp only
  split <;> rfl

@[simp] theorem State.takeParent_drops (s : State) (x : Option (Port × Nat)) :
    (s.takeParent x).htl.drops = s.htl.drops := by
  unfold State.takeParent
  dsimp only
  split <;> simp

@[simp] theorem State.chooseMaster_drops (s : State) (force : Bool) : (s.chooseMaster force).htl.drops = s.htl.drops := by
  unfold State.chooseMaster
  extract_lets -underBinder m was _ s1 l best present
  have h1 : s1.htl.drops = s.htl.drops := rfl
  clear_value s1 best present
  rw [← h1]
  split
  · split <;> rfl
  · split <;> simp

@[simp] theorem State.freezeRing_drops (s : State) (p : Port) : (s.freezeRing p).htl.drops = s.htl.drops := by
  unfold State.freezeRing
  extract_lets at_ held s1
  split
  · rfl
  · split
    · simp [State.captureRecord]
    · have h1 : s1.htl.drops = s.htl.drops := by
        simp only [s1, State.setFrozen]
        split <;> rfl
      rw [← h1]
      split <;> rfl

@[simp] theorem State.rejudge_drops (s : State) : s.rejudge.htl.drops = s.htl.drops := by
  unfold State.rejudge
  extract_lets now gone _ s1 s2
  have h2 : s2.htl.drops = s1.htl.drops := foldl_drops _ (fun s p => by
    split
    · split <;> simp
    · rfl) _ s1
  simpa using h2

@[simp] theorem State.portChanged_drops (s : State) : s.portChanged.htl.drops = s.htl.drops := by
  unfold State.portChanged State.publishLink
  split
  · simp
  · simp [State.keepRec]

@[simp] theorem State.abandonTests_drops (s : State) (p : Port) : (s.abandonTests p).htl.drops = s.htl.drops := by
  refine foldl_drops _ (fun s q => ?_) _ s
  unfold State.abandonTest
  split
  · rfl
  · simp [State.testRecord]

/-- A port that goes DOWN changes no count of cells but that of the links. -/
@[simp] theorem State.enterDown_tagDrops (s : State) (p : Port) (detail : Nat) :
    (s.enterDown p detail).htl.drops.tag = s.htl.drops.tag := by
  unfold State.enterDown
  extract_lets q s1 s2 _ s3 s4
  have h4 : s4.htl.drops = s3.htl.drops := by simp [s4, State.htlEvent]
  have h3 : s3.htl.drops.tag = s.htl.drops.tag := rfl
  simp [h4, h3]

/-! ### Cells that arrive (R410, R416 to R419, R424, R425, R435) -/

/-- A DATA cell that is taken on a port in UP, by what its tag shows. -/
theorem execCellArrival_of_up {s : State} (t : Time) {p : Port} {c : Cell} (tag : TagRes) (hu : s.htlUp = true)
    (hs : (s.port p).state = .up) (hlo : 1 ≤ c.cls) (hhi : c.cls ≤ 5) : execCellArrival t p c tag s =
      match tag with
      | .inverted => .next (s.at_ t)
      | .bad => .next ((((s.at_ t).drop (fun d => { d with tag := d.tag + 1 })).updPort p
          (fun q => { q with tagErrs := max s.now t :: q.tagErrs })).errorCheck p)
      | .ok =>
        if (s.at_ t).staleCell c then .next ((s.at_ t).drop (fun d => { d with stale := d.stale + 1 })) else
        .next ((if s.addressed c then (s.at_ t).localCell c else s.at_ t).forward p c) := by
  have hno : ¬((!s.htlUp) = true ∨ (s.port p).state ≠ .up ∨ c.cls = 0 ∨ 5 < c.cls) := by
    rintro (h | h | h | h)
    · simp [hu] at h
    · exact h hs
    · omega
    · omega
  exact if_neg hno

theorem execCellArrival_inverted (t : Time) (p : Port) (c : Cell) (s : State) :
    execCellArrival t p c .inverted s = .next (s.at_ t) := ite_self _

/-- A port's errors without those older than 1 ms. -/
def State.ageErrors (s : State) (p : Port) : State :=
  s.updPort p (fun q => { q with tagErrs := q.tagErrs.filter (fun t => decide (s.now < t + ms))
                                 uncErrs := q.uncErrs.filter (fun e => decide (s.now < e.1 + ms)) })

/-- Where a port's errors are all failed tags of the last 1 ms, none is aged and the seventeenth puts it DOWN (R418). -/
theorem errorCheck_of_tags {s : State} {p : Port} {q : HPort} (hq : s.port p = q) (hs : q.state = .up)
    (hun : q.uncErrs = []) (hrec : ∀ e ∈ q.tagErrs, s.now < e + ms) : (s.ageErrors p).port p = q ∧
      s.errorCheck p = if 16 < q.tagErrs.length then (s.ageErrors p).enterDown p 2 else s.ageErrors p := by
  have hport : (s.ageErrors p).port p = q := by
    rw [State.ageErrors, updPort_self s p _ (lt_ports_length_of_up (hq ▸ hs)), hq,
      List.filter_eq_self.mpr (fun e he => decide_eq_true (hrec e he)), hun, List.filter_nil, ← hun]
  have hcheck : s.errorCheck p =
      if ((s.ageErrors p).port p).state = .up ∧ (16 < ((s.ageErrors p).port p).tagErrs.length ∨
        16 < sumNat (((s.ageErrors p).port p).uncErrs.map Prod.snd)) then (s.ageErrors p).enterDown p 2
      else s.ageErrors p := rfl
  refine ⟨hport, ?_⟩
  rw [hcheck, hport, hun]
  simp [hs, sumNat]

/-- A cell whose tag fails is counted, and stands among its port's errors (R417, R418). -/
theorem badCell_shows {s : State} {p : Port} (t : Time) (hs : (s.port p).state = .up) (hun : (s.port p).uncErrs = [])
    (hrec : ∀ e ∈ (s.port p).tagErrs, max s.now t < e + 1000000) {u : State}
    (hu : u = (((s.at_ t).drop (fun d => { d with tag := d.tag + 1 })).updPort p
      (fun q => { q with tagErrs := max s.now t :: q.tagErrs })).errorCheck p) :
    u.htl.drops.tag = s.htl.drops.tag + 1 ∧ offLinks s u ∧
      ((s.port p).tagErrs.length < 16 → (u.port p).state = .up ∧ (u.port p).tagErrs = max s.now t :: (s.port p).tagErrs ∧
        otherPorts s u p) ∧
      (16 ≤ (s.port p).tagErrs.length → (u.port p).state = .down ∧ u.htl.event.getLsbD 1 = true) := by
  have hp : p.num < s.htl.ports.length := lt_ports_length_of_up hs
  generalize hs0 : (s.at_ t).drop (fun d => { d with tag := d.tag + 1 }) = s0 at hu
  generalize hs1 : s0.updPort p (fun q => { q with tagErrs := max s.now t :: q.tagErrs }) = s1 at hu
  have h0 : offLinks s s0 := by rw [← hs0]; exact offLinks_refl s
  have hport0 (q : Port) : s0.port q = s.port q := by rw [← hs0]; rfl
  have h1 : offLinks s0 s1 := by rw [← hs1]; exact updPort_offLinks s0 p _
  have hport1 : s1.port p = { s.port p with tagErrs := max s.now t :: (s.port p).tagErrs } := by
    rw [← hs1, updPort_self s0 p _ (by rw [← hs0]; exact hp), hport0]
  have htag : s1.htl.drops.tag = s.htl.drops.tag + 1 := by rw [← hs1, ← hs0]; rfl
  have hnow : s1.now = max s.now t := by rw [← hs1, ← hs0]; rfl
  have hother (q : Port) (hq : q ≠ p) : s1.port q = s.port q := by rw [← hs1, updPort_other s0 p q _ hq, hport0]
  obtain ⟨hport, hcheck⟩ := errorCheck_of_tags hport1 hs hun (by
    rw [hnow, ms]
    rintro e (_ | ⟨_, he⟩)
    · exact Nat.lt_add_of_pos_right (by decide)
    · exact hrec e he)
  have h2 : offLinks s1 (s1.ageErrors p) := updPort_offLinks s1 p _
  have h02 : offLinks s (s1.ageErrors p) := offLinks_trans (offLinks_trans h0 h1) h2
  have hlen : p.num < (s1.ageErrors p).htl.ports.length := lt_ports_length_of_up (by rw [hport]; exact hs)
  obtain ⟨hstand, hev, hdown⟩ := enterDown_shows (s1.ageErrors p) p 2
  rw [hcheck] at hu
  by_cases hn : 16 ≤ (s.port p).tagErrs.length
  · rw [if_pos (by simp; omega)] at hu
    subst hu
    exact ⟨by rw [State.enterDown_tagDrops]; exact htag, offLinks_trans h02 hstand.off, fun h => absurd hn (by omega),
      fun _ => ⟨hdown hlen, hev⟩⟩
  · rw [if_neg (by simp; omega)] at hu
    subst hu
    refine ⟨htag, h02, fun _ => ⟨by rw [hport]; exact hs, by rw [hport], fun q hq => ?_⟩, fun h => absurd h hn⟩
    rw [State.ageErrors, updPort_other s1 p q _ hq, hother q hq]

/-- Cells that do not depend on what has been sent, and go by ports that are all in use, leave in order. -/
theorem foldl_emitCell {s : State} {α : Type} (o : α → Port) (f : State → α → Cell) (c : α → Cell)
    (hf : ∀ out a, f { s with htl := { s.htl with out := out } } a = c a) (l : List α)
    (h : ∀ a ∈ l, (s.port (o a)).state = .up ∧ (s.port (o a)).inUse = true) (out : List (Port × Cell)) :
    l.foldl (fun s a => s.emitCell (o a) (f s a)) { s with htl := { s.htl with out := out } } =
      { s with htl := { s.htl with out := out ++ l.map (fun a => (o a, c a)) } } := by
  induction l generalizing out with
  | nil => simp
  | cons a l ih =>
    have hemit : ({ s with htl := { s.htl with out := out } } : State).emitCell (o a) (c a) =
        { s with htl := { s.htl with out := out ++ [(o a, c a)] } } := if_pos (h a (by simp))
    rw [List.foldl_cons, hf, hemit, ih (fun b hb => h b (by simp [hb]))]
    simp

/-- The links of the domain as `u` sees them are as `s` sees them. -/
structure SameNet (s u : State) : Prop where
  link : ∀ strict m p, u.linkOk strict m p = s.linkOk strict m p
  shape : u.shape = s.shape
  member : u.member = s.member

namespace SameNet
variable {s u : State}

theorem pathOpen (h : SameNet s u) (p : Port) (k m : Nat) : u.pathOpen p k m = s.pathOpen p k m := by
  induction k generalizing m with
  | zero => rfl
  | succ k ih =>
    simp only [State.pathOpen, h.link, h.shape]
    cases s.shape.wire m p with
    | none => rfl
    | some a => simp only [ih]

theorem openRun (h : SameNet s u) (p : Port) (k m : Nat) : u.openRun p k m = s.openRun p k m := by
  induction k generalizing m with
  | zero => rfl
  | succ k ih =>
    simp only [State.openRun, h.link, h.shape]
    cases s.shape.wire m p with
    | none => rfl
    | some a => simp only [ih]

theorem columns (h : SameNet s u) (p : Port) (c : Cell) : u.columns p c = s.columns p c := by
  simp only [State.columns, State.ringCopies, h.pathOpen, h.openRun, h.shape, h.member]

theorem ringRoute (h : SameNet s u) (plus minus : Port) (dst : Nat) :
    u.ringRoute plus minus dst = s.ringRoute plus minus dst := by
  simp only [State.ringRoute, h.pathOpen, h.shape, h.member]

theorem routes (h : SameNet s u) (cls seq dst : Nat) : u.routes cls seq dst = s.routes cls seq dst := by
  have hlegs : u.torusLegs dst = s.torusLegs dst := by rw [State.torusLegs, State.torusLegs, h.shape, h.member]
  have htorus : u.torusRoute dst = s.torusRoute dst := by
    unfold State.torusRoute
    rw [hlegs, h.shape, h.member]
    simp only [h.pathOpen]
  simp only [State.routes, h.ringRoute, htorus, h.shape]

theorem forwards (h : SameNet s u) (p : Port) (c : Cell) : u.forwards p c = s.forwards p c := by
  simp only [State.forwards, h.routes, h.ringRoute, h.shape, h.member]

end SameNet

section Ok
variable {s : State} {p : Port} {c : Cell}

variable {u : State}

theorem forward_of_last (hu : SameNet s u) (h : c.hops = 0) (hc : s.columns p c = []) : u.forward p c = u := by
  unfold State.forward
  rw [if_pos h]
  dsimp only
  rw [hu.columns, hc, List.foldl_nil]

/-- A state in which a cell has left by every port by which it goes on: HOPS less 1, and on the channel of R410. -/
def State.passedOn (u s : State) (p : Port) (c : Cell) : State :=
  { u with htl := { u.htl with out := u.htl.out ++ (s.forwards p c).map (fun o =>
    (o.1, putFlag { c with hops := c.hops - 1 } flagVc
      (o.1 == oppositePort p && (hasFlag c flagVc || s.shape.dateline s.member p)))) } }

/-- A cell whose onward ports are all in use leaves by each of them with HOPS less 1 (R424, R425). -/
theorem forward_of_used (hu : SameNet s u) (h : 0 < c.hops) (hc : s.columns p c = [])
    (hon : ∀ o ∈ s.forwards p c, (u.port o.1).state = .up ∧ (u.port o.1).inUse = true) :
    u.forward p c = u.passedOn s p c := by
  have hsent : (s.forwards p c).foldl (fun v o => v.emitCell o.1 (putFlag { c with hops := c.hops - 1 } flagVc
      (v.vcAfter p o.1 c))) u = u.passedOn s p c :=
    foldl_emitCell (s := u) (fun o : Port × Bool => o.1) _ _
      (fun out o => by rw [← hu.shape, ← hu.member]; rfl) (s.forwards p c) hon u.htl.out
  have hnet : SameNet s (u.passedOn s p c) := ⟨hu.link, hu.shape, hu.member⟩
  unfold State.forward
  rw [if_neg (Nat.ne_of_gt h), hu.forwards]
  dsimp only
  rw [hsent, hnet.columns, hc, List.foldl_nil]

theorem localCell_of_bringup (h : s.core.bringup = true) : s.localCell c =
    if s.htl.queue.length < 256 then { s with htl := { s.htl with queue := s.htl.queue ++ [c] } }
    else s.drop (fun d => { d with local_ := d.local_ + 1 }) := if_neg (by simp [h])

theorem localCell_of_not_bringup (h : s.core.bringup = false) : s.localCell c = s.takeCell c := if_pos (by simp [h])

/-- A cell of a message seen is dropped (R416). -/
theorem takeCell_of_seen (h : ∃ k ∈ s.htl.seen, k.1 = c.src ∧ k.2.1 = c.cls ∧ k.2.2.1 = c.seq) : s.takeCell c = s :=
  if_pos (by simpa [and_assoc] using h)

/-- The only cell of a message not seen is delivered at once (R416, R417). -/
theorem takeCell_of_whole (hp : s.htl.parts = []) (hs : ∀ k ∈ s.htl.seen, k.1 ≠ c.src) (h0 : c.cell = 0)
    (hl : hasFlag c flagLast = true) : s.takeCell c =
      ({ s with htl := { s.htl with seen := (c.src, c.cls, c.seq, c.sf) :: s.htl.seen } }).deliverMsg
        ⟨c.src, c.cls, c.service, c.sf, c.segment, c.payload⟩ := by
  have hnew : s.htl.seen.any (fun k => k.1 == c.src && k.2.1 == c.cls && k.2.2.1 == c.seq) = false := by
    simpa [List.any_eq_false] using fun k x y z hk e => absurd e (hs _ hk)
  unfold State.takeCell
  simp [hnew, hp, h0, hl]

theorem deliverMsg_of_record {m : Delivered} (hc : m.cls = 1) (hs : m.service = 1) (ht : ofBe (m.payload.take 1) = 0x02) :
    s.deliverMsg m = { s with htl := { s.htl with inbox := s.htl.inbox ++ [m] } } := by
  obtain ⟨src, cls, service, sf, segment, payload⟩ := m
  dsimp only at hc hs ht
  subst hc hs
  unfold State.deliverMsg
  exact if_neg (by simp [serviceOk, ht])

end Ok

/-- Settles O55: by what the cell's tag shows, and for a good cell by its age and its address. -/
theorem cellsForwarded : Obligations.CellsForwarded := by
  refine ⟨fun s t p c => execCellArrival_inverted t p c s, fun s t p c hu hs hlo hhi hun hrec => ?bad,
    fun s t p c hu hs hlo hhi => ⟨fun hst => ?stale, fun hst hcol => ⟨fun ha h0 => ?last, fun ha hh hon => ?onward,
      fun ha h0 hb hq => ?queued, fun ha h0 hb hq => ?full, fun ha h0 hb hc hsv hi hl hty hp hse => ?whole,
      fun ha h0 hb hse => ?seen⟩⟩⟩
  case bad => exact ⟨_, execCellArrival_of_up t .bad hu hs hlo hhi, badCell_shows t hs hun hrec rfl⟩
  case stale => exact (execCellArrival_of_up t .ok hu hs hlo hhi).trans (if_pos hst)
  all_goals refine (execCellArrival_of_up t .ok hu hs hlo hhi).trans ((if_neg (by simp [hst])).trans ?_)
  case last =>
    rw [ha, if_neg (by decide)]
    exact congrArg Host.Outcome.next (forward_of_last (s := s) ⟨fun _ _ _ => rfl, rfl, rfl⟩ h0 hcol)
  case onward =>
    rw [ha, if_neg (by decide)]
    exact congrArg Host.Outcome.next (forward_of_used (s := s) ⟨fun _ _ _ => rfl, rfl, rfl⟩ hh hcol hon)
  all_goals rw [ha, if_pos rfl]
  case queued =>
    rw [localCell_of_bringup (s := s.at_ t) hb, if_pos (show (s.at_ t).htl.queue.length < 256 from hq)]
    exact congrArg Host.Outcome.next (forward_of_last (s := s) ⟨fun _ _ _ => rfl, rfl, rfl⟩ h0 hcol)
  case full =>
    rw [localCell_of_bringup (s := s.at_ t) hb,
      if_neg (show ¬(s.at_ t).htl.queue.length < 256 from Nat.not_lt.mpr hq)]
    exact congrArg Host.Outcome.next (forward_of_last (s := s) ⟨fun _ _ _ => rfl, rfl, rfl⟩ h0 hcol)
  case whole =>
    rw [localCell_of_not_bringup (s := s.at_ t) hb, takeCell_of_whole (s := s.at_ t) hp hse hi hl,
      deliverMsg_of_record hc hsv hty]
    exact congrArg Host.Outcome.next (forward_of_last (s := s) ⟨fun _ _ _ => rfl, rfl, rfl⟩ h0 hcol)
  case seen =>
    rw [localCell_of_not_bringup (s := s.at_ t) hb, takeCell_of_seen (s := s.at_ t) hse]
    exact congrArg Host.Outcome.next (forward_of_last (s := s) ⟨fun _ _ _ => rfl, rfl, rfl⟩ h0 hcol)

/-! ### Groups and partners of concord (R376, R380 to R385) -/

theorem group_congr {s u : State} (h : u.ccd.groups = s.ccd.groups) (tag : Nat) : u.group tag = s.group tag := by
  rw [State.group, State.group, h]

theorem updGroup_group {s : State} {tag : Nat} {g : CGroup} {f : CGroup → CGroup} (hf : ∀ g, (f g).tag = g.tag)
    (h : s.group tag = some g) : (s.updGroup tag f).group tag = some (f g) := by
  have hp : ((fun g : CGroup => g.tag == tag) ∘ fun g => if g.tag = tag then f g else g) = fun g => g.tag == tag := by
    funext g
    by_cases hg : g.tag = tag <;> simp [hg, hf]
  have hg : g.tag = tag := by simpa using List.find?_some h
  rw [State.group, State.updGroup, List.find?_map, hp, show s.ccd.groups.find? (fun g => g.tag == tag) = some g from h]
  simp [hg]

@[simp] theorem updCpart_groups (s : State) (id : Nat) (f : CPart → CPart) :
    (s.updCpart id f).ccd.groups = s.ccd.groups := rfl

theorem ccdEvent_group (s : State) (i tag : Nat) : (s.ccdEvent i).group tag = s.group tag := rfl

theorem ccdEvent_event (s : State) (i : Nat) : (s.ccdEvent i).ccd.event = setBit s.ccd.event i := rfl

/-- A deferral is counted in the group, and in its members; its round and its actions stand (R385, R386). -/
theorem countDeferral_group {s : State} {tag : Nat} {g : CGroup} (h : s.group tag = some g) :
    (s.countDeferral tag).group tag = some { g with defers := g.defers + 1 } := by
  have h1 := updGroup_group (f := fun g => { g with defers := g.defers + 1 }) (fun _ => rfl) h
  refine (group_congr ?_ tag).trans h1
  refine foldl_keeps (p := fun s : State => s.ccd.groups) _ (fun s p => ?_) _ _
  split
  · rfl
  · dsimp only
    split <;> rfl

/-- The members of `l` asked anew: none of them has acknowledged the present offer. -/
def State.askAnew (s : State) (l : List CPart) : State :=
  l.foldl (fun s p => s.updCpart p.id (fun p => { p with acked := false })) s

theorem askAnew_stands (l : List CPart) (s : State) :
    (s.askAnew l).ccd.groups = s.ccd.groups ∧ (s.askAnew l).frz = s.frz := by
  unfold State.askAnew
  constructor
  · refine foldl_keeps (fun s : State => s.ccd.groups) _ (fun _ _ => ?_) l s
    rfl
  · refine foldl_keeps State.frz _ (fun _ _ => ?_) l s
    rfl

/-- After partners have been asked anew, a partner has not acknowledged, or it is an earlier one not asked. -/
theorem mem_askAnew (l : List CPart) (s : State) {p : CPart} (hp : p ∈ (s.askAnew l).ccd.parts) :
    p.acked = false ∨ (p ∈ s.ccd.parts ∧ ∀ q ∈ l, q.id ≠ p.id) := by
  induction l generalizing s with
  | nil => exact .inr ⟨hp, fun q hq => by simp at hq⟩
  | cons a l ih =>
    rcases ih _ hp with h | ⟨hmem, hl⟩
    · exact .inl h
    · rcases List.mem_cons.mp hmem with rfl | hmem
      · exact .inl rfl
      · obtain ⟨hmem, hid⟩ := List.mem_filter.mp hmem
        refine .inr ⟨hmem, fun q hq => ?_⟩
        rcases List.mem_cons.mp hq with rfl | hq
        · exact fun e => by simp [e] at hid
        · exact hl q hq

/-- Where the members of a group are asked anew, none of its members has acknowledged (R382). -/
theorem members_askAnew (s : State) (tag : Nat) {p : CPart} (hp : p ∈ (s.askAnew (s.members tag)).members tag) :
    p.acked = false := by
  obtain ⟨hmem, hjob⟩ := List.mem_filter.mp hp
  rcases mem_askAnew _ s hmem with h | ⟨hold, hl⟩
  · exact h
  · have hfrz := (askAnew_stands (s.members tag) s).2
    refine absurd rfl (hl p (List.mem_filter.mpr ⟨hold, ?_⟩))
    rwa [State.part, hfrz] at hjob

/-- Everything stands but concord, the links and Furze. -/
structure ConcordOnly (s s' : State) : Prop where
  stage : sameStage s s'
  sward : sameSward s s'
  aon : sameAon s s'
  log : sameLog s s'
  mgmt : sameMgmt s s'
  store : sameStore s s'

namespace ConcordOnly
variable {s s' s'' : State}

theorem trans (h : ConcordOnly s s') (h' : ConcordOnly s' s'') : ConcordOnly s s'' := by
  obtain ⟨h1, h2, h3, h4, h5, h6⟩ := h
  obtain ⟨k1, k2, k3, k4, k5, k6⟩ := h'
  simp only [sameStage, sameSward, sameAon, sameLog, sameMgmt, sameStore] at h1 h2 h3 h4 h5 h6 k1 k2 k3 k4 k5 k6
  constructor <;> simp only [sameStage, sameSward, sameAon, sameLog, sameMgmt, sameStore, *, and_self]

theorem ccd (s : State) (c : Ccd) : ConcordOnly s { s with ccd := c } := by
  constructor <;> simp [sameStage, sameSward, sameAon, sameLog, sameMgmt, sameStore]

theorem frz (s : State) (f : Frz) : ConcordOnly s { s with frz := f } := by
  constructor <;> simp [sameStage, sameSward, sameAon, sameLog, sameMgmt, sameStore]

theorem refl (s : State) : ConcordOnly s s := .ccd s s.ccd

theorem ite {c : Prop} [Decidable c] {a b : State} (ha : ConcordOnly s a) (hb : ConcordOnly s b) :
    ConcordOnly s (if c then a else b) := by
  split
  · exact ha
  · exact hb

theorem foldl {α : Type} {f : State → α → State} (hf : ∀ s a, ConcordOnly s (f s a)) (l : List α) (s : State) :
    ConcordOnly s (l.foldl f s) := by
  induction l generalizing s with
  | nil => exact .refl s
  | cons a l ih => exact (hf s a).trans (ih (f s a))

end ConcordOnly

theorem countDeferral_only (s : State) (tag : Nat) : ConcordOnly s (s.countDeferral tag) := by
  refine .trans (.ccd s _) (.foldl (fun s p => .ite (.ccd s _) ?_) _ _)
  exact .ite (.trans (.ccd s _) (.ccd _ _)) (.ccd s _)

theorem askAnew_only (l : List CPart) (s : State) : ConcordOnly s (s.askAnew l) := .foldl (fun s _ => .ccd s _) l s

theorem push_only (s : State) (l : List DownItem) : ConcordOnly s (s.push l) := by
  rw [push_eq]
  exact .frz s _

/-- The action of a DECISION record. -/
def decided (d : DecRec) : Action := ⟨d.action, d.step, d.floor, d.reason, d.op == 3⟩

/-- An offer becomes the round, and its members are asked anew (R382). -/
theorem takeDecision_offer {s : State} {d : DecRec} {g : CGroup} (hg : s.group d.tag = some g) (h : d.op = 1) :
    (∃ g', (s.takeDecision d).group d.tag = some g' ∧ g'.round = some ⟨decided d, d.tref, d.sf, d.start, s.htlSf⟩ ∧
      g'.act = g.act ∧ g'.commits = g.commits) ∧
    (∀ p ∈ (s.takeDecision d).members d.tag, p.acked = false) ∧ ConcordOnly s (s.takeDecision d) := by
  obtain ⟨member, op, reason, tag, step, floor, action, tref, sf, start⟩ := d
  generalize hr : s.takeDecision _ = u
  rw [State.takeDecision, hg] at hr
  dsimp only at h hg
  subst h
  dsimp -zeta only at hr
  extract_lets +lift a n s0 same late s1 r s2 s3 s4 at hr
  change s3.sendOffer tag r = u at hr
  have h0 : s0.group tag = some { g with lastNum := laterNum g.lastNum action } := updGroup_group (fun _ => rfl) hg
  have h1 : ∃ g1, s1.group tag = some g1 ∧ g1.act = g.act ∧ g1.commits = g.commits := by
    simp only [s1]
    split
    · exact ⟨_, countDeferral_group h0, rfl, rfl⟩
    split
    · exact ⟨_, h0, rfl, rfl⟩
    · exact ⟨_, updGroup_group (fun _ => rfl) h0, rfl, rfl⟩
  obtain ⟨g1, h1, hact, hcommits⟩ := h1
  have h2 : s2.group tag = some { g1 with round := some r } := updGroup_group (fun _ => rfl) h1
  have h3 : s3 = s2.askAnew (s2.members tag) := rfl
  have hu : u.ccd = s3.ccd := by simp [← hr]
  have hm : u.members tag = s3.members tag := by
    rw [State.members, hu]
    simp only [← hr, State.sendOffer, part_push]
    rfl
  have hg3 : s3.ccd.groups = s2.ccd.groups := (askAnew_stands _ s2).1
  have hoff1 : ConcordOnly s0 s1 := .ite (countDeferral_only s0 tag) (.ite (.refl s0) (.ccd s0 _))
  have hoff3 : ConcordOnly s2 s3 := askAnew_only _ s2
  refine ⟨⟨_, (group_congr ((congrArg Ccd.groups hu).trans hg3) tag).trans h2, rfl, hact, hcommits⟩, ?_, ?_⟩
  · intro p hp
    rw [hm, h3] at hp
    exact members_askAnew s2 tag hp
  · rw [← hr]
    exact ((((ConcordOnly.ccd s _).trans hoff1).trans (.ccd s1 _)).trans hoff3).trans (push_only s3 _)

/-- A commitment ends the round and waits for its START (R384). -/
theorem takeDecision_commit {s : State} {d : DecRec} {g : CGroup} (hg : s.group d.tag = some g) (h : d.op = 2) :
    (∃ g', (s.takeDecision d).group d.tag = some g' ∧ g'.round = none ∧ g'.act = g.act ∧
      g'.commits = g.commits ++ [⟨decided d, d.tref, d.sf, d.start, s.htlSf⟩]) ∧
    (s.takeDecision d).ccd.event.getLsbD 0 = true ∧ (s.takeDecision d).frz = s.frz ∧
    ConcordOnly s (s.takeDecision d) := by
  obtain ⟨member, op, reason, tag, step, floor, action, tref, sf, start⟩ := d
  generalize hr : s.takeDecision _ = u
  rw [State.takeDecision, hg] at hr
  dsimp only at h hg
  subst h
  dsimp -zeta only at hr
  extract_lets +lift a n s0 same late s1 r s2 s3 s4 at hr
  change s4.ccdEvent 0 = u at hr
  have h4 : s4.group tag = _ := updGroup_group (fun _ => rfl) (updGroup_group (s := s) (fun _ => rfl) hg)
  have hoff : ConcordOnly s s4 ∧ s4.frz = s.frz := ⟨.ccd s _, rfl⟩
  clear_value s4
  rw [← hr, ccdEvent_group, ccdEvent_event]
  exact ⟨⟨_, h4, rfl, rfl, rfl⟩, getLsbD_setBit_self _ (by decide), hoff.2, hoff.1.trans (.ccd s4 _)⟩

/-- A group in which an emergency has replaced the round and the commitments. -/
def replacedBy (x : Action × Nat) (g : CGroup) : CGroup := { g with round := none, commits := [], urgent := some x }

theorem replacedBy_stands (x : Action × Nat) (g : CGroup) : (replacedBy x g).round = none ∧ (replacedBy x g).commits = [] ∧
    (replacedBy x g).urgent = some x ∧ (replacedBy x g).act = g.act := ⟨rfl, rfl, rfl, rfl⟩

/-- An emergency replaces the round and the commitments (R384). -/
theorem takeDecision_urgent {s : State} {d : DecRec} {g : CGroup} (hg : s.group d.tag = some g) (h : d.op = 3) :
    (∃ g', (s.takeDecision d).group d.tag = some g' ∧ g'.round = none ∧ g'.commits = [] ∧
      g'.urgent = some (decided d, s.htlSf) ∧ g'.act = g.act) ∧
    (s.takeDecision d).ccd.event.getLsbD 1 = true ∧ (s.takeDecision d).frz = s.frz ∧
    ConcordOnly s (s.takeDecision d) := by
  obtain ⟨member, op, reason, tag, step, floor, action, tref, sf, start⟩ := d
  generalize hr : s.takeDecision _ = u
  rw [State.takeDecision, hg] at hr
  dsimp only at h hg
  subst h
  dsimp -zeta only at hr
  extract_lets +lift a n s0 same late s1 r s2 s3 s4 at hr
  change (s0.updGroup tag (replacedBy (a, n))).ccdEvent 1 = u at hr
  have h4 : (s0.updGroup tag (replacedBy (a, n))).group tag = _ :=
    updGroup_group (fun _ => rfl) (updGroup_group (s := s) (fun _ => rfl) hg)
  have hoff : ConcordOnly s (s0.updGroup tag (replacedBy (a, n))) := .ccd s _
  have hfrz : (s0.updGroup tag (replacedBy (a, n))).frz = s.frz := rfl
  generalize s0.updGroup tag (replacedBy (a, n)) = s5 at hr h4 hoff hfrz
  rw [← hr, ccdEvent_group, ccdEvent_event]
  exact ⟨⟨_, h4, replacedBy_stands _ _⟩, getLsbD_setBit_self _ (by decide), hfrz, hoff.trans (.ccd s5 _)⟩

theorem State.takeInbox_eq (s : State) (type : Nat) :
    ∃ i, s.takeInbox type = { s with htl := { s.htl with inbox := i } } := by
  unfold State.takeInbox
  split
  · exact ⟨s.htl.inbox, rfl⟩
  · exact ⟨_, rfl⟩

theorem ConcordOnly.takeInbox (s : State) (t : Time) (type : Nat) : ConcordOnly s ((s.at_ t).takeInbox type) := by
  constructor <;> simp [sameStage, sameSward, sameAon, sameLog, sameMgmt, sameStore]

/-- A DECISION record is taken by a state that differs in the inbox alone. -/
theorem execDecision_of_out (t : Time) (d : DecRec) {s : State} (h : s.inRst .htlFrz = false) :
    ∃ u : State, execDecision t d s = .next (u.takeDecision d) ∧ u = (s.at_ t).takeInbox 0x12 ∧ u.ccd = s.ccd ∧
      u.frz = s.frz ∧ u.htlSf = (s.at_ t).htlSf ∧ ConcordOnly s u := by
  obtain ⟨i, hi⟩ := (s.at_ t).takeInbox_eq 0x12
  exact ⟨_, if_neg (by rw [at_inRst, h]; decide), rfl, by rw [hi]; rfl, by rw [hi]; rfl, by rw [hi]; rfl, .takeInbox s t _⟩

theorem execMatchRelease_of_matched {s : State} {id k : Nat} {t0 : Time} (t : Time) (hr : s.inRst .fabric = false)
    (hm : (s.cpart id).matched = some (k, some t0)) : execMatchRelease t id s =
      if t0 + s.rfldN .concordMatchHold * 1000000000 ≤ max s.now t
      then .next ((s.at_ t).updCpart id (fun p => { p with matched := none })) else .next (s.at_ t) := by
  unfold execMatchRelease
  dsimp only
  rw [if_neg (by rw [at_inRst, hr]; decide), show ((s.at_ t).cpart id).matched = _ from hm]
  dsimp only
  rw [at_elapsed, at_rfldN, sec]
  split <;> simp_all

/-! ### Requests combined, and rounds that ripen (R376, R388) -/

theorem le_foldl_max (l : List Nat) (b : Nat) : b ≤ l.foldl max b ∧ ∀ a ∈ l, a ≤ l.foldl max b := by
  induction l generalizing b with
  | nil => exact ⟨le_rfl, fun a ha => by simp at ha⟩
  | cons x l ih =>
    obtain ⟨hb, hl⟩ := ih (max b x)
    refine ⟨(le_max_left b x).trans hb, fun a ha => ?_⟩
    rcases List.mem_cons.mp ha with rfl | ha
    · exact (le_max_right b a).trans hb
    · exact hl a ha

theorem foldl_max_mem (l : List Nat) (b : Nat) : l.foldl max b = b ∨ l.foldl max b ∈ l := by
  induction l generalizing b with
  | nil => exact .inl rfl
  | cons x l ih =>
    rcases ih (max b x) with h | h
    · rcases max_choice b x with hm | hm
      · exact .inl (h.trans hm)
      · exact .inr (by rw [List.foldl_cons, h, hm]; exact List.mem_cons_self)
    · exact .inr (List.mem_cons_of_mem x h)

theorem ripen_of_nothing {s : State} {tag : Nat} {g : CGroup} (hg : s.group tag = some g) (hu : g.urgent = none)
    (hr : g.round = none) (hc : ∀ r ∈ g.commits, s.ringTime < r.start) :
    ∃ g', (s.ripen tag).group tag = some g' ∧ g'.act = g.act ∧ g'.commits = g.commits := by
  have hripe : g.commits.filter (fun r => decide (r.start ≤ s.ringTime)) = [] :=
    List.filter_eq_nil_iff.mpr fun r hr => by simpa using hc r hr
  have hkept : g.commits.filter (fun r => decide (s.ringTime < r.start)) = g.commits :=
    List.filter_eq_self.mpr fun r hr => by simpa using hc r hr
  unfold State.ripen
  rw [hg]
  dsimp only
  rw [hu, hr]
  dsimp only
  rw [hripe, List.foldl_nil]
  exact ⟨_, updGroup_group (fun _ => rfl) hg, rfl, hkept⟩

/-- Settles O52: a record by what its operation makes of the group, a release by its filter, a combination by its maxima. -/
theorem concordDecides : Obligations.ConcordDecides := by
  refine ⟨⟨fun s t x hr he => ?request, fun s t d hr hg => ?elsewhere, fun s t d g hr hg => ⟨fun h => ?offer,
      fun h => ?commit, fun h => ?urgent⟩, fun s t hr => ?governor, fun s t id k t0 hr hm => ⟨fun he => ?released,
      fun he => ?held⟩⟩,
    fun l => ?combined, fun s tag g => ripen_of_nothing⟩
  case request =>
    obtain ⟨i, hi⟩ := (s.at_ t).takeInbox_eq 0x11
    have hrun : execRequest t x s = .next (((s.at_ t).takeInbox 0x11).keepReq x (s.at_ t).htlSf) :=
      (if_neg (by rw [at_inRst, hr]; decide)).trans (congrArg Host.Outcome.next (if_neg (by rw [he]; decide)))
    refine hrun.trans ?_
    rw [hi]
    rfl
  case elsewhere =>
    obtain ⟨u, hrun, hu, hccd, -, -, -⟩ := execDecision_of_out t d hr
    have hgu : u.group d.tag = none := (group_congr (congrArg Ccd.groups hccd) d.tag).trans hg
    rw [← hu]
    refine hrun.trans ?_
    rw [State.takeDecision, hgu]
  case offer =>
    obtain ⟨u, hrun, -, hccd, -, hsf, hoff⟩ := execDecision_of_out t d hr
    have hgu : u.group d.tag = some g := (group_congr (congrArg Ccd.groups hccd) d.tag).trans hg
    obtain ⟨⟨g', hg', hround, hact, hcommits⟩, hask, honly⟩ := takeDecision_offer hgu h
    obtain ⟨h1, h2, h3, h4, h5, h6⟩ := hoff.trans honly
    exact ⟨_, g', hrun, hg', hsf ▸ hround, hact, hcommits, hask, h1, h2, h3, h4, h5, h6⟩
  case commit =>
    obtain ⟨u, hrun, -, hccd, hfrz, hsf, hoff⟩ := execDecision_of_out t d hr
    have hgu : u.group d.tag = some g := (group_congr (congrArg Ccd.groups hccd) d.tag).trans hg
    obtain ⟨⟨g', hg', hround, hact, hcommits⟩, hev, hf, honly⟩ := takeDecision_commit hgu h
    obtain ⟨h1, h2, h3, h4, h5, h6⟩ := hoff.trans honly
    exact ⟨_, g', hrun, hg', hround, hact, hsf ▸ hcommits, hev, hf.trans hfrz, h1, h2, h3, h4, h5, h6⟩
  case urgent =>
    obtain ⟨u, hrun, -, hccd, hfrz, hsf, hoff⟩ := execDecision_of_out t d hr
    have hgu : u.group d.tag = some g := (group_congr (congrArg Ccd.groups hccd) d.tag).trans hg
    obtain ⟨⟨g', hg', hround, hcommits, hurgent, hact⟩, hev, hf, honly⟩ := takeDecision_urgent hgu h
    obtain ⟨h1, h2, h3, h4, h5, h6⟩ := hoff.trans honly
    exact ⟨_, g', hrun, hg', hround, hcommits, hsf ▸ hurgent, hact, hev, hf.trans hfrz, h1, h2, h3, h4, h5, h6⟩
  case governor =>
    refine ⟨_, if_neg (by rw [at_inRst, hr]; decide), fun q hq => ?_⟩
    have htime : s.rfldN .concordReleaseTime * 100 * ms = s.rfldN .concordReleaseTime * 100000000 := by
      rw [Nat.mul_assoc, ms]
    rw [List.mem_filter]
    cases habs : q.absent with
    | none => simp [hq, habs]
    | some t0 => simp [hq, habs, htime]
  case released => rw [show exec (.matchRelease t id) s = _ from execMatchRelease_of_matched t hr hm, if_pos he]
  case held =>
    rw [show exec (.matchRelease t id) s = _ from execMatchRelease_of_matched t hr hm, if_neg (Nat.not_le.mpr he)]
  case combined =>
    have hcap := le_foldl_max (l.map Action.cap) 0
    have hfloor := le_foldl_max (l.map Action.floor) 0
    refine ⟨fun a ha => ⟨hcap.2 _ (List.mem_map_of_mem ha), hfloor.2 _ (List.mem_map_of_mem ha)⟩, ?_, ?_⟩
    · exact (foldl_max_mem (l.map Action.cap) 0).imp_right List.mem_map.mp
    · exact (foldl_max_mem (l.map Action.floor) 0).imp_right List.mem_map.mp

end Sys2Proof.Machine
